-- ==== Sys2Proof/Word.lean ====
section
/-! DEFINITION. The word types of the device: every register is 64 bits wide (R11), memory is bytes (R10). -/

namespace Sys2Proof

/-- A 64-bit register or word (R11). -/
abbrev Word := BitVec 64

/-- A byte of memory (R10). -/
abbrev Byte := BitVec 8

end Sys2Proof
end

