-- ==== Sys2Proof/Machine/Regs.lean ====
section
/-! DEFINITION. The register file of the device: every register of the address map (R473 to R476), its fields with
their access codes and reset values (R13, R14), its lock bit, its reset domain (R348) and its device address. -/

namespace Sys2Proof.Machine

/-- A field of a 64-bit register, bits `[hi:lo]`, both ends included (R10). -/
structure Fld where
  hi : Nat
  lo : Nat
deriving DecidableEq, Repr

/-- The access codes of R14. -/
inductive Access where
  | ro | rw | wo | w1c | w1s | rc | rwl
deriving DecidableEq, Repr

/-- One row of a register table: the field and its access code. -/
structure FieldSpec where
  fld : Fld
  acc : Access
deriving DecidableEq, Repr

/-- The reset domains of R348. `ridgeFabric n` and `ridgeCompute n` belong to ridge die `n`. -/
inductive Domain where
  | housekeeping
  | anchorMain
  | pcie
  | ridgeFabric (n : Fin 4)
  | ridgeCompute (n : Fin 4)
deriving DecidableEq, Repr

/-- Every register of the device, by its name in the manual. `d` is a ridge die, `k` a physical tensor core, `j` a
traverse engine, `p` a Rope port of the die. The program memory, slot table, descriptor ring and mailbox buffers, which
lie in the register area, are registers of 64 bits here. -/
inductive Reg where
  /-- HK_SHAPE. -/
  | hkShape
  /-- HK_ROPE_EXPECT. -/
  | hkRopeExpect
  /-- HK_BOOT. -/
  | hkBoot
  /-- HK_BOOT_CTRL. -/
  | hkBootCtrl
  /-- HK_REPAIR_MAP. -/
  | hkRepairMap (i : Fin 4)
  /-- HK_BOOT_TIME. -/
  | hkBootTime (i : Fin 11)
  /-- HK_FW. -/
  | hkFw (i : Fin 8)
  /-- HK_BELAY_ROLE. -/
  | hkBelayRole (e : Fin 8) (k : Fin 8)
  /-- HK_BELAY_STATUS. -/
  | hkBelayStatus (e : Fin 8)
  /-- HK_JOURNAL. -/
  | hkJournal
  /-- HK_T1S. -/
  | hkT1s
  /-- HK_HEADLAMP. -/
  | hkHeadlamp
  /-- HK_JRNL. -/
  | hkJrnl (i : Fin 4096) (w : Fin 8)
  /-- PWR_CTRL. -/
  | pwrCtrl
  /-- PWR_STATUS. -/
  | pwrStatus
  /-- PWR_DOMAIN. -/
  | pwrDomain (i : Fin 5)
  /-- PWR_GAIN. -/
  | pwrGain (i : Fin 5)
  /-- PWR_THERM. -/
  | pwrTherm (i : Fin 9)
  /-- PWR_TLIMIT. -/
  | pwrTlimit
  /-- FLT_STATUS. -/
  | fltStatus
  /-- FLT_CTRL. -/
  | fltCtrl
  /-- FLT_ACK. -/
  | fltAck
  /-- FLT_CLEAR. -/
  | fltClear
  /-- FLT_HEAD. -/
  | fltHead
  /-- FLT_GRACE. -/
  | fltGrace
  /-- FLT_DEADLINE. -/
  | fltDeadline
  /-- FLT_TOTALS. -/
  | fltTotals
  /-- FLT_PIN. -/
  | fltPin
  /-- FLT_INJECT. -/
  | fltInject
  /-- FLT_HB. -/
  | fltHb
  /-- FLT_RESTART. -/
  | fltRestart
  /-- FLT_MIRROR. -/
  | fltMirror
  /-- FLT_MSET. -/
  | fltMset
  /-- FLT_MAREA. -/
  | fltMarea
  /-- FLT_MGEN. -/
  | fltMgen (i : Fin 2)
  /-- FLT_FENCE. -/
  | fltFence
  /-- the fault ring. -/
  | fltRec (i : Fin 1024) (w : Fin 8)
  /-- NT_PIN_MAP. -/
  | ntPinMap (i : Fin 2)
  /-- NT_CTRL. -/
  | ntCtrl
  /-- NT_RETIRE. -/
  | ntRetire
  /-- NT_RETIRE_STATUS. -/
  | ntRetireStatus
  /-- NT_CONTRACT_STATE. -/
  | ntContractState
  /-- NT_SUBST_BASE. -/
  | ntSubstBase (i : Fin 8)
  /-- NT_KV_CFG. -/
  | ntKvCfg
  /-- NT_KV_POOL. -/
  | ntKvPool (i : Fin 3)
  /-- NT_KV_BOOK. -/
  | ntKvBook (i : Fin 3)
  /-- NT_KV_RESV. -/
  | ntKvResv (i : Fin 3)
  /-- NT_KV_CMD. -/
  | ntKvCmd
  /-- NT_KV_STATUS. -/
  | ntKvStatus
  /-- NT_KV_SEQ_BASE. -/
  | ntKvSeqBase
  /-- NT_KV_EVQ_BASE. -/
  | ntKvEvqBase
  /-- NT_KV_EVQ_PTR. -/
  | ntKvEvqPtr
  /-- MOR_RETIRE. -/
  | morRetire
  /-- MOR_RETIRE_STATUS. -/
  | morRetireStatus
  /-- MOR_SWAPQ_BASE. -/
  | morSwapqBase (i : Fin 8)
  /-- MOR_SWAPQ_PTR. -/
  | morSwapqPtr (i : Fin 8)
  /-- MED_CTRL. -/
  | medCtrl
  /-- MED_STATUS. -/
  | medStatus
  /-- MED_COUNTS. -/
  | medCounts
  /-- MED_QBASE. -/
  | medQbase (i : Fin 8)
  /-- MED_QPTR. -/
  | medQptr (i : Fin 8)
  /-- MED_VPOOL. -/
  | medVpool (i : Fin 2)
  /-- MED_ENC_OUT. -/
  | medEncOut (i : Fin 5)
  /-- MED_ENC_PTR. -/
  | medEncPtr (i : Fin 5)
  /-- MED_ENC_STAT. -/
  | medEncStat (i : Fin 5)
  /-- TOK_CTRL. -/
  | tokCtrl
  /-- TOK_DICT. -/
  | tokDict
  /-- TOK_IDS. -/
  | tokIds
  /-- TOK_QBASE. -/
  | tokQbase
  /-- TOK_QPTR. -/
  | tokQptr
  /-- TOK_COUNTS. -/
  | tokCounts
  /-- AUG_CTRL. -/
  | augCtrl
  /-- AUG_QBASE. -/
  | augQbase
  /-- AUG_QPTR. -/
  | augQptr
  /-- AUG_KEY. -/
  | augKey (i : Fin 16) (h : Fin 2)
  /-- CHK_ CFG. -/
  | chkPointCfg (i : Fin 5)
  /-- CHK_ STATE. -/
  | chkPointState (i : Fin 5)
  /-- CHK_ RESULT. -/
  | chkPointResult (i : Fin 5)
  /-- CHK_ BYTES. -/
  | chkPointBytes (i : Fin 5)
  /-- CHK_ CFG. -/
  | chkChanCfg (i : Fin 16)
  /-- CHK_ STATE. -/
  | chkChanState (i : Fin 16)
  /-- CHK_ RESULT. -/
  | chkChanResult (i : Fin 16)
  /-- CHK_ BYTES. -/
  | chkChanBytes (i : Fin 16)
  /-- BC_HART. -/
  | bcHart
  /-- BC_RESET_VEC. -/
  | bcResetVec
  /-- BC_HWIN. -/
  | bcHwin (i : Fin 16)
  /-- BC_DET_BASE. -/
  | bcDetBase
  /-- BC_DET_PTR. -/
  | bcDetPtr
  /-- BC_JOB_CTRL. -/
  | bcJobCtrl
  /-- BC_JOB_PLAN. -/
  | bcJobPlan
  /-- BC_JOB_STATUS. -/
  | bcJobStatus
  /-- BC_JOB_REPORT. -/
  | bcJobReport
  /-- BC_EVAL_RING. -/
  | bcEvalRing
  /-- BC_EVAL_PTR. -/
  | bcEvalPtr
  /-- BC_JOB_LOCK. -/
  | bcJobLock
  /-- BC_MBOX_CTRL. -/
  | bcMboxCtrl
  /-- BC_HAPT. -/
  | bcHapt (i : Fin 16)
  /-- the request buffer. -/
  | bcMboxReq (i : Fin 512)
  /-- the response buffer. -/
  | bcMboxResp (i : Fin 512)
  /-- BC_IRQ_ROUTE. -/
  | bcIrqRoute (i : Fin 64)
  /-- BC_IRQ_CTX THRESHOLD. -/
  | bcIrqThreshold (h : Fin 24) (m : Fin 2)
  /-- BC_IRQ_CTX COMPLETE. -/
  | bcIrqComplete (h : Fin 24) (m : Fin 2)
  /-- BC_IRQ_TIMECMP. -/
  | bcIrqTimecmp (h : Fin 24)
  /-- BC_IRQ_MSIP. -/
  | bcIrqMsip
  /-- BC_IRQ_MSIP_SET. -/
  | bcIrqMsipSet
  /-- TC_ID. -/
  | tcId (d : Fin 4) (k : Fin 11)
  /-- TC_CTRL. -/
  | tcCtrl (d : Fin 4) (k : Fin 11)
  /-- TC_STATUS. -/
  | tcStatus (d : Fin 4) (k : Fin 11)
  /-- TC_PC. -/
  | tcPc (d : Fin 4) (k : Fin 11)
  /-- TC_PROG_LIMIT. -/
  | tcProgLimit (d : Fin 4) (k : Fin 11)
  /-- TC_ERR. -/
  | tcErr (d : Fin 4) (k : Fin 11)
  /-- TC_FLAGS. -/
  | tcFlags (d : Fin 4) (k : Fin 11)
  /-- TC_WAIT_LIMIT. -/
  | tcWaitLimit (d : Fin 4) (k : Fin 11)
  /-- TC_IDLE. -/
  | tcIdle (d : Fin 4) (k : Fin 11) (i : Fin 8)
  /-- TC_OPS. -/
  | tcOps (d : Fin 4) (k : Fin 11)
  /-- the program memory. -/
  | tcProg (d : Fin 4) (k : Fin 11) (i : Fin 32768)
  /-- the slot table. -/
  | tcSlot (d : Fin 4) (k : Fin 11) (i : Fin 1024) (w : Fin 4)
  /-- TC_REMAP. -/
  | tcRemap (d : Fin 4)
  /-- TRV_ID. -/
  | trvId (d : Fin 4) (j : Fin 22)
  /-- TRV_CTRL. -/
  | trvCtrl (d : Fin 4) (j : Fin 22)
  /-- TRV_STATUS. -/
  | trvStatus (d : Fin 4) (j : Fin 22)
  /-- TRV_PC. -/
  | trvPc (d : Fin 4) (j : Fin 22)
  /-- TRV_LIMIT. -/
  | trvLimit (d : Fin 4) (j : Fin 22)
  /-- TRV_ERR. -/
  | trvErr (d : Fin 4) (j : Fin 22)
  /-- TRV_WAIT_LIMIT. -/
  | trvWaitLimit (d : Fin 4) (j : Fin 22)
  /-- TRV_BYTES. -/
  | trvBytes (d : Fin 4) (j : Fin 22)
  /-- TRV_MSET. -/
  | trvMset (d : Fin 4) (j : Fin 22) (i : Fin 16)
  /-- TRV_MOFS. -/
  | trvMofs (d : Fin 4) (j : Fin 22) (i : Fin 40)
  /-- the descriptor ring. -/
  | trvRing (d : Fin 4) (j : Fin 22) (i : Fin 256) (w : Fin 16)
  /-- TRV_FBUF. -/
  | trvFbuf (d : Fin 4) (i : Fin 256)
  /-- TRV_FB_CTRL. -/
  | trvFbCtrl (d : Fin 4)
  /-- OPT_CTRL. -/
  | optCtrl (d : Fin 4)
  /-- OPT_STATUS. -/
  | optStatus (d : Fin 4)
  /-- OPT_LTAB. -/
  | optLtab (d : Fin 4)
  /-- OPT_RLOG. -/
  | optRlog (d : Fin 4)
  /-- OPT_LSCALE. -/
  | optLscale (d : Fin 4)
  /-- OPT_STEP. -/
  | optStep (d : Fin 4)
  /-- OPT_ATTEMPT. -/
  | optAttempt (d : Fin 4)
  /-- OPT_CURSOR. -/
  | optCursor (d : Fin 4)
  /-- OPT_BATCH. -/
  | optBatch (d : Fin 4)
  /-- OPT_ERR. -/
  | optErr (d : Fin 4)
  /-- OPT_WAIT_LIMIT. -/
  | optWaitLimit (d : Fin 4)
  /-- OPT_LS_ADDR. -/
  | optLsAddr (d : Fin 4)
  /-- OPT_COMMIT_BASE. -/
  | optCommitBase (d : Fin 4)
  /-- OPT_SR_SEED. -/
  | optSrSeed (d : Fin 4)
  /-- OPT_WORK. -/
  | optWork (d : Fin 4) (i : Fin 10)
  /-- OPT_NSC. -/
  | optNsc (d : Fin 4) (i : Fin 16)
  /-- OPT_CONST. -/
  | optConst (d : Fin 4) (i : Fin 256)
  /-- OPT_EPROG. -/
  | optEprog (d : Fin 4) (i : Fin 256)
  /-- LDG_CTRL. -/
  | ldgCtrl (d : Fin 4)
  /-- LDG_VIOL. -/
  | ldgViol (d : Fin 4)
  /-- LDG_ECC. -/
  | ldgEcc (d : Fin 4)
  /-- LDG_MARCH. -/
  | ldgMarch (d : Fin 4)
  /-- LDG_MARCH_STATUS. -/
  | ldgMarchStatus (d : Fin 4)
  /-- LDG_REPAIR. -/
  | ldgRepair (d : Fin 4)
  /-- LDG_REPAIR_STATUS. -/
  | ldgRepairStatus (d : Fin 4)
  /-- LDG_GIVE. -/
  | ldgGive (d : Fin 4) (i : Fin 8)
  /-- LDG_OWN. -/
  | ldgOwn (d : Fin 4) (b : Fin 48)
  /-- LDG_SPARE. -/
  | ldgSpare (d : Fin 4) (g : Fin 192) (r : Fin 8)
  /-- COL_CTRL. -/
  | colCtrl (d : Fin 4)
  /-- COL_STATUS. -/
  | colStatus (d : Fin 4)
  /-- COL_TEAM. -/
  | colTeam (d : Fin 4)
  /-- COL_PHASE. -/
  | colPhase (d : Fin 4)
  /-- COL_ERR. -/
  | colErr (d : Fin 4)
  /-- COL_WAIT_LIMIT. -/
  | colWaitLimit (d : Fin 4)
  /-- COL_IDLE. -/
  | colIdle (d : Fin 4)
  /-- COL_BYTES. -/
  | colBytes (d : Fin 4)
  /-- COL_RX. -/
  | colRx (d : Fin 4)
  /-- COL_MAP. -/
  | colMap (d : Fin 4) (i : Fin 8)
  /-- ROPE_CTRL. -/
  | ropeCtrl (d : Fin 4) (p : Fin 4)
  /-- ROPE_STATUS. -/
  | ropeStatus (d : Fin 4) (p : Fin 4)
  /-- ROPE_ADDR. -/
  | ropeAddr (d : Fin 4) (p : Fin 4)
  /-- ROPE_IP_PREFIX. -/
  | ropeIpPrefix (d : Fin 4) (p : Fin 4)
  /-- ROPE_NEXTHOP. -/
  | ropeNexthop (d : Fin 4) (p : Fin 4)
  /-- ROPE_VC. -/
  | ropeVc (d : Fin 4) (p : Fin 4)
  /-- ROPE_CREDIT. -/
  | ropeCredit (d : Fin 4) (p : Fin 4) (v : Fin 3)
  /-- ROPE_SEQ. -/
  | ropeSeq (d : Fin 4) (p : Fin 4)
  /-- ROPE_ERRS. -/
  | ropeErrs (d : Fin 4) (p : Fin 4)
  /-- ROPE_DISC. -/
  | ropeDisc (d : Fin 4) (p : Fin 4)
  /-- ROPE_LANE. -/
  | ropeLane (d : Fin 4) (p : Fin 4) (l : Fin 4)
  /-- ROPE_TIMEOUT. -/
  | ropeTimeout (d : Fin 4)
  /-- ROPE_RETX. -/
  | ropeRetx (d : Fin 4)
  /-- ROPE_DEDUP. -/
  | ropeDedup (d : Fin 4)
  /-- ROPE_TIME_OFS. -/
  | ropeTimeOfs (d : Fin 4)
  /-- ROPE_COMMON_LOCK. -/
  | ropeCommonLock (d : Fin 4)
deriving DecidableEq, Repr

/-- HK_SHAPE.SVC_LEVEL -/ abbrev Fld.hkShape_SVC_LEVEL : Fld := ⟨63, 62⟩
/-- HK_SHAPE.FULL_SHAPE -/ abbrev Fld.hkShape_FULL_SHAPE : Fld := ⟨61, 61⟩
/-- HK_SHAPE.SHAPE_VALID -/ abbrev Fld.hkShape_SHAPE_VALID : Fld := ⟨60, 60⟩
/-- HK_SHAPE.TC_ACTIVE -/ abbrev Fld.hkShape_TC_ACTIVE : Fld := ⟨59, 54⟩
/-- HK_SHAPE.TEAM_PORT_MASK -/ abbrev Fld.hkShape_TEAM_PORT_MASK : Fld := ⟨47, 40⟩
/-- HK_SHAPE.MORAINE_MASK -/ abbrev Fld.hkShape_MORAINE_MASK : Fld := ⟨39, 16⟩
/-- HK_SHAPE.NEAR_MASK -/ abbrev Fld.hkShape_NEAR_MASK : Fld := ⟨15, 8⟩
/-- HK_SHAPE.LEDGE_MASK -/ abbrev Fld.hkShape_LEDGE_MASK : Fld := ⟨7, 4⟩
/-- HK_SHAPE.RIDGE_MASK -/ abbrev Fld.hkShape_RIDGE_MASK : Fld := ⟨3, 0⟩
/-- HK_ROPE_EXPECT.EXPECT -/ abbrev Fld.hkRopeExpect_EXPECT : Fld := ⟨7, 0⟩
/-- HK_BOOT.STAGE -/ abbrev Fld.hkBoot_STAGE : Fld := ⟨63, 60⟩
/-- HK_BOOT.FAILED_STAGE -/ abbrev Fld.hkBoot_FAILED_STAGE : Fld := ⟨59, 56⟩
/-- HK_BOOT.HOLD -/ abbrev Fld.hkBoot_HOLD : Fld := ⟨55, 55⟩
/-- HK_BOOT.HOLD_CAUSE -/ abbrev Fld.hkBoot_HOLD_CAUSE : Fld := ⟨54, 52⟩
/-- HK_BOOT.RECOVERY -/ abbrev Fld.hkBoot_RECOVERY : Fld := ⟨51, 51⟩
/-- HK_BOOT.FACTORY -/ abbrev Fld.hkBoot_FACTORY : Fld := ⟨50, 50⟩
/-- HK_BOOT.LANE_PLAN -/ abbrev Fld.hkBoot_LANE_PLAN : Fld := ⟨49, 49⟩
/-- HK_BOOT.PLAN_BAD -/ abbrev Fld.hkBoot_PLAN_BAD : Fld := ⟨48, 48⟩
/-- HK_BOOT.PAIR_A -/ abbrev Fld.hkBoot_PAIR_A : Fld := ⟨39, 32⟩
/-- HK_BOOT.PAIR_B -/ abbrev Fld.hkBoot_PAIR_B : Fld := ⟨31, 24⟩
/-- HK_BOOT.SLOT_B -/ abbrev Fld.hkBoot_SLOT_B : Fld := ⟨21, 16⟩
/-- HK_BOOT_CTRL.REFUSED -/ abbrev Fld.hkBootCtrl_REFUSED : Fld := ⟨63, 63⟩
/-- HK_BOOT_CTRL.DIE_RESET -/ abbrev Fld.hkBootCtrl_DIE_RESET : Fld := ⟨3, 0⟩
/-- HK_REPAIR_MAP.MAP -/ abbrev Fld.hkRepairMap_MAP : Fld := ⟨43, 0⟩
/-- HK_BOOT_TIME.TIME -/ abbrev Fld.hkBootTime_TIME : Fld := ⟨63, 0⟩
/-- HK_FW.VERSION -/ abbrev Fld.hkFw_VERSION : Fld := ⟨63, 32⟩
/-- HK_FW.VALID -/ abbrev Fld.hkFw_VALID : Fld := ⟨31, 31⟩
/-- HK_FW.EPOCH -/ abbrev Fld.hkFw_EPOCH : Fld := ⟨15, 0⟩
/-- HK_BELAY_ROLE.ROLE -/ abbrev Fld.hkBelayRole_ROLE : Fld := ⟨63, 0⟩
/-- HK_BELAY_STATUS.DOWN -/ abbrev Fld.hkBelayStatus_DOWN : Fld := ⟨63, 63⟩
/-- HK_BELAY_STATUS.FAILED_1 -/ abbrev Fld.hkBelayStatus_FAILED_1 : Fld := ⟨13, 7⟩
/-- HK_BELAY_STATUS.FAILED_0 -/ abbrev Fld.hkBelayStatus_FAILED_0 : Fld := ⟨6, 0⟩
/-- HK_JOURNAL.OVERFLOW -/ abbrev Fld.hkJournal_OVERFLOW : Fld := ⟨63, 32⟩
/-- HK_JOURNAL.HEAD -/ abbrev Fld.hkJournal_HEAD : Fld := ⟨11, 0⟩
/-- HK_T1S.EN -/ abbrev Fld.hkT1s_EN : Fld := ⟨63, 63⟩
/-- HK_T1S.PLCA_ACTIVE -/ abbrev Fld.hkT1s_PLCA_ACTIVE : Fld := ⟨62, 62⟩
/-- HK_T1S.COLLISIONS -/ abbrev Fld.hkT1s_COLLISIONS : Fld := ⟨47, 32⟩
/-- HK_T1S.BUSY_SENT -/ abbrev Fld.hkT1s_BUSY_SENT : Fld := ⟨31, 16⟩
/-- HK_T1S.NODE_COUNT -/ abbrev Fld.hkT1s_NODE_COUNT : Fld := ⟨15, 8⟩
/-- HK_T1S.NODE_ID -/ abbrev Fld.hkT1s_NODE_ID : Fld := ⟨7, 0⟩
/-- HK_HEADLAMP.BUSY -/ abbrev Fld.hkHeadlamp_BUSY : Fld := ⟨63, 63⟩
/-- HK_HEADLAMP.SAT -/ abbrev Fld.hkHeadlamp_SAT : Fld := ⟨62, 62⟩
/-- HK_HEADLAMP.ACCEPTED -/ abbrev Fld.hkHeadlamp_ACCEPTED : Fld := ⟨47, 32⟩
/-- HK_HEADLAMP.REJECTED -/ abbrev Fld.hkHeadlamp_REJECTED : Fld := ⟨31, 16⟩
/-- HK_HEADLAMP.LAST_REASON -/ abbrev Fld.hkHeadlamp_LAST_REASON : Fld := ⟨15, 8⟩
/-- HK_HEADLAMP.AMBIENT -/ abbrev Fld.hkHeadlamp_AMBIENT : Fld := ⟨7, 0⟩
/-- HK_JRNL.WORD -/ abbrev Fld.hkJrnl_WORD : Fld := ⟨63, 0⟩
/-- PWR_CTRL.MODE -/ abbrev Fld.pwrCtrl_MODE : Fld := ⟨63, 62⟩
/-- PWR_CTRL.COMPAT -/ abbrev Fld.pwrCtrl_COMPAT : Fld := ⟨61, 61⟩
/-- PWR_CTRL.BRAKE -/ abbrev Fld.pwrCtrl_BRAKE : Fld := ⟨60, 60⟩
/-- PWR_CTRL.CAL_FREEZE -/ abbrev Fld.pwrCtrl_CAL_FREEZE : Fld := ⟨59, 59⟩
/-- PWR_CTRL.LOCK -/ abbrev Fld.pwrCtrl_LOCK : Fld := ⟨58, 58⟩
/-- PWR_STATUS.METER -/ abbrev Fld.pwrStatus_METER : Fld := ⟨63, 48⟩
/-- PWR_STATUS.MODEL -/ abbrev Fld.pwrStatus_MODEL : Fld := ⟨47, 32⟩
/-- PWR_STATUS.CAP -/ abbrev Fld.pwrStatus_CAP : Fld := ⟨31, 16⟩
/-- PWR_STATUS.GRANT -/ abbrev Fld.pwrStatus_GRANT : Fld := ⟨15, 0⟩
/-- PWR_DOMAIN.BUDGET -/ abbrev Fld.pwrDomain_BUDGET : Fld := ⟨63, 48⟩
/-- PWR_DOMAIN.DRAW -/ abbrev Fld.pwrDomain_DRAW : Fld := ⟨47, 32⟩
/-- PWR_DOMAIN.DEMAND -/ abbrev Fld.pwrDomain_DEMAND : Fld := ⟨31, 16⟩
/-- PWR_DOMAIN.DUTY -/ abbrev Fld.pwrDomain_DUTY : Fld := ⟨15, 10⟩
/-- PWR_DOMAIN.PENDING -/ abbrev Fld.pwrDomain_PENDING : Fld := ⟨9, 9⟩
/-- PWR_DOMAIN.THERMAL -/ abbrev Fld.pwrDomain_THERMAL : Fld := ⟨8, 8⟩
/-- PWR_DOMAIN.FLOOR -/ abbrev Fld.pwrDomain_FLOOR : Fld := ⟨7, 0⟩
/-- PWR_GAIN.CLAMPED -/ abbrev Fld.pwrGain_CLAMPED : Fld := ⟨63, 63⟩
/-- PWR_GAIN.GAIN -/ abbrev Fld.pwrGain_GAIN : Fld := ⟨15, 0⟩
/-- PWR_THERM.HOT -/ abbrev Fld.pwrTherm_HOT : Fld := ⟨63, 48⟩
/-- PWR_THERM.REF -/ abbrev Fld.pwrTherm_REF : Fld := ⟨47, 32⟩
/-- PWR_THERM.FAILED -/ abbrev Fld.pwrTherm_FAILED : Fld := ⟨31, 0⟩
/-- PWR_TLIMIT.T_LIMIT -/ abbrev Fld.pwrTlimit_T_LIMIT : Fld := ⟨63, 48⟩
/-- PWR_TLIMIT.T_SHUT -/ abbrev Fld.pwrTlimit_T_SHUT : Fld := ⟨47, 32⟩
/-- PWR_TLIMIT.LO -/ abbrev Fld.pwrTlimit_LO : Fld := ⟨31, 16⟩
/-- PWR_TLIMIT.HI -/ abbrev Fld.pwrTlimit_HI : Fld := ⟨15, 0⟩
/-- FLT_STATUS.FATAL -/ abbrev Fld.fltStatus_FATAL : Fld := ⟨63, 63⟩
/-- FLT_STATUS.UCC -/ abbrev Fld.fltStatus_UCC : Fld := ⟨62, 62⟩
/-- FLT_STATUS.UNACKED -/ abbrev Fld.fltStatus_UNACKED : Fld := ⟨61, 61⟩
/-- FLT_STATUS.PULSE -/ abbrev Fld.fltStatus_PULSE : Fld := ⟨60, 60⟩
/-- FLT_STATUS.ASSERTED -/ abbrev Fld.fltStatus_ASSERTED : Fld := ⟨59, 59⟩
/-- FLT_STATUS.ARMED -/ abbrev Fld.fltStatus_ARMED : Fld := ⟨58, 58⟩
/-- FLT_STATUS.FACTORY -/ abbrev Fld.fltStatus_FACTORY : Fld := ⟨57, 57⟩
/-- FLT_STATUS.REFUSED -/ abbrev Fld.fltStatus_REFUSED : Fld := ⟨56, 56⟩
/-- FLT_STATUS.OPEN_UCC -/ abbrev Fld.fltStatus_OPEN_UCC : Fld := ⟨42, 32⟩
/-- FLT_STATUS.OPEN_FATAL -/ abbrev Fld.fltStatus_OPEN_FATAL : Fld := ⟨26, 16⟩
/-- FLT_CTRL.ERR_HOLD -/ abbrev Fld.fltCtrl_ERR_HOLD : Fld := ⟨63, 63⟩
/-- FLT_CTRL.GRACE -/ abbrev Fld.fltCtrl_GRACE : Fld := ⟨41, 32⟩
/-- FLT_ACK.SEQ -/ abbrev Fld.fltAck_SEQ : Fld := ⟨31, 0⟩
/-- FLT_CLEAR.SEQ -/ abbrev Fld.fltClear_SEQ : Fld := ⟨31, 0⟩
/-- FLT_HEAD.INDEX -/ abbrev Fld.fltHead_INDEX : Fld := ⟨41, 32⟩
/-- FLT_HEAD.SEQ -/ abbrev Fld.fltHead_SEQ : Fld := ⟨31, 0⟩
/-- FLT_GRACE.RUNNING -/ abbrev Fld.fltGrace_RUNNING : Fld := ⟨63, 63⟩
/-- FLT_GRACE.OLDEST -/ abbrev Fld.fltGrace_OLDEST : Fld := ⟨31, 0⟩
/-- FLT_GRACE.TIME -/ abbrev Fld.fltGrace_TIME : Fld := ⟨63, 0⟩
/-- FLT_DEADLINE.TIME -/ abbrev Fld.fltDeadline_TIME : Fld := ⟨63, 0⟩
/-- FLT_TOTALS.CORRECTED -/ abbrev Fld.fltTotals_CORRECTED : Fld := ⟨63, 32⟩
/-- FLT_TOTALS.OVERWRITTEN -/ abbrev Fld.fltTotals_OVERWRITTEN : Fld := ⟨31, 0⟩
/-- FLT_PIN.UNPINNED -/ abbrev Fld.fltPin_UNPINNED : Fld := ⟨47, 32⟩
/-- FLT_PIN.DROPPED -/ abbrev Fld.fltPin_DROPPED : Fld := ⟨31, 16⟩
/-- FLT_PIN.PINNED -/ abbrev Fld.fltPin_PINNED : Fld := ⟨6, 0⟩
/-- FLT_INJECT.GO -/ abbrev Fld.fltInject_GO : Fld := ⟨63, 63⟩
/-- FLT_INJECT.CLASS -/ abbrev Fld.fltInject_CLASS : Fld := ⟨62, 60⟩
/-- FLT_INJECT.DIE -/ abbrev Fld.fltInject_DIE : Fld := ⟨58, 56⟩
/-- FLT_INJECT.BLOCK -/ abbrev Fld.fltInject_BLOCK : Fld := ⟨55, 48⟩
/-- FLT_INJECT.INSTANCE -/ abbrev Fld.fltInject_INSTANCE : Fld := ⟨47, 40⟩
/-- FLT_INJECT.CODE -/ abbrev Fld.fltInject_CODE : Fld := ⟨15, 0⟩
/-- FLT_HB.EN -/ abbrev Fld.fltHb_EN : Fld := ⟨63, 63⟩
/-- FLT_HB.FAIL -/ abbrev Fld.fltHb_FAIL : Fld := ⟨62, 62⟩
/-- FLT_HB.LEAD -/ abbrev Fld.fltHb_LEAD : Fld := ⟨61, 61⟩
/-- FLT_HB.SEEN -/ abbrev Fld.fltHb_SEEN : Fld := ⟨60, 52⟩
/-- FLT_HB.FAILED -/ abbrev Fld.fltHb_FAILED : Fld := ⟨51, 43⟩
/-- FLT_RESTART.PHASE -/ abbrev Fld.fltRestart_PHASE : Fld := ⟨63, 60⟩
/-- FLT_RESTART.REACH -/ abbrev Fld.fltRestart_REACH : Fld := ⟨59, 56⟩
/-- FLT_RESTART.TARGET -/ abbrev Fld.fltRestart_TARGET : Fld := ⟨39, 0⟩
/-- FLT_MIRROR.EN -/ abbrev Fld.fltMirror_EN : Fld := ⟨63, 63⟩
/-- FLT_MIRROR.EVERY -/ abbrev Fld.fltMirror_EVERY : Fld := ⟨59, 52⟩
/-- FLT_MIRROR.PARTNER -/ abbrev Fld.fltMirror_PARTNER : Fld := ⟨51, 32⟩
/-- FLT_MSET.COUNT -/ abbrev Fld.fltMset_COUNT : Fld := ⟨63, 48⟩
/-- FLT_MSET.BASE -/ abbrev Fld.fltMset_BASE : Fld := ⟨47, 0⟩
/-- FLT_MAREA.SIZE -/ abbrev Fld.fltMarea_SIZE : Fld := ⟨63, 48⟩
/-- FLT_MAREA.BASE -/ abbrev Fld.fltMarea_BASE : Fld := ⟨47, 0⟩
/-- FLT_MGEN.COMPLETE -/ abbrev Fld.fltMgen_COMPLETE : Fld := ⟨63, 63⟩
/-- FLT_MGEN.WRITING -/ abbrev Fld.fltMgen_WRITING : Fld := ⟨62, 62⟩
/-- FLT_MGEN.STEP -/ abbrev Fld.fltMgen_STEP : Fld := ⟨39, 0⟩
/-- FLT_FENCE.FENCED -/ abbrev Fld.fltFence_FENCED : Fld := ⟨3, 0⟩
/-- the fault ring.WORD -/ abbrev Fld.fltRec_WORD : Fld := ⟨63, 0⟩
/-- NT_PIN_MAP.PIN -/ abbrev Fld.ntPinMap_PIN : Fld := ⟨63, 0⟩
/-- NT_CTRL.LOCK -/ abbrev Fld.ntCtrl_LOCK : Fld := ⟨63, 63⟩
/-- NT_RETIRE.GO -/ abbrev Fld.ntRetire_GO : Fld := ⟨63, 63⟩
/-- NT_RETIRE.STACK -/ abbrev Fld.ntRetire_STACK : Fld := ⟨22, 20⟩
/-- NT_RETIRE.FRAME -/ abbrev Fld.ntRetire_FRAME : Fld := ⟨19, 0⟩
/-- NT_RETIRE_STATUS.BUSY -/ abbrev Fld.ntRetireStatus_BUSY : Fld := ⟨63, 63⟩
/-- NT_RETIRE_STATUS.RESULT -/ abbrev Fld.ntRetireStatus_RESULT : Fld := ⟨62, 60⟩
/-- NT_RETIRE_STATUS.COUNT -/ abbrev Fld.ntRetireStatus_COUNT : Fld := ⟨14, 0⟩
/-- NT_CONTRACT_STATE.DELIV_NEAR -/ abbrev Fld.ntContractState_DELIV_NEAR : Fld := ⟨63, 48⟩
/-- NT_CONTRACT_STATE.DELIV_MOR -/ abbrev Fld.ntContractState_DELIV_MOR : Fld := ⟨47, 32⟩
/-- NT_CONTRACT_STATE.LEVEL_HOST_IN -/ abbrev Fld.ntContractState_LEVEL_HOST_IN : Fld := ⟨23, 18⟩
/-- NT_CONTRACT_STATE.LEVEL_HOST_OUT -/ abbrev Fld.ntContractState_LEVEL_HOST_OUT : Fld := ⟨17, 12⟩
/-- NT_CONTRACT_STATE.LEVEL_MOR -/ abbrev Fld.ntContractState_LEVEL_MOR : Fld := ⟨11, 6⟩
/-- NT_CONTRACT_STATE.LEVEL_NEAR -/ abbrev Fld.ntContractState_LEVEL_NEAR : Fld := ⟨5, 0⟩
/-- NT_SUBST_BASE.BASE -/ abbrev Fld.ntSubstBase_BASE : Fld := ⟨47, 0⟩
/-- NT_KV_CFG.EN -/ abbrev Fld.ntKvCfg_EN : Fld := ⟨63, 63⟩
/-- NT_KV_CFG.FRAME_SIZE -/ abbrev Fld.ntKvCfg_FRAME_SIZE : Fld := ⟨50, 48⟩
/-- NT_KV_CFG.REFILL -/ abbrev Fld.ntKvCfg_REFILL : Fld := ⟨47, 24⟩
/-- NT_KV_CFG.SEQ_COUNT -/ abbrev Fld.ntKvCfg_SEQ_COUNT : Fld := ⟨15, 0⟩
/-- NT_KV_POOL.COUNT -/ abbrev Fld.ntKvPool_COUNT : Fld := ⟨63, 40⟩
/-- NT_KV_POOL.BASE -/ abbrev Fld.ntKvPool_BASE : Fld := ⟨31, 0⟩
/-- NT_KV_BOOK.FREE -/ abbrev Fld.ntKvBook_FREE : Fld := ⟨63, 40⟩
/-- NT_KV_BOOK.ALLOC -/ abbrev Fld.ntKvBook_ALLOC : Fld := ⟨39, 16⟩
/-- NT_KV_BOOK.INFLIGHT -/ abbrev Fld.ntKvBook_INFLIGHT : Fld := ⟨15, 0⟩
/-- NT_KV_RESV.TRAIN_USED -/ abbrev Fld.ntKvResv_TRAIN_USED : Fld := ⟨47, 24⟩
/-- NT_KV_RESV.TRAIN_RESV -/ abbrev Fld.ntKvResv_TRAIN_RESV : Fld := ⟨23, 0⟩
/-- NT_KV_CMD.GO -/ abbrev Fld.ntKvCmd_GO : Fld := ⟨63, 63⟩
/-- NT_KV_CMD.OP -/ abbrev Fld.ntKvCmd_OP : Fld := ⟨62, 60⟩
/-- NT_KV_CMD.SEQ -/ abbrev Fld.ntKvCmd_SEQ : Fld := ⟨15, 0⟩
/-- NT_KV_STATUS.BUSY -/ abbrev Fld.ntKvStatus_BUSY : Fld := ⟨63, 63⟩
/-- NT_KV_STATUS.RESULT -/ abbrev Fld.ntKvStatus_RESULT : Fld := ⟨62, 56⟩
/-- NT_KV_STATUS.SEQ -/ abbrev Fld.ntKvStatus_SEQ : Fld := ⟨15, 0⟩
/-- NT_KV_SEQ_BASE.BASE -/ abbrev Fld.ntKvSeqBase_BASE : Fld := ⟨47, 0⟩
/-- NT_KV_EVQ_BASE.BASE -/ abbrev Fld.ntKvEvqBase_BASE : Fld := ⟨47, 0⟩
/-- NT_KV_EVQ_PTR.OVERFLOW -/ abbrev Fld.ntKvEvqPtr_OVERFLOW : Fld := ⟨63, 48⟩
/-- NT_KV_EVQ_PTR.HEAD -/ abbrev Fld.ntKvEvqPtr_HEAD : Fld := ⟨41, 32⟩
/-- NT_KV_EVQ_PTR.TAIL -/ abbrev Fld.ntKvEvqPtr_TAIL : Fld := ⟨9, 0⟩
/-- MOR_RETIRE.GO -/ abbrev Fld.morRetire_GO : Fld := ⟨63, 63⟩
/-- MOR_RETIRE.CHANNEL -/ abbrev Fld.morRetire_CHANNEL : Fld := ⟨25, 21⟩
/-- MOR_RETIRE.FRAME -/ abbrev Fld.morRetire_FRAME : Fld := ⟨20, 0⟩
/-- MOR_RETIRE_STATUS.BUSY -/ abbrev Fld.morRetireStatus_BUSY : Fld := ⟨63, 63⟩
/-- MOR_RETIRE_STATUS.RESULT -/ abbrev Fld.morRetireStatus_RESULT : Fld := ⟨62, 60⟩
/-- MOR_RETIRE_STATUS.COUNT -/ abbrev Fld.morRetireStatus_COUNT : Fld := ⟨12, 0⟩
/-- MOR_SWAPQ_BASE.EN -/ abbrev Fld.morSwapqBase_EN : Fld := ⟨63, 63⟩
/-- MOR_SWAPQ_BASE.BASE -/ abbrev Fld.morSwapqBase_BASE : Fld := ⟨47, 0⟩
/-- MOR_SWAPQ_PTR.DONE -/ abbrev Fld.morSwapqPtr_DONE : Fld := ⟨43, 32⟩
/-- MOR_SWAPQ_PTR.TAKEN -/ abbrev Fld.morSwapqPtr_TAKEN : Fld := ⟨27, 16⟩
/-- MOR_SWAPQ_PTR.SUBMIT -/ abbrev Fld.morSwapqPtr_SUBMIT : Fld := ⟨11, 0⟩
/-- MED_CTRL.EN -/ abbrev Fld.medCtrl_EN : Fld := ⟨63, 63⟩
/-- MED_CTRL.LOCK -/ abbrev Fld.medCtrl_LOCK : Fld := ⟨62, 62⟩
/-- MED_CTRL.DEPTH -/ abbrev Fld.medCtrl_DEPTH : Fld := ⟨55, 48⟩
/-- MED_STATUS.BUSY -/ abbrev Fld.medStatus_BUSY : Fld := ⟨63, 63⟩
/-- MED_STATUS.EFF_DEPTH -/ abbrev Fld.medStatus_EFF_DEPTH : Fld := ⟨55, 48⟩
/-- MED_COUNTS.CONCEALED -/ abbrev Fld.medCounts_CONCEALED : Fld := ⟨63, 32⟩
/-- MED_COUNTS.REFUSED -/ abbrev Fld.medCounts_REFUSED : Fld := ⟨31, 0⟩
/-- MED_QBASE.EN -/ abbrev Fld.medQbase_EN : Fld := ⟨63, 63⟩
/-- MED_QBASE.BASE -/ abbrev Fld.medQbase_BASE : Fld := ⟨47, 0⟩
/-- MED_QPTR.TAKEN -/ abbrev Fld.medQptr_TAKEN : Fld := ⟨25, 16⟩
/-- MED_QPTR.SUBMIT -/ abbrev Fld.medQptr_SUBMIT : Fld := ⟨9, 0⟩
/-- MED_VPOOL.COUNT -/ abbrev Fld.medVpool_COUNT : Fld := ⟨63, 57⟩
/-- MED_VPOOL.FREE -/ abbrev Fld.medVpool_FREE : Fld := ⟨56, 50⟩
/-- MED_VPOOL.SIZE -/ abbrev Fld.medVpool_SIZE : Fld := ⟨49, 48⟩
/-- MED_VPOOL.BASE -/ abbrev Fld.medVpool_BASE : Fld := ⟨47, 0⟩
/-- MED_ENC_OUT.SIZE -/ abbrev Fld.medEncOut_SIZE : Fld := ⟨63, 48⟩
/-- MED_ENC_OUT.BASE -/ abbrev Fld.medEncOut_BASE : Fld := ⟨47, 0⟩
/-- MED_ENC_PTR.RD -/ abbrev Fld.medEncPtr_RD : Fld := ⟨63, 32⟩
/-- MED_ENC_PTR.WR -/ abbrev Fld.medEncPtr_WR : Fld := ⟨31, 0⟩
/-- MED_ENC_STAT.STALLS -/ abbrev Fld.medEncStat_STALLS : Fld := ⟨63, 32⟩
/-- MED_ENC_STAT.FRAMES -/ abbrev Fld.medEncStat_FRAMES : Fld := ⟨31, 0⟩
/-- TOK_CTRL.EN -/ abbrev Fld.tokCtrl_EN : Fld := ⟨63, 63⟩
/-- TOK_CTRL.LOCK -/ abbrev Fld.tokCtrl_LOCK : Fld := ⟨62, 62⟩
/-- TOK_DICT.NODES -/ abbrev Fld.tokDict_NODES : Fld := ⟨59, 32⟩
/-- TOK_DICT.BASE -/ abbrev Fld.tokDict_BASE : Fld := ⟨31, 0⟩
/-- TOK_IDS.BYTE_HI -/ abbrev Fld.tokIds_BYTE_HI : Fld := ⟨43, 32⟩
/-- TOK_IDS.REPL_ID -/ abbrev Fld.tokIds_REPL_ID : Fld := ⟨19, 0⟩
/-- TOK_QBASE.EN -/ abbrev Fld.tokQbase_EN : Fld := ⟨63, 63⟩
/-- TOK_QBASE.BASE -/ abbrev Fld.tokQbase_BASE : Fld := ⟨47, 0⟩
/-- TOK_QPTR.TAKEN -/ abbrev Fld.tokQptr_TAKEN : Fld := ⟨25, 16⟩
/-- TOK_QPTR.SUBMIT -/ abbrev Fld.tokQptr_SUBMIT : Fld := ⟨9, 0⟩
/-- TOK_COUNTS.REPLACED -/ abbrev Fld.tokCounts_REPLACED : Fld := ⟨63, 32⟩
/-- TOK_COUNTS.TRUNCATED -/ abbrev Fld.tokCounts_TRUNCATED : Fld := ⟨31, 0⟩
/-- AUG_CTRL.LOCK -/ abbrev Fld.augCtrl_LOCK : Fld := ⟨63, 63⟩
/-- AUG_CTRL.EN -/ abbrev Fld.augCtrl_EN : Fld := ⟨15, 0⟩
/-- AUG_QBASE.EN -/ abbrev Fld.augQbase_EN : Fld := ⟨63, 63⟩
/-- AUG_QBASE.BASE -/ abbrev Fld.augQbase_BASE : Fld := ⟨47, 0⟩
/-- AUG_QPTR.TAKEN -/ abbrev Fld.augQptr_TAKEN : Fld := ⟨25, 16⟩
/-- AUG_QPTR.SUBMIT -/ abbrev Fld.augQptr_SUBMIT : Fld := ⟨9, 0⟩
/-- AUG_KEY.KEY -/ abbrev Fld.augKey_KEY : Fld := ⟨63, 0⟩
/-- CHK_ CFG.EN -/ abbrev Fld.chkPointCfg_EN : Fld := ⟨63, 63⟩
/-- CHK_ CFG.CRC64 -/ abbrev Fld.chkPointCfg_CRC64 : Fld := ⟨62, 62⟩
/-- CHK_ CFG.ACCUM -/ abbrev Fld.chkPointCfg_ACCUM : Fld := ⟨61, 61⟩
/-- CHK_ CFG.DONE -/ abbrev Fld.chkPointCfg_DONE : Fld := ⟨60, 60⟩
/-- CHK_ CFG.MISSED -/ abbrev Fld.chkPointCfg_MISSED : Fld := ⟨59, 59⟩
/-- CHK_ CFG.OVERRUN -/ abbrev Fld.chkPointCfg_OVERRUN : Fld := ⟨58, 58⟩
/-- CHK_ CFG.HELD -/ abbrev Fld.chkPointCfg_HELD : Fld := ⟨57, 57⟩
/-- CHK_ CFG.POINT -/ abbrev Fld.chkPointCfg_POINT : Fld := ⟨18, 16⟩
/-- CHK_ CFG.TAG -/ abbrev Fld.chkPointCfg_TAG : Fld := ⟨15, 0⟩
/-- CHK_ STATE.STATE -/ abbrev Fld.chkPointState_STATE : Fld := ⟨63, 0⟩
/-- CHK_ RESULT.RESULT -/ abbrev Fld.chkPointResult_RESULT : Fld := ⟨63, 0⟩
/-- CHK_ BYTES.BYTES -/ abbrev Fld.chkPointBytes_BYTES : Fld := ⟨63, 0⟩
/-- CHK_ CFG.EN -/ abbrev Fld.chkChanCfg_EN : Fld := ⟨63, 63⟩
/-- CHK_ CFG.CRC64 -/ abbrev Fld.chkChanCfg_CRC64 : Fld := ⟨62, 62⟩
/-- CHK_ CFG.ACCUM -/ abbrev Fld.chkChanCfg_ACCUM : Fld := ⟨61, 61⟩
/-- CHK_ CFG.DONE -/ abbrev Fld.chkChanCfg_DONE : Fld := ⟨60, 60⟩
/-- CHK_ CFG.MISSED -/ abbrev Fld.chkChanCfg_MISSED : Fld := ⟨59, 59⟩
/-- CHK_ CFG.OVERRUN -/ abbrev Fld.chkChanCfg_OVERRUN : Fld := ⟨58, 58⟩
/-- CHK_ CFG.HELD -/ abbrev Fld.chkChanCfg_HELD : Fld := ⟨57, 57⟩
/-- CHK_ CFG.POINT -/ abbrev Fld.chkChanCfg_POINT : Fld := ⟨18, 16⟩
/-- CHK_ CFG.TAG -/ abbrev Fld.chkChanCfg_TAG : Fld := ⟨15, 0⟩
/-- CHK_ STATE.STATE -/ abbrev Fld.chkChanState_STATE : Fld := ⟨63, 0⟩
/-- CHK_ RESULT.RESULT -/ abbrev Fld.chkChanResult_RESULT : Fld := ⟨63, 0⟩
/-- CHK_ BYTES.BYTES -/ abbrev Fld.chkChanBytes_BYTES : Fld := ⟨63, 0⟩
/-- BC_HART.RUN -/ abbrev Fld.bcHart_RUN : Fld := ⟨23, 0⟩
/-- BC_RESET_VEC.ADDR -/ abbrev Fld.bcResetVec_ADDR : Fld := ⟨47, 0⟩
/-- BC_HWIN.EN -/ abbrev Fld.bcHwin_EN : Fld := ⟨63, 63⟩
/-- BC_HWIN.NOSNOOP -/ abbrev Fld.bcHwin_NOSNOOP : Fld := ⟨62, 62⟩
/-- BC_HWIN.BASE -/ abbrev Fld.bcHwin_BASE : Fld := ⟨51, 0⟩
/-- BC_DET_BASE.EN -/ abbrev Fld.bcDetBase_EN : Fld := ⟨63, 63⟩
/-- BC_DET_BASE.BASE -/ abbrev Fld.bcDetBase_BASE : Fld := ⟨47, 0⟩
/-- BC_DET_PTR.DONE -/ abbrev Fld.bcDetPtr_DONE : Fld := ⟨23, 16⟩
/-- BC_DET_PTR.SUBMIT -/ abbrev Fld.bcDetPtr_SUBMIT : Fld := ⟨7, 0⟩
/-- BC_JOB_CTRL.LOAD -/ abbrev Fld.bcJobCtrl_LOAD : Fld := ⟨63, 63⟩
/-- BC_JOB_CTRL.END -/ abbrev Fld.bcJobCtrl_END : Fld := ⟨62, 62⟩
/-- BC_JOB_CTRL.ABORT -/ abbrev Fld.bcJobCtrl_ABORT : Fld := ⟨61, 61⟩
/-- BC_JOB_PLAN.ADDR -/ abbrev Fld.bcJobPlan_ADDR : Fld := ⟨47, 0⟩
/-- BC_JOB_STATUS.STATE -/ abbrev Fld.bcJobStatus_STATE : Fld := ⟨63, 62⟩
/-- BC_JOB_STATUS.DONE -/ abbrev Fld.bcJobStatus_DONE : Fld := ⟨61, 61⟩
/-- BC_JOB_STATUS.CODE -/ abbrev Fld.bcJobStatus_CODE : Fld := ⟨55, 48⟩
/-- BC_JOB_STATUS.DETAIL -/ abbrev Fld.bcJobStatus_DETAIL : Fld := ⟨47, 32⟩
/-- BC_JOB_STATUS.JOB_ID -/ abbrev Fld.bcJobStatus_JOB_ID : Fld := ⟨31, 0⟩
/-- BC_JOB_REPORT.ADDR -/ abbrev Fld.bcJobReport_ADDR : Fld := ⟨47, 0⟩
/-- BC_EVAL_RING.EN -/ abbrev Fld.bcEvalRing_EN : Fld := ⟨63, 63⟩
/-- BC_EVAL_RING.BATCH_MAX -/ abbrev Fld.bcEvalRing_BATCH_MAX : Fld := ⟨56, 48⟩
/-- BC_EVAL_RING.BASE -/ abbrev Fld.bcEvalRing_BASE : Fld := ⟨47, 0⟩
/-- BC_EVAL_PTR.TAKEN -/ abbrev Fld.bcEvalPtr_TAKEN : Fld := ⟨25, 16⟩
/-- BC_EVAL_PTR.SUBMIT -/ abbrev Fld.bcEvalPtr_SUBMIT : Fld := ⟨9, 0⟩
/-- BC_JOB_LOCK.LOCK -/ abbrev Fld.bcJobLock_LOCK : Fld := ⟨63, 63⟩
/-- BC_MBOX_CTRL.GO -/ abbrev Fld.bcMboxCtrl_GO : Fld := ⟨63, 63⟩
/-- BC_MBOX_CTRL.DONE -/ abbrev Fld.bcMboxCtrl_DONE : Fld := ⟨62, 62⟩
/-- BC_HAPT.EN -/ abbrev Fld.bcHapt_EN : Fld := ⟨63, 63⟩
/-- BC_HAPT.BASE -/ abbrev Fld.bcHapt_BASE : Fld := ⟨47, 32⟩
/-- the request buffer.DATA -/ abbrev Fld.bcMboxReq_DATA : Fld := ⟨63, 0⟩
/-- the response buffer.DATA -/ abbrev Fld.bcMboxResp_DATA : Fld := ⟨63, 0⟩
/-- BC_IRQ_ROUTE.EN -/ abbrev Fld.bcIrqRoute_EN : Fld := ⟨63, 63⟩
/-- BC_IRQ_ROUTE.PEND -/ abbrev Fld.bcIrqRoute_PEND : Fld := ⟨62, 62⟩
/-- BC_IRQ_ROUTE.ACTIVE -/ abbrev Fld.bcIrqRoute_ACTIVE : Fld := ⟨61, 61⟩
/-- BC_IRQ_ROUTE.HART -/ abbrev Fld.bcIrqRoute_HART : Fld := ⟨12, 8⟩
/-- BC_IRQ_ROUTE.MODE -/ abbrev Fld.bcIrqRoute_MODE : Fld := ⟨7, 7⟩
/-- BC_IRQ_ROUTE.PRIO -/ abbrev Fld.bcIrqRoute_PRIO : Fld := ⟨3, 0⟩
/-- BC_IRQ_CTX THRESHOLD.THRESHOLD -/ abbrev Fld.bcIrqThreshold_THRESHOLD : Fld := ⟨3, 0⟩
/-- BC_IRQ_CTX COMPLETE.SOURCE -/ abbrev Fld.bcIrqComplete_SOURCE : Fld := ⟨5, 0⟩
/-- BC_IRQ_TIMECMP.CMP -/ abbrev Fld.bcIrqTimecmp_CMP : Fld := ⟨63, 0⟩
/-- BC_IRQ_MSIP.MSIP -/ abbrev Fld.bcIrqMsip_MSIP : Fld := ⟨23, 0⟩
/-- BC_IRQ_MSIP_SET.MSIP -/ abbrev Fld.bcIrqMsipSet_MSIP : Fld := ⟨23, 0⟩
/-- TC_ID.DIE -/ abbrev Fld.tcId_DIE : Fld := ⟨15, 12⟩
/-- TC_ID.PHYS -/ abbrev Fld.tcId_PHYS : Fld := ⟨11, 8⟩
/-- TC_ID.LOGICAL -/ abbrev Fld.tcId_LOGICAL : Fld := ⟨7, 4⟩
/-- TC_CTRL.RUN -/ abbrev Fld.tcCtrl_RUN : Fld := ⟨63, 63⟩
/-- TC_CTRL.STOP -/ abbrev Fld.tcCtrl_STOP : Fld := ⟨62, 62⟩
/-- TC_CTRL.EVAL -/ abbrev Fld.tcCtrl_EVAL : Fld := ⟨61, 61⟩
/-- TC_CTRL.LOCK -/ abbrev Fld.tcCtrl_LOCK : Fld := ⟨59, 59⟩
/-- TC_STATUS.BUSY -/ abbrev Fld.tcStatus_BUSY : Fld := ⟨63, 63⟩
/-- TC_STATUS.DONE -/ abbrev Fld.tcStatus_DONE : Fld := ⟨62, 62⟩
/-- TC_STATUS.ERROR -/ abbrev Fld.tcStatus_ERROR : Fld := ⟨61, 61⟩
/-- TC_STATUS.LENT -/ abbrev Fld.tcStatus_LENT : Fld := ⟨60, 60⟩
/-- TC_PC.INDEX -/ abbrev Fld.tcPc_INDEX : Fld := ⟨15, 0⟩
/-- TC_PROG_LIMIT.INDEX -/ abbrev Fld.tcProgLimit_INDEX : Fld := ⟨15, 0⟩
/-- TC_ERR.VALID -/ abbrev Fld.tcErr_VALID : Fld := ⟨63, 63⟩
/-- TC_ERR.MORE -/ abbrev Fld.tcErr_MORE : Fld := ⟨62, 62⟩
/-- TC_ERR.CODE -/ abbrev Fld.tcErr_CODE : Fld := ⟨55, 48⟩
/-- TC_ERR.PC -/ abbrev Fld.tcErr_PC : Fld := ⟨31, 16⟩
/-- TC_ERR.SLOT -/ abbrev Fld.tcErr_SLOT : Fld := ⟨15, 0⟩
/-- TC_FLAGS.NF -/ abbrev Fld.tcFlags_NF : Fld := ⟨63, 63⟩
/-- TC_FLAGS.SAT -/ abbrev Fld.tcFlags_SAT : Fld := ⟨62, 62⟩
/-- TC_FLAGS.NF_CAUSE -/ abbrev Fld.tcFlags_NF_CAUSE : Fld := ⟨61, 59⟩
/-- TC_FLAGS.NF_PC -/ abbrev Fld.tcFlags_NF_PC : Fld := ⟨15, 0⟩
/-- TC_WAIT_LIMIT.LIMIT -/ abbrev Fld.tcWaitLimit_LIMIT : Fld := ⟨31, 0⟩
/-- TC_IDLE.CYCLES -/ abbrev Fld.tcIdle_CYCLES : Fld := ⟨63, 0⟩
/-- TC_OPS.ISSUED -/ abbrev Fld.tcOps_ISSUED : Fld := ⟨63, 0⟩
/-- the program memory.OP -/ abbrev Fld.tcProg_OP : Fld := ⟨63, 0⟩
/-- the slot table.WORD -/ abbrev Fld.tcSlot_WORD : Fld := ⟨63, 0⟩
/-- TC_REMAP.REFUSED -/ abbrev Fld.tcRemap_REFUSED : Fld := ⟨63, 63⟩
/-- TC_REMAP.MAP -/ abbrev Fld.tcRemap_MAP : Fld := ⟨43, 0⟩
/-- TRV_ID.DIE -/ abbrev Fld.trvId_DIE : Fld := ⟨15, 12⟩
/-- TRV_ID.ENGINE -/ abbrev Fld.trvId_ENGINE : Fld := ⟨11, 0⟩
/-- TRV_CTRL.RUN -/ abbrev Fld.trvCtrl_RUN : Fld := ⟨63, 63⟩
/-- TRV_CTRL.STOP -/ abbrev Fld.trvCtrl_STOP : Fld := ⟨62, 62⟩
/-- TRV_CTRL.LOCK -/ abbrev Fld.trvCtrl_LOCK : Fld := ⟨60, 60⟩
/-- TRV_STATUS.BUSY -/ abbrev Fld.trvStatus_BUSY : Fld := ⟨63, 63⟩
/-- TRV_STATUS.DONE -/ abbrev Fld.trvStatus_DONE : Fld := ⟨62, 62⟩
/-- TRV_STATUS.ERROR -/ abbrev Fld.trvStatus_ERROR : Fld := ⟨61, 61⟩
/-- TRV_STATUS.WAITING -/ abbrev Fld.trvStatus_WAITING : Fld := ⟨60, 60⟩
/-- TRV_STATUS.OVERLAP -/ abbrev Fld.trvStatus_OVERLAP : Fld := ⟨59, 59⟩
/-- TRV_PC.INDEX -/ abbrev Fld.trvPc_INDEX : Fld := ⟨8, 0⟩
/-- TRV_LIMIT.INDEX -/ abbrev Fld.trvLimit_INDEX : Fld := ⟨8, 0⟩
/-- TRV_ERR.VALID -/ abbrev Fld.trvErr_VALID : Fld := ⟨63, 63⟩
/-- TRV_ERR.MORE -/ abbrev Fld.trvErr_MORE : Fld := ⟨62, 62⟩
/-- TRV_ERR.CODE -/ abbrev Fld.trvErr_CODE : Fld := ⟨55, 48⟩
/-- TRV_ERR.PC -/ abbrev Fld.trvErr_PC : Fld := ⟨20, 12⟩
/-- TRV_ERR.LEVEL -/ abbrev Fld.trvErr_LEVEL : Fld := ⟨3, 0⟩
/-- TRV_WAIT_LIMIT.LIMIT -/ abbrev Fld.trvWaitLimit_LIMIT : Fld := ⟨31, 0⟩
/-- TRV_BYTES.BYTES -/ abbrev Fld.trvBytes_BYTES : Fld := ⟨63, 0⟩
/-- TRV_MSET.SET -/ abbrev Fld.trvMset_SET : Fld := ⟨39, 0⟩
/-- TRV_MOFS.OFFSET -/ abbrev Fld.trvMofs_OFFSET : Fld := ⟨27, 0⟩
/-- the descriptor ring.WORD -/ abbrev Fld.trvRing_WORD : Fld := ⟨63, 0⟩
/-- TRV_FBUF.REGRESS -/ abbrev Fld.trvFbuf_REGRESS : Fld := ⟨63, 63⟩
/-- TRV_FBUF.CAUSE -/ abbrev Fld.trvFbuf_CAUSE : Fld := ⟨34, 32⟩
/-- TRV_FBUF.COUNT -/ abbrev Fld.trvFbuf_COUNT : Fld := ⟨31, 0⟩
/-- TRV_FB_CTRL.LOCK -/ abbrev Fld.trvFbCtrl_LOCK : Fld := ⟨63, 63⟩
/-- OPT_CTRL.RUN -/ abbrev Fld.optCtrl_RUN : Fld := ⟨63, 63⟩
/-- OPT_CTRL.LOCK -/ abbrev Fld.optCtrl_LOCK : Fld := ⟨62, 62⟩
/-- OPT_CTRL.LEADER -/ abbrev Fld.optCtrl_LEADER : Fld := ⟨61, 61⟩
/-- OPT_CTRL.MARK -/ abbrev Fld.optCtrl_MARK : Fld := ⟨60, 60⟩
/-- OPT_CTRL.STEP_END -/ abbrev Fld.optCtrl_STEP_END : Fld := ⟨59, 59⟩
/-- OPT_STATUS.BUSY -/ abbrev Fld.optStatus_BUSY : Fld := ⟨63, 63⟩
/-- OPT_STATUS.PHASE -/ abbrev Fld.optStatus_PHASE : Fld := ⟨62, 60⟩
/-- OPT_STATUS.FAILED -/ abbrev Fld.optStatus_FAILED : Fld := ⟨59, 59⟩
/-- OPT_STATUS.DONE -/ abbrev Fld.optStatus_DONE : Fld := ⟨58, 58⟩
/-- OPT_STATUS.RETRACTED -/ abbrev Fld.optStatus_RETRACTED : Fld := ⟨57, 57⟩
/-- OPT_STATUS.ENTRY -/ abbrev Fld.optStatus_ENTRY : Fld := ⟨47, 32⟩
/-- OPT_STATUS.NORM -/ abbrev Fld.optStatus_NORM : Fld := ⟨31, 0⟩
/-- OPT_LTAB.COUNT -/ abbrev Fld.optLtab_COUNT : Fld := ⟨63, 48⟩
/-- OPT_LTAB.BASE -/ abbrev Fld.optLtab_BASE : Fld := ⟨47, 0⟩
/-- OPT_RLOG.SIZE -/ abbrev Fld.optRlog_SIZE : Fld := ⟨63, 40⟩
/-- OPT_RLOG.BASE -/ abbrev Fld.optRlog_BASE : Fld := ⟨31, 0⟩
/-- OPT_LSCALE.EXP -/ abbrev Fld.optLscale_EXP : Fld := ⟨63, 56⟩
/-- OPT_LSCALE.EXP_MIN -/ abbrev Fld.optLscale_EXP_MIN : Fld := ⟨55, 48⟩
/-- OPT_LSCALE.EXP_MAX -/ abbrev Fld.optLscale_EXP_MAX : Fld := ⟨47, 40⟩
/-- OPT_LSCALE.RETRACT_LIMIT -/ abbrev Fld.optLscale_RETRACT_LIMIT : Fld := ⟨39, 32⟩
/-- OPT_LSCALE.RUN -/ abbrev Fld.optLscale_RUN : Fld := ⟨31, 24⟩
/-- OPT_LSCALE.CLEAN -/ abbrev Fld.optLscale_CLEAN : Fld := ⟨15, 0⟩
/-- OPT_STEP.STEP -/ abbrev Fld.optStep_STEP : Fld := ⟨39, 0⟩
/-- OPT_ATTEMPT.SKIP -/ abbrev Fld.optAttempt_SKIP : Fld := ⟨63, 32⟩
/-- OPT_ATTEMPT.ATTEMPT -/ abbrev Fld.optAttempt_ATTEMPT : Fld := ⟨31, 0⟩
/-- OPT_CURSOR.CURSOR -/ abbrev Fld.optCursor_CURSOR : Fld := ⟨63, 0⟩
/-- OPT_BATCH.BATCH -/ abbrev Fld.optBatch_BATCH : Fld := ⟨31, 0⟩
/-- OPT_ERR.VALID -/ abbrev Fld.optErr_VALID : Fld := ⟨63, 63⟩
/-- OPT_ERR.MORE -/ abbrev Fld.optErr_MORE : Fld := ⟨62, 62⟩
/-- OPT_ERR.CODE -/ abbrev Fld.optErr_CODE : Fld := ⟨55, 48⟩
/-- OPT_ERR.ENTRY -/ abbrev Fld.optErr_ENTRY : Fld := ⟨15, 0⟩
/-- OPT_WAIT_LIMIT.LIMIT -/ abbrev Fld.optWaitLimit_LIMIT : Fld := ⟨31, 0⟩
/-- OPT_LS_ADDR.ADDR -/ abbrev Fld.optLsAddr_ADDR : Fld := ⟨47, 0⟩
/-- OPT_COMMIT_BASE.ADDR -/ abbrev Fld.optCommitBase_ADDR : Fld := ⟨47, 0⟩
/-- OPT_SR_SEED.SEED -/ abbrev Fld.optSrSeed_SEED : Fld := ⟨63, 0⟩
/-- OPT_WORK.SIZE -/ abbrev Fld.optWork_SIZE : Fld := ⟨55, 28⟩
/-- OPT_WORK.OFFSET -/ abbrev Fld.optWork_OFFSET : Fld := ⟨27, 0⟩
/-- OPT_NSC.ABC -/ abbrev Fld.optNsc_ABC : Fld := ⟨47, 0⟩
/-- OPT_CONST.VALUE -/ abbrev Fld.optConst_VALUE : Fld := ⟨31, 0⟩
/-- OPT_EPROG.ODD -/ abbrev Fld.optEprog_ODD : Fld := ⟨63, 32⟩
/-- OPT_EPROG.EVEN -/ abbrev Fld.optEprog_EVEN : Fld := ⟨31, 0⟩
/-- LDG_CTRL.POOLED -/ abbrev Fld.ldgCtrl_POOLED : Fld := ⟨63, 63⟩
/-- LDG_CTRL.LOCK -/ abbrev Fld.ldgCtrl_LOCK : Fld := ⟨62, 62⟩
/-- LDG_VIOL.VALID -/ abbrev Fld.ldgViol_VALID : Fld := ⟨63, 63⟩
/-- LDG_VIOL.COUNT -/ abbrev Fld.ldgViol_COUNT : Fld := ⟨62, 48⟩
/-- LDG_VIOL.REQ -/ abbrev Fld.ldgViol_REQ : Fld := ⟨47, 40⟩
/-- LDG_VIOL.OWNER -/ abbrev Fld.ldgViol_OWNER : Fld := ⟨39, 32⟩
/-- LDG_VIOL.OFFSET -/ abbrev Fld.ldgViol_OFFSET : Fld := ⟨27, 0⟩
/-- LDG_ECC.UNCORR -/ abbrev Fld.ldgEcc_UNCORR : Fld := ⟨63, 32⟩
/-- LDG_ECC.CORR -/ abbrev Fld.ldgEcc_CORR : Fld := ⟨31, 0⟩
/-- LDG_MARCH.GO -/ abbrev Fld.ldgMarch_GO : Fld := ⟨63, 63⟩
/-- LDG_MARCH.TRANSP -/ abbrev Fld.ldgMarch_TRANSP : Fld := ⟨62, 62⟩
/-- LDG_MARCH.BANKS -/ abbrev Fld.ldgMarch_BANKS : Fld := ⟨47, 0⟩
/-- LDG_MARCH_STATUS.BUSY -/ abbrev Fld.ldgMarchStatus_BUSY : Fld := ⟨63, 63⟩
/-- LDG_MARCH_STATUS.RESULT -/ abbrev Fld.ldgMarchStatus_RESULT : Fld := ⟨62, 60⟩
/-- LDG_MARCH_STATUS.FAIL_SUB -/ abbrev Fld.ldgMarchStatus_FAIL_SUB : Fld := ⟨47, 40⟩
/-- LDG_MARCH_STATUS.FAIL_ROWS -/ abbrev Fld.ldgMarchStatus_FAIL_ROWS : Fld := ⟨15, 0⟩
/-- LDG_REPAIR.GO -/ abbrev Fld.ldgRepair_GO : Fld := ⟨63, 63⟩
/-- LDG_REPAIR.OP -/ abbrev Fld.ldgRepair_OP : Fld := ⟨62, 60⟩
/-- LDG_REPAIR.SUB -/ abbrev Fld.ldgRepair_SUB : Fld := ⟨17, 10⟩
/-- LDG_REPAIR.ROW -/ abbrev Fld.ldgRepair_ROW : Fld := ⟨9, 0⟩
/-- LDG_REPAIR_STATUS.BUSY -/ abbrev Fld.ldgRepairStatus_BUSY : Fld := ⟨63, 63⟩
/-- LDG_REPAIR_STATUS.RESULT -/ abbrev Fld.ldgRepairStatus_RESULT : Fld := ⟨62, 60⟩
/-- LDG_REPAIR_STATUS.SPARES_LEFT -/ abbrev Fld.ldgRepairStatus_SPARES_LEFT : Fld := ⟨3, 0⟩
/-- LDG_GIVE.GO -/ abbrev Fld.ldgGive_GO : Fld := ⟨63, 63⟩
/-- LDG_GIVE.SUB -/ abbrev Fld.ldgGive_SUB : Fld := ⟨59, 56⟩
/-- LDG_GIVE.OWNER -/ abbrev Fld.ldgGive_OWNER : Fld := ⟨55, 48⟩
/-- LDG_GIVE.BANKS -/ abbrev Fld.ldgGive_BANKS : Fld := ⟨47, 0⟩
/-- LDG_OWN.SUB3 -/ abbrev Fld.ldgOwn_SUB3 : Fld := ⟨31, 24⟩
/-- LDG_OWN.SUB2 -/ abbrev Fld.ldgOwn_SUB2 : Fld := ⟨23, 16⟩
/-- LDG_OWN.SUB1 -/ abbrev Fld.ldgOwn_SUB1 : Fld := ⟨15, 8⟩
/-- LDG_OWN.SUB0 -/ abbrev Fld.ldgOwn_SUB0 : Fld := ⟨7, 0⟩
/-- LDG_SPARE.USED -/ abbrev Fld.ldgSpare_USED : Fld := ⟨63, 63⟩
/-- LDG_SPARE.FUSED -/ abbrev Fld.ldgSpare_FUSED : Fld := ⟨62, 62⟩
/-- LDG_SPARE.FAILED -/ abbrev Fld.ldgSpare_FAILED : Fld := ⟨61, 61⟩
/-- LDG_SPARE.ROW -/ abbrev Fld.ldgSpare_ROW : Fld := ⟨9, 0⟩
/-- COL_CTRL.RUN -/ abbrev Fld.colCtrl_RUN : Fld := ⟨63, 63⟩
/-- COL_CTRL.STOP -/ abbrev Fld.colCtrl_STOP : Fld := ⟨62, 62⟩
/-- COL_CTRL.LOCK -/ abbrev Fld.colCtrl_LOCK : Fld := ⟨61, 61⟩
/-- COL_CTRL.JOIN -/ abbrev Fld.colCtrl_JOIN : Fld := ⟨60, 60⟩
/-- COL_STATUS.BUSY -/ abbrev Fld.colStatus_BUSY : Fld := ⟨63, 63⟩
/-- COL_STATUS.DONE -/ abbrev Fld.colStatus_DONE : Fld := ⟨62, 62⟩
/-- COL_STATUS.ERROR -/ abbrev Fld.colStatus_ERROR : Fld := ⟨61, 61⟩
/-- COL_STATUS.SWITCHING -/ abbrev Fld.colStatus_SWITCHING : Fld := ⟨60, 60⟩
/-- COL_STATUS.INFLIGHT -/ abbrev Fld.colStatus_INFLIGHT : Fld := ⟨59, 55⟩
/-- COL_STATUS.JOIN_RESULT -/ abbrev Fld.colStatus_JOIN_RESULT : Fld := ⟨54, 52⟩
/-- COL_STATUS.JOIN_DIFF -/ abbrev Fld.colStatus_JOIN_DIFF : Fld := ⟨51, 43⟩
/-- COL_STATUS.DESC -/ abbrev Fld.colStatus_DESC : Fld := ⟨16, 0⟩
/-- COL_TEAM.TEAM -/ abbrev Fld.colTeam_TEAM : Fld := ⟨53, 40⟩
/-- COL_TEAM.SLOT -/ abbrev Fld.colTeam_SLOT : Fld := ⟨39, 36⟩
/-- COL_TEAM.MAP -/ abbrev Fld.colTeam_MAP : Fld := ⟨35, 0⟩
/-- COL_PHASE.NEXT -/ abbrev Fld.colPhase_NEXT : Fld := ⟨10, 8⟩
/-- COL_PHASE.PENDING -/ abbrev Fld.colPhase_PENDING : Fld := ⟨7, 7⟩
/-- COL_PHASE.CURRENT -/ abbrev Fld.colPhase_CURRENT : Fld := ⟨2, 0⟩
/-- COL_ERR.VALID -/ abbrev Fld.colErr_VALID : Fld := ⟨63, 63⟩
/-- COL_ERR.MORE -/ abbrev Fld.colErr_MORE : Fld := ⟨62, 62⟩
/-- COL_ERR.CODE -/ abbrev Fld.colErr_CODE : Fld := ⟨55, 48⟩
/-- COL_ERR.DESC -/ abbrev Fld.colErr_DESC : Fld := ⟨32, 16⟩
/-- COL_ERR.GROUP -/ abbrev Fld.colErr_GROUP : Fld := ⟨15, 0⟩
/-- COL_WAIT_LIMIT.LIMIT -/ abbrev Fld.colWaitLimit_LIMIT : Fld := ⟨31, 0⟩
/-- COL_IDLE.COUNT -/ abbrev Fld.colIdle_COUNT : Fld := ⟨63, 0⟩
/-- COL_BYTES.COUNT -/ abbrev Fld.colBytes_COUNT : Fld := ⟨63, 0⟩
/-- COL_RX.SIZE -/ abbrev Fld.colRx_SIZE : Fld := ⟨55, 28⟩
/-- COL_RX.OFFSET -/ abbrev Fld.colRx_OFFSET : Fld := ⟨27, 0⟩
/-- COL_MAP.VALID -/ abbrev Fld.colMap_VALID : Fld := ⟨63, 63⟩
/-- COL_MAP.BASE -/ abbrev Fld.colMap_BASE : Fld := ⟨47, 0⟩
/-- ROPE_CTRL.EN -/ abbrev Fld.ropeCtrl_EN : Fld := ⟨63, 63⟩
/-- ROPE_CTRL.RETRAIN -/ abbrev Fld.ropeCtrl_RETRAIN : Fld := ⟨62, 62⟩
/-- ROPE_CTRL.LOCK -/ abbrev Fld.ropeCtrl_LOCK : Fld := ⟨61, 61⟩
/-- ROPE_CTRL.IPV6 -/ abbrev Fld.ropeCtrl_IPV6 : Fld := ⟨60, 60⟩
/-- ROPE_CTRL.VLAN -/ abbrev Fld.ropeCtrl_VLAN : Fld := ⟨59, 59⟩
/-- ROPE_CTRL.MTU -/ abbrev Fld.ropeCtrl_MTU : Fld := ⟨58, 57⟩
/-- ROPE_CTRL.LANEDROP -/ abbrev Fld.ropeCtrl_LANEDROP : Fld := ⟨56, 56⟩
/-- ROPE_CTRL.VID -/ abbrev Fld.ropeCtrl_VID : Fld := ⟨55, 44⟩
/-- ROPE_STATUS.STATE -/ abbrev Fld.ropeStatus_STATE : Fld := ⟨63, 61⟩
/-- ROPE_STATUS.LANE_OK -/ abbrev Fld.ropeStatus_LANE_OK : Fld := ⟨60, 57⟩
/-- ROPE_STATUS.PEER_SLOT -/ abbrev Fld.ropeStatus_PEER_SLOT : Fld := ⟨56, 53⟩
/-- ROPE_STATUS.PEER_NODE -/ abbrev Fld.ropeStatus_PEER_NODE : Fld := ⟨52, 33⟩
/-- ROPE_ADDR.ETHERTYPE -/ abbrev Fld.ropeAddr_ETHERTYPE : Fld := ⟨63, 48⟩
/-- ROPE_ADDR.UDP_PORT -/ abbrev Fld.ropeAddr_UDP_PORT : Fld := ⟨47, 32⟩
/-- ROPE_ADDR.MAC_PREFIX -/ abbrev Fld.ropeAddr_MAC_PREFIX : Fld := ⟨23, 0⟩
/-- ROPE_IP_PREFIX.PREFIX -/ abbrev Fld.ropeIpPrefix_PREFIX : Fld := ⟨63, 0⟩
/-- ROPE_NEXTHOP.HOP_LIMIT -/ abbrev Fld.ropeNexthop_HOP_LIMIT : Fld := ⟨63, 56⟩
/-- ROPE_NEXTHOP.MAC -/ abbrev Fld.ropeNexthop_MAC : Fld := ⟨47, 0⟩
/-- ROPE_VC.MAP, PCP and DSCP of virtual channel 0 -/ abbrev Fld.ropeVc_MAP0 : Fld := ⟨8, 0⟩
/-- ROPE_VC.MAP, virtual channel 1 -/ abbrev Fld.ropeVc_MAP1 : Fld := ⟨24, 16⟩
/-- ROPE_VC.MAP, virtual channel 2 -/ abbrev Fld.ropeVc_MAP2 : Fld := ⟨40, 32⟩
/-- ROPE_VC.MAP, virtual channel 3 -/ abbrev Fld.ropeVc_MAP3 : Fld := ⟨56, 48⟩
/-- ROPE_CREDIT.SENT -/ abbrev Fld.ropeCredit_SENT : Fld := ⟨63, 32⟩
/-- ROPE_CREDIT.AVAIL -/ abbrev Fld.ropeCredit_AVAIL : Fld := ⟨15, 0⟩
/-- ROPE_SEQ.TX_SEQ -/ abbrev Fld.ropeSeq_TX_SEQ : Fld := ⟨55, 32⟩
/-- ROPE_SEQ.RX_EXPECT -/ abbrev Fld.ropeSeq_RX_EXPECT : Fld := ⟨23, 0⟩
/-- ROPE_ERRS.FCS_ERR -/ abbrev Fld.ropeErrs_FCS_ERR : Fld := ⟨63, 32⟩
/-- ROPE_ERRS.REPLAY -/ abbrev Fld.ropeErrs_REPLAY : Fld := ⟨31, 0⟩
/-- ROPE_DISC.ECRC_ERR -/ abbrev Fld.ropeDisc_ECRC_ERR : Fld := ⟨63, 32⟩
/-- ROPE_DISC.OTHER -/ abbrev Fld.ropeDisc_OTHER : Fld := ⟨31, 0⟩
/-- ROPE_LANE.FAILED -/ abbrev Fld.ropeLane_FAILED : Fld := ⟨63, 63⟩
/-- ROPE_LANE.FOM -/ abbrev Fld.ropeLane_FOM : Fld := ⟨55, 48⟩
/-- ROPE_LANE.FEC_CORR -/ abbrev Fld.ropeLane_FEC_CORR : Fld := ⟨31, 0⟩
/-- ROPE_TIMEOUT.EPOCH -/ abbrev Fld.ropeTimeout_EPOCH : Fld := ⟨63, 56⟩
/-- ROPE_TIMEOUT.PATH_LIMIT -/ abbrev Fld.ropeTimeout_PATH_LIMIT : Fld := ⟨47, 24⟩
/-- ROPE_TIMEOUT.REQ_TIMEOUT -/ abbrev Fld.ropeTimeout_REQ_TIMEOUT : Fld := ⟨23, 0⟩
/-- ROPE_RETX.RETX -/ abbrev Fld.ropeRetx_RETX : Fld := ⟨63, 32⟩
/-- ROPE_RETX.DUP_DISCARD -/ abbrev Fld.ropeRetx_DUP_DISCARD : Fld := ⟨31, 0⟩
/-- ROPE_DEDUP.IN_USE -/ abbrev Fld.ropeDedup_IN_USE : Fld := ⟨42, 32⟩
/-- ROPE_DEDUP.LATE_RESP -/ abbrev Fld.ropeDedup_LATE_RESP : Fld := ⟨31, 16⟩
/-- ROPE_DEDUP.FULL_NACK -/ abbrev Fld.ropeDedup_FULL_NACK : Fld := ⟨15, 0⟩
/-- ROPE_TIME_OFS.STALE -/ abbrev Fld.ropeTimeOfs_STALE : Fld := ⟨63, 63⟩
/-- ROPE_TIME_OFS.OFFSET -/ abbrev Fld.ropeTimeOfs_OFFSET : Fld := ⟨62, 0⟩
/-- ROPE_COMMON_LOCK.LOCK -/ abbrev Fld.ropeCommonLock_LOCK : Fld := ⟨63, 63⟩

/-- The fields of a register with their access codes (R13, R14); bits outside them are reserved (R16). -/
def Reg.fields : Reg → List FieldSpec
  | .hkShape => [⟨Fld.hkShape_SVC_LEVEL, .ro⟩, ⟨Fld.hkShape_FULL_SHAPE, .ro⟩, ⟨Fld.hkShape_SHAPE_VALID, .ro⟩, ⟨Fld.hkShape_TC_ACTIVE, .ro⟩, ⟨Fld.hkShape_TEAM_PORT_MASK, .ro⟩, ⟨Fld.hkShape_MORAINE_MASK, .ro⟩, ⟨Fld.hkShape_NEAR_MASK, .ro⟩, ⟨Fld.hkShape_LEDGE_MASK, .ro⟩, ⟨Fld.hkShape_RIDGE_MASK, .ro⟩]
  | .hkRopeExpect => [⟨Fld.hkRopeExpect_EXPECT, .rw⟩]
  | .hkBoot => [⟨Fld.hkBoot_STAGE, .ro⟩, ⟨Fld.hkBoot_FAILED_STAGE, .ro⟩, ⟨Fld.hkBoot_HOLD, .ro⟩, ⟨Fld.hkBoot_HOLD_CAUSE, .ro⟩, ⟨Fld.hkBoot_RECOVERY, .ro⟩, ⟨Fld.hkBoot_FACTORY, .ro⟩, ⟨Fld.hkBoot_LANE_PLAN, .ro⟩, ⟨Fld.hkBoot_PLAN_BAD, .w1c⟩, ⟨Fld.hkBoot_PAIR_A, .ro⟩, ⟨Fld.hkBoot_PAIR_B, .ro⟩, ⟨Fld.hkBoot_SLOT_B, .ro⟩]
  | .hkBootCtrl => [⟨Fld.hkBootCtrl_REFUSED, .w1c⟩, ⟨Fld.hkBootCtrl_DIE_RESET, .w1s⟩]
  | .hkRepairMap _ => [⟨Fld.hkRepairMap_MAP, .rw⟩]
  | .hkBootTime _ => [⟨Fld.hkBootTime_TIME, .ro⟩]
  | .hkFw _ => [⟨Fld.hkFw_VERSION, .ro⟩, ⟨Fld.hkFw_VALID, .ro⟩, ⟨Fld.hkFw_EPOCH, .ro⟩]
  | .hkBelayRole _ _ => [⟨Fld.hkBelayRole_ROLE, .ro⟩]
  | .hkBelayStatus _ => [⟨Fld.hkBelayStatus_DOWN, .ro⟩, ⟨Fld.hkBelayStatus_FAILED_1, .ro⟩, ⟨Fld.hkBelayStatus_FAILED_0, .ro⟩]
  | .hkJournal => [⟨Fld.hkJournal_OVERFLOW, .ro⟩, ⟨Fld.hkJournal_HEAD, .ro⟩]
  | .hkT1s => [⟨Fld.hkT1s_EN, .ro⟩, ⟨Fld.hkT1s_PLCA_ACTIVE, .ro⟩, ⟨Fld.hkT1s_COLLISIONS, .ro⟩, ⟨Fld.hkT1s_BUSY_SENT, .ro⟩, ⟨Fld.hkT1s_NODE_COUNT, .ro⟩, ⟨Fld.hkT1s_NODE_ID, .ro⟩]
  | .hkHeadlamp => [⟨Fld.hkHeadlamp_BUSY, .ro⟩, ⟨Fld.hkHeadlamp_SAT, .ro⟩, ⟨Fld.hkHeadlamp_ACCEPTED, .ro⟩, ⟨Fld.hkHeadlamp_REJECTED, .ro⟩, ⟨Fld.hkHeadlamp_LAST_REASON, .ro⟩, ⟨Fld.hkHeadlamp_AMBIENT, .ro⟩]
  | .hkJrnl _ _ => [⟨Fld.hkJrnl_WORD, .ro⟩]
  | .pwrCtrl => [⟨Fld.pwrCtrl_MODE, .rw⟩, ⟨Fld.pwrCtrl_COMPAT, .rwl⟩, ⟨Fld.pwrCtrl_BRAKE, .ro⟩, ⟨Fld.pwrCtrl_CAL_FREEZE, .rw⟩, ⟨Fld.pwrCtrl_LOCK, .ro⟩]
  | .pwrStatus => [⟨Fld.pwrStatus_METER, .ro⟩, ⟨Fld.pwrStatus_MODEL, .ro⟩, ⟨Fld.pwrStatus_CAP, .ro⟩, ⟨Fld.pwrStatus_GRANT, .ro⟩]
  | .pwrDomain _ => [⟨Fld.pwrDomain_BUDGET, .ro⟩, ⟨Fld.pwrDomain_DRAW, .ro⟩, ⟨Fld.pwrDomain_DEMAND, .ro⟩, ⟨Fld.pwrDomain_DUTY, .ro⟩, ⟨Fld.pwrDomain_PENDING, .ro⟩, ⟨Fld.pwrDomain_THERMAL, .ro⟩, ⟨Fld.pwrDomain_FLOOR, .ro⟩]
  | .pwrGain _ => [⟨Fld.pwrGain_CLAMPED, .ro⟩, ⟨Fld.pwrGain_GAIN, .ro⟩]
  | .pwrTherm _ => [⟨Fld.pwrTherm_HOT, .ro⟩, ⟨Fld.pwrTherm_REF, .ro⟩, ⟨Fld.pwrTherm_FAILED, .ro⟩]
  | .pwrTlimit => [⟨Fld.pwrTlimit_T_LIMIT, .rwl⟩, ⟨Fld.pwrTlimit_T_SHUT, .ro⟩, ⟨Fld.pwrTlimit_LO, .rwl⟩, ⟨Fld.pwrTlimit_HI, .rwl⟩]
  | .fltStatus => [⟨Fld.fltStatus_FATAL, .ro⟩, ⟨Fld.fltStatus_UCC, .ro⟩, ⟨Fld.fltStatus_UNACKED, .ro⟩, ⟨Fld.fltStatus_PULSE, .ro⟩, ⟨Fld.fltStatus_ASSERTED, .ro⟩, ⟨Fld.fltStatus_ARMED, .ro⟩, ⟨Fld.fltStatus_FACTORY, .ro⟩, ⟨Fld.fltStatus_REFUSED, .w1c⟩, ⟨Fld.fltStatus_OPEN_UCC, .ro⟩, ⟨Fld.fltStatus_OPEN_FATAL, .ro⟩]
  | .fltCtrl => [⟨Fld.fltCtrl_ERR_HOLD, .rw⟩, ⟨Fld.fltCtrl_GRACE, .rw⟩]
  | .fltAck => [⟨Fld.fltAck_SEQ, .wo⟩]
  | .fltClear => [⟨Fld.fltClear_SEQ, .wo⟩]
  | .fltHead => [⟨Fld.fltHead_INDEX, .ro⟩, ⟨Fld.fltHead_SEQ, .ro⟩]
  | .fltGrace => [⟨Fld.fltGrace_RUNNING, .ro⟩, ⟨Fld.fltGrace_OLDEST, .ro⟩, ⟨Fld.fltGrace_TIME, .ro⟩]
  | .fltDeadline => [⟨Fld.fltDeadline_TIME, .ro⟩]
  | .fltTotals => [⟨Fld.fltTotals_CORRECTED, .ro⟩, ⟨Fld.fltTotals_OVERWRITTEN, .ro⟩]
  | .fltPin => [⟨Fld.fltPin_UNPINNED, .ro⟩, ⟨Fld.fltPin_DROPPED, .ro⟩, ⟨Fld.fltPin_PINNED, .ro⟩]
  | .fltInject => [⟨Fld.fltInject_GO, .wo⟩, ⟨Fld.fltInject_CLASS, .wo⟩, ⟨Fld.fltInject_DIE, .wo⟩, ⟨Fld.fltInject_BLOCK, .wo⟩, ⟨Fld.fltInject_INSTANCE, .wo⟩, ⟨Fld.fltInject_CODE, .wo⟩]
  | .fltHb => [⟨Fld.fltHb_EN, .rw⟩, ⟨Fld.fltHb_FAIL, .w1s⟩, ⟨Fld.fltHb_LEAD, .ro⟩, ⟨Fld.fltHb_SEEN, .ro⟩, ⟨Fld.fltHb_FAILED, .ro⟩]
  | .fltRestart => [⟨Fld.fltRestart_PHASE, .ro⟩, ⟨Fld.fltRestart_REACH, .ro⟩, ⟨Fld.fltRestart_TARGET, .ro⟩]
  | .fltMirror => [⟨Fld.fltMirror_EN, .rwl⟩, ⟨Fld.fltMirror_EVERY, .rwl⟩, ⟨Fld.fltMirror_PARTNER, .rwl⟩]
  | .fltMset => [⟨Fld.fltMset_COUNT, .rwl⟩, ⟨Fld.fltMset_BASE, .rwl⟩]
  | .fltMarea => [⟨Fld.fltMarea_SIZE, .rwl⟩, ⟨Fld.fltMarea_BASE, .rwl⟩]
  | .fltMgen _ => [⟨Fld.fltMgen_COMPLETE, .ro⟩, ⟨Fld.fltMgen_WRITING, .ro⟩, ⟨Fld.fltMgen_STEP, .ro⟩]
  | .fltFence => [⟨Fld.fltFence_FENCED, .ro⟩]
  | .fltRec _ _ => [⟨Fld.fltRec_WORD, .ro⟩]
  | .ntPinMap _ => [⟨Fld.ntPinMap_PIN, .rwl⟩]
  | .ntCtrl => [⟨Fld.ntCtrl_LOCK, .ro⟩]
  | .ntRetire => [⟨Fld.ntRetire_GO, .wo⟩, ⟨Fld.ntRetire_STACK, .wo⟩, ⟨Fld.ntRetire_FRAME, .wo⟩]
  | .ntRetireStatus => [⟨Fld.ntRetireStatus_BUSY, .ro⟩, ⟨Fld.ntRetireStatus_RESULT, .ro⟩, ⟨Fld.ntRetireStatus_COUNT, .ro⟩]
  | .ntContractState => [⟨Fld.ntContractState_DELIV_NEAR, .ro⟩, ⟨Fld.ntContractState_DELIV_MOR, .ro⟩, ⟨Fld.ntContractState_LEVEL_HOST_IN, .ro⟩, ⟨Fld.ntContractState_LEVEL_HOST_OUT, .ro⟩, ⟨Fld.ntContractState_LEVEL_MOR, .ro⟩, ⟨Fld.ntContractState_LEVEL_NEAR, .ro⟩]
  | .ntSubstBase _ => [⟨Fld.ntSubstBase_BASE, .rw⟩]
  | .ntKvCfg => [⟨Fld.ntKvCfg_EN, .rwl⟩, ⟨Fld.ntKvCfg_FRAME_SIZE, .rwl⟩, ⟨Fld.ntKvCfg_REFILL, .rw⟩, ⟨Fld.ntKvCfg_SEQ_COUNT, .rwl⟩]
  | .ntKvPool _ => [⟨Fld.ntKvPool_COUNT, .rwl⟩, ⟨Fld.ntKvPool_BASE, .rwl⟩]
  | .ntKvBook _ => [⟨Fld.ntKvBook_FREE, .ro⟩, ⟨Fld.ntKvBook_ALLOC, .ro⟩, ⟨Fld.ntKvBook_INFLIGHT, .ro⟩]
  | .ntKvResv _ => [⟨Fld.ntKvResv_TRAIN_USED, .ro⟩, ⟨Fld.ntKvResv_TRAIN_RESV, .rwl⟩]
  | .ntKvCmd => [⟨Fld.ntKvCmd_GO, .wo⟩, ⟨Fld.ntKvCmd_OP, .wo⟩, ⟨Fld.ntKvCmd_SEQ, .wo⟩]
  | .ntKvStatus => [⟨Fld.ntKvStatus_BUSY, .ro⟩, ⟨Fld.ntKvStatus_RESULT, .ro⟩, ⟨Fld.ntKvStatus_SEQ, .ro⟩]
  | .ntKvSeqBase => [⟨Fld.ntKvSeqBase_BASE, .rwl⟩]
  | .ntKvEvqBase => [⟨Fld.ntKvEvqBase_BASE, .rw⟩]
  | .ntKvEvqPtr => [⟨Fld.ntKvEvqPtr_OVERFLOW, .ro⟩, ⟨Fld.ntKvEvqPtr_HEAD, .ro⟩, ⟨Fld.ntKvEvqPtr_TAIL, .rw⟩]
  | .morRetire => [⟨Fld.morRetire_GO, .wo⟩, ⟨Fld.morRetire_CHANNEL, .wo⟩, ⟨Fld.morRetire_FRAME, .wo⟩]
  | .morRetireStatus => [⟨Fld.morRetireStatus_BUSY, .ro⟩, ⟨Fld.morRetireStatus_RESULT, .ro⟩, ⟨Fld.morRetireStatus_COUNT, .ro⟩]
  | .morSwapqBase _ => [⟨Fld.morSwapqBase_EN, .rw⟩, ⟨Fld.morSwapqBase_BASE, .rw⟩]
  | .morSwapqPtr _ => [⟨Fld.morSwapqPtr_DONE, .ro⟩, ⟨Fld.morSwapqPtr_TAKEN, .ro⟩, ⟨Fld.morSwapqPtr_SUBMIT, .rw⟩]
  | .medCtrl => [⟨Fld.medCtrl_EN, .rw⟩, ⟨Fld.medCtrl_LOCK, .ro⟩, ⟨Fld.medCtrl_DEPTH, .rwl⟩]
  | .medStatus => [⟨Fld.medStatus_BUSY, .ro⟩, ⟨Fld.medStatus_EFF_DEPTH, .ro⟩]
  | .medCounts => [⟨Fld.medCounts_CONCEALED, .ro⟩, ⟨Fld.medCounts_REFUSED, .ro⟩]
  | .medQbase _ => [⟨Fld.medQbase_EN, .rwl⟩, ⟨Fld.medQbase_BASE, .rwl⟩]
  | .medQptr _ => [⟨Fld.medQptr_TAKEN, .ro⟩, ⟨Fld.medQptr_SUBMIT, .rw⟩]
  | .medVpool _ => [⟨Fld.medVpool_COUNT, .rwl⟩, ⟨Fld.medVpool_FREE, .ro⟩, ⟨Fld.medVpool_SIZE, .rwl⟩, ⟨Fld.medVpool_BASE, .rwl⟩]
  | .medEncOut _ => [⟨Fld.medEncOut_SIZE, .rwl⟩, ⟨Fld.medEncOut_BASE, .rwl⟩]
  | .medEncPtr _ => [⟨Fld.medEncPtr_RD, .rw⟩, ⟨Fld.medEncPtr_WR, .ro⟩]
  | .medEncStat _ => [⟨Fld.medEncStat_STALLS, .ro⟩, ⟨Fld.medEncStat_FRAMES, .ro⟩]
  | .tokCtrl => [⟨Fld.tokCtrl_EN, .rw⟩, ⟨Fld.tokCtrl_LOCK, .ro⟩]
  | .tokDict => [⟨Fld.tokDict_NODES, .rwl⟩, ⟨Fld.tokDict_BASE, .rwl⟩]
  | .tokIds => [⟨Fld.tokIds_BYTE_HI, .rwl⟩, ⟨Fld.tokIds_REPL_ID, .rwl⟩]
  | .tokQbase => [⟨Fld.tokQbase_EN, .rwl⟩, ⟨Fld.tokQbase_BASE, .rwl⟩]
  | .tokQptr => [⟨Fld.tokQptr_TAKEN, .ro⟩, ⟨Fld.tokQptr_SUBMIT, .rw⟩]
  | .tokCounts => [⟨Fld.tokCounts_REPLACED, .ro⟩, ⟨Fld.tokCounts_TRUNCATED, .ro⟩]
  | .augCtrl => [⟨Fld.augCtrl_LOCK, .ro⟩, ⟨Fld.augCtrl_EN, .rwl⟩]
  | .augQbase => [⟨Fld.augQbase_EN, .rwl⟩, ⟨Fld.augQbase_BASE, .rwl⟩]
  | .augQptr => [⟨Fld.augQptr_TAKEN, .ro⟩, ⟨Fld.augQptr_SUBMIT, .rw⟩]
  | .augKey _ _ => [⟨Fld.augKey_KEY, .rwl⟩]
  | .chkPointCfg _ => [⟨Fld.chkPointCfg_EN, .rw⟩, ⟨Fld.chkPointCfg_CRC64, .rw⟩, ⟨Fld.chkPointCfg_ACCUM, .rw⟩, ⟨Fld.chkPointCfg_DONE, .w1c⟩, ⟨Fld.chkPointCfg_MISSED, .w1c⟩, ⟨Fld.chkPointCfg_OVERRUN, .w1c⟩, ⟨Fld.chkPointCfg_HELD, .ro⟩, ⟨Fld.chkPointCfg_POINT, .rw⟩, ⟨Fld.chkPointCfg_TAG, .rw⟩]
  | .chkPointState _ => [⟨Fld.chkPointState_STATE, .rw⟩]
  | .chkPointResult _ => [⟨Fld.chkPointResult_RESULT, .ro⟩]
  | .chkPointBytes _ => [⟨Fld.chkPointBytes_BYTES, .rw⟩]
  | .chkChanCfg _ => [⟨Fld.chkChanCfg_EN, .rw⟩, ⟨Fld.chkChanCfg_CRC64, .rw⟩, ⟨Fld.chkChanCfg_ACCUM, .rw⟩, ⟨Fld.chkChanCfg_DONE, .w1c⟩, ⟨Fld.chkChanCfg_MISSED, .w1c⟩, ⟨Fld.chkChanCfg_OVERRUN, .w1c⟩, ⟨Fld.chkChanCfg_HELD, .ro⟩, ⟨Fld.chkChanCfg_POINT, .rw⟩, ⟨Fld.chkChanCfg_TAG, .rw⟩]
  | .chkChanState _ => [⟨Fld.chkChanState_STATE, .rw⟩]
  | .chkChanResult _ => [⟨Fld.chkChanResult_RESULT, .ro⟩]
  | .chkChanBytes _ => [⟨Fld.chkChanBytes_BYTES, .rw⟩]
  | .bcHart => [⟨Fld.bcHart_RUN, .rw⟩]
  | .bcResetVec => [⟨Fld.bcResetVec_ADDR, .rw⟩]
  | .bcHwin _ => [⟨Fld.bcHwin_EN, .rw⟩, ⟨Fld.bcHwin_NOSNOOP, .rw⟩, ⟨Fld.bcHwin_BASE, .rw⟩]
  | .bcDetBase => [⟨Fld.bcDetBase_EN, .rw⟩, ⟨Fld.bcDetBase_BASE, .rw⟩]
  | .bcDetPtr => [⟨Fld.bcDetPtr_DONE, .ro⟩, ⟨Fld.bcDetPtr_SUBMIT, .rw⟩]
  | .bcJobCtrl => [⟨Fld.bcJobCtrl_LOAD, .w1s⟩, ⟨Fld.bcJobCtrl_END, .w1s⟩, ⟨Fld.bcJobCtrl_ABORT, .w1s⟩]
  | .bcJobPlan => [⟨Fld.bcJobPlan_ADDR, .rw⟩]
  | .bcJobStatus => [⟨Fld.bcJobStatus_STATE, .ro⟩, ⟨Fld.bcJobStatus_DONE, .w1c⟩, ⟨Fld.bcJobStatus_CODE, .ro⟩, ⟨Fld.bcJobStatus_DETAIL, .ro⟩, ⟨Fld.bcJobStatus_JOB_ID, .ro⟩]
  | .bcJobReport => [⟨Fld.bcJobReport_ADDR, .rw⟩]
  | .bcEvalRing => [⟨Fld.bcEvalRing_EN, .rwl⟩, ⟨Fld.bcEvalRing_BATCH_MAX, .rwl⟩, ⟨Fld.bcEvalRing_BASE, .rwl⟩]
  | .bcEvalPtr => [⟨Fld.bcEvalPtr_TAKEN, .ro⟩, ⟨Fld.bcEvalPtr_SUBMIT, .rw⟩]
  | .bcJobLock => [⟨Fld.bcJobLock_LOCK, .ro⟩]
  | .bcMboxCtrl => [⟨Fld.bcMboxCtrl_GO, .w1s⟩, ⟨Fld.bcMboxCtrl_DONE, .w1c⟩]
  | .bcHapt _ => [⟨Fld.bcHapt_EN, .rw⟩, ⟨Fld.bcHapt_BASE, .rw⟩]
  | .bcMboxReq _ => [⟨Fld.bcMboxReq_DATA, .rw⟩]
  | .bcMboxResp _ => [⟨Fld.bcMboxResp_DATA, .rw⟩]
  | .bcIrqRoute _ => [⟨Fld.bcIrqRoute_EN, .rw⟩, ⟨Fld.bcIrqRoute_PEND, .ro⟩, ⟨Fld.bcIrqRoute_ACTIVE, .ro⟩, ⟨Fld.bcIrqRoute_HART, .rw⟩, ⟨Fld.bcIrqRoute_MODE, .rw⟩, ⟨Fld.bcIrqRoute_PRIO, .rw⟩]
  | .bcIrqThreshold _ _ => [⟨Fld.bcIrqThreshold_THRESHOLD, .rw⟩]
  | .bcIrqComplete _ _ => [⟨Fld.bcIrqComplete_SOURCE, .wo⟩]
  | .bcIrqTimecmp _ => [⟨Fld.bcIrqTimecmp_CMP, .rw⟩]
  | .bcIrqMsip => [⟨Fld.bcIrqMsip_MSIP, .w1c⟩]
  | .bcIrqMsipSet => [⟨Fld.bcIrqMsipSet_MSIP, .w1s⟩]
  | .tcId _ _ => [⟨Fld.tcId_DIE, .ro⟩, ⟨Fld.tcId_PHYS, .ro⟩, ⟨Fld.tcId_LOGICAL, .ro⟩]
  | .tcCtrl _ _ => [⟨Fld.tcCtrl_RUN, .rw⟩, ⟨Fld.tcCtrl_STOP, .w1s⟩, ⟨Fld.tcCtrl_EVAL, .rwl⟩, ⟨Fld.tcCtrl_LOCK, .ro⟩]
  | .tcStatus _ _ => [⟨Fld.tcStatus_BUSY, .ro⟩, ⟨Fld.tcStatus_DONE, .w1c⟩, ⟨Fld.tcStatus_ERROR, .ro⟩, ⟨Fld.tcStatus_LENT, .ro⟩]
  | .tcPc _ _ => [⟨Fld.tcPc_INDEX, .rw⟩]
  | .tcProgLimit _ _ => [⟨Fld.tcProgLimit_INDEX, .rw⟩]
  | .tcErr _ _ => [⟨Fld.tcErr_VALID, .w1c⟩, ⟨Fld.tcErr_MORE, .ro⟩, ⟨Fld.tcErr_CODE, .ro⟩, ⟨Fld.tcErr_PC, .ro⟩, ⟨Fld.tcErr_SLOT, .ro⟩]
  | .tcFlags _ _ => [⟨Fld.tcFlags_NF, .ro⟩, ⟨Fld.tcFlags_SAT, .ro⟩, ⟨Fld.tcFlags_NF_CAUSE, .ro⟩, ⟨Fld.tcFlags_NF_PC, .ro⟩]
  | .tcWaitLimit _ _ => [⟨Fld.tcWaitLimit_LIMIT, .rwl⟩]
  | .tcIdle _ _ _ => [⟨Fld.tcIdle_CYCLES, .ro⟩]
  | .tcOps _ _ => [⟨Fld.tcOps_ISSUED, .ro⟩]
  | .tcProg _ _ _ => [⟨Fld.tcProg_OP, .rw⟩]
  | .tcSlot _ _ _ _ => [⟨Fld.tcSlot_WORD, .rw⟩]
  | .tcRemap _ => [⟨Fld.tcRemap_REFUSED, .w1c⟩, ⟨Fld.tcRemap_MAP, .rw⟩]
  | .trvId _ _ => [⟨Fld.trvId_DIE, .ro⟩, ⟨Fld.trvId_ENGINE, .ro⟩]
  | .trvCtrl _ _ => [⟨Fld.trvCtrl_RUN, .rw⟩, ⟨Fld.trvCtrl_STOP, .w1s⟩, ⟨Fld.trvCtrl_LOCK, .ro⟩]
  | .trvStatus _ _ => [⟨Fld.trvStatus_BUSY, .ro⟩, ⟨Fld.trvStatus_DONE, .w1c⟩, ⟨Fld.trvStatus_ERROR, .ro⟩, ⟨Fld.trvStatus_WAITING, .ro⟩, ⟨Fld.trvStatus_OVERLAP, .ro⟩]
  | .trvPc _ _ => [⟨Fld.trvPc_INDEX, .rw⟩]
  | .trvLimit _ _ => [⟨Fld.trvLimit_INDEX, .rw⟩]
  | .trvErr _ _ => [⟨Fld.trvErr_VALID, .w1c⟩, ⟨Fld.trvErr_MORE, .ro⟩, ⟨Fld.trvErr_CODE, .ro⟩, ⟨Fld.trvErr_PC, .ro⟩, ⟨Fld.trvErr_LEVEL, .ro⟩]
  | .trvWaitLimit _ _ => [⟨Fld.trvWaitLimit_LIMIT, .rwl⟩]
  | .trvBytes _ _ => [⟨Fld.trvBytes_BYTES, .ro⟩]
  | .trvMset _ _ _ => [⟨Fld.trvMset_SET, .rwl⟩]
  | .trvMofs _ _ _ => [⟨Fld.trvMofs_OFFSET, .rwl⟩]
  | .trvRing _ _ _ _ => [⟨Fld.trvRing_WORD, .rw⟩]
  | .trvFbuf _ _ => [⟨Fld.trvFbuf_REGRESS, .w1c⟩, ⟨Fld.trvFbuf_CAUSE, .rwl⟩, ⟨Fld.trvFbuf_COUNT, .rw⟩]
  | .trvFbCtrl _ => [⟨Fld.trvFbCtrl_LOCK, .ro⟩]
  | .optCtrl _ => [⟨Fld.optCtrl_RUN, .rw⟩, ⟨Fld.optCtrl_LOCK, .ro⟩, ⟨Fld.optCtrl_LEADER, .ro⟩, ⟨Fld.optCtrl_MARK, .w1s⟩, ⟨Fld.optCtrl_STEP_END, .w1s⟩]
  | .optStatus _ => [⟨Fld.optStatus_BUSY, .ro⟩, ⟨Fld.optStatus_PHASE, .ro⟩, ⟨Fld.optStatus_FAILED, .ro⟩, ⟨Fld.optStatus_DONE, .w1c⟩, ⟨Fld.optStatus_RETRACTED, .ro⟩, ⟨Fld.optStatus_ENTRY, .ro⟩, ⟨Fld.optStatus_NORM, .ro⟩]
  | .optLtab _ => [⟨Fld.optLtab_COUNT, .rwl⟩, ⟨Fld.optLtab_BASE, .rwl⟩]
  | .optRlog _ => [⟨Fld.optRlog_SIZE, .rwl⟩, ⟨Fld.optRlog_BASE, .rwl⟩]
  | .optLscale _ => [⟨Fld.optLscale_EXP, .rwl⟩, ⟨Fld.optLscale_EXP_MIN, .rwl⟩, ⟨Fld.optLscale_EXP_MAX, .rwl⟩, ⟨Fld.optLscale_RETRACT_LIMIT, .rwl⟩, ⟨Fld.optLscale_RUN, .ro⟩, ⟨Fld.optLscale_CLEAN, .ro⟩]
  | .optStep _ => [⟨Fld.optStep_STEP, .rwl⟩]
  | .optAttempt _ => [⟨Fld.optAttempt_SKIP, .rwl⟩, ⟨Fld.optAttempt_ATTEMPT, .ro⟩]
  | .optCursor _ => [⟨Fld.optCursor_CURSOR, .rwl⟩]
  | .optBatch _ => [⟨Fld.optBatch_BATCH, .rwl⟩]
  | .optErr _ => [⟨Fld.optErr_VALID, .w1c⟩, ⟨Fld.optErr_MORE, .ro⟩, ⟨Fld.optErr_CODE, .ro⟩, ⟨Fld.optErr_ENTRY, .ro⟩]
  | .optWaitLimit _ => [⟨Fld.optWaitLimit_LIMIT, .rwl⟩]
  | .optLsAddr _ => [⟨Fld.optLsAddr_ADDR, .rwl⟩]
  | .optCommitBase _ => [⟨Fld.optCommitBase_ADDR, .rwl⟩]
  | .optSrSeed _ => [⟨Fld.optSrSeed_SEED, .rwl⟩]
  | .optWork _ _ => [⟨Fld.optWork_SIZE, .rwl⟩, ⟨Fld.optWork_OFFSET, .rwl⟩]
  | .optNsc _ _ => [⟨Fld.optNsc_ABC, .rwl⟩]
  | .optConst _ _ => [⟨Fld.optConst_VALUE, .rwl⟩]
  | .optEprog _ _ => [⟨Fld.optEprog_ODD, .rwl⟩, ⟨Fld.optEprog_EVEN, .rwl⟩]
  | .ldgCtrl _ => [⟨Fld.ldgCtrl_POOLED, .rwl⟩, ⟨Fld.ldgCtrl_LOCK, .ro⟩]
  | .ldgViol _ => [⟨Fld.ldgViol_VALID, .w1c⟩, ⟨Fld.ldgViol_COUNT, .ro⟩, ⟨Fld.ldgViol_REQ, .ro⟩, ⟨Fld.ldgViol_OWNER, .ro⟩, ⟨Fld.ldgViol_OFFSET, .ro⟩]
  | .ldgEcc _ => [⟨Fld.ldgEcc_UNCORR, .ro⟩, ⟨Fld.ldgEcc_CORR, .ro⟩]
  | .ldgMarch _ => [⟨Fld.ldgMarch_GO, .wo⟩, ⟨Fld.ldgMarch_TRANSP, .wo⟩, ⟨Fld.ldgMarch_BANKS, .wo⟩]
  | .ldgMarchStatus _ => [⟨Fld.ldgMarchStatus_BUSY, .ro⟩, ⟨Fld.ldgMarchStatus_RESULT, .ro⟩, ⟨Fld.ldgMarchStatus_FAIL_SUB, .ro⟩, ⟨Fld.ldgMarchStatus_FAIL_ROWS, .ro⟩]
  | .ldgRepair _ => [⟨Fld.ldgRepair_GO, .wo⟩, ⟨Fld.ldgRepair_OP, .wo⟩, ⟨Fld.ldgRepair_SUB, .wo⟩, ⟨Fld.ldgRepair_ROW, .wo⟩]
  | .ldgRepairStatus _ => [⟨Fld.ldgRepairStatus_BUSY, .ro⟩, ⟨Fld.ldgRepairStatus_RESULT, .ro⟩, ⟨Fld.ldgRepairStatus_SPARES_LEFT, .ro⟩]
  | .ldgGive _ _ => [⟨Fld.ldgGive_GO, .wo⟩, ⟨Fld.ldgGive_SUB, .wo⟩, ⟨Fld.ldgGive_OWNER, .wo⟩, ⟨Fld.ldgGive_BANKS, .wo⟩]
  | .ldgOwn _ _ => [⟨Fld.ldgOwn_SUB3, .ro⟩, ⟨Fld.ldgOwn_SUB2, .ro⟩, ⟨Fld.ldgOwn_SUB1, .ro⟩, ⟨Fld.ldgOwn_SUB0, .ro⟩]
  | .ldgSpare _ _ _ => [⟨Fld.ldgSpare_USED, .ro⟩, ⟨Fld.ldgSpare_FUSED, .ro⟩, ⟨Fld.ldgSpare_FAILED, .ro⟩, ⟨Fld.ldgSpare_ROW, .ro⟩]
  | .colCtrl _ => [⟨Fld.colCtrl_RUN, .rw⟩, ⟨Fld.colCtrl_STOP, .w1s⟩, ⟨Fld.colCtrl_LOCK, .ro⟩, ⟨Fld.colCtrl_JOIN, .w1s⟩]
  | .colStatus _ => [⟨Fld.colStatus_BUSY, .ro⟩, ⟨Fld.colStatus_DONE, .w1c⟩, ⟨Fld.colStatus_ERROR, .ro⟩, ⟨Fld.colStatus_SWITCHING, .ro⟩, ⟨Fld.colStatus_INFLIGHT, .ro⟩, ⟨Fld.colStatus_JOIN_RESULT, .ro⟩, ⟨Fld.colStatus_JOIN_DIFF, .ro⟩, ⟨Fld.colStatus_DESC, .ro⟩]
  | .colTeam _ => [⟨Fld.colTeam_TEAM, .rwl⟩, ⟨Fld.colTeam_SLOT, .rwl⟩, ⟨Fld.colTeam_MAP, .rw⟩]
  | .colPhase _ => [⟨Fld.colPhase_NEXT, .ro⟩, ⟨Fld.colPhase_PENDING, .ro⟩, ⟨Fld.colPhase_CURRENT, .rwl⟩]
  | .colErr _ => [⟨Fld.colErr_VALID, .w1c⟩, ⟨Fld.colErr_MORE, .ro⟩, ⟨Fld.colErr_CODE, .ro⟩, ⟨Fld.colErr_DESC, .ro⟩, ⟨Fld.colErr_GROUP, .ro⟩]
  | .colWaitLimit _ => [⟨Fld.colWaitLimit_LIMIT, .rwl⟩]
  | .colIdle _ => [⟨Fld.colIdle_COUNT, .ro⟩]
  | .colBytes _ => [⟨Fld.colBytes_COUNT, .ro⟩]
  | .colRx _ => [⟨Fld.colRx_SIZE, .rwl⟩, ⟨Fld.colRx_OFFSET, .rwl⟩]
  | .colMap _ _ => [⟨Fld.colMap_VALID, .rwl⟩, ⟨Fld.colMap_BASE, .rwl⟩]
  | .ropeCtrl _ _ => [⟨Fld.ropeCtrl_EN, .rw⟩, ⟨Fld.ropeCtrl_RETRAIN, .w1s⟩, ⟨Fld.ropeCtrl_LOCK, .ro⟩, ⟨Fld.ropeCtrl_IPV6, .rwl⟩, ⟨Fld.ropeCtrl_VLAN, .rwl⟩, ⟨Fld.ropeCtrl_MTU, .rwl⟩, ⟨Fld.ropeCtrl_LANEDROP, .rwl⟩, ⟨Fld.ropeCtrl_VID, .rwl⟩]
  | .ropeStatus _ _ => [⟨Fld.ropeStatus_STATE, .ro⟩, ⟨Fld.ropeStatus_LANE_OK, .ro⟩, ⟨Fld.ropeStatus_PEER_SLOT, .ro⟩, ⟨Fld.ropeStatus_PEER_NODE, .ro⟩]
  | .ropeAddr _ _ => [⟨Fld.ropeAddr_ETHERTYPE, .rwl⟩, ⟨Fld.ropeAddr_UDP_PORT, .rwl⟩, ⟨Fld.ropeAddr_MAC_PREFIX, .rwl⟩]
  | .ropeIpPrefix _ _ => [⟨Fld.ropeIpPrefix_PREFIX, .rwl⟩]
  | .ropeNexthop _ _ => [⟨Fld.ropeNexthop_HOP_LIMIT, .rwl⟩, ⟨Fld.ropeNexthop_MAC, .rwl⟩]
  | .ropeVc _ _ => [⟨Fld.ropeVc_MAP0, .rwl⟩, ⟨Fld.ropeVc_MAP1, .rwl⟩, ⟨Fld.ropeVc_MAP2, .rwl⟩, ⟨Fld.ropeVc_MAP3, .rwl⟩]
  | .ropeCredit _ _ _ => [⟨Fld.ropeCredit_SENT, .ro⟩, ⟨Fld.ropeCredit_AVAIL, .ro⟩]
  | .ropeSeq _ _ => [⟨Fld.ropeSeq_TX_SEQ, .ro⟩, ⟨Fld.ropeSeq_RX_EXPECT, .ro⟩]
  | .ropeErrs _ _ => [⟨Fld.ropeErrs_FCS_ERR, .ro⟩, ⟨Fld.ropeErrs_REPLAY, .ro⟩]
  | .ropeDisc _ _ => [⟨Fld.ropeDisc_ECRC_ERR, .ro⟩, ⟨Fld.ropeDisc_OTHER, .ro⟩]
  | .ropeLane _ _ _ => [⟨Fld.ropeLane_FAILED, .ro⟩, ⟨Fld.ropeLane_FOM, .ro⟩, ⟨Fld.ropeLane_FEC_CORR, .ro⟩]
  | .ropeTimeout _ => [⟨Fld.ropeTimeout_EPOCH, .rw⟩, ⟨Fld.ropeTimeout_PATH_LIMIT, .rwl⟩, ⟨Fld.ropeTimeout_REQ_TIMEOUT, .rwl⟩]
  | .ropeRetx _ => [⟨Fld.ropeRetx_RETX, .ro⟩, ⟨Fld.ropeRetx_DUP_DISCARD, .ro⟩]
  | .ropeDedup _ => [⟨Fld.ropeDedup_IN_USE, .ro⟩, ⟨Fld.ropeDedup_LATE_RESP, .ro⟩, ⟨Fld.ropeDedup_FULL_NACK, .ro⟩]
  | .ropeTimeOfs _ => [⟨Fld.ropeTimeOfs_STALE, .ro⟩, ⟨Fld.ropeTimeOfs_OFFSET, .ro⟩]
  | .ropeCommonLock _ => [⟨Fld.ropeCommonLock_LOCK, .ro⟩]

/-- Reset value of HK_BELAY_ROLE: the default role table of R352. -/
def belayDefaultRole (e k : Nat) : Word :=
  if e < 4 then (if k % 4 < 3 then 0x3333333333333333 else 0x1111111111111111)
  else if k % 4 < 3 then 0x1111111111111111 else 0x2244441111111111

/-- The value of a register after the reset of its domain (R13). -/
def Reg.reset : Reg → Word
  | .hkShape => 0x0
  | .hkRopeExpect => 0xFF
  | .hkBoot => 0x100000FFFF000000
  | .hkBootCtrl => 0x0
  | .hkRepairMap _ => 0xF9876543210
  | .hkBootTime _ => 0x0
  | .hkFw _ => 0x0
  | .hkBelayRole e k => belayDefaultRole e.val k.val
  | .hkBelayStatus _ => 0x0
  | .hkJournal => 0x0
  | .hkT1s => 0x80000000000008FF
  | .hkHeadlamp => 0x0
  | .hkJrnl _ _ => 0x0
  | .pwrCtrl => 0x0
  | .pwrStatus => 0x0
  | .pwrDomain _ => 0xFC32
  | .pwrGain _ => 0x8000
  | .pwrTherm _ => 0x0
  | .pwrTlimit => 0x5F006E005500640
  | .fltStatus => 0x400000000000000
  | .fltCtrl => 0x8000001400000000
  | .fltAck => 0x0
  | .fltClear => 0x0
  | .fltHead => 0x0
  | .fltGrace => 0x0
  | .fltDeadline => 0x0
  | .fltTotals => 0x0
  | .fltPin => 0x0
  | .fltInject => 0x0
  | .fltHb => 0x0
  | .fltRestart => 0x0
  | .fltMirror => 0x10000000000000
  | .fltMset => 0x0
  | .fltMarea => 0x0
  | .fltMgen _ => 0x0
  | .fltFence => 0x0
  | .fltRec _ _ => 0x0
  | .ntPinMap _ => 0x0
  | .ntCtrl => 0x0
  | .ntRetire => 0x0
  | .ntRetireStatus => 0x0
  | .ntContractState => 0x0
  | .ntSubstBase _ => 0x0
  | .ntKvCfg => 0x0
  | .ntKvPool _ => 0x0
  | .ntKvBook _ => 0x0
  | .ntKvResv _ => 0x0
  | .ntKvCmd => 0x0
  | .ntKvStatus => 0x0
  | .ntKvSeqBase => 0x0
  | .ntKvEvqBase => 0x0
  | .ntKvEvqPtr => 0x0
  | .morRetire => 0x0
  | .morRetireStatus => 0x0
  | .morSwapqBase _ => 0x0
  | .morSwapqPtr _ => 0x0
  | .medCtrl => 0x0
  | .medStatus => 0x0
  | .medCounts => 0x0
  | .medQbase _ => 0x0
  | .medQptr _ => 0x0
  | .medVpool _ => 0x0
  | .medEncOut _ => 0x0
  | .medEncPtr _ => 0x0
  | .medEncStat _ => 0x0
  | .tokCtrl => 0x0
  | .tokDict => 0x0
  | .tokIds => 0x0
  | .tokQbase => 0x0
  | .tokQptr => 0x0
  | .tokCounts => 0x0
  | .augCtrl => 0x0
  | .augQbase => 0x0
  | .augQptr => 0x0
  | .augKey _ _ => 0x0
  | .chkPointCfg _ => 0x0
  | .chkPointState _ => 0xFFFFFFFFFFFFFFFF
  | .chkPointResult _ => 0x0
  | .chkPointBytes _ => 0x0
  | .chkChanCfg _ => 0x0
  | .chkChanState _ => 0xFFFFFFFFFFFFFFFF
  | .chkChanResult _ => 0x0
  | .chkChanBytes _ => 0x0
  | .bcHart => 0x1
  | .bcResetVec => 0xE00000000000
  | .bcHwin _ => 0x0
  | .bcDetBase => 0x0
  | .bcDetPtr => 0x0
  | .bcJobCtrl => 0x0
  | .bcJobPlan => 0x0
  | .bcJobStatus => 0x0
  | .bcJobReport => 0x0
  | .bcEvalRing => 0x0
  | .bcEvalPtr => 0x0
  | .bcJobLock => 0x0
  | .bcMboxCtrl => 0x0
  | .bcHapt _ => 0x0
  | .bcMboxReq _ => 0x0
  | .bcMboxResp _ => 0x0
  | .bcIrqRoute _ => 0x0
  | .bcIrqThreshold _ _ => 0x0
  | .bcIrqComplete _ _ => 0x0
  | .bcIrqTimecmp _ => 0xFFFFFFFFFFFFFFFF
  | .bcIrqMsip => 0x0
  | .bcIrqMsipSet => 0x0
  | .tcId d k => BitVec.ofNat 64 (d.val * 4096 + k.val * 256 + (if k.val = 10 then 15 else k.val) * 16)
  | .tcCtrl _ _ => 0x0
  | .tcStatus _ _ => 0x0
  | .tcPc _ _ => 0x0
  | .tcProgLimit _ _ => 0x0
  | .tcErr _ _ => 0x0
  | .tcFlags _ _ => 0x0
  | .tcWaitLimit _ _ => 0x10000
  | .tcIdle _ _ _ => 0x0
  | .tcOps _ _ => 0x0
  | .tcProg _ _ _ => 0x0
  | .tcSlot _ _ _ _ => 0x0
  | .tcRemap _ => 0xF9876543210
  | .trvId d j => BitVec.ofNat 64 (d.val * 4096 + j.val)
  | .trvCtrl _ _ => 0x0
  | .trvStatus _ _ => 0x0
  | .trvPc _ _ => 0x0
  | .trvLimit _ _ => 0x0
  | .trvErr _ _ => 0x0
  | .trvWaitLimit _ _ => 0x10000
  | .trvBytes _ _ => 0x0
  | .trvMset _ _ _ => 0x0
  | .trvMofs _ _ _ => 0x0
  | .trvRing _ _ _ _ => 0x0
  | .trvFbuf _ _ => 0x0
  | .trvFbCtrl _ => 0x0
  | .optCtrl _ => 0x0
  | .optStatus _ => 0x0
  | .optLtab _ => 0x0
  | .optRlog _ => 0x0
  | .optLscale _ => 0x10E0201000000000
  | .optStep _ => 0x0
  | .optAttempt _ => 0x0
  | .optCursor _ => 0x0
  | .optBatch _ => 0x0
  | .optErr _ => 0x0
  | .optWaitLimit _ => 0x10000
  | .optLsAddr _ => 0x0
  | .optCommitBase _ => 0x0
  | .optSrSeed _ => 0x0
  | .optWork _ _ => 0x0
  | .optNsc _ _ => 0x3FC0BF000000
  | .optConst _ _ => 0x0
  | .optEprog _ _ => 0x0
  | .ldgCtrl _ => 0x0
  | .ldgViol _ => 0x0
  | .ldgEcc _ => 0x0
  | .ldgMarch _ => 0x0
  | .ldgMarchStatus _ => 0xFF0000000000
  | .ldgRepair _ => 0x0
  | .ldgRepairStatus _ => 0x0
  | .ldgGive _ _ => 0x0
  | .ldgOwn _ _ => 0x32323232
  | .ldgSpare _ _ _ => 0x0
  | .colCtrl _ => 0x0
  | .colStatus _ => 0x0
  | .colTeam _ => 0x3FFF0F76543210
  | .colPhase _ => 0x0
  | .colErr _ => 0x0
  | .colWaitLimit _ => 0x10000
  | .colIdle _ => 0x0
  | .colBytes _ => 0x0
  | .colRx _ => 0x0
  | .colMap _ _ => 0x0
  | .ropeCtrl _ _ => 0x8500000000000000
  | .ropeStatus _ _ => 0x1E0000000000000
  | .ropeAddr _ _ => 0x88B5C1B500024151
  | .ropeIpPrefix _ _ => 0x0
  | .ropeNexthop _ _ => 0x4000000000000000
  | .ropeVc _ _ => 0x1800140010000C0
  | .ropeCredit _ p _ => if p.val < 2 then 0x2CB else 0
  | .ropeSeq _ _ => 0x0
  | .ropeErrs _ _ => 0x0
  | .ropeDisc _ _ => 0x0
  | .ropeLane _ _ _ => 0x0
  | .ropeTimeout _ => 0xC3500000C8
  | .ropeRetx _ => 0x0
  | .ropeDedup _ => 0x0
  | .ropeTimeOfs _ => 0x0
  | .ropeCommonLock _ => 0x0

/-- The lock bit that governs the RWL fields of a register (R14); `none` for blocks without RWL fields. -/
def Reg.lock : Reg → Option (Reg × Fld)
  | .hkShape => none
  | .hkRopeExpect => none
  | .hkBoot => none
  | .hkBootCtrl => none
  | .hkRepairMap _ => none
  | .hkBootTime _ => none
  | .hkFw _ => none
  | .hkBelayRole _ _ => none
  | .hkBelayStatus _ => none
  | .hkJournal => none
  | .hkT1s => none
  | .hkHeadlamp => none
  | .hkJrnl _ _ => none
  | .pwrCtrl => some (.pwrCtrl, Fld.pwrCtrl_LOCK)
  | .pwrStatus => none
  | .pwrDomain _ => none
  | .pwrGain _ => none
  | .pwrTherm _ => none
  | .pwrTlimit => some (.pwrCtrl, Fld.pwrCtrl_LOCK)
  | .fltStatus => none
  | .fltCtrl => none
  | .fltAck => none
  | .fltClear => none
  | .fltHead => none
  | .fltGrace => none
  | .fltDeadline => none
  | .fltTotals => none
  | .fltPin => none
  | .fltInject => none
  | .fltHb => none
  | .fltRestart => none
  | .fltMirror => none
  | .fltMset => none
  | .fltMarea => none
  | .fltMgen _ => none
  | .fltFence => none
  | .fltRec _ _ => none
  | .ntPinMap _ => some (.ntCtrl, Fld.ntCtrl_LOCK)
  | .ntCtrl => none
  | .ntRetire => none
  | .ntRetireStatus => none
  | .ntContractState => none
  | .ntSubstBase _ => none
  | .ntKvCfg => some (.ntCtrl, Fld.ntCtrl_LOCK)
  | .ntKvPool _ => some (.ntCtrl, Fld.ntCtrl_LOCK)
  | .ntKvBook _ => none
  | .ntKvResv _ => some (.ntCtrl, Fld.ntCtrl_LOCK)
  | .ntKvCmd => none
  | .ntKvStatus => none
  | .ntKvSeqBase => some (.ntCtrl, Fld.ntCtrl_LOCK)
  | .ntKvEvqBase => none
  | .ntKvEvqPtr => none
  | .morRetire => none
  | .morRetireStatus => none
  | .morSwapqBase _ => none
  | .morSwapqPtr _ => none
  | .medCtrl => some (.medCtrl, Fld.medCtrl_LOCK)
  | .medStatus => none
  | .medCounts => none
  | .medQbase _ => some (.medCtrl, Fld.medCtrl_LOCK)
  | .medQptr _ => none
  | .medVpool _ => some (.medCtrl, Fld.medCtrl_LOCK)
  | .medEncOut _ => some (.medCtrl, Fld.medCtrl_LOCK)
  | .medEncPtr _ => none
  | .medEncStat _ => none
  | .tokCtrl => none
  | .tokDict => some (.tokCtrl, Fld.tokCtrl_LOCK)
  | .tokIds => some (.tokCtrl, Fld.tokCtrl_LOCK)
  | .tokQbase => some (.tokCtrl, Fld.tokCtrl_LOCK)
  | .tokQptr => none
  | .tokCounts => none
  | .augCtrl => some (.augCtrl, Fld.augCtrl_LOCK)
  | .augQbase => some (.augCtrl, Fld.augCtrl_LOCK)
  | .augQptr => none
  | .augKey _ _ => some (.augCtrl, Fld.augCtrl_LOCK)
  | .chkPointCfg _ => none
  | .chkPointState _ => none
  | .chkPointResult _ => none
  | .chkPointBytes _ => none
  | .chkChanCfg _ => none
  | .chkChanState _ => none
  | .chkChanResult _ => none
  | .chkChanBytes _ => none
  | .bcHart => none
  | .bcResetVec => none
  | .bcHwin _ => none
  | .bcDetBase => none
  | .bcDetPtr => none
  | .bcJobCtrl => none
  | .bcJobPlan => none
  | .bcJobStatus => none
  | .bcJobReport => none
  | .bcEvalRing => some (.bcJobLock, Fld.bcJobLock_LOCK)
  | .bcEvalPtr => none
  | .bcJobLock => none
  | .bcMboxCtrl => none
  | .bcHapt _ => none
  | .bcMboxReq _ => none
  | .bcMboxResp _ => none
  | .bcIrqRoute _ => none
  | .bcIrqThreshold _ _ => none
  | .bcIrqComplete _ _ => none
  | .bcIrqTimecmp _ => none
  | .bcIrqMsip => none
  | .bcIrqMsipSet => none
  | .tcId _ _ => none
  | .tcCtrl d k => some (.tcCtrl d k, Fld.tcCtrl_LOCK)
  | .tcStatus _ _ => none
  | .tcPc _ _ => none
  | .tcProgLimit _ _ => none
  | .tcErr _ _ => none
  | .tcFlags _ _ => none
  | .tcWaitLimit d k => some (.tcCtrl d k, Fld.tcCtrl_LOCK)
  | .tcIdle _ _ _ => none
  | .tcOps _ _ => none
  | .tcProg _ _ _ => none
  | .tcSlot _ _ _ _ => none
  | .tcRemap _ => none
  | .trvId _ _ => none
  | .trvCtrl _ _ => none
  | .trvStatus _ _ => none
  | .trvPc _ _ => none
  | .trvLimit _ _ => none
  | .trvErr _ _ => none
  | .trvWaitLimit d j => some (.trvCtrl d j, Fld.trvCtrl_LOCK)
  | .trvBytes _ _ => none
  | .trvMset d j _ => some (.trvCtrl d j, Fld.trvCtrl_LOCK)
  | .trvMofs d j _ => some (.trvCtrl d j, Fld.trvCtrl_LOCK)
  | .trvRing _ _ _ _ => none
  | .trvFbuf d _ => some (.trvFbCtrl d, Fld.trvFbCtrl_LOCK)
  | .trvFbCtrl _ => none
  | .optCtrl _ => none
  | .optStatus _ => none
  | .optLtab d => some (.optCtrl d, Fld.optCtrl_LOCK)
  | .optRlog d => some (.optCtrl d, Fld.optCtrl_LOCK)
  | .optLscale d => some (.optCtrl d, Fld.optCtrl_LOCK)
  | .optStep d => some (.optCtrl d, Fld.optCtrl_LOCK)
  | .optAttempt d => some (.optCtrl d, Fld.optCtrl_LOCK)
  | .optCursor d => some (.optCtrl d, Fld.optCtrl_LOCK)
  | .optBatch d => some (.optCtrl d, Fld.optCtrl_LOCK)
  | .optErr _ => none
  | .optWaitLimit d => some (.optCtrl d, Fld.optCtrl_LOCK)
  | .optLsAddr d => some (.optCtrl d, Fld.optCtrl_LOCK)
  | .optCommitBase d => some (.optCtrl d, Fld.optCtrl_LOCK)
  | .optSrSeed d => some (.optCtrl d, Fld.optCtrl_LOCK)
  | .optWork d _ => some (.optCtrl d, Fld.optCtrl_LOCK)
  | .optNsc d _ => some (.optCtrl d, Fld.optCtrl_LOCK)
  | .optConst d _ => some (.optCtrl d, Fld.optCtrl_LOCK)
  | .optEprog d _ => some (.optCtrl d, Fld.optCtrl_LOCK)
  | .ldgCtrl d => some (.ldgCtrl d, Fld.ldgCtrl_LOCK)
  | .ldgViol _ => none
  | .ldgEcc _ => none
  | .ldgMarch _ => none
  | .ldgMarchStatus _ => none
  | .ldgRepair _ => none
  | .ldgRepairStatus _ => none
  | .ldgGive _ _ => none
  | .ldgOwn _ _ => none
  | .ldgSpare _ _ _ => none
  | .colCtrl _ => none
  | .colStatus _ => none
  | .colTeam d => some (.colCtrl d, Fld.colCtrl_LOCK)
  | .colPhase d => some (.colCtrl d, Fld.colCtrl_LOCK)
  | .colErr _ => none
  | .colWaitLimit d => some (.colCtrl d, Fld.colCtrl_LOCK)
  | .colIdle _ => none
  | .colBytes _ => none
  | .colRx d => some (.colCtrl d, Fld.colCtrl_LOCK)
  | .colMap d _ => some (.colCtrl d, Fld.colCtrl_LOCK)
  | .ropeCtrl d p => some (.ropeCtrl d p, Fld.ropeCtrl_LOCK)
  | .ropeStatus _ _ => none
  | .ropeAddr d p => some (.ropeCtrl d p, Fld.ropeCtrl_LOCK)
  | .ropeIpPrefix d p => some (.ropeCtrl d p, Fld.ropeCtrl_LOCK)
  | .ropeNexthop d p => some (.ropeCtrl d p, Fld.ropeCtrl_LOCK)
  | .ropeVc d p => some (.ropeCtrl d p, Fld.ropeCtrl_LOCK)
  | .ropeCredit _ _ _ => none
  | .ropeSeq _ _ => none
  | .ropeErrs _ _ => none
  | .ropeDisc _ _ => none
  | .ropeLane _ _ _ => none
  | .ropeTimeout d => some (.ropeCommonLock d, Fld.ropeCommonLock_LOCK)
  | .ropeRetx _ => none
  | .ropeDedup _ => none
  | .ropeTimeOfs _ => none
  | .ropeCommonLock _ => none

/-- The reset domain of a register (R348). -/
def Reg.domain : Reg → Domain
  | .hkShape => .housekeeping
  | .hkRopeExpect => .housekeeping
  | .hkBoot => .housekeeping
  | .hkBootCtrl => .housekeeping
  | .hkRepairMap _ => .housekeeping
  | .hkBootTime _ => .housekeeping
  | .hkFw _ => .housekeeping
  | .hkBelayRole _ _ => .housekeeping
  | .hkBelayStatus _ => .housekeeping
  | .hkJournal => .housekeeping
  | .hkT1s => .housekeeping
  | .hkHeadlamp => .housekeeping
  | .hkJrnl _ _ => .housekeeping
  | .pwrCtrl => .housekeeping
  | .pwrStatus => .housekeeping
  | .pwrDomain _ => .housekeeping
  | .pwrGain _ => .housekeeping
  | .pwrTherm _ => .housekeeping
  | .pwrTlimit => .housekeeping
  | .fltStatus => .housekeeping
  | .fltCtrl => .housekeeping
  | .fltAck => .housekeeping
  | .fltClear => .housekeeping
  | .fltHead => .housekeeping
  | .fltGrace => .housekeeping
  | .fltDeadline => .housekeeping
  | .fltTotals => .housekeeping
  | .fltPin => .housekeeping
  | .fltInject => .housekeeping
  | .fltHb => .housekeeping
  | .fltRestart => .housekeeping
  | .fltMirror => .housekeeping
  | .fltMset => .housekeeping
  | .fltMarea => .housekeeping
  | .fltMgen _ => .housekeeping
  | .fltFence => .housekeeping
  | .fltRec _ _ => .housekeeping
  | .ntPinMap _ => .anchorMain
  | .ntCtrl => .anchorMain
  | .ntRetire => .anchorMain
  | .ntRetireStatus => .anchorMain
  | .ntContractState => .anchorMain
  | .ntSubstBase _ => .anchorMain
  | .ntKvCfg => .anchorMain
  | .ntKvPool _ => .anchorMain
  | .ntKvBook _ => .anchorMain
  | .ntKvResv _ => .anchorMain
  | .ntKvCmd => .anchorMain
  | .ntKvStatus => .anchorMain
  | .ntKvSeqBase => .anchorMain
  | .ntKvEvqBase => .anchorMain
  | .ntKvEvqPtr => .anchorMain
  | .morRetire => .anchorMain
  | .morRetireStatus => .anchorMain
  | .morSwapqBase _ => .anchorMain
  | .morSwapqPtr _ => .anchorMain
  | .medCtrl => .anchorMain
  | .medStatus => .anchorMain
  | .medCounts => .anchorMain
  | .medQbase _ => .anchorMain
  | .medQptr _ => .anchorMain
  | .medVpool _ => .anchorMain
  | .medEncOut _ => .anchorMain
  | .medEncPtr _ => .anchorMain
  | .medEncStat _ => .anchorMain
  | .tokCtrl => .anchorMain
  | .tokDict => .anchorMain
  | .tokIds => .anchorMain
  | .tokQbase => .anchorMain
  | .tokQptr => .anchorMain
  | .tokCounts => .anchorMain
  | .augCtrl => .anchorMain
  | .augQbase => .anchorMain
  | .augQptr => .anchorMain
  | .augKey _ _ => .anchorMain
  | .chkPointCfg _ => .anchorMain
  | .chkPointState _ => .anchorMain
  | .chkPointResult _ => .anchorMain
  | .chkPointBytes _ => .anchorMain
  | .chkChanCfg _ => .anchorMain
  | .chkChanState _ => .anchorMain
  | .chkChanResult _ => .anchorMain
  | .chkChanBytes _ => .anchorMain
  | .bcHart => .anchorMain
  | .bcResetVec => .anchorMain
  | .bcHwin _ => .anchorMain
  | .bcDetBase => .anchorMain
  | .bcDetPtr => .anchorMain
  | .bcJobCtrl => .anchorMain
  | .bcJobPlan => .anchorMain
  | .bcJobStatus => .anchorMain
  | .bcJobReport => .anchorMain
  | .bcEvalRing => .anchorMain
  | .bcEvalPtr => .anchorMain
  | .bcJobLock => .anchorMain
  | .bcMboxCtrl => .anchorMain
  | .bcHapt _ => .anchorMain
  | .bcMboxReq _ => .anchorMain
  | .bcMboxResp _ => .anchorMain
  | .bcIrqRoute _ => .anchorMain
  | .bcIrqThreshold _ _ => .anchorMain
  | .bcIrqComplete _ _ => .anchorMain
  | .bcIrqTimecmp _ => .anchorMain
  | .bcIrqMsip => .anchorMain
  | .bcIrqMsipSet => .anchorMain
  | .tcId d _ => .ridgeCompute d
  | .tcCtrl d _ => .ridgeCompute d
  | .tcStatus d _ => .ridgeCompute d
  | .tcPc d _ => .ridgeCompute d
  | .tcProgLimit d _ => .ridgeCompute d
  | .tcErr d _ => .ridgeCompute d
  | .tcFlags d _ => .ridgeCompute d
  | .tcWaitLimit d _ => .ridgeCompute d
  | .tcIdle d _ _ => .ridgeCompute d
  | .tcOps d _ => .ridgeCompute d
  | .tcProg d _ _ => .ridgeCompute d
  | .tcSlot d _ _ _ => .ridgeCompute d
  | .tcRemap d => .ridgeCompute d
  | .trvId d _ => .ridgeCompute d
  | .trvCtrl d _ => .ridgeCompute d
  | .trvStatus d _ => .ridgeCompute d
  | .trvPc d _ => .ridgeCompute d
  | .trvLimit d _ => .ridgeCompute d
  | .trvErr d _ => .ridgeCompute d
  | .trvWaitLimit d _ => .ridgeCompute d
  | .trvBytes d _ => .ridgeCompute d
  | .trvMset d _ _ => .ridgeCompute d
  | .trvMofs d _ _ => .ridgeCompute d
  | .trvRing d _ _ _ => .ridgeCompute d
  | .trvFbuf d _ => .ridgeCompute d
  | .trvFbCtrl d => .ridgeCompute d
  | .optCtrl d => .ridgeCompute d
  | .optStatus d => .ridgeCompute d
  | .optLtab d => .ridgeCompute d
  | .optRlog d => .ridgeCompute d
  | .optLscale d => .ridgeCompute d
  | .optStep d => .ridgeCompute d
  | .optAttempt d => .ridgeCompute d
  | .optCursor d => .ridgeCompute d
  | .optBatch d => .ridgeCompute d
  | .optErr d => .ridgeCompute d
  | .optWaitLimit d => .ridgeCompute d
  | .optLsAddr d => .ridgeCompute d
  | .optCommitBase d => .ridgeCompute d
  | .optSrSeed d => .ridgeCompute d
  | .optWork d _ => .ridgeCompute d
  | .optNsc d _ => .ridgeCompute d
  | .optConst d _ => .ridgeCompute d
  | .optEprog d _ => .ridgeCompute d
  | .ldgCtrl d => .ridgeFabric d
  | .ldgViol d => .ridgeFabric d
  | .ldgEcc d => .ridgeFabric d
  | .ldgMarch d => .ridgeFabric d
  | .ldgMarchStatus d => .ridgeFabric d
  | .ldgRepair d => .ridgeFabric d
  | .ldgRepairStatus d => .ridgeFabric d
  | .ldgGive d _ => .ridgeFabric d
  | .ldgOwn d _ => .ridgeFabric d
  | .ldgSpare d _ _ => .ridgeFabric d
  | .colCtrl d => .ridgeCompute d
  | .colStatus d => .ridgeCompute d
  | .colTeam d => .ridgeCompute d
  | .colPhase d => .ridgeCompute d
  | .colErr d => .ridgeCompute d
  | .colWaitLimit d => .ridgeCompute d
  | .colIdle d => .ridgeCompute d
  | .colBytes d => .ridgeCompute d
  | .colRx d => .ridgeCompute d
  | .colMap d _ => .ridgeCompute d
  | .ropeCtrl d _ => .ridgeCompute d
  | .ropeStatus d _ => .ridgeCompute d
  | .ropeAddr d _ => .ridgeCompute d
  | .ropeIpPrefix d _ => .ridgeCompute d
  | .ropeNexthop d _ => .ridgeCompute d
  | .ropeVc d _ => .ridgeCompute d
  | .ropeCredit d _ _ => .ridgeCompute d
  | .ropeSeq d _ => .ridgeCompute d
  | .ropeErrs d _ => .ridgeCompute d
  | .ropeDisc d _ => .ridgeCompute d
  | .ropeLane d _ _ => .ridgeCompute d
  | .ropeTimeout d => .ridgeCompute d
  | .ropeRetx d => .ridgeCompute d
  | .ropeDedup d => .ridgeCompute d
  | .ropeTimeOfs d => .ridgeCompute d
  | .ropeCommonLock d => .ridgeCompute d

/-- Offset of a register from 0xF000_0000_0000 (R475, R476). -/
def Reg.offset : Reg → Nat
  | .hkShape => 0x100
  | .hkRopeExpect => 0x108
  | .hkBoot => 0x110
  | .hkBootCtrl => 0x118
  | .hkRepairMap i => 0x120 + i.val * 0x8
  | .hkBootTime i => 0x140 + i.val * 0x8
  | .hkFw i => 0x200 + i.val * 0x8
  | .hkBelayRole e k => 0x400 + e.val * 0x40 + k.val * 0x8
  | .hkBelayStatus e => 0x600 + e.val * 0x8
  | .hkJournal => 0x800
  | .hkT1s => 0x808
  | .hkHeadlamp => 0x810
  | .hkJrnl i w => 0x10000 + i.val * 0x40 + w.val * 0x8
  | .pwrCtrl => 0x80000
  | .pwrStatus => 0x80008
  | .pwrDomain i => 0x80100 + i.val * 0x8
  | .pwrGain i => 0x80140 + i.val * 0x8
  | .pwrTherm i => 0x80180 + i.val * 0x8
  | .pwrTlimit => 0x80200
  | .fltStatus => 0xC0000
  | .fltCtrl => 0xC0008
  | .fltAck => 0xC0010
  | .fltClear => 0xC0018
  | .fltHead => 0xC0020
  | .fltGrace => 0xC0028
  | .fltDeadline => 0xC0030
  | .fltTotals => 0xC0038
  | .fltPin => 0xC0040
  | .fltInject => 0xC0048
  | .fltHb => 0xC0080
  | .fltRestart => 0xC0088
  | .fltMirror => 0xC0090
  | .fltMset => 0xC0098
  | .fltMarea => 0xC00A0
  | .fltMgen i => 0xC00B0 + i.val * 0x8
  | .fltFence => 0xC00C0
  | .fltRec i w => 0xD0000 + i.val * 0x40 + w.val * 0x8
  | .ntPinMap i => 0x100000 + i.val * 0x8
  | .ntCtrl => 0x100010
  | .ntRetire => 0x100040
  | .ntRetireStatus => 0x100048
  | .ntContractState => 0x100080
  | .ntSubstBase i => 0x100100 + i.val * 0x8
  | .ntKvCfg => 0x100400
  | .ntKvPool i => 0x100410 + i.val * 0x8
  | .ntKvBook i => 0x100430 + i.val * 0x8
  | .ntKvResv i => 0x100450 + i.val * 0x8
  | .ntKvCmd => 0x100470
  | .ntKvStatus => 0x100478
  | .ntKvSeqBase => 0x100480
  | .ntKvEvqBase => 0x100488
  | .ntKvEvqPtr => 0x100490
  | .morRetire => 0x140040
  | .morRetireStatus => 0x140048
  | .morSwapqBase i => 0x140300 + i.val * 0x10
  | .morSwapqPtr i => 0x140308 + i.val * 0x10
  | .medCtrl => 0x200000
  | .medStatus => 0x200008
  | .medCounts => 0x200010
  | .medQbase i => 0x200100 + i.val * 0x8
  | .medQptr i => 0x200140 + i.val * 0x8
  | .medVpool i => 0x200200 + i.val * 0x8
  | .medEncOut i => 0x200300 + i.val * 0x8
  | .medEncPtr i => 0x200340 + i.val * 0x8
  | .medEncStat i => 0x200380 + i.val * 0x8
  | .tokCtrl => 0x240000
  | .tokDict => 0x240008
  | .tokIds => 0x240010
  | .tokQbase => 0x240018
  | .tokQptr => 0x240020
  | .tokCounts => 0x240028
  | .augCtrl => 0x280000
  | .augQbase => 0x280008
  | .augQptr => 0x280010
  | .augKey i h => 0x280100 + i.val * 0x10 + h.val * 0x8
  | .chkPointCfg i => 0x2C0100 + i.val * 0x20
  | .chkPointState i => 0x2C0108 + i.val * 0x20
  | .chkPointResult i => 0x2C0110 + i.val * 0x20
  | .chkPointBytes i => 0x2C0118 + i.val * 0x20
  | .chkChanCfg i => 0x2C0400 + i.val * 0x20
  | .chkChanState i => 0x2C0408 + i.val * 0x20
  | .chkChanResult i => 0x2C0410 + i.val * 0x20
  | .chkChanBytes i => 0x2C0418 + i.val * 0x20
  | .bcHart => 0x300000
  | .bcResetVec => 0x300008
  | .bcHwin i => 0x300200 + i.val * 0x8
  | .bcDetBase => 0x300400
  | .bcDetPtr => 0x300408
  | .bcJobCtrl => 0x300500
  | .bcJobPlan => 0x300508
  | .bcJobStatus => 0x300510
  | .bcJobReport => 0x300518
  | .bcEvalRing => 0x300520
  | .bcEvalPtr => 0x300528
  | .bcJobLock => 0x300530
  | .bcMboxCtrl => 0x300600
  | .bcHapt i => 0x300700 + i.val * 0x8
  | .bcMboxReq i => 0x302000 + i.val * 0x8
  | .bcMboxResp i => 0x303000 + i.val * 0x8
  | .bcIrqRoute i => 0x310000 + i.val * 0x8
  | .bcIrqThreshold h m => 0x310400 + h.val * 0x20 + m.val * 0x10
  | .bcIrqComplete h m => 0x310408 + h.val * 0x20 + m.val * 0x10
  | .bcIrqTimecmp h => 0x310800 + h.val * 0x8
  | .bcIrqMsip => 0x310900
  | .bcIrqMsipSet => 0x310908
  | .tcId d k => 0x10000000 + d.val * 0x4000000 + k.val * 0x100000
  | .tcCtrl d k => 0x10000008 + d.val * 0x4000000 + k.val * 0x100000
  | .tcStatus d k => 0x10000010 + d.val * 0x4000000 + k.val * 0x100000
  | .tcPc d k => 0x10000018 + d.val * 0x4000000 + k.val * 0x100000
  | .tcProgLimit d k => 0x10000020 + d.val * 0x4000000 + k.val * 0x100000
  | .tcErr d k => 0x10000028 + d.val * 0x4000000 + k.val * 0x100000
  | .tcFlags d k => 0x10000030 + d.val * 0x4000000 + k.val * 0x100000
  | .tcWaitLimit d k => 0x10000038 + d.val * 0x4000000 + k.val * 0x100000
  | .tcIdle d k i => 0x10000040 + d.val * 0x4000000 + k.val * 0x100000 + i.val * 0x8
  | .tcOps d k => 0x10000080 + d.val * 0x4000000 + k.val * 0x100000
  | .tcProg d k i => 0x10040000 + d.val * 0x4000000 + k.val * 0x100000 + i.val * 0x8
  | .tcSlot d k i w => 0x10080000 + d.val * 0x4000000 + k.val * 0x100000 + i.val * 0x20 + w.val * 0x8
  | .tcRemap d => 0x10F00000 + d.val * 0x4000000
  | .trvId d j => 0x11000000 + d.val * 0x4000000 + j.val * 0x10000
  | .trvCtrl d j => 0x11000008 + d.val * 0x4000000 + j.val * 0x10000
  | .trvStatus d j => 0x11000010 + d.val * 0x4000000 + j.val * 0x10000
  | .trvPc d j => 0x11000018 + d.val * 0x4000000 + j.val * 0x10000
  | .trvLimit d j => 0x11000020 + d.val * 0x4000000 + j.val * 0x10000
  | .trvErr d j => 0x11000028 + d.val * 0x4000000 + j.val * 0x10000
  | .trvWaitLimit d j => 0x11000030 + d.val * 0x4000000 + j.val * 0x10000
  | .trvBytes d j => 0x11000038 + d.val * 0x4000000 + j.val * 0x10000
  | .trvMset d j i => 0x11000100 + d.val * 0x4000000 + j.val * 0x10000 + i.val * 0x8
  | .trvMofs d j i => 0x11000200 + d.val * 0x4000000 + j.val * 0x10000 + i.val * 0x8
  | .trvRing d j i w => 0x11008000 + d.val * 0x4000000 + j.val * 0x10000 + i.val * 0x80 + w.val * 0x8
  | .trvFbuf d i => 0x11700000 + d.val * 0x4000000 + i.val * 0x8
  | .trvFbCtrl d => 0x11701000 + d.val * 0x4000000
  | .optCtrl d => 0x11800000 + d.val * 0x4000000
  | .optStatus d => 0x11800008 + d.val * 0x4000000
  | .optLtab d => 0x11800010 + d.val * 0x4000000
  | .optRlog d => 0x11800018 + d.val * 0x4000000
  | .optLscale d => 0x11800020 + d.val * 0x4000000
  | .optStep d => 0x11800028 + d.val * 0x4000000
  | .optAttempt d => 0x11800030 + d.val * 0x4000000
  | .optCursor d => 0x11800038 + d.val * 0x4000000
  | .optBatch d => 0x11800040 + d.val * 0x4000000
  | .optErr d => 0x11800048 + d.val * 0x4000000
  | .optWaitLimit d => 0x11800050 + d.val * 0x4000000
  | .optLsAddr d => 0x11800058 + d.val * 0x4000000
  | .optCommitBase d => 0x11800060 + d.val * 0x4000000
  | .optSrSeed d => 0x11800080 + d.val * 0x4000000
  | .optWork d i => 0x11800100 + d.val * 0x4000000 + i.val * 0x8
  | .optNsc d i => 0x11800200 + d.val * 0x4000000 + i.val * 0x8
  | .optConst d i => 0x11800800 + d.val * 0x4000000 + i.val * 0x8
  | .optEprog d i => 0x11801000 + d.val * 0x4000000 + i.val * 0x8
  | .ldgCtrl d => 0x12000000 + d.val * 0x4000000
  | .ldgViol d => 0x12000008 + d.val * 0x4000000
  | .ldgEcc d => 0x12000010 + d.val * 0x4000000
  | .ldgMarch d => 0x12000018 + d.val * 0x4000000
  | .ldgMarchStatus d => 0x12000020 + d.val * 0x4000000
  | .ldgRepair d => 0x12000028 + d.val * 0x4000000
  | .ldgRepairStatus d => 0x12000030 + d.val * 0x4000000
  | .ldgGive d i => 0x12000040 + d.val * 0x4000000 + i.val * 0x8
  | .ldgOwn d b => 0x12000100 + d.val * 0x4000000 + b.val * 0x8
  | .ldgSpare d g r => 0x12001000 + d.val * 0x4000000 + g.val * 0x40 + r.val * 0x8
  | .colCtrl d => 0x12800000 + d.val * 0x4000000
  | .colStatus d => 0x12800008 + d.val * 0x4000000
  | .colTeam d => 0x12800010 + d.val * 0x4000000
  | .colPhase d => 0x12800018 + d.val * 0x4000000
  | .colErr d => 0x12800020 + d.val * 0x4000000
  | .colWaitLimit d => 0x12800028 + d.val * 0x4000000
  | .colIdle d => 0x12800030 + d.val * 0x4000000
  | .colBytes d => 0x12800038 + d.val * 0x4000000
  | .colRx d => 0x12800040 + d.val * 0x4000000
  | .colMap d i => 0x12800100 + d.val * 0x4000000 + i.val * 0x8
  | .ropeCtrl d p => 0x13000000 + d.val * 0x4000000 + p.val * 0x20000
  | .ropeStatus d p => 0x13000008 + d.val * 0x4000000 + p.val * 0x20000
  | .ropeAddr d p => 0x13000010 + d.val * 0x4000000 + p.val * 0x20000
  | .ropeIpPrefix d p => 0x13000018 + d.val * 0x4000000 + p.val * 0x20000
  | .ropeNexthop d p => 0x13000020 + d.val * 0x4000000 + p.val * 0x20000
  | .ropeVc d p => 0x13000028 + d.val * 0x4000000 + p.val * 0x20000
  | .ropeCredit d p v => 0x13000040 + d.val * 0x4000000 + p.val * 0x20000 + v.val * 0x8
  | .ropeSeq d p => 0x13000060 + d.val * 0x4000000 + p.val * 0x20000
  | .ropeErrs d p => 0x13000068 + d.val * 0x4000000 + p.val * 0x20000
  | .ropeDisc d p => 0x13000070 + d.val * 0x4000000 + p.val * 0x20000
  | .ropeLane d p l => 0x13000100 + d.val * 0x4000000 + p.val * 0x20000 + l.val * 0x8
  | .ropeTimeout d => 0x13100000 + d.val * 0x4000000
  | .ropeRetx d => 0x13100008 + d.val * 0x4000000
  | .ropeDedup d => 0x13100010 + d.val * 0x4000000
  | .ropeTimeOfs d => 0x13100018 + d.val * 0x4000000
  | .ropeCommonLock d => 0x13100020 + d.val * 0x4000000

/-- Device address at which the register area begins (R473). -/
def regBase : Nat := 0xF00000000000

/-- Device address of a register. -/
def Reg.addr (r : Reg) : Nat := regBase + r.offset

/-- Index of an offset in an array of `n` elements `stride` apart that begins at `base`, with the rest of the offset. -/
def regIdx (base stride n o : Nat) : Option (Fin n × Nat) :=
  if h : base ≤ o ∧ (o - base) / stride < n then some (⟨(o - base) / stride, h.2⟩, (o - base) % stride) else none

/-- The whole word of a one-dimensional array. -/
def regArr (base stride n o : Nat) (mk : Fin n → Reg) : Option Reg :=
  match regIdx base stride n o with
  | some (i, 0) => some (mk i)
  | _ => none

/-- A word of a two-dimensional array. -/
def regArr2 (base s1 n1 s2 n2 o : Nat) (mk : Fin n1 → Fin n2 → Reg) : Option Reg :=
  match regIdx base s1 n1 o with
  | some (i, rest) => regArr 0 s2 n2 rest (mk i)
  | none => none

/-- Register at offset `o` of the hk block. -/
def regAt_hk (o : Nat) : Option Reg :=
  if o = 0x100 then some (.hkShape) else
  if o = 0x108 then some (.hkRopeExpect) else
  if o = 0x110 then some (.hkBoot) else
  if o = 0x118 then some (.hkBootCtrl) else
  if o = 0x800 then some (.hkJournal) else
  if o = 0x808 then some (.hkT1s) else
  if o = 0x810 then some (.hkHeadlamp) else
  (regArr 0x120 0x8 4 o .hkRepairMap) <|>
  (regArr 0x140 0x8 11 o .hkBootTime) <|>
  (regArr 0x200 0x8 8 o .hkFw) <|>
  (regArr2 0x400 0x40 8 0x8 8 o .hkBelayRole) <|>
  (regArr 0x600 0x8 8 o .hkBelayStatus) <|>
  (regArr2 0x10000 0x40 4096 0x8 8 o .hkJrnl)

/-- Register at offset `o` of the pwr block. -/
def regAt_pwr (o : Nat) : Option Reg :=
  if o = 0x0 then some (.pwrCtrl) else
  if o = 0x8 then some (.pwrStatus) else
  if o = 0x200 then some (.pwrTlimit) else
  (regArr 0x100 0x8 5 o .pwrDomain) <|>
  (regArr 0x140 0x8 5 o .pwrGain) <|>
  (regArr 0x180 0x8 9 o .pwrTherm)

/-- Register at offset `o` of the flt block. -/
def regAt_flt (o : Nat) : Option Reg :=
  if o = 0x0 then some (.fltStatus) else
  if o = 0x8 then some (.fltCtrl) else
  if o = 0x10 then some (.fltAck) else
  if o = 0x18 then some (.fltClear) else
  if o = 0x20 then some (.fltHead) else
  if o = 0x28 then some (.fltGrace) else
  if o = 0x30 then some (.fltDeadline) else
  if o = 0x38 then some (.fltTotals) else
  if o = 0x40 then some (.fltPin) else
  if o = 0x48 then some (.fltInject) else
  if o = 0x80 then some (.fltHb) else
  if o = 0x88 then some (.fltRestart) else
  if o = 0x90 then some (.fltMirror) else
  if o = 0x98 then some (.fltMset) else
  if o = 0xA0 then some (.fltMarea) else
  if o = 0xC0 then some (.fltFence) else
  (regArr 0xB0 0x8 2 o .fltMgen) <|>
  (regArr2 0x10000 0x40 1024 0x8 8 o .fltRec)

/-- Register at offset `o` of the nt block. -/
def regAt_nt (o : Nat) : Option Reg :=
  if o = 0x10 then some (.ntCtrl) else
  if o = 0x40 then some (.ntRetire) else
  if o = 0x48 then some (.ntRetireStatus) else
  if o = 0x80 then some (.ntContractState) else
  if o = 0x400 then some (.ntKvCfg) else
  if o = 0x470 then some (.ntKvCmd) else
  if o = 0x478 then some (.ntKvStatus) else
  if o = 0x480 then some (.ntKvSeqBase) else
  if o = 0x488 then some (.ntKvEvqBase) else
  if o = 0x490 then some (.ntKvEvqPtr) else
  (regArr 0x0 0x8 2 o .ntPinMap) <|>
  (regArr 0x100 0x8 8 o .ntSubstBase) <|>
  (regArr 0x410 0x8 3 o .ntKvPool) <|>
  (regArr 0x430 0x8 3 o .ntKvBook) <|>
  (regArr 0x450 0x8 3 o .ntKvResv)

/-- Register at offset `o` of the mor block. -/
def regAt_mor (o : Nat) : Option Reg :=
  if o = 0x40 then some (.morRetire) else
  if o = 0x48 then some (.morRetireStatus) else
  (regArr 0x300 0x10 8 o .morSwapqBase) <|>
  (regArr 0x308 0x10 8 o .morSwapqPtr)

/-- Register at offset `o` of the med block. -/
def regAt_med (o : Nat) : Option Reg :=
  if o = 0x0 then some (.medCtrl) else
  if o = 0x8 then some (.medStatus) else
  if o = 0x10 then some (.medCounts) else
  (regArr 0x100 0x8 8 o .medQbase) <|>
  (regArr 0x140 0x8 8 o .medQptr) <|>
  (regArr 0x200 0x8 2 o .medVpool) <|>
  (regArr 0x300 0x8 5 o .medEncOut) <|>
  (regArr 0x340 0x8 5 o .medEncPtr) <|>
  (regArr 0x380 0x8 5 o .medEncStat)

/-- Register at offset `o` of the tok block. -/
def regAt_tok (o : Nat) : Option Reg :=
  if o = 0x0 then some (.tokCtrl) else
  if o = 0x8 then some (.tokDict) else
  if o = 0x10 then some (.tokIds) else
  if o = 0x18 then some (.tokQbase) else
  if o = 0x20 then some (.tokQptr) else
  if o = 0x28 then some (.tokCounts) else
  none

/-- Register at offset `o` of the aug block. -/
def regAt_aug (o : Nat) : Option Reg :=
  if o = 0x0 then some (.augCtrl) else
  if o = 0x8 then some (.augQbase) else
  if o = 0x10 then some (.augQptr) else
  (regArr2 0x100 0x10 16 0x8 2 o .augKey)

/-- Register at offset `o` of the chk block. -/
def regAt_chk (o : Nat) : Option Reg :=
  (regArr 0x100 0x20 5 o .chkPointCfg) <|>
  (regArr 0x108 0x20 5 o .chkPointState) <|>
  (regArr 0x110 0x20 5 o .chkPointResult) <|>
  (regArr 0x118 0x20 5 o .chkPointBytes) <|>
  (regArr 0x400 0x20 16 o .chkChanCfg) <|>
  (regArr 0x408 0x20 16 o .chkChanState) <|>
  (regArr 0x410 0x20 16 o .chkChanResult) <|>
  (regArr 0x418 0x20 16 o .chkChanBytes)

/-- Register at offset `o` of the bc block. -/
def regAt_bc (o : Nat) : Option Reg :=
  if o = 0x0 then some (.bcHart) else
  if o = 0x8 then some (.bcResetVec) else
  if o = 0x400 then some (.bcDetBase) else
  if o = 0x408 then some (.bcDetPtr) else
  if o = 0x500 then some (.bcJobCtrl) else
  if o = 0x508 then some (.bcJobPlan) else
  if o = 0x510 then some (.bcJobStatus) else
  if o = 0x518 then some (.bcJobReport) else
  if o = 0x520 then some (.bcEvalRing) else
  if o = 0x528 then some (.bcEvalPtr) else
  if o = 0x530 then some (.bcJobLock) else
  if o = 0x600 then some (.bcMboxCtrl) else
  if o = 0x10900 then some (.bcIrqMsip) else
  if o = 0x10908 then some (.bcIrqMsipSet) else
  (regArr 0x200 0x8 16 o .bcHwin) <|>
  (regArr 0x700 0x8 16 o .bcHapt) <|>
  (regArr 0x2000 0x8 512 o .bcMboxReq) <|>
  (regArr 0x3000 0x8 512 o .bcMboxResp) <|>
  (regArr 0x10000 0x8 64 o .bcIrqRoute) <|>
  (regArr2 0x10400 0x20 24 0x10 2 o .bcIrqThreshold) <|>
  (regArr2 0x10408 0x20 24 0x10 2 o .bcIrqComplete) <|>
  (regArr 0x10800 0x8 24 o .bcIrqTimecmp)

/-- Register at offset `o` of the tc block. -/
def regAt_tc (d : Fin 4) (k : Fin 11) (o : Nat) : Option Reg :=
  if o = 0x0 then some (.tcId d k) else
  if o = 0x8 then some (.tcCtrl d k) else
  if o = 0x10 then some (.tcStatus d k) else
  if o = 0x18 then some (.tcPc d k) else
  if o = 0x20 then some (.tcProgLimit d k) else
  if o = 0x28 then some (.tcErr d k) else
  if o = 0x30 then some (.tcFlags d k) else
  if o = 0x38 then some (.tcWaitLimit d k) else
  if o = 0x80 then some (.tcOps d k) else
  (regArr 0x40 0x8 8 o (.tcIdle d k)) <|>
  (regArr 0x40000 0x8 32768 o (.tcProg d k)) <|>
  (regArr2 0x80000 0x20 1024 0x8 4 o (.tcSlot d k))

/-- Register at offset `o` of the tcr block. -/
def regAt_tcr (d : Fin 4) (o : Nat) : Option Reg :=
  if o = 0x0 then some (.tcRemap d) else
  none

/-- Register at offset `o` of the trv block. -/
def regAt_trv (d : Fin 4) (j : Fin 22) (o : Nat) : Option Reg :=
  if o = 0x0 then some (.trvId d j) else
  if o = 0x8 then some (.trvCtrl d j) else
  if o = 0x10 then some (.trvStatus d j) else
  if o = 0x18 then some (.trvPc d j) else
  if o = 0x20 then some (.trvLimit d j) else
  if o = 0x28 then some (.trvErr d j) else
  if o = 0x30 then some (.trvWaitLimit d j) else
  if o = 0x38 then some (.trvBytes d j) else
  (regArr 0x100 0x8 16 o (.trvMset d j)) <|>
  (regArr 0x200 0x8 40 o (.trvMofs d j)) <|>
  (regArr2 0x8000 0x80 256 0x8 16 o (.trvRing d j))

/-- Register at offset `o` of the fb block. -/
def regAt_fb (d : Fin 4) (o : Nat) : Option Reg :=
  if o = 0x1000 then some (.trvFbCtrl d) else
  (regArr 0x0 0x8 256 o (.trvFbuf d))

/-- Register at offset `o` of the opt block. -/
def regAt_opt (d : Fin 4) (o : Nat) : Option Reg :=
  if o = 0x0 then some (.optCtrl d) else
  if o = 0x8 then some (.optStatus d) else
  if o = 0x10 then some (.optLtab d) else
  if o = 0x18 then some (.optRlog d) else
  if o = 0x20 then some (.optLscale d) else
  if o = 0x28 then some (.optStep d) else
  if o = 0x30 then some (.optAttempt d) else
  if o = 0x38 then some (.optCursor d) else
  if o = 0x40 then some (.optBatch d) else
  if o = 0x48 then some (.optErr d) else
  if o = 0x50 then some (.optWaitLimit d) else
  if o = 0x58 then some (.optLsAddr d) else
  if o = 0x60 then some (.optCommitBase d) else
  if o = 0x80 then some (.optSrSeed d) else
  (regArr 0x100 0x8 10 o (.optWork d)) <|>
  (regArr 0x200 0x8 16 o (.optNsc d)) <|>
  (regArr 0x800 0x8 256 o (.optConst d)) <|>
  (regArr 0x1000 0x8 256 o (.optEprog d))

/-- Register at offset `o` of the ldg block. -/
def regAt_ldg (d : Fin 4) (o : Nat) : Option Reg :=
  if o = 0x0 then some (.ldgCtrl d) else
  if o = 0x8 then some (.ldgViol d) else
  if o = 0x10 then some (.ldgEcc d) else
  if o = 0x18 then some (.ldgMarch d) else
  if o = 0x20 then some (.ldgMarchStatus d) else
  if o = 0x28 then some (.ldgRepair d) else
  if o = 0x30 then some (.ldgRepairStatus d) else
  (regArr 0x40 0x8 8 o (.ldgGive d)) <|>
  (regArr 0x100 0x8 48 o (.ldgOwn d)) <|>
  (regArr2 0x1000 0x40 192 0x8 8 o (.ldgSpare d))

/-- Register at offset `o` of the col block. -/
def regAt_col (d : Fin 4) (o : Nat) : Option Reg :=
  if o = 0x0 then some (.colCtrl d) else
  if o = 0x8 then some (.colStatus d) else
  if o = 0x10 then some (.colTeam d) else
  if o = 0x18 then some (.colPhase d) else
  if o = 0x20 then some (.colErr d) else
  if o = 0x28 then some (.colWaitLimit d) else
  if o = 0x30 then some (.colIdle d) else
  if o = 0x38 then some (.colBytes d) else
  if o = 0x40 then some (.colRx d) else
  (regArr 0x100 0x8 8 o (.colMap d))

/-- Register at offset `o` of the rope block. -/
def regAt_rope (d : Fin 4) (p : Fin 4) (o : Nat) : Option Reg :=
  if o = 0x0 then some (.ropeCtrl d p) else
  if o = 0x8 then some (.ropeStatus d p) else
  if o = 0x10 then some (.ropeAddr d p) else
  if o = 0x18 then some (.ropeIpPrefix d p) else
  if o = 0x20 then some (.ropeNexthop d p) else
  if o = 0x28 then some (.ropeVc d p) else
  if o = 0x60 then some (.ropeSeq d p) else
  if o = 0x68 then some (.ropeErrs d p) else
  if o = 0x70 then some (.ropeDisc d p) else
  (regArr 0x40 0x8 3 o (.ropeCredit d p)) <|>
  (regArr 0x100 0x8 4 o (.ropeLane d p))

/-- Register at offset `o` of the ropec block. -/
def regAt_ropec (d : Fin 4) (o : Nat) : Option Reg :=
  if o = 0x0 then some (.ropeTimeout d) else
  if o = 0x8 then some (.ropeRetx d) else
  if o = 0x10 then some (.ropeDedup d) else
  if o = 0x18 then some (.ropeTimeOfs d) else
  if o = 0x20 then some (.ropeCommonLock d) else
  none

/-- Register of ridge die `d` at offset `o` of the die's window (R476). -/
def regAtRidge (d : Fin 4) (o : Nat) : Option Reg :=
  if o < 0xF00000 then
    match regIdx 0 0x100000 11 o with
    | some (k, r) => regAt_tc d k r
    | none => none
  else if o < 0x1000000 then regAt_tcr d (o - 0xF00000)
  else if o < 0x1700000 then
    match regIdx 0x1000000 0x10000 22 o with
    | some (j, r) => regAt_trv d j r
    | none => none
  else if o < 0x1800000 then regAt_fb d (o - 0x1700000)
  else if o < 0x2000000 then regAt_opt d (o - 0x1800000)
  else if o < 0x2800000 then regAt_ldg d (o - 0x2000000)
  else if o < 0x3000000 then regAt_col d (o - 0x2800000)
  else if o < 0x3100000 then
    match regIdx 0x3000000 0x20000 4 o with
    | some (p, r) => regAt_rope d p r
    | none => none
  else regAt_ropec d (o - 0x3100000)

/-- Register of the anchor die at offset `o` of the register area (R475). -/
def regAtAnchor (o : Nat) : Option Reg :=
  if o < 0x80000 then regAt_hk o
  else if o < 0xC0000 then regAt_pwr (o - 0x80000)
  else if o < 0x100000 then regAt_flt (o - 0xC0000)
  else if o < 0x140000 then regAt_nt (o - 0x100000)
  else if o < 0x180000 then regAt_mor (o - 0x140000)
  else if o < 0x200000 then none
  else if o < 0x240000 then regAt_med (o - 0x200000)
  else if o < 0x280000 then regAt_tok (o - 0x240000)
  else if o < 0x2C0000 then regAt_aug (o - 0x280000)
  else if o < 0x300000 then regAt_chk (o - 0x2C0000)
  else if o < 0x340000 then regAt_bc (o - 0x300000)
  else none

/-- The register whose eight bytes begin at a device address, if one does (R474: other offsets are reserved). -/
def Reg.ofAddr (a : Nat) : Option Reg :=
  if a < regBase then none else
  let o := a - regBase
  if o < 0x10000000 then regAtAnchor o
  else match regIdx 0x10000000 0x4000000 4 o with
    | some (d, r) => regAtRidge d r
    | none => none

end Sys2Proof.Machine
end

