-- ==== Sys2Proof/Machine/Bits.lean ====
section
/-! DEFINITION. Bit fields, byte order, signed readings and modular comparison: the small arithmetic every meaning uses. -/

namespace Sys2Proof.Machine

/-- Bits `[hi:lo]` of a number (R10). -/
def bits (n hi lo : Nat) : Nat := (n >>> lo) % 2 ^ (hi + 1 - lo)

/-- Bit `i` of a number. -/
def bit (n i : Nat) : Bool := n.testBit i

/-- 0 or 1. -/
def b2n (b : Bool) : Nat := if b then 1 else 0

/-- Number of bits of a field. -/
def Fld.width (f : Fld) : Nat := f.hi + 1 - f.lo

/-- The value of a field of a word. -/
def fget (w : Word) (f : Fld) : Nat := bits w.toNat f.hi f.lo

/-- A word with one field replaced; the value is cut to the field's width. -/
def fput (w : Word) (f : Fld) (v : Nat) : Word :=
  BitVec.ofNat 64 (w.toNat / 2 ^ (f.hi + 1) * 2 ^ (f.hi + 1) + v % 2 ^ f.width * 2 ^ f.lo + w.toNat % 2 ^ f.lo)

/-- A number with bit `i` set to `b`. -/
def setBit (n i : Nat) (b : Bool) : Nat :=
  if n.testBit i then (if b then n else n - 2 ^ i) else if b then n + 2 ^ i else n

/-- Bits of `m` removed from `n`. -/
def clearBits (n m : Nat) : Nat := n - (n &&& m)

/-- Number of bits set among the lowest `k`. -/
def popCount (k n : Nat) : Nat := ((List.range k).filter (fun i => n.testBit i)).length

/-- The indices of the bits set among the lowest `k`, ascending. -/
def bitList (k n : Nat) : List Nat := (List.range k).filter (fun i => n.testBit i)

/-- Little-endian value of a list of bytes (R10). -/
def ofLe : List Byte → Nat
  | [] => 0
  | b :: bs => b.toNat + 256 * ofLe bs

/-- The `k` little-endian bytes of a number (R10). -/
def toLe : Nat → Nat → List Byte
  | 0, _ => []
  | k + 1, n => BitVec.ofNat 8 n :: toLe k (n / 256)

/-- Big-endian value of a list of bytes. -/
def ofBe (bs : List Byte) : Nat := ofLe bs.reverse

/-- The `k` big-endian bytes of a number. -/
def toBe (k n : Nat) : List Byte := (toLe k n).reverse

/-- `len` bytes of a list from position `off`; short lists are read as they are. -/
def slice (bs : List Byte) (off len : Nat) : List Byte := (bs.drop off).take len

/-- Little-endian field of a byte structure. -/
def leAt (bs : List Byte) (off len : Nat) : Nat := ofLe (slice bs off len)

/-- Two's-complement reading of a `w`-bit number. -/
def signed (w n : Nat) : Int := if n % 2 ^ w < 2 ^ (w - 1) then (n % 2 ^ w : Nat) else (n % 2 ^ w : Nat) - (2 ^ w : Nat)

/-- The `w`-bit two's-complement encoding of an integer. -/
def unsign (w : Nat) (i : Int) : Nat := (i % (2 ^ w : Nat)).toNat

/-- `a` is newer than `b` in a `w`-bit window (R480). -/
def newer (w a b : Nat) : Bool :=
  let d := (a % 2 ^ w + 2 ^ w - b % 2 ^ w) % 2 ^ w
  1 ≤ d && d < 2 ^ (w - 1)

/-- A saturating count of `w` bits, one higher (R478). -/
def satInc (w n : Nat) : Nat := if n + 1 < 2 ^ w then n + 1 else 2 ^ w - 1

/-- A saturating sum of `w` bits. -/
def satAdd (w n k : Nat) : Nat := if n + k < 2 ^ w then n + k else 2 ^ w - 1

/-- Number of zero bytes. -/
def zeros (k : Nat) : List Byte := List.replicate k 0

/-- A list with position `i` replaced; unchanged when the list is shorter. -/
def setAt {α : Type} (l : List α) (i : Nat) (x : α) : List α := l.set i x

/-- Insertion before the first element that is not before `x`. -/
def insertBy {α : Type} (lt : α → α → Bool) (x : α) : List α → List α
  | [] => [x]
  | y :: l => if lt y x then y :: insertBy lt x l else x :: y :: l

/-- A list sorted by a strict order; equal elements keep their order. -/
def insertSort {α : Type} (lt : α → α → Bool) : List α → List α
  | [] => []
  | x :: l => insertBy lt x (insertSort lt l)

/-- Replacement of a value under a key in an association list, in place, or at the end when the key is new. -/
def assocSet {κ α : Type} [DecidableEq κ] : List (κ × α) → κ → α → List (κ × α)
  | [], k, v => [(k, v)]
  | (k', v') :: l, k, v => if k' = k then (k, v) :: l else (k', v') :: assocSet l k v

/-- The value under a key of an association list. -/
def assocGet {κ α : Type} [DecidableEq κ] : List (κ × α) → κ → Option α
  | [], _ => none
  | (k', v') :: l, k => if k' = k then some v' else assocGet l k

end Sys2Proof.Machine
end

