-- ==== Sys2Proof/Machine/Types.lean ====
section
/-! DEFINITION. The records the machine's state is made of, beside its registers, and the operands of its commands. -/

namespace Sys2Proof.Machine

/-! ### Memory (R26, R473) -/

/-- All addressed storage as one list of bytes in canonical form. A key is a STORAGE LOCATION, not a device address:
near stack `s`, offset `o` at `s·2^36 + o`; moraine channel `c` at `2^40 + c·2^37 + o`; ledge die `n` at
`2^44 + n·2^28 + row position`; local SRAM at `2^45`; boot ROM at `2^46`; host memory at `2^64 + bus address`.
`eras` counts, for each region, how often its contents have been lost. -/
structure Mem where
  cells : List Host.Cell
  eras : List Nat
deriving DecidableEq, Repr

/-- Who made an access, as DIE, BLOCK and INSTANCE of a fault record (R406, R407). -/
structure Requester where
  die : Nat
  block : Nat
  inst : Nat
deriving DecidableEq, Repr

/-- How an access to a tier ended. -/
inductive MemStatus where
  | ok
  | uncorrectable
  | unmapped
  | hostError
  | nonOwner
deriving DecidableEq, Repr

/-! ### Faults (R404 to R416) -/

/-- The three classes of R404. -/
inductive FaultClass where
  | corrected | ucc | fatal
deriving DecidableEq, Repr

/-- An event raised by a block and not yet accepted by the collector (R405). -/
structure FaultEvent where
  time : Nat
  cls : FaultClass
  die : Nat
  block : Nat
  inst : Nat
  code : Nat
  node : Nat
  addr : Nat
  detail : Nat
  injected : Bool
deriving DecidableEq, Repr

/-- A record of the fault ring (R406), with what the collector keeps beside it: its own grace time in ms and
the deadline (`none` before S1, R411) and the dies that its Fatal actions fenced (R415). -/
structure FaultRec where
  time : Nat
  last : Nat
  seq : Nat
  corrected : Bool
  ucc : Bool
  fatal : Bool
  pinned : Bool
  acked : Bool
  cleared : Bool
  escalated : Bool
  injected : Bool
  die : Nat
  block : Nat
  inst : Nat
  code : Nat
  merge : Nat
  node : Nat
  addr : Nat
  detail : Nat
  step : Nat
  grace : Nat
  deadline : Option Nat
  fenced : Nat
  bootAgain : Bool
deriving DecidableEq, Repr

/-- A UCC record that was overwritten before it was acknowledged (R408). -/
structure LostUcc where
  seq : Nat
  time : Nat
  grace : Nat
  deadline : Option Nat
deriving DecidableEq, Repr

/-- Two copies in flash, written alternately, each with a sequence count; `none` is a copy whose CRC is wrong. `writing`
is the copy under way with its target, and `dirty` says that a change has arrived meanwhile (R359, R405, R434). -/
structure FlashPair (α : Type) where
  copyA : Option (Nat × α)
  copyB : Option (Nat × α)
  writing : Option α
  dirty : Bool
deriving DecidableEq, Repr

/-- The fault collector's state beside its registers. -/
structure FaultState where
  ring : List FaultRec
  lost : List LostUcc
  queue : List FaultEvent
  flash : FlashPair (List FaultRec)
deriving DecidableEq, Repr

/-! ### Rails, clocks, reset domains and boot (R28 to R45, R348 to R369, R459) -/

/-- Rails and pins as the module sees them; `main` is the main rail in tolerance with PWR_EN asserted (R458, R459). -/
structure Rails where
  aux : Bool
  main : Bool
  perst : Bool
  factoryStrapLow : Bool
  cableBrakeLow : Bool
deriving DecidableEq, Repr

/-- Clocks (R32, R33). `stopped` is the cause that stopped the T-, F- and M-clocks: 0 none, 1 R33, 2 R395. -/
structure Clocks where
  reference : Bool
  pll : Bool
  everLocked : Bool
  tRun : Bool
  fRun : Bool
  mRun : Bool
  stopped : Nat
deriving DecidableEq, Repr

/-- Which reset domains are out of reset (R348); bit `n` of a mask is ridge die `n`. -/
structure Domains where
  hk : Bool
  main : Bool
  pcie : Bool
  fabric : Nat
  compute : Nat
deriving DecidableEq, Repr

/-- Where the boot order stands (R357). -/
inductive BootPhase where
  | off
  | stage (i : Nat)
  | standby
  | token
  | hold
  | recovery
  | done
  | rerun (i : Nat)
deriving DecidableEq, Repr

/-- The boot order beside HK_BOOT: the phase, the die mask of a DIE_RESET rerun, the resets held until stage 10 ends
(R349), the token window and whether its token was accepted (R366), whether S1 has been reached (R411), and the belay
table in force before a plan's (R356), as 64 words. -/
structure BootState where
  phase : BootPhase
  rerunMask : Nat
  heldReset : Nat
  windowOpen : Bool
  tokenGood : Bool
  reachedS1 : Bool
deriving DecidableEq, Repr

/-- Firmware flash (R360 to R363): two slots for each image type 1 to 5, which slot each type in use was loaded from,
and the slot that a commit marked for the next main-power cycle. Lists are indexed by type, 0 to 5.
`nextOffset` is where the next segment of R444 must start. -/
structure ImageState where
  slotA : List (List Byte)
  slotB : List (List Byte)
  loadedB : List (Option Bool)
  markedB : List (Option Bool)
  nextOffset : Nat
deriving DecidableEq, Repr

/-- One soft or fused ledge repair (R191): die, sub-bank, spare and row. -/
structure LedgeRepair where
  die : Nat
  sub : Nat
  spare : Nat
  row : Nat
  failed : Bool
deriving DecidableEq, Repr

/-- The repair record (R359): core maps, ledge soft repairs, retirement tables as `(unit, frame)` pairs in table order,
substitute bases and the fence mask. -/
structure RepairRecord where
  remap : List Nat
  ledge : List LedgeRepair
  near : List (Nat × Nat)
  moraine : List (Nat × Nat)
  subst : List Nat
  fence : Nat
deriving DecidableEq, Repr

/-- The live record, its flash copies, and the repairs fused in the ledge dies. -/
structure RepairState where
  record : RepairRecord
  flash : FlashPair RepairRecord
  fused : List LedgeRepair
deriving DecidableEq, Repr

/-! ### Dictionary and management (R431 to R455) -/

/-- A dictionary value as an interface carries it (R432): type code and little-endian bytes. -/
structure DictValue where
  type : Nat
  data : List Byte
deriving DecidableEq, Repr

/-- One entry of the write journal (R446). -/
structure JournalEntry where
  time : Nat
  seq : Nat
  source : Nat
  status : Nat
  index : Nat
  sub : Nat
  type : Nat
  origin : Nat
  old : Nat
  new : Nat
deriving DecidableEq, Repr

/-- A request of the management pair as its 16 B header and value give it (R441). -/
structure T1sRequest where
  mac : Nat
  op : Nat
  seq : Nat
  index : Nat
  sub : Nat
  type : Nat
  offset : Nat
  data : List Byte
deriving DecidableEq, Repr

/-- A response of the management pair (R441). -/
structure T1sResponse where
  mac : Nat
  op : Nat
  seq : Nat
  index : Nat
  sub : Nat
  type : Nat
  status : Nat
  offset : Nat
  data : List Byte
deriving DecidableEq, Repr

/-- The kept response of one source (R443), with the time of the request. -/
structure T1sKept where
  mac : Nat
  seq : Nat
  time : Nat
  response : T1sResponse
deriving DecidableEq, Repr

/-- A reply of the headlamp port (R453). -/
structure LampReply where
  cmd : Nat
  data : List Byte
deriving DecidableEq, Repr

/-- Dictionary and management state. `stored` holds the rw entries that mirror no register, under `(index, sub)`; `samples` counts
telemetry samples, the next of which is taken when the timestamp reaches `nextSample` (R435). -/
structure DictState where
  stored : List ((Nat × Nat) × List Byte)
  flash : FlashPair (List ((Nat × Nat) × List Byte))
  journal : List JournalEntry
  journalSeq : Nat
  t1sHand : List T1sResponse
  t1sKept : List T1sKept
  lampReply : Option LampReply
  samples : Nat
  nextSample : Nat
deriving DecidableEq, Repr

/-! ### Power (R387 to R403) -/

/-- One outstanding BUDGET message to a domain (R390). -/
structure BudgetMsg where
  old : Nat
  new : Nat
  sent : Nat
  adopted : Bool
  late : Bool
deriving DecidableEq, Repr

/-- A power domain beside PWR_DOMAIN: the outstanding message, the raise that waits, the raw draw, the thermal cap. -/
structure PowerDomain where
  msg : Option BudgetMsg
  raise : Option Nat
  rawDraw : Nat
  tcap : Nat
  tbase : Nat
  tsteps : Nat
  dutyTemp : Int
  compatDuty : Nat
  clampedMs : Nat
deriving DecidableEq, Repr

/-- The power arbiter beside its registers. `target` is the mode a change under way leads to, `inForce` the mode of the last change
that completed (R392, R398), and `firstOfJob` says that the next redistribution is the first of a job (R389). -/
structure PowerState where
  domains : List PowerDomain
  target : Option Nat
  brakeHeld : Bool
  restoring : List Nat
  modeDone : Nat
  overMs : Nat
  reduction : Nat
  offsets : List (List Int)
  refFailed : List Bool
  inForce : Nat
  firstOfJob : Bool
deriving DecidableEq, Repr

/-! ### Basecamp (R370 to R386) -/

/-- A cached line: address, 64 bytes, whether it is dirty, and the hart whose data cache holds it, or `none` for the
L2 of its cluster (R371, R373). -/
structure CacheLine where
  addr : Nat
  data : List Byte
  dirty : Bool
  hart : Option Nat
deriving DecidableEq, Repr

/-- A hart beside BC_HART: its start address when it last started, stimecmp, and its pending timer interrupts. -/
structure HartState where
  pc : Nat
  stimecmp : Nat
  mtip : Bool
  stip : Bool
deriving DecidableEq, Repr

/-- The exceptions of R377. -/
inductive HartException where
  | loadMisaligned | storeMisaligned | loadFault | storeFault | fetchFault
deriving DecidableEq, Repr

/-- Which bits of a register an access touches: the whole register, or one 32-bit half (R12). -/
inductive Half where
  | whole | low | high
deriving DecidableEq, Repr

/-- A hart's access to a cacheable range (R374, R375). -/
inductive HartOp where
  | load (size : Nat)
  | store (data : List Byte)
  | fetch (size : Nat)
  | cboClean
  | cboFlush
  | cboInval
deriving DecidableEq, Repr

/-- Basecamp beside its registers. `mboxOpen` is the opening of R384. -/
structure BasecampState where
  harts : List HartState
  cache : List CacheLine
  mboxOpen : Bool
deriving DecidableEq, Repr

/-! ### Host link (R464 to R472) -/

/-- One MSI-X table entry. -/
structure MsixEntry where
  addr : Nat
  data : Nat
  masked : Bool
deriving DecidableEq, Repr

/-- A request of the device to the host that has not completed: its range, whether it waits for the link, and its No Snoop
attribute (R60). -/
structure HostReq where
  req : Requester
  isRead : Bool
  addr : Nat
  len : Nat
  waiting : Bool
  noSnoop : Bool
deriving DecidableEq, Repr

/-- The configuration registers the manual gives a value or an effect (R464, R466, R468, R470, R472). -/
inductive CfgReg where
  | vendorDevice | command | classRevision | subsystem | interruptPin
  | bar (i : Fin 6)
  | msixControl | powerControl | deviceControl | linkStatus | serialLow | serialHigh
deriving DecidableEq, Repr

/-- The PCIe function. `requests` are those of the device to the host that have not completed, and `expired` the accesses that failed
and whose requester has not met the failure yet (R60, R469). `rate` is the trained rate in units of 0.1 GT/s, `mps` the Max Payload Size in bytes. -/
structure PcieState where
  up : Bool
  rate : Nat
  width : Nat
  flit : Bool
  mps : Nat
  mrrs : Nat
  memEnable : Bool
  busMaster : Bool
  msixEnable : Bool
  funcMask : Bool
  d3hot : Bool
  bars : List Nat
  table : List MsixEntry
  pba : Nat
  aerUr : Nat
  requests : List HostReq
  expired : List HostReq
deriving DecidableEq, Repr

/-- A request of the host that the device does not support (R467): I/O, AtomicOp, memory outside every BAR, a vendor-defined message. -/
inductive HostRequest where
  | ioRead | ioWrite | atomicOp | memRead | memWrite | vendorMessage
deriving DecidableEq, Repr

/-- How the host completes or the device answers a PCIe request. -/
inductive CplStatus where
  | success | poisoned | unsupported | abort | retry
deriving DecidableEq, Repr

/-! ### The tiers outside the package (R47 to R74) -/

/-- An access that waits: behind a retirement copy (R55), behind a channel that leaves self-refresh (R59), or behind a
transparent march (R189). `data` is `none` for a read of `len` bytes. -/
structure WaitingAccess where
  req : Requester
  owner : Nat
  addr : Nat
  len : Nat
  data : Option (List Byte)
deriving DecidableEq, Repr

/-- A retirement copy under way (R55, R58): the unit is a near stack or a moraine channel. -/
structure RetireCopy where
  unit : Nat
  frame : Nat
deriving DecidableEq, Repr

/-- What a moraine transfer meets (R58): nothing, an error that Link ECC or on-die ECC corrected, one that was reported,
or one that neither noticed. -/
inductive MoraineError where
  | none | corrected | reported | undetected
deriving DecidableEq, Repr

/-- What a scrub read finds (R63). -/
inductive ScrubFind where
  | good | corrected | uncorrectable
deriving DecidableEq, Repr

/-- Calibration of one near stack (R65): last calibration, the trigger that is being answered, the next channel, whether
a new trigger waits for a restart, and whether the controller now takes channels. Temperatures are in 1/16 °C. -/
structure Calibration where
  lastTime : Nat
  lastTemp : Int
  temp : Int
  trigger : Option Nat
  channel : Nat
  restart : Bool
  stealing : Bool
deriving DecidableEq, Repr

/-- A patrol scrub pass over one tier (R63): next address, start of the pass, whether it is overdue. -/
structure ScrubPass where
  pos : Nat
  start : Nat
  overdue : Bool
deriving DecidableEq, Repr

/-- The transfer of one swap queue (R61): descriptor index, addresses, length in units of 64 KiB, FLAGS and TAG. -/
structure SwapXfer where
  index : Nat
  src : Nat
  dst : Nat
  len : Nat
  flags : Nat
  tag : Nat
deriving DecidableEq, Repr

/-- A reservation of a plan (R67): tier 0 near, 1 moraine, 2 host link towards the device, 3 from the device; class 0 to
6 in the order of R67; bandwidth in MB/s; shortest burst in bytes. -/
structure Contract where
  tier : Nat
  cls : Nat
  mbps : Nat
  burst : Nat
deriving DecidableEq, Repr

/-- Degradation of one tier (R70 to R73): peak and deliverable bandwidth and the refresh and PHY losses in MB/s, the number of
classes degraded, the batches by which input decode is cut, how often the mirroring interval is doubled (7 for degraded to zero),
and the run of computations in which the sum stayed at or below what is deliverable. -/
structure TierBandwidth where
  peak : Nat
  deliverable : Nat
  loss : Nat
  level : Nat
  cuts : Nat
  shift : Nat
  calm : Nat
deriving DecidableEq, Repr

/-- A tier before its first computation. -/
def TierBandwidth.idle : TierBandwidth := ⟨0, 0, 0, 0, 0, 0, 0⟩

/-- A burst stalled because it is shorter than its class declared (R68). -/
structure StalledBurst where
  req : Requester
  tier : Nat
  cls : Nat
  bytes : Nat
deriving DecidableEq, Repr

/-- The near and moraine tiers beside their registers. `bad` lists the storage keys that read as uncorrectable: 64 B
blocks of the near and moraine tiers and 16 B quarters of the ledge and the local SRAM (R53, R54, R187). `scrubOpen` holds the
open scrub block of each channel, as `(channel, address)`: channel `c` of stack `n` as `32n + c`, moraine channel `c` as `256 + c` (R64). -/
structure TierState where
  bad : List Nat
  nearCopy : Option RetireCopy
  morCopy : Option RetireCopy
  waiting : List WaitingAccess
  selfRefresh : Nat
  halved : Nat
  drift : List Nat
  retrains : List Nat
  calib : List Calibration
  scrubNear : ScrubPass
  scrubMor : ScrubPass
  scrubOpen : List (Nat × Nat)
  corrected : List Nat
  swap : List (Option SwapXfer)
  contracts : List Contract
  bandwidth : List TierBandwidth
  stalledBursts : List StalledBurst
  hotStacks : Nat
deriving DecidableEq, Repr

/-! ### Ledge (R176 to R192) -/

/-- A march under way (R188, R189): the banks named, and for a transparent march the sub-bank under test. -/
structure March where
  transparent : Bool
  banks : Nat
  testing : Nat
deriving DecidableEq, Repr

/-- One ledge port request (R184 to R186): ledge offset of the word, owner code of the requester, and for a write the
bytes with a byte mask (bit `i` of `mask` for byte `i`). -/
structure LedgeReq where
  req : Requester
  owner : Nat
  offset : Nat
  write : Bool
  mask : Nat
  data : List Byte
deriving DecidableEq, Repr

/-- A request that a port of a sub-bank must present again, with the wrong bits that it meets: `wins` after collision status,
clear for a new request that the port's held one has delayed (R184). -/
structure LedgeRetry where
  sub : Nat
  port : Nat
  req : LedgeReq
  errs : List Nat
  wins : Bool
deriving DecidableEq, Repr

/-- A partial write in its second cycle (R186): the word as its first cycle read it, and whether that read was uncorrectable. -/
structure LedgeSecond where
  sub : Nat
  port : Nat
  req : LedgeReq
  old : List Byte
  bad : Bool
deriving DecidableEq, Repr

/-- A ledge die beside its registers: the march, LDG_GIVE entries held behind it (R181), requests to present again (R184), partial
writes in their second cycle (R186), accesses that wait for the end of a sub-bank's test (R189), and the fusing under way as
`(sub-bank, row)` (R191). -/
structure LedgeState where
  march : Option March
  held : List Nat
  retry : List LedgeRetry
  second : List LedgeSecond
  waits : List LedgeReq
  fusing : Option (Nat × Nat)
deriving DecidableEq, Repr

/-- A ledge die at rest. -/
def LedgeState.idle : LedgeState := ⟨none, [], [], [], [], none⟩

/-- What a register write carries: the value, and the bits that the device sets in the same cycle (R15). -/
structure WriteData where
  value : Word
  same : Word
deriving DecidableEq, Repr

/-- What the code of a near stack meets in a block: the number of symbols in error, and whether the stack's on-die ECC reports a
correction (R53). -/
structure NearErrors where
  symbols : Nat
  report : Bool
deriving DecidableEq, Repr

/-- A pass of the pixel engine for an encode queue, over a number of row boundaries (R332). -/
structure EncodePass where
  queue : Fin 8
  rows : Nat
deriving DecidableEq, Repr

/-- Who writes LDG_GIVE (R181). -/
inductive GiveSource where
  | traverse (j : Fin 22)
  | basecamp
  | host
deriving DecidableEq, Repr

/-! ### Jobs (R233 to R256) -/

/-- A plan image as the load reads it (R233, R235): its layout is the planner's and not the manual's (log entry 16). Interface
entries as `(interface, epoch)`; the shape it requires; its belay table of 1,024 role codes, if it carries one; logical cores
of the evaluation slice as `10 * die + core`, and the evaluation key; the stage table; contracts; the largest page of each kind of sequence as `(heads, FP4 only)`; registers and tables to load;
initial ledge owners as `(die, sub-bank, owner)`; starting fusion counts as `(die, buffer, count)`; the devices of the job; and the
starting phase. -/
structure Plan where
  version : Nat
  ifs : List (Nat × Nat)
  shape : Nat
  belay : Option (List Nat)
  slice : List Nat
  evalKey : Nat
  stages : List Byte
  contracts : List Contract
  pages : List (Nat × Bool)
  regs : List (Reg × Word)
  tables : List (Nat × List Byte)
  owners : List (Fin 4 × Nat × Nat)
  counts : List (Fin 4 × Fin 256 × Nat)
  size : Nat
  phase : Nat
deriving DecidableEq, Repr

/-- A request of the evaluation slice that has been taken (R248, R249): its ring index, when it was taken, its sequence, whether
it was admitted, the event code that ended its sequence (0 for none), tokens written, the snapshot of its first token,
whether NF was seen and whether it was pre-empted, and the STATUS that its last token gave it (0 for none). -/
structure EvalReq where
  index : Nat
  taken : Nat
  seq : Nat
  admitted : Bool
  ended : Nat
  count : Nat
  snap : Option Nat
  nf : Bool
  preempted : Bool
  finish : Nat
deriving DecidableEq, Repr

/-- The job beside its registers (R233 to R256): the end code, whether an END waits for an outcome, whether an attempt lies
between marker and outcome, and at acceptance the timestamp, idle counters, operation counts and counted cycles of the 44
cores and the belay table in force; the plan; requests of the evaluation slice; the snapshot in force; and when the end's cause arrived. -/
structure JobState where
  endCode : Nat
  endWaits : Bool
  attemptOpen : Bool
  loadTime : Nat
  idleAt : List (List Nat)
  opsAt : List Nat
  cyclesAt : List Nat
  plan : Option Plan
  belayWas : List Nat
  evals : List EvalReq
  snap : Nat
  endAt : Nat
deriving DecidableEq, Repr

/-- No job. -/
def JobState.none : JobState := ⟨0, false, false, 0, [], [], [], Option.none, [], [], 0, 0⟩

/-! ### Heartbeats and restart (R417 to R427) -/

/-- The payload of a HEARTBEAT frame (R417). -/
structure Heartbeat where
  team : Nat
  slot : Nat
  failing : Bool
  leaving : Bool
  notice : Bool
  promote : Bool
  report : Bool
  target : Bool
  epoch : Nat
  reach : Nat
  foreign : Nat
  seen : Nat
  failed : Nat
  map : Nat
  step : Nat
  count : Nat
deriving DecidableEq, Repr

/-- A REPORT taken for a restart (R425): team and slot of its sender, REACH, FOREIGN and the devices it covers. -/
structure ReachReport where
  team : Nat
  slot : Nat
  reach : Nat
  foreign : Nat
  count : Nat
deriving DecidableEq, Repr

/-- Heartbeats and restart beside FLT_HB and FLT_RESTART: when each of the nine slots was last heard and the SEEN it last sent,
slots that left, the notice being repeated with the latest failed node, the failed nodes of the restart taken together, the
map being promoted, the reports gathered, this device's FOREIGN, the devices of the job, whether the team's spare is gone or
promoted, whether this device is the spare that took a node, whether the restart cannot succeed, the slot being mirrored, and
for a pull the generation records read and the slot being pulled. -/
structure RestartState where
  heard : List (Option Nat)
  seenOf : List Nat
  leaving : Nat
  notice : Bool
  failedNode : Nat
  failedNodes : List Nat
  map : Nat
  promote : Bool
  reports : List ReachReport
  foreign : Nat
  jobSize : Nat
  spareGone : Bool
  promoted : Bool
  lost : Bool
  mirrorSlot : Option Nat
  records : List (Nat × List Byte)
  pulling : Option Nat
deriving DecidableEq, Repr

/-- Nothing heard, no restart. -/
def RestartState.idle : RestartState :=
  ⟨List.replicate 9 none, List.replicate 9 0, 0, false, 0xFFFFFFFF, [], 0, false, [], 0xF, 0, false, false, false, none, [], none⟩

/-! ### The input pipeline (R312 to R346) -/

/-- A request of a media unit, tokenizer or generator between its output and its completion: where its tag goes, the tag
without its timestamp, where the timestamp lies in it (64 for none), TRV, IRQ, its status, frame buffers held, and the rows of a video
request that its pixel engine has still to take (R332). -/
structure InputJob where
  queue : Nat
  unit : Nat
  tagAddr : Nat
  tag : List Byte
  stampAt : Nat
  trv : Nat
  irq : Bool
  status : Nat
  buffers : Nat
  rows : Nat
deriving DecidableEq, Repr

/-- A frame being encoded (R329 to R332): its descriptor fields, the row that comes next, its QP, the sum of row QPs, the coded bytes of
a row that waits for ring space, bits and bytes so far, the timestamp of the first chunk, the engine that codes it, and whether a coded
row is stalled on a full ring. -/
structure EncFrame where
  frame : Nat
  tagAddr : Nat
  flags : Nat
  key : Bool
  row : Nat
  rows : Nat
  qp : Nat
  qpSum : Nat
  payload : List Byte
  bits : Nat
  bytes : Nat
  firstStamp : Nat
  engine : Nat
  stalled : Bool
deriving DecidableEq, Repr

/-- An encode stream: whether it has begun, the parameters of its last key frame, frames since then, the base QP, and the
frame that is being coded (R329 to R331). -/
structure EncStream where
  started : Bool
  codec : Nat
  width : Nat
  height : Nat
  qpMin : Nat
  qpMax : Nat
  bitrate : Nat
  fps : Nat
  gop : Nat
  sinceKey : Nat
  qpBase : Int
  frame : Option EncFrame
deriving DecidableEq, Repr

/-- A stream at a snoop point of the check-value unit (R344): its bytes in order, and whether it has opened. -/
structure SnoopStream where
  id : Nat
  point : Nat
  tag : Nat
  bytes : List Byte
  opened : Bool
deriving DecidableEq, Repr

/-- A stream held by check engine `engine` (point engines 0 to 4, channel `c` as `5 + c`), with the bytes folded (R345). -/
structure SnoopHeld where
  engine : Nat
  id : Nat
  pos : Nat
deriving DecidableEq, Repr

/-- The input pipeline: requests that run on the media units, tokenizers and generators, the highest SAMPLE taken and the
depth that the first cut fixed (R313), encode streams and check streams. -/
structure InputState where
  media : List InputJob
  tok : List InputJob
  aug : List InputJob
  highSample : Option Nat
  depthBase : Option Nat
  enc : List EncStream
  streams : List SnoopStream
  nextStream : Nat
  held : List SnoopHeld
deriving DecidableEq, Repr

/-- The input pipeline at rest. -/
def InputState.idle : InputState :=
  ⟨[], [], [], none, none, List.replicate 5 ⟨false, 0, 0, 0, 0, 0, 0, 0, 0, 0, 0, none⟩, [], 0, []⟩

/-! ### KV pages (R75 to R100) -/

/-- A frame that is not FREE (R80): pool, frame number, whether it is IN_FLIGHT, whether a training sequence holds it. -/
structure KvFrame where
  pool : Nat
  frame : Nat
  moving : Bool
  train : Bool
deriving DecidableEq, Repr

/-- An in-flight record (R97): its index (TAG), the swap queue and ring index of its descriptor, the page with its GEN,
and both frames. -/
structure KvMove where
  tag : Nat
  queue : Nat
  index : Nat
  seq : Nat
  layer : Nat
  page : Nat
  gen : Nat
  srcPool : Nat
  srcFrame : Nat
  dstPool : Nat
  dstFrame : Nat
deriving DecidableEq, Repr

/-- A page of a planned move that is not posted yet (R96): sequence, layer, page, destination pool. -/
structure KvPlanned where
  seq : Nat
  layer : Nat
  page : Nat
  pool : Nat
deriving DecidableEq, Repr

/-- The frame manager: frames not FREE, in-flight records, near frames granted at a step boundary as `(sequence, frame)`,
sequences whose grant still waits for a frame, the event that each cancelled sequence will end with, and planned moves to post. -/
structure KvState where
  frames : List KvFrame
  moves : List KvMove
  grants : List (Nat × Nat)
  owed : List Nat
  ending : List (Nat × Nat)
  planned : List KvPlanned
deriving DecidableEq, Repr

/-- The frame manager with every frame FREE. -/
def KvState.idle : KvState := ⟨[], [], [], [], [], []⟩

/-! ### Tensor cores (R123 to R148) -/

/-- A tile as it was read: its FMT, element codes row by row, and block-scale codes row by row. -/
structure Tile where
  fmt : Nat
  codes : List (List Nat)
  scales : List (List Nat)
deriving DecidableEq, Repr

/-- A weight plane (R124): whether an LDW has filled it since reset, its PACK, and one tile for each problem. -/
structure Plane where
  loaded : Bool
  pack : Nat
  tiles : List Tile
deriving DecidableEq, Repr

/-- An accumulator bank (R125): 256 rows of 256 FP32 codes, or no rows while its contents are undefined; the PACK of the
MMs that filled it, and whether they differed. -/
structure Bank where
  rows : List (List Nat)
  pack : Nat
  mixed : Bool
deriving DecidableEq, Repr

/-- An operation in flight: its PC, opcode and bank, the T-clock cycles for which it still occupies its unit (R137), the ledge ranges
that it writes with what they held before (R140), and what its completion needs. -/
structure TcOp where
  pc : Nat
  opcode : Nat
  bank : Nat
  left : Nat
  wrote : List (Nat × List Byte)
  aux : List Nat
deriving DecidableEq, Repr

/-- A tensor core beside its registers (R124, R125, R138): operations in flight, cycles for which a NOP still holds the issue stage
(R137), the cycle of the last draw of its output columns (R113), the T-clock cycles counted under R253, weight planes and banks. -/
structure TcCore where
  ops : List TcOp
  hold : Nat
  drawn : Nat
  cycles : Nat
  shadow : Plane
  active : Plane
  bank0 : Bank
  bank1 : Bank
deriving DecidableEq, Repr

/-- A core as its domain leaves reset. -/
def TcCore.idle : TcCore := ⟨[], 0, 0, 0, ⟨false, 0, []⟩, ⟨false, 0, []⟩, ⟨[], 0, false⟩, ⟨[], 0, false⟩⟩

/-- What the generators of a die were last seeded with (R114). -/
structure GenSeed where
  seed : Nat
  step : Nat
  node : Nat
deriving DecidableEq, Repr

/-- Tensor cores, core `k` of die `n` at `11n + k`, and for each of the four dies its seed, `none` before the first marker, the T-clock
cycles since the marker or since its domain left reset, and the cycle of the last draw of its vector lanes (R113, R114). -/
structure TensorState where
  cores : List TcCore
  gens : List (Option GenSeed)
  elapsed : List Nat
  laneDrawn : List Nat
deriving DecidableEq, Repr

/-- Every core as its domain leaves reset. -/
def TensorState.idle : TensorState := ⟨List.replicate 44 TcCore.idle, List.replicate 4 none, List.replicate 4 0, List.replicate 4 0⟩

/-- The cores and generators of a die as their domain leaves reset. -/
def TensorState.resetDie (t : TensorState) (d : Nat) : TensorState :=
  ⟨(List.range 44).map (fun i => if i / 11 = d then TcCore.idle else t.cores.getD i TcCore.idle), t.gens.set d none, t.elapsed.set d 0,
    t.laneDrawn.set d 0⟩

/-! ### Traverse engines (R149 to R175) -/

/-- A descriptor that has started (R151): its ring index with the lap bit, its sixteen words, and what its source runs held when it
started while an earlier descriptor of the engine was writing there. With `fail`, a stopping failure that is recorded once the
other descriptors have completed: its code, level and address (R172). -/
structure TrvRun where
  pc : Nat
  words : List Nat
  before : List (List Byte)
  fail : Option (Nat × Nat × Nat)
deriving DecidableEq, Repr

/-! ### Detection service (R200 to R203) -/

/-- The descriptor that the detection service runs: its device address, FLAGS[2], the STATUS and COUNT it will end with, and
where DONE then goes: past descriptors that were cancelled meanwhile. -/
structure DetRun where
  desc : Nat
  next : Nat
  irq : Bool
  status : Nat
  count : Nat
deriving DecidableEq, Repr

/-! ### Optimizer engines (R204 to R232) -/

/-- The layer-table entry that an engine applies (R212): its table index, how far it has come (0 before the norm check, 1
before the log copy, 2 before the update, 3 and more at team product `phase - 3` of a matrix entry), its norm partial, the
team's total once it is there, and for a matrix entry the matrix in hand with the product that the team sums. -/
structure OptRun where
  entry : Nat
  phase : Nat
  part : Nat
  total : Option Nat
  norm : Nat
  mat : List (List Nat)
  product : List (List Nat)
deriving DecidableEq, Repr

/-- An optimizer engine beside its registers: the entry in progress, table indices whose GRAD_BUF reached its count, in
order of arrival, those quantised and those whose DONE_BUF was published in this attempt, the die's retreat log of the
attempt as header addresses with the offset of the next entry, and NF with its cause and SAT of the vector lanes (R120). -/
structure OptDie where
  run : Option OptRun
  arrived : List Nat
  quantised : List Nat
  done : List Nat
  logs : List Nat
  logPos : Nat
  nf : Bool
  nfCause : Nat
  sat : Bool
deriving DecidableEq, Repr

/-- An engine as its domain leaves reset. -/
def OptDie.idle : OptDie := ⟨none, [], [], [], [], 0, false, 0, false⟩

/-- The step of the job (R225 to R230): a marker that waits, STEP_END that waits for the entries, the vote under way with
the device's verdict and the job's once it is there, the restores of a retract under way, and which slot the next commit
record goes to. -/
structure StepState where
  markWaits : Bool
  endWaits : Bool
  voting : Bool
  verdict : Bool
  jobVerdict : Option Bool
  restoring : Bool
  commitSlot : Nat
deriving DecidableEq, Repr

/-- Optimizer engines of the four dies, and the step. -/
structure OptState where
  dies : List OptDie
  step : StepState
deriving DecidableEq, Repr

/-- No step. -/
def StepState.idle : StepState := ⟨false, false, false, false, none, false, 0⟩

/-- Every engine as its domain leaves reset. -/
def OptState.idle : OptState := ⟨List.replicate 4 OptDie.idle, StepState.idle⟩

/-! ### Collective engines (R257 to R281) -/

/-- One 64 B unit of a contribution (R263, R279): phase and index of its descriptor, level, digit, offset in the part, data. -/
structure ColUnit where
  phase : Nat
  desc : Nat
  level : Nat
  digit : Nat
  off : Nat
  data : List Byte
deriving DecidableEq, Repr

/-- A descriptor in flight (R261): its schedule index and bytes, the level it is at (0 before the first), whether it runs
back through the levels, the verdict of a vote so far, and how many 64 B units of contributions it expects and has added (R279). -/
structure ColRun where
  index : Nat
  bytes : List Byte
  level : Nat
  back : Bool
  verdict : Bool
  expected : Nat
  added : Nat
deriving DecidableEq, Repr

/-- A collective engine beside its registers: descriptors in flight, the next one to start, maps verified in this job,
contributions that have arrived, norm partials as `(table index, rank, value)`, whether a JOIN runs, ranges that WRITEs have filled and no
descriptor has taken yet as `(writer's node, address, bytes)`, and contributions whose receive units are withheld as `(port, units)` (R263). -/
structure ColDie where
  runs : List ColRun
  next : Nat
  verified : List Nat
  units : List ColUnit
  norms : List (Nat × Nat × Nat)
  joining : Bool
  arrived : List (Nat × Nat × Nat)
  withheld : List (Nat × Nat)
deriving DecidableEq, Repr

/-- An engine as its domain leaves reset. -/
def ColDie.idle : ColDie := ⟨[], 0, [], [], [], false, [], []⟩

/-! ### Rope (R282 to R311) -/

/-- A frame as it arrives: whether its FCS is right, its bytes from the destination MAC up to the FCS, and the FEC symbols corrected on
the two receive lanes since the frame before (R310). -/
structure RxFrame where
  fcsGood : Bool
  bytes : List Byte
  corrected : Nat × Nat
deriving DecidableEq, Repr

/-- On whose behalf a request is made. -/
inductive RopeUse where
  | col (desc : Nat)
  | mirror
  | restore (addr : Nat)
  | generation (slot : Nat)
deriving DecidableEq, Repr

/-- A request of a ridge die (R297 to R302): what it asks, the tag and port of its last transmission once sent, the times of
its first and last transmission, whether it was resolved again after WRONG_NODE, whether it waits after DEDUP_FULL, and whether
it waits for a port of its plane to come up. -/
structure RopeReq where
  use : RopeUse
  type : Nat
  node : Nat
  die : Nat
  addr : Nat
  payload : List Byte
  arg : Nat
  phase : Nat
  tag : Nat
  port : Nat
  first : Nat
  last : Nat
  resolved : Bool
  refused : Bool
  parked : Bool
deriving DecidableEq, Repr

/-- A deduplication entry (R298): its source, the highest tag, the tags of its window that were executed with the status each
ended with, and when it was last used. A request executes within one command, so none is seen executing. -/
structure DedupEntry where
  node : Nat
  die : Nat
  high : Nat
  tags : List (Nat × Nat)
  used : Nat
deriving DecidableEq, Repr

/-- A frame that waits to be sent on a port: its virtual channel, the Rope header and payload without hop fields, the node of the relay
that it goes to on a fabric port when that is not its destination, and, for a frame that this device relays, the port whose receive
buffer it still occupies with its units (R290, R294, R301). -/
structure TxFrame where
  vc : Nat
  bytes : List Byte
  via : Option Nat
  buffer : Option (Fin 16 × Nat)
deriving DecidableEq, Repr

/-- A port beside its registers (R282 to R309): frames that wait for credit or space, sent frames not acknowledged with
their SEQ, replays without progress, the far end's FREED counts, units this end has freed and last reported, frames received
since the last LINK acknowledgement, virtual channels paused by the switch and by this end, requests held in the receive
buffers with the node that sent them on this hop, receive units in use, the far end's HELLO as team, slot, node and shape, units in the
buffer of virtual channel 3, whether the transmit direction moves to its surviving lane until the far end confirms, the receive lane
whose loss this end has still to confirm, whether a question for job time is unanswered, and the pre-emphasis of the two transmit
lanes. -/
structure RopePort where
  waiting : List TxFrame
  replay : List (Nat × TxFrame)
  replays : Nat
  peerFreed : List Nat
  freed : List Nat
  reported : List Nat
  unacked : Nat
  paused : Nat
  pausing : Nat
  held : List (Nat × List Byte)
  inUse : List Nat
  hello : Option (Nat × Nat × Nat × Nat)
  link : Nat
  moving : Bool
  confirm : Option Nat
  asked : Bool
  preEmphasis : List Nat
deriving DecidableEq, Repr

/-- A port that is down. -/
def RopePort.idle : RopePort := ⟨[], [], 0, [0, 0, 0], [0, 0, 0], [0, 0, 0], 0, 0, 0, [], [0, 0, 0], none, 0, false, none, false, [0, 0]⟩

/-- The die-wide part of Rope: the next tag, requests that wait for a tag, outstanding ones, deduplication entries. -/
structure RopeDie where
  nextTag : Nat
  queue : List RopeReq
  open_ : List RopeReq
  dedup : List DedupEntry
deriving DecidableEq, Repr

/-- A die with no request. -/
def RopeDie.idle : RopeDie := ⟨0, [], [], []⟩

/-! ### What leaves the block -/

/-- Everything the block shows its surroundings, in order: read data and statuses, completions, messages, frames,
replies and pin levels (the model's own log of its outputs). -/
inductive Output where
  | readData (req : Requester) (addr : Nat) (status : MemStatus) (data : List Byte)
  | writeDone (req : Requester) (addr : Nat) (status : MemStatus)
  | regValue (value : Word)
  | completion (status : CplStatus) (data : List Byte)
  | msix (vector addr data : Nat)
  | t1s (r : T1sResponse)
  | announce (level : Nat)
  | lamp (r : LampReply)
  | exception (hart : Nat) (e : HartException) (addr : Nat)
  | hartData (hart : Nat) (data : List Byte)
  | claim (hart mode source : Nat)
  | errPin (low : Bool)
  | frame (port : Nat) (bytes : List Byte)
  | pause (port : Nat) (priority : Nat) (on : Bool)
  | normPartial (die entry value : Nat)
  | evalDraw (request position draw : Nat)
deriving DecidableEq, Repr

end Sys2Proof.Machine
end

