-- ==== Sys2Proof/Syntax.lean ====
section
/-! DEFINITION. The commands of the device, one for each row of the manual's table of operations and events. -/

namespace Sys2Proof

open Machine

/-- The commands that reach the device, with what each carries from outside. -/
inductive Instr where
  /-- REGISTER_WRITE: software writes a register, whole or one half (R12, R14 to R16). -/
  | registerWrite (r : Reg) (h : Half) (v : WriteData)
  /-- AUX_RAIL_ON: the auxiliary rail enters tolerance and stage 1 begins; the factory strap is read (R357, R366).
      -/
  | auxRailOn (strapLow : Bool)
  /-- AUX_RAIL_LOSS: the auxiliary rail leaves tolerance: the device is absent; flash, fuses and firmware slots
      remain, and a flash write under way is torn (R45, R348, R359, R405, R434). -/
  | auxRailLoss
  /-- MAIN_RAIL_ON: the main rail is in tolerance with PWR_EN asserted (R357, R459). -/
  | mainRailOn
  /-- MAIN_RAIL_LOSS: the main rail leaves tolerance or PWR_EN falls: a job is lost without a report or an end
      code, the tiers lose their contents, and the device falls to S0 (R45, R59, R348, R349, R460). -/
  | mainRailLoss
  /-- ROOT_PLL_LOCK: the root PLL locks; the timestamp starts at the first lock (R32, R34). -/
  | rootPllLock
  /-- REFERENCE_LOST: the reference or the lock is lost. Before stage 1 has ended there is no Fatal (R33). -/
  | referenceLost
  /-- CLOCK_RESTART: lock has held for 1 ms after a stop under R33: the anchor main and ridge domains are reset,
      and the boot order runs from stage 2 when the main rail allows (R33). A stop under R395 ends only with the main
      rail. -/
  | clockRestart
  /-- PERST_ASSERT: only the PCIe domain is reset (R349). -/
  | perstAssert
  /-- PERST_RELEASE: the PCIe domain leaves reset once stage 2 has ended (R348, R465). -/
  | perstRelease
  /-- HOUSEKEEPING_STAGE_END: stage 1 ends: repair record, fence mask, kept entries and pinned records are loaded,
      the journal starts, the device is at S0 (R357, R359, R405, R434, R445). -/
  | housekeepingStageEnd
  /-- BASECAMP_STAGE_END: stage 2 ends: Basecamp firmware from a slot, or recovery (R363, R465). -/
  | basecampStageEnd
  /-- MANIFEST_CHECK: stage 3 (R364, R365). -/
  | manifestCheck
  /-- TOKEN_WINDOW_CLOSE: 10 s after stage 3 without a valid token (R366). -/
  | tokenWindowClose
  /-- BELAY_TRAINING: stage 4 ends with the wire groups that failed (R354). -/
  | belayTraining (failed : List (Fin 8 × Fin 128))
  /-- LEDGE_MARCH_STAGE: stage 5 ends with the rows found failing (R190). -/
  | ledgeMarchStage (fails : List (Fin 4 × Fin 192 × Fin 1032))
  /-- RIDGE_STAGE: stage 6 ends with the dies that started (R357). -/
  | ridgeStage (ok : BitVec 4)
  /-- NEAR_TRAINING: stage 7 ends with the stacks that trained; the retirement tables are in force again (R56,
      R357). -/
  | nearTraining (ok : BitVec 8)
  /-- MORAINE_TRAINING: stage 8 ends with the channels that trained (R59, R357). -/
  | moraineTraining (ok : BitVec 24)
  /-- ROPE_BRINGUP: stage 9 ends (R305, R357). -/
  | ropeBringup
  /-- SERVICE_ANNOUNCE: stage 10 (R44, R357). -/
  | serviceAnnounce
  /-- STAGE_TIMEOUT: the limit of the stage in progress passes; `finished` names the units that have finished:
      edges for stage 4, dies for stages 5 and 6, stacks for 7, channels for 8 (R357). -/
  | stageTimeout (finished : BitVec 24)
  /-- DIE_RESET: a write of DIE_RESET (R349, R369). -/
  | dieReset (dies : BitVec 4)
  /-- DIE_RESET_DONE: the rerun ends (R369). -/
  | dieResetDone
  /-- HK_REPAIR_MAP_WRITE (R359). -/
  | hkRepairMapWrite (n : Fin 4) (map : BitVec 44)
  /-- REPAIR_FLASH_WRITE: a flash write of the repair record completes (R359). -/
  | repairFlashWrite
  /-- NEAR_READ: one foreground read of the 64 B block that holds `a`, with the errors that the code meets there (R53 to
      R55). -/
  | nearRead (r : Requester) (a : Nat) (errs : NearErrors)
  /-- NEAR_WRITE: a write of a whole 64 B block (R54). -/
  | nearWrite (r : Requester) (a : Nat) (data : List Byte)
  /-- NEAR_PARTIAL_WRITE: a write of part of a block, with the errors that its internal read meets (R53, R54). -/
  | nearPartialWrite (r : Requester) (a : Nat) (errs : NearErrors) (data : List Byte)
  /-- MORAINE_ACCESS: a read of `len` bytes, or a write of `data`, within one 64 B block of the moraine tier (R57
      to R59). -/
  | moraineAccess (r : Requester) (a : Nat) (len : Nat) (data : Option (List Byte)) (e : MoraineError)
  /-- UNMAPPED_ACCESS: an access to an address that no tier and no register occupies (R62), or to a disabled host
      segment (R60). -/
  | unmappedAccess (r : Requester) (a : Nat) (len : Nat) (data : Option (List Byte))
  /-- NT_RETIRE: a GO write (R55, R56). -/
  | ntRetire (stack : Fin 8) (frame : Nat)
  /-- RETIRE_COPY_DONE: the copy ends, the frame enters the table, stalled accesses are released (R55, R56). -/
  | retireCopyDone
  /-- MOR_RETIRE: a GO write (R58). -/
  | morRetire (channel : Fin 32) (frame : Nat)
  /-- MOR_RETIRE_COPY_DONE: the frame is served from its substitute slot of the same channel (R58). -/
  | morRetireCopyDone
  /-- DRIFT_CHECK: the drift of each channel in thousandths of a unit interval; beyond one eighth the write timing
      is retrained. -/
  | driftCheck (drifts : List Nat)
  /-- MORAINE_CASE_HOT: the package case of a channel passes 85 °C and its refresh interval is halved; deliverable
      bandwidth is computed at once with about 3 % of the channel lost (R59, R70). -/
  | moraineCaseHot (ch : Fin 24)
  /-- SELF_REFRESH_ENTRY: a channel idle for 1 ms while the device is in Hold or holds no job. -/
  | selfRefreshEntry (ch : Fin 24)
  /-- SELF_REFRESH_EXIT: the channel leaves self-refresh for a waiting access, which is then served. -/
  | selfRefreshExit (ch : Fin 24)
  /-- SELF_REFRESH_SCRUB_WAKE: every 64 ms the channel wakes for the scrub that has fallen due. -/
  | selfRefreshScrubWake (ch : Fin 24)
  /-- HOST_ERROR_COMPLETION: the host completes a request of the device with Unsupported Request or Completer
      Abort (R60). -/
  | hostErrorCompletion (r : Requester) (a : Nat) (len : Nat) (isRead : Bool)
  /-- SWAP_DESC_TAKE (R61). -/
  | swapDescTake (q : Fin 8)
  /-- SWAP_DESC_SKIP: a descriptor cancelled with STATUS 4 before it was taken (R61). -/
  | swapDescSkip (q : Fin 8)
  /-- SWAP_DESC_DONE: the transfer ends, or stops on a failed access (R61). -/
  | swapDescDone (q : Fin 8)
  /-- SCRUB_READ: the next block of a pass over the near tier or the moraine tier, in a cycle without foreground
      traffic on its channel (R63, R64, R66). -/
  | scrubRead (near : Bool) (find : ScrubFind)
  /-- SCRUB_OVERDUE: a pass has not finished within 24 hours (R63). -/
  | scrubOverdue (near : Bool)
  /-- CALIBRATION_TRIGGER: the stack's temperature, in 1/16 °C, has moved by 4 °C, or 256 ms have passed (R65). -/
  | calibrationTrigger (stack : Fin 8) (temp : Int)
  /-- CALIBRATION_STEAL: 24 ms after the trigger the controller takes each remaining channel in turn (R65). -/
  | calibrationSteal (stack : Fin 8)
  /-- CALIBRATION_CHANNEL_DONE: the next channel follows, or a restart from channel 0 for a new trigger (R65). -/
  | calibrationChannelDone (stack : Fin 8)
  /-- DELIVERABLE_COMPUTE: every 1 ms, with the refresh and PHY losses of the four tiers in MB/s (R70). -/
  | deliverableCompute (losses : List Nat)
  /-- CONTRACT_STALL_RELEASE: the oldest stalled burst of a requester is released once its charge allows it (R68).
      -/
  | contractStallRelease (r : Requester)
  /-- KV_ENABLE: a write of EN in NT_KV_CFG, with the value written (R80). -/
  | kvEnable (en : Bool)
  /-- ADMIT: the command of NT_KV_CMD with OP 1 (R94). -/
  | kvAdmit (n : BitVec 16)
  /-- RESUME: the command of NT_KV_CMD with OP 2 (R94, R98). -/
  | kvResume (n : BitVec 16)
  /-- CANCEL: the command of NT_KV_CMD with OP 3 (R94, R99). -/
  | kvCancel (n : BitVec 16)
  /-- PREEMPT: the command of NT_KV_CMD with OP 4 (R94, R97). -/
  | kvPreempt (n : BitVec 16)
  /-- KV_STEP_ALLOCATION: a generation-step boundary, with the running sequences that the step carries into a new
      page; each gets one near frame before the step runs (R97). -/
  | kvStepAllocation (entering : List (BitVec 16))
  /-- KV_MOVE_COMPLETE: the manager takes up the completion of the move whose record has this index, once its
      descriptor has ended (R97, R99). -/
  | kvMoveComplete (tag : BitVec 32)
  /-- NOP: tile operation 0x00 (R137). -/
  | tcNop (d : Fin 4) (k : Fin 11)
  /-- HALT: once every earlier operation has completed RUN clears and DONE sets (R137, R148). -/
  | tcHalt (d : Fin 4) (k : Fin 11)
  /-- FENCE: issues once every earlier operation has completed (R137). -/
  | tcFence (d : Fin 4) (k : Fin 11)
  /-- WAIT_SEQ: issues once the fusion buffer's count is not older than the value (R137, R165). -/
  | waitSeq (d : Fin 4) (k : Fin 11)
  /-- POST_SEQ: once every earlier ledge write is complete, the count is published (R137, R165). -/
  | postSeq (d : Fin 4) (k : Fin 11)
  /-- WAIT_OWN: issues once the core owns every bank that the tile touches (R137). -/
  | waitOwn (d : Fin 4) (k : Fin 11)
  /-- LEND: the core is offered to the optimizer engine, which holds it, or returns it at once (R137, R217). -/
  | tcLend (d : Fin 4) (k : Fin 11)
  /-- LEND_RETURN: the engine returns a core that it holds (R217). -/
  | lendReturn (d : Fin 4) (k : Fin 11)
  /-- LDW: the tiles of the group fill the shadow plane, one for each problem (R124, R128, R137). -/
  | ldw (d : Fin 4) (k : Fin 11)
  /-- SWPW: exchanges the two weight planes, after the last LDW has completed (R124, R139). -/
  | swpw (d : Fin 4) (k : Fin 11)
  /-- MM: every problem's activation rows stream through the active plane into a bank (R116 to R120, R129, R137).
      -/
  | mm (d : Fin 4) (k : Fin 11)
  /-- DRAIN: each problem's tile of the bank is converted row by row and written; the T-clock cycle in which a row
      is converted is not fixed by the model, so its draws come from a free cycle count (R111, R113, R137; log entry
      1). -/
  | drain (d : Fin 4) (k : Fin 11)
  /-- SMAX: the softmax of each row of a bank, and the two statistics of each row (R141). -/
  | smax (d : Fin 4) (k : Fin 11)
  /-- KV_APPEND: NROWS positions of one layer are quantised into KV pages; an append out of order, of another
      format or beyond the reservation is rejected before it writes anything (R85 to R88, R96, R143). -/
  | kvAppend (d : Fin 4) (k : Fin 11)
  /-- KV_SELECT: the eligible pages of a query block are scored from the cairn index, and the selected ones are
      written into the record (R89, R90, R143). -/
  | kvSelect (d : Fin 4) (k : Fin 11)
  /-- KV_ATTN: attention over the listed pages, with its statistics and the generations read (R91 to R93, R143).
      -/
  | kvAttn (d : Fin 4) (k : Fin 11)
  /-- KV_ATTN_BWD: the listed pages from FIRST, as many as fit dK and dV; the probabilities are recomputed from
      the record's statistics, and dQ, dK and dV are written (R92, R93, R143). -/
  | kvAttnBwd (d : Fin 4) (k : Fin 11)
  /-- KV_MOVE: planned moves of NROWS pages are posted; a page that lies in no near or moraine frame, and a
      destination beyond the reservation, stop the operation (R92, R96, R97). -/
  | kvMove (d : Fin 4) (k : Fin 11)
  /-- TC_OP_COMPLETE: the operation in flight that issued at this PC completes (R137, R138). -/
  | tcOpComplete (d : Fin 4) (k : Fin 11) (pc : BitVec 16)
  /-- TC_RUN: a write of 1 to RUN starts issue at TC_PC; a core without a logical number ignores it (R146, R148).
      -/
  | tcRun (d : Fin 4) (k : Fin 11)
  /-- TC_STOP: issue stops at the next operation boundary (R148). -/
  | tcStop (d : Fin 4) (k : Fin 11)
  /-- TC_STOP_DONE: the operations in flight have completed; RUN and STOP clear together (R148). -/
  | tcStopDone (d : Fin 4) (k : Fin 11)
  /-- TC_PROG_LIMIT_ADVANCE: a write of TC_PROG_LIMIT by software or a traverse engine (R133, R487). -/
  | tcProgLimitAdvance (d : Fin 4) (k : Fin 11) (index : BitVec 16)
  /-- TC_WAIT_TIMEOUT: the oldest operation has waited longer than TC_WAIT_LIMIT (R145, R148). -/
  | tcWaitTimeout (d : Fin 4) (k : Fin 11)
  /-- TC_REMAP_WRITE: a write of MAP, accepted only in Hold with every core of the die stopped (R146). -/
  | tcRemapWrite (d : Fin 4) (map : BitVec 44)
  /-- TRV_NOP: the descriptor OP 0; it completes in its turn (R152, R167). -/
  | trvNop (d : Fin 4) (j : Fin 22)
  /-- COPY: the descriptor OP 1 starts once its checks pass (R151 to R164, R169 to R173). -/
  | trvCopy (d : Fin 4) (j : Fin 22)
  /-- FILL: the descriptor OP 2 starts once its checks pass (R160, R163, R168, R172). -/
  | trvFill (d : Fin 4) (j : Fin 22)
  /-- TRV_FENCE: the descriptor OP 3: it completes once every earlier descriptor has (R152). -/
  | trvFence (d : Fin 4) (j : Fin 22)
  /-- TRV_HALT: the descriptor OP 4: as FENCE, and then RUN clears and DONE sets (R152, R174). -/
  | trvHalt (d : Fin 4) (j : Fin 22)
  /-- TRV_DESC_COMPLETE: the oldest running descriptor of an engine completes: its data lies at the destination,
      its count is published, and TRV_DONE is raised when asked (R151, R167, R172, R173). -/
  | trvDescComplete (d : Fin 4) (j : Fin 22)
  /-- TRV_RUN: a write of 1 to RUN starts descriptors at TRV_PC (R174). -/
  | trvRun (d : Fin 4) (j : Fin 22)
  /-- TRV_STOP: the engine stops at the next descriptor boundary; a waiting descriptor is abandoned (R174). -/
  | trvStop (d : Fin 4) (j : Fin 22)
  /-- TRV_STOP_DONE: no descriptor runs any more; RUN and STOP clear together (R174). -/
  | trvStopDone (d : Fin 4) (j : Fin 22)
  /-- TRV_LIMIT_ADVANCE: a write of TRV_LIMIT (R150). -/
  | trvLimitAdvance (d : Fin 4) (j : Fin 22) (index : BitVec 9)
  /-- TRV_WAIT_TIMEOUT: the waiting descriptor has waited longer than TRV_WAIT_LIMIT (R167, R172). -/
  | trvWaitTimeout (d : Fin 4) (j : Fin 22)
  /-- FUSION_PUBLISH: counts that reach one buffer in the same H-clock cycle (R166). -/
  | fusionPublish (d : Fin 4) (b : Fin 256) (counts : List (BitVec 32))
  /-- FUSION_COUNT_WRITE: a software write of COUNT, with the publications of its cycle, which are judged against
      the written value (R166, R175). -/
  | fusionCountWrite (d : Fin 4) (b : Fin 256) (count : BitVec 32) (counts : List (BitVec 32))
  /-- LEDGE_MODE_CHANGE: a write of POOLED; a change sets every owner to 0x32 (R178). -/
  | ledgeModeChange (d : Fin 4) (pooled : Bool)
  /-- LDG_GIVE: the writes that arrive in one cycle, each with its source, the registers it covers and their words (R181). -/
  | ldgGive (d : Fin 4) (writes : List (GiveSource × List (Fin 8 × Word)))
  /-- GIVE_HELD_APPLY: the test of a sub-bank under a transparent march ends (R181). -/
  | giveHeldApply (d : Fin 4)
  /-- LEDGE_ACCESS: the requests on ports 0 and 1 of one T-clock cycle, with the wrong bits that each meets in the
      four quarters of its word (R184 to R187). -/
  | ledgeAccess (d : Fin 4) (port0 : LedgeReq) (port1 : Option LedgeReq) (errs0 : List Nat) (errs1 : List Nat)
  /-- LEDGE_RETRY: the next cycle serves the requests that received collision status (R184). -/
  | ledgeRetry (d : Fin 4)
  /-- MARCH_DESTRUCTIVE: GO with TRANSP 0 (R188). A write while a march runs starts none. -/
  | marchDestructive (d : Fin 4) (banks : BitVec 48)
  /-- MARCH_TRANSPARENT: GO with TRANSP 1 (R189). -/
  | marchTransparent (d : Fin 4) (banks : BitVec 48)
  /-- MARCH_DONE: a march ends with the rows it found failing (R188, R189). A transparent march only reports them.
      -/
  | marchDone (d : Fin 4) (fails : List (Fin 192 × Fin 1032))
  /-- SOFT (R191). -/
  | ledgeSoft (d : Fin 4) (g : Fin 256) (row : Fin 1024)
  /-- SOFT_COPY (R191). -/
  | ledgeSoftCopy (d : Fin 4) (g : Fin 256) (row : Fin 1024)
  /-- FUSE (R191): the command stays busy for 2 ms. -/
  | ledgeFuse (d : Fin 4) (g : Fin 256) (row : Fin 1024)
  /-- FUSE_DONE: fusing ends, well or not (R191). -/
  | ledgeFuseDone (d : Fin 4) (ok : Bool)
  /-- RELEASE (R191): the row is served by its data row again. -/
  | ledgeRelease (d : Fin 4) (g : Fin 256) (row : Fin 1024)
  /-- DET_REQUEST: the service starts the next descriptor, checks it, and decodes and suppresses its candidates
      (R200 to R203). -/
  | detRequest
  /-- DET_REQUEST_DONE: the request ends: STATUS and COUNT, then DONE, then DET_DONE to the host (R200). -/
  | detRequestDone
  /-- GRAD_QUANTISE: the quantisation pass of an entry (R209, R210). The T-clock cycle of a stochastic conversion
      is not fixed by the model (log entry 1). -/
  | gradQuantise (d : Fin 4) (entry : BitVec 16)
  /-- FALLBACK_PUBLISH: on the fallback path QPOST_BUF is published at once (R211). -/
  | fallbackPublish (d : Fin 4) (entry : BitVec 16)
  /-- ENTRY_APPLY: the engine takes the entry whose GRAD_BUF count arrived first, or carries the one in hand on to
      its next wait: for the team's norm, for the mirror, for lent cores or for a team product (R212 to R223). -/
  | entryApply (d : Fin 4)
  /-- PASS_ENTRY: a mode 3 entry runs its program once, on LOCAL without the loss scale, and publishes DONE_BUF
      (R212, R214). -/
  | passEntry (d : Fin 4) (entry : BitVec 16)
  /-- MARK: a write of MARK on a die whose RIDGE_MASK bit is set (R206, R225). -/
  | stepMark (d : Fin 4)
  /-- STEP_END: a write of STEP_END ends the attempt; the vote follows once every entry is done (R206, R225). -/
  | stepEnd (d : Fin 4)
  /-- JOB_VERDICT: the verdict that the vote returned: a pass commits, a fail begins the restores (R225 to R228).
      -/
  | jobVerdict
  /-- RETRACT_RESTORE_DONE: the log entries of the attempt are restored on every die, then the counters change;
      the loss-scale floor is reported, and RETRACT_LIMIT stops the engine (R227, R228). -/
  | retractRestoreDone
  /-- OPT_WAIT_TIMEOUT: a fusion wait, the team's norm sum or the vote exceeds OPT_WAIT_LIMIT (R213, R231, R268).
      -/
  | optWaitTimeout (d : Fin 4)
  /-- JOB_LOAD: LOAD in BC_JOB_CTRL with the plan image at BC_JOB_PLAN: the checks of R233, then acceptance or
      refusal (R233 to R237). -/
  | jobLoad (plan : Plan)
  /-- END: a write of END to BC_JOB_CTRL (R236, R237). -/
  | jobEndRequest
  /-- ABORT: a write of ABORT to BC_JOB_CTRL (R236, R237). -/
  | jobAbort
  /-- JOB_END: the end of a job goes on: cores and engines stop, a cut-off attempt is restored, moves taken
      complete, and then the rest of R236 in its order. While something issued or taken has not completed, STATE stays
      ENDING (R236, R256). -/
  | jobEnd
  /-- EVAL_TAKE: the next descriptor is taken and checked; an invalid one completes with STATUS 5 (R248). -/
  | evalTake
  /-- EVAL_STEP_BOUNDARY: the step that ends leaves its tokens, as ring index and identifier; with `refresh`, the
      refresh of the snapshot `snap` takes effect now. Then the five actions of R249 (R249 to R251). -/
  | evalStepBoundary (tokens : List (Fin 1024 × BitVec 20)) (refresh : Bool) (snap : BitVec 40)
  /-- EVAL_SLICE_ERROR: a core of the slice has stopped on an error: the others stop, running sequences are
      cancelled, and their requests complete with STATUS 4 (R252). -/
  | evalSliceError
  /-- JOIN: a write of JOIN: a device without a team joins at once; otherwise HK_SHAPE goes to every other slot
      (R259). -/
  | teamJoin (d : Fin 4)
  /-- JOIN_TIMEOUT: 100 ms after JOIN some slot has not answered (R259). -/
  | joinTimeout (d : Fin 4)
  /-- REDUCE: the next descriptor, a REDUCE, starts (R261 to R264). -/
  | colReduce (d : Fin 4)
  /-- REDUCE_SCATTER: the next descriptor, a REDUCE_SCATTER, starts (R261 to R264). -/
  | colReduceScatter (d : Fin 4)
  /-- GATHER: the next descriptor, a GATHER, starts (R269). -/
  | colGather (d : Fin 4)
  /-- SEND: the next descriptor, a SEND, starts (R269). -/
  | colSend (d : Fin 4)
  /-- RECV: the next descriptor, a RECV, starts (R269). -/
  | colRecv (d : Fin 4)
  /-- VOTE: the next descriptor, a VOTE, starts; on the leader once the device's verdict is there (R268). -/
  | colVote (d : Fin 4)
  /-- SWITCH: the next descriptor, a SWITCH, starts; its barrier waits for earlier descriptors (R274). -/
  | colSwitch (d : Fin 4)
  /-- SWITCH_BARRIER_DONE: the barrier of a SWITCH has returned: CURRENT changes, and requests held for the new
      phase are served (R274). -/
  | switchBarrierDone (d : Fin 4)
  /-- RESHARD: the next descriptor, a RESHARD, starts; its barrier waits for the transfer (R275, R276). -/
  | colReshard (d : Fin 4)
  /-- RESHARD_BARRIER_DONE: the barrier of a RESHARD has returned: SCRATCH is copied over DST and the phase
      changes; a marker that waited runs (R275, R276). -/
  | reshardBarrierDone (d : Fin 4)
  /-- COL_DESC_COMPLETE: a descriptor whose parts are through completes (R261). -/
  | colDescComplete (d : Fin 4) (index : BitVec 16)
  /-- REDUCE_CONTRIB: a contribution of the current phase arrives: it is added in ascending digit order, or waits
      (R263, R279). -/
  | reduceContrib (d : Fin 4) (desc : BitVec 16) (level : Fin 4) (digit : Fin 64) (off : BitVec 48) (bytes : List Byte)
  /-- NORM_PARTIAL: the partial of a member of the norm group arrives; with all eight the total is there (R267).
      -/
  | normPartial (d : Fin 4) (entry : BitVec 16) (rank : Fin 8) (value : BitVec 32)
  /-- COL_WAIT_TIMEOUT: a wait of a descriptor exceeds COL_WAIT_LIMIT (R278, R280). -/
  | colWaitTimeout (d : Fin 4)
  /-- COL_STOP: a write of STOP: the engine stops at the next descriptor boundary (R281). -/
  | colStop (d : Fin 4)
  /-- ROPE_READ: a READ frame arrives (R288, R290). -/
  | ropeRead (p : Fin 16) (x : RxFrame)
  /-- ROPE_WRITE: a WRITE frame arrives (R288, R298). -/
  | ropeWrite (p : Fin 16) (x : RxFrame)
  /-- ROPE_REDUCE: a REDUCE frame arrives (R263, R288, R298). -/
  | ropeReduce (p : Fin 16) (x : RxFrame)
  /-- READ_RESP: a READ_RESP frame completes an outstanding read, or is late (R297). -/
  | readResp (p : Fin 16) (x : RxFrame)
  /-- ACK: an ACK frame completes an outstanding request, or is late (R297). -/
  | ropeAck (p : Fin 16) (x : RxFrame)
  /-- NACK: WRONG_NODE resolves the slot and resends once, DEDUP_FULL waits for its resend, STALE ends the request
      (R298, R299, R302). -/
  | ropeNack (p : Fin 16) (x : RxFrame)
  /-- CREDIT: a CREDIT frame arrives on a team port (R292). -/
  | ropeCredit (p : Fin 16) (x : RxFrame)
  /-- LINK: a LINK frame acknowledges frames of a team port, and a NAK has the rest replayed (R296). -/
  | ropeLink (p : Fin 16) (x : RxFrame)
  /-- HEARTBEAT: a HEARTBEAT frame arrives: slots heard, FAILING, LEAVING, and the restart's flags (R417 to R425).
      -/
  | ropeHeartbeat (p : Fin 16) (x : RxFrame)
  /-- TIME: a TIME frame: a question is answered with the receiver's job time, an answer of the source sets
      OFFSET; the four timestamps are those of sending and receiving, both ways (R309). -/
  | ropeTime (p : Fin 16) (x : RxFrame)
  /-- LANE: a LANE frame: 0 a pre-emphasis request, 1 a failed lane named by its number here, 2 a confirmation;
      the layout is the model's (R306, R308; log entry 12). -/
  | ropeLane (p : Fin 16) (x : RxFrame)
  /-- HELLO: a HELLO frame arrives (R259, R305). -/
  | ropeHello (p : Fin 16) (x : RxFrame)
  /-- ROPE_RELAY: a frame with RELAY for another node goes on towards it unchanged but for its hop's bytes, or is
      discarded (R301). -/
  | ropeRelay (p : Fin 16) (x : RxFrame)
  /-- NEIGHBOR_SOLICITATION: a Neighbor Solicitation for the address of a fabric port in IPv6 mode is answered
      (R286). -/
  | neighborSolicitation (p : Fin 16) (x : RxFrame)
  /-- CREDIT_REPORT_TIMER: units have stayed unreported for 50 ns, or 100 µs have passed since the last CREDIT
      frame (R292). -/
  | creditReportTimer (p : Fin 16)
  /-- LINK_ACK_TIMER: 1 µs after a frame the receiver acknowledges (R296). -/
  | linkAckTimer (p : Fin 16)
  /-- REPLAY_TIMEOUT: 8 µs with frames unacknowledged and no acknowledgement (R296). -/
  | replayTimeout (p : Fin 16)
  /-- REQ_TIMEOUT: no response REQ_TIMEOUT after the last transmission: the request goes out again with RETX on
      the next port of its plane that is up (R299). -/
  | reqTimeout (d : Fin 4) (tag : BitVec 32)
  /-- PATH_LIMIT: PATH_LIMIT has passed since a request's first transmission without a response (R302). -/
  | pathLimit (d : Fin 4) (tag : BitVec 32)
  /-- DEDUP_FULL_RESEND: 10 µs after a NACK DEDUP_FULL the request is sent again; that is no retransmission
      (R298). -/
  | dedupFullResend (d : Fin 4) (tag : BitVec 32)
  /-- HELLO_TIMER: 100 ms after the last HELLO of a team port (R305). -/
  | helloTimer (p : Fin 16)
  /-- PORT_UP: auto-negotiation and link training of an enabled port end, with the figures of merit of its lanes
      (R305, R306). -/
  | portUp (p : Fin 16) (foms : BitVec 32)
  /-- PORT_BRINGUP_TIMEOUT: 10 s have passed at stage 9: the port stays down (R305). -/
  | portBringupTimeout (p : Fin 16)
  /-- LANE_FAIL: a lane fails at this end; `partnerDrops` says whether the far end permits three lanes (R307,
      R308). The lane is named to a team port's far end by its number there. -/
  | laneFail (p : Fin 16) (l : Fin 4) (partnerDrops : Bool)
  /-- RETRAIN: a write of RETRAIN takes the port down and retrains all four lanes (R310). -/
  | ropeRetrain (p : Fin 16)
  /-- RETRAIN_DONE: a retrain ends, once the receive buffers are empty; credits are at their starting values
      (R294, R310). -/
  | ropeRetrainDone (p : Fin 16) (foms : BitVec 32)
  /-- TIME_EXCHANGE: every millisecond the device asks its source of job time, or notes that it is unreachable
      (R309). -/
  | timeExchange
  /-- VIDEO_DECODE: the next video request is taken by VE0 when it is free, else by VE1, under the sample limit,
      once the pool has the buffers that the sequence needs (R313, R317 to R322, R326, R327). -/
  | videoDecode
  /-- IMAGE_DECODE: the next image request is taken by the first free image decoder (R313, R322, R323, R327). -/
  | imageDecode
  /-- AUDIO_DECODE: the next audio request is taken by the first free audio decoder (R313, R324, R325, R327). -/
  | audioDecode
  /-- VIDEO_ENCODE: the next frame of an encode queue, 3 to 7, is taken and coded row by row into its stream's ring;
      the pass names the queue and the row boundaries that its pixel engine reaches meanwhile (R329 to R332). -/
  | videoEncode (q : EncodePass)
  /-- ENC_STALL_RESUME: the reader has freed space in a stalled stream's ring (R330). -/
  | encStallResume (n : Fin 5)
  /-- MED_REQUEST_COMPLETE: the request that a unit of a decode queue runs completes: tag, counters, TRV advance
      and MED_DONE, and its frame buffers are free (R315, R320, R328, R334). -/
  | medRequestComplete (q : Fin 3) (unit : Fin 8)
  /-- MED_DISABLE: EN in MED_CTRL is cleared (R333). -/
  | medDisable
  /-- TOKENIZE: the first free tokenizer takes the next descriptor, under the sample limit (R336 to R339). -/
  | tokenize
  /-- TOK_REQUEST_COMPLETE: a tokenizer's request completes: tag, counts, TRV advance and TOK_DONE (R315, R339).
      -/
  | tokRequestComplete (unit : Fin 4)
  /-- TOK_DISABLE: EN in TOK_CTRL is cleared (R340). -/
  | tokDisable
  /-- AUG_FILL: the first free generator takes the next descriptor and writes its elements (R341, R342). Its
      STATUS byte is written when the request completes. -/
  | augFill
  /-- AUG_REQUEST_COMPLETE: a generator's request completes: STATUS, TRV advance and AUG_DONE (R315, R342). -/
  | augRequestComplete (unit : Fin 4)
  /-- CHK_STREAM_OPEN: the next stream at a point under a tag opens (R344, R345). -/
  | chkStreamOpen (point : Fin 5) (tag : BitVec 16)
  /-- CHK_STREAM_CLOSE: the oldest open stream at a point under a tag closes (R344, R345). -/
  | chkStreamClose (point : Fin 5) (tag : BitVec 16)
  /-- CHK_STATE_WRITE: software writes STATE, or BYTES, of an engine when its stream has `upto` bytes before this
      cycle's, which are folded onto the written value (R345, R346). -/
  | chkStateWrite (e : Fin 21) (isBytes : Bool) (v : Word) (upto : Nat)
  /-- HART_RUN: software writes RUN in BC_HART (R373). -/
  | hartRun (run : BitVec 24)
  /-- HART_IO_ACCESS: a hart reads, or with `data` writes, 2^size bytes of an I/O range (R374, R376, R377). -/
  | hartIoAccess (h : Fin 24) (a : BitVec 48) (size : Fin 4) (data : Option Word)
  /-- IRQ_EVENT: an event on a source sets PEND, or merges with one that waits (R379, R380). -/
  | irqEvent (src : Fin 64)
  /-- CLAIM: a hart reads CLAIM of a context; `again` says that an event on the claimed source arrives in the same
      cycle. Two harts that read in one cycle are two commands, the lower-numbered hart's first (R380). -/
  | irqClaim (h : Fin 24) (m : Fin 2) (again : Bool)
  /-- COMPLETE: software writes a source number to COMPLETE of a context (R380). -/
  | irqComplete (h : Fin 24) (m : Fin 2) (src : Fin 64)
  /-- MSIP_SET: software writes BC_IRQ_MSIP_SET (R381). -/
  | msipSet (mask : BitVec 24)
  /-- MSIP_CLEAR: software writes BC_IRQ_MSIP; `set` are the bits that BC_IRQ_MSIP_SET sets in the same cycle
      (R381). -/
  | msipClear (mask : BitVec 24) (set : BitVec 24)
  /-- MACHINE_TIMER: mtime is compared with BC_IRQ_TIMECMP of a hart (R372). -/
  | machineTimer (h : Fin 24)
  /-- OPEN: the OPEN message of the mailbox (R367, R384). -/
  | mboxOpen
  /-- DICT_READ: the DICT_READ message (R384, R437). -/
  | dictRead
  /-- DICT_WRITE: the DICT_WRITE message, journalled with source 2 (R384, R437, R446). -/
  | dictWrite
  /-- FW_WRITE: the FW_WRITE message: data at an offset of the slot not in use (R363, R384). -/
  | fwWrite
  /-- FW_COMMIT: the FW_COMMIT message: the written slot is checked and marked (R361, R384). -/
  | fwCommit
  /-- FACTORY_TOKEN: the FACTORY_TOKEN message (R366, R384, R416). -/
  | factoryToken
  /-- DIAG: the DIAG message: while STATE is NONE it runs a test, whose result the manual does not state (R384).
      -/
  | mboxDiag
  /-- CLOSE: the CLOSE message (R384). -/
  | mboxClose
  /-- BUDGET_REDISTRIBUTE: every 100 µs, by demand; a budget changes only by 4 W or more (R389). -/
  | budgetRedistribute
  /-- BUDGET: the domain receives the message and adopts the budget (R390). -/
  | budgetAdopt (d : Fin 5)
  /-- BUDGET_ACK: the arbiter counts the new budget and sends pending raises (R390). -/
  | budgetAck (d : Fin 5)
  /-- BUDGET_ACK_LATE: no acknowledgement within 20 µs (R390). -/
  | budgetAckLate (d : Fin 5)
  /-- BUDGET_ACK_FATAL: 1 ms without an acknowledgement promotes the record to Fatal in place (R390, R404, R412);
      domain 4 stops the device. -/
  | budgetAckFatal (d : Fin 5)
  /-- DUTY_REJUDGE: every 1 µs a domain reports its draw and re-judges its duty (R387, R389, R391). `raw` is the
      draw measured at the regulators. -/
  | dutyRejudge (d : Fin 5) (raw : Nat)
  /-- MODE_CHANGE: a register write of MODE (R392). -/
  | modeChange (m : Fin 4)
  /-- THERMAL_LIMIT: a die above its limit sets THERMAL and caps its domain at 95 % of its budget, in native mode
      (R395). -/
  | thermalLimit (i : Fin 9) (temp : Int)
  /-- THERMAL_CAP_STEP: every 100 µs without a fall of temperature the cap falls by a further 5 % (R395). -/
  | thermalCapStep (d : Fin 5)
  /-- THERMAL_CLEAR: 10 ms at or below T_LIMIT − 2 °C (R395). -/
  | thermalClear (i : Fin 9) (temp : Int)
  /-- OVER_TEMPERATURE: a sensor above T_SHUT for 1 ms (R395). -/
  | overTemperature (i : Fin 9) (temp : Int)
  /-- COMPAT_DUTY: every 100 µs a ridge die takes its duty from its ledge die; a rise waits for a fall of 2 °C
      (R396). -/
  | compatDuty (n : Fin 4) (temp : Int)
  /-- BRAKE_ASSERT: PWR_BRAKE_N low for two samples (R397, R398). -/
  | brakeAssert
  /-- BRAKE_RELEASE: PWR_BRAKE_N high for 1 ms; the defaults return one domain at a time, domain 4 first (R399).
      -/
  | brakeRelease
  /-- GAIN_TRIM: every 1 ms, with the meter's reading and the raw draws averaged over it (R400). -/
  | gainTrim (meter : Nat) (raws : List Nat)
  /-- SENSOR_OFFSET_UPDATE: every 10 ms while a die is quiet (R401). `readings` are the uncorrected fast sensors.
      -/
  | sensorOffsetUpdate (i : Fin 9) (tref : Int) (power : Int) (refOk : Bool) (readings : List Int)
  /-- FAULT_RECORD: the collector accepts the oldest waiting event: a merge, a new record or a drop (R405 to
      R409). -/
  | faultRecord
  /-- FLT_ACK (R410). -/
  | fltAck (q : BitVec 32)
  /-- FLT_CLEAR (R415). -/
  | fltClear (q : BitVec 32)
  /-- FLT_INJECT: a write of FLT_INJECT: in factory test mode it raises the event it names, with its consequences;
      otherwise, or with another CLASS, it is refused (R416). -/
  | fltInject (w : Word)
  /-- GRACE_EXPIRY: the deadline passes (R412). -/
  | graceExpiry
  /-- ERR_PULSE_END (R414). -/
  | errPulseEnd
  /-- HB_ENABLE: EN is set after a successful JOIN (R418). -/
  | hbEnable
  /-- HB_DISABLE: EN is cleared: one heartbeat with LEAVING (R418). -/
  | hbDisable
  /-- FAIL: one heartbeat with FAILING, and EN is cleared (R418). -/
  | hbFail
  /-- HEARTBEAT_TICK: a whole millisecond of job time: SEEN and LEAD, the lead's declarations, then the heartbeats
      (R418, R419). -/
  | heartbeatTick
  /-- NOTICE: runtime software sends a notice, or one arrives beside the heartbeats: a new epoch with the failed
      node, all ones for a restart without promotion (R423). -/
  | restartNotice (epoch : BitVec 8) (failed : BitVec 32)
  /-- QUIESCE_COMPLETE: operations and descriptors issued have completed: a team that lost a member promotes its
      spare, the others agree (R424). -/
  | quiesceComplete
  /-- PROMOTE: a PROMOTE of the lead with the new MAP, in phase 4 (R424). -/
  | restartPromote (map : BitVec 36)
  /-- REPORT: masks REACH and FOREIGN of a member or of a whole team arrive (R425). -/
  | restartReport (r : ReachReport)
  /-- TARGET: the step that node 0 chose, or all ones (R425). -/
  | restartTarget (step : BitVec 40)
  /-- RESTORE_COMPLETE: the restore has come to its next end: generation records are there and the one of step T
      is chosen and pulled; or the data are complete and right, or the attempt is undone, and phase 7 begins (R424 to
      R426). -/
  | restoreComplete
  /-- REFILL_COMPLETE: the barrier over the job group runs (R424). -/
  | refillComplete
  /-- RESUME_BARRIER_DONE: the restart is over; MARK is written on the leader (R424). -/
  | resumeBarrierDone
  /-- MIRROR_COMPLETE: every write of the generation, the record last, is acknowledged: FLT_MGEN shows its step
      (R421). -/
  | mirrorComplete
  /-- T1S_READ (R442). -/
  | t1sRead (req : T1sRequest)
  /-- T1S_WRITE (R442). -/
  | t1sWrite (req : T1sRequest)
  /-- DISCOVER (R442). -/
  | discover (req : T1sRequest)
  /-- T1S_UNKNOWN_OP (R442). -/
  | t1sUnknownOp (req : T1sRequest)
  /-- KEPT_FLASH_WRITE: a flash write of the kept entries completes (R434). -/
  | keptFlashWrite
  /-- IDENTIFY (R453); `ambient` is the highest level measured while the frame arrived. -/
  | lampIdentify (ambient : BitVec 8)
  /-- READ_SUMMARY (R453). -/
  | readSummary (ambient : BitVec 8)
  /-- TAG_FOR_REPLACEMENT: two journalled writes with source 4 (R453). -/
  | tagForReplacement (workOrder : BitVec 32) (ambient : BitVec 8)
  /-- HEADLAMP_REJECT: a discarded frame, then 4 bit times of silence; reasons 1 to 5 (R452). -/
  | headlampReject (reason : Fin 5) (ambient : BitVec 8)
  /-- HEADLAMP_REPLY: the reply is transmitted (R454). -/
  | headlampReply
  /-- PCIE_CONFIG_REQUEST: a Type 0 configuration read, or with `data` a write, of one dword (R464, R465, R467,
      R470). -/
  | pcieConfigRequest (r : CfgReg) (data : Option (BitVec 32))
  /-- BAR0_ACCESS: a host read, or with `data` a write, of `len` bytes at an offset of BAR0; `whole` says that its
      byte enables are contiguous and cover it (R12, R466, R467, R470). -/
  | bar0Access (off : BitVec 29) (len : Nat) (whole : Bool) (data : Option Word)
  /-- BAR2_ACCESS: a host read of `len` bytes, or with `data` a write, through an aperture (R466, R467, R470). -/
  | bar2Access (off : BitVec 36) (len : Nat) (data : Option (List Byte))
  /-- BAR4_ACCESS: a host access of one dword, or with `wide` of two, at an offset of BAR4 (R466, R467, R470). -/
  | bar4Access (off : BitVec 13) (wide : Bool) (data : Option Word)
  /-- PCIE_LINK_UP: the link trains at a rate and width, in flit mode where the partner supports it, as it always
      does at 64.0 GT/s (R464, R465, R471). -/
  | pcieLinkUp (rate : Fin 6) (width : Fin 5) (flit : Bool)
  /-- PCIE_LINK_DOWN: the link goes down, or a hot reset occurs: the PCIe domain is reset, and requests
      outstanding fail (R465, R469). -/
  | pcieLinkDown
  /-- LINK_WAIT_EXPIRY: a request of the device has waited 100 ms for a link that is down (R469). -/
  | linkWaitExpiry (r : Requester) (a : Nat)
  /-- COMPLETION_TIMEOUT: a request to the host times out (R468). -/
  | completionTimeout (r : Requester) (a : Nat)
  /-- D3HOT_ENTRY: the host puts the function in D3hot (R470). -/
  | d3hotEntry
  /-- D0_RETURN: the host returns the function to D0; the BARs stand (R470). -/
  | d0Return
  /-- MSIX_SEND: a pending vector sends its message and its pending bit clears; `again` says that its event
      arrives in the same cycle, which sets the bit again (R472). -/
  | msixSend (v : Fin 16) (again : Bool)
  /-- NEAR_STACK_HOT: a near stack passes 95 °C; its controller limits its PHY power, and deliverable bandwidth is
      computed at once with the loss that the limit brings (R70, R395). -/
  | nearStackHot (stack : Fin 8) (loss : Nat)
  /-- PRIORITY_PAUSE_FRAME: the switch pauses or resumes a priority of a fabric port (R293). -/
  | priorityPauseFrame (p : Fin 16) (prio : Fin 8) (pause : Bool)
  /-- AGREE_BOUND_EXPIRY: COUNT did not reach the job's size within the bound of phase 5 (R425). -/
  | agreeBoundExpiry
  /-- PINNED_RECORD_FLASH_WRITE: the write completes; records pinned meanwhile go into the other copy (R405). -/
  | pinnedRecordFlashWrite
  /-- SUPERVISOR_TIMER: the time value is compared with stimecmp of a hart, which holds `cmp` (R372). -/
  | supervisorTimer (h : Fin 24) (cmp : Word)
  /-- HART_MEMORY_ACCESS: a hart's access or cache-block operation to a cacheable range; `bad` names the quarters
      of the line at the address in which the fill meets an error that the code cannot correct (any of them, for the
      block of a tier) (R371, R374, R375, R377). -/
  | hartMemoryAccess (h : Fin 24) (a : BitVec 48) (op : HartOp) (bad : BitVec 4)
  /-- PCIE_UNSUPPORTED_REQUEST: a request that the function does not support (R464, R467). -/
  | pcieUnsupportedRequest (k : HostRequest)
deriving DecidableEq, Repr

end Sys2Proof
end

