-- ==== Sys2Proof/Decode.lean ====
section
/-! DEFINITION. Commands spelt by bits. The manual's table gives no command any bits: a command reaches the block as an event
or as an access, with its operands beside it. -/

namespace Sys2Proof

/-- The command that a word spells: no row of the table has bits, so no word spells one. -/
def decodeTableWord (_nbits _w : Nat) : Option Instr := none

end Sys2Proof
end

