-- ==== Sys2Proof/Config.lean ====
section
/-! DEFINITION. What the manual leaves open: constants without a body. Nothing in Lean can evaluate one, so a claim
about the machine holds whatever their values are. Each is named in the assumption log. -/

namespace Sys2Proof.Config

/-- The free values: where the manual leaves the result of an operation open, the step takes the value of this function
at the state's own counter and advances the counter (log entry 1). -/
opaque freeNat : Nat → Nat

/-- Whether the greater, or the lesser, of two zeros of unlike sign is the first of them (R141, R215; log entry 1). -/
opaque firstZero : Nat → Nat → Bool

/-- Contents of a byte of storage after its contents were lost for the `era`-th time (log entry 2). -/
opaque lostByte : Nat → Nat → Byte

/-- Whether a firmware image's digest and signature are right: SHA-384 and ECDSA P-384 under Aqant's image key, whose
hash is fused and not stated (R361; log entry 3). -/
opaque imageGenuine : List Byte → Bool

/-- Whether the first 32 bytes of a factory token carry a right signature in the last 96 (R416; log entry 3). -/
opaque tokenGenuine : List Byte → Bool

/-- The fused serial number, 16 ASCII characters (R436; log entry 4). -/
opaque serialByte : Nat → Byte

/-- The fused management MAC address (R436; log entry 4). -/
opaque macAddress : Nat

/-- The factory gain of a power domain (R402; log entry 4). -/
opaque fusedGain : Nat → Nat

/-- Fused gradient coefficient of fast sensor `i` of die `d`, in 1/16 °C per watt scaled by 2^16 (R401; log entry 4). -/
opaque sensorCoefficient : Nat → Nat → Int

/-- Contents of the boot ROM, which the manual does not give (R360; log entry 4). -/
opaque romByte : Nat → Byte

/-- Dictionary entries that an area holds without naming them (R435; log entry 5): `(type code, access code)` with
access 0 ro, 1 rw, 2 wo, 3 const, or `none` when the device holds no such name. -/
opaque dictUnlisted : Nat → Nat → Option (Nat × Nat)

/-- Current value of a dictionary entry that an area holds without naming it (log entry 5), at a given instant. -/
opaque dictUnlistedValue : Nat → Nat → Nat → List Byte

/-- Channel of a near stack that holds a 64 B block (R47; log entry 50): stack, block of the stack. -/
opaque nearChannel : Nat → Nat → Nat

/-- What the host's memory holds at a bus address that the device has not written (log entry 6). -/
opaque hostByte : Nat → Byte

/-- What the decoding process of a codec's own standard finds in a sample (R316 to R327; log entry 8): the size of its
pictures or its sample rate, how many pictures or samples it holds, its damage, and per picture whether it is concealed. -/
structure SampleInfo where
  supported : Bool
  width : Nat
  height : Nat
  depth : Nat
  channels : Nat
  count : Nat
  buffers : Nat
  bufferBytes : Nat
  damaged : Nat
  damageUnit : Nat
  damageOffset : Nat
  concealed : Nat
  rows : Nat
deriving DecidableEq, Repr, Inhabited

/-- The decoding process of a standard, over a sample, decoded as far as picture or sample number `last` (log entry 8). -/
opaque sampleInfo : Nat → List Byte → Nat → SampleInfo

/-- A decoded picture's sample of channel `c` at `(x, y)` after colour conversion (log entry 8): codec, sample bytes,
picture, channel, x, y. -/
opaque pixel : Nat → List Byte → Nat → Nat → Nat → Nat → Nat

/-- One 8 B block-statistics record, COMPLEXITY and motion as decoded (R326; log entry 8): codec, bytes, picture, block. -/
opaque blockRecord : Nat → List Byte → Nat → Nat → Nat

/-- A decoded audio sample as FP32 at the source rate (log entry 8): codec, bytes, channel, index. -/
opaque audioSample : Nat → List Byte → Nat → Nat → Nat

/-- FP32 tap of the Kaiser-windowed sinc (R324; log entry 9): source rate, RATE, phase, tap. -/
opaque resampleTap : Nat → Nat → Nat → Nat → Nat

/-- FP32 table of the Hann window (R325; log entry 9): WIN, index. -/
opaque hann : Nat → Nat → Nat

/-- FP32 twiddle factor of a transform of `n` points (R325; log entry 9): n, index, then 0 cosine or 1 sine. -/
opaque twiddle : Nat → Nat → Nat → Nat

/-- FP32 weight of the filter bank (R325; log entry 9): RATE and NFFT, FMIN and FMAX as codes, BANDS, band, bin. -/
opaque melWeight : Nat × Nat → Nat × Nat → Nat → Nat → Nat → Nat

/-- The fixed function `logf`, within 1 ulp (R325; log entry 9). -/
opaque logf : Nat → Nat

/-- Device address where the engine of a die leaves the product of a matrix entry for the team's sum, which the manual does not state
(R266; log entry 13). -/
opaque productAt : Nat → Nat → Nat

/-- Device address where it reads the sum back (R266; log entry 13). -/
opaque sumAt : Nat → Nat → Nat

/-- The FP32 value of c^(-1/4), whose rounding the manual does not state (R219; log entry 9). -/
opaque fourthRootInv : Nat → Nat

/-- The coded bytes of one row of an encoded frame, whose coding decisions the manual leaves to the encoder (R329; log
entry 10): free counter, row, QP. -/
opaque encodedRow : Nat → Nat → Nat → List Byte

/-- Bytes of the scratch area at an address, which no register of the manual states (R276; log entry 14). -/
opaque scratchBytes : Nat → Nat

end Sys2Proof.Config
end

