-- ==== Sys2Proof/Machine/Memory.lean ====
section
/-! DEFINITION. Storage as one canonical list of bytes, keyed by storage location. -/

namespace Sys2Proof.Machine

/-- The region whose contents are lost together: near stacks 0 to 7, moraine channels 8 to 31, ledge dies 32 to 35, the
local SRAM 36; 37 is host memory and the boot ROM, which never lose theirs. -/
def memRegion (k : Nat) : Nat :=
  if k < 2 ^ 39 then k / 2 ^ 36
  else if k < 2 ^ 42 then 8 + (k - 2 ^ 40) / 2 ^ 37
  else if k < 2 ^ 45 then 32 + (k - 2 ^ 44) / 2 ^ 28
  else if k < 2 ^ 46 then 36
  else 37

/-- How often the contents at a key have been lost. -/
def Mem.era (m : Mem) (k : Nat) : Nat := m.eras.getD (memRegion k) 0

/-- What an unlisted key reads as: zero while the contents were never lost (log entry 2), a value the manual leaves
undefined after a loss (R33, R59, R348); what the host holds, and what the mask ROM holds. -/
def Mem.blank (m : Mem) (k : Nat) : Byte :=
  if 2 ^ 64 ≤ k then Config.hostByte (k - 2 ^ 64)
  else if 2 ^ 46 ≤ k then Config.romByte (k - 2 ^ 46)
  else if m.era k = 0 then 0 else Config.lostByte (m.era k) k

/-- The byte listed under a key. -/
def cellsGet : List Host.Cell → Nat → Option Byte
  | [], _ => none
  | (a, b) :: l, k => if a = k then some b else cellsGet l k

/-- The list with `b` under `k`, addresses kept strictly rising. -/
def cellsPut : List Host.Cell → Nat → Byte → List Host.Cell
  | [], k, b => [(k, b)]
  | (a, c) :: l, k, b => if k < a then (k, b) :: (a, c) :: l else if k = a then (k, b) :: l else (a, c) :: cellsPut l k b

/-- The list without the entry under `k`. -/
def cellsDel : List Host.Cell → Nat → List Host.Cell
  | [], _ => []
  | (a, c) :: l, k => if a = k then l else (a, c) :: cellsDel l k

/-- One byte of storage. -/
def Mem.get (m : Mem) (k : Nat) : Byte := (cellsGet m.cells k).getD (m.blank k)

/-- Storage with one byte written; the canonical form is kept. -/
def Mem.set (m : Mem) (k : Nat) (b : Byte) : Mem :=
  if b = m.blank k then { m with cells := cellsDel m.cells k } else { m with cells := cellsPut m.cells k b }

/-- `n` bytes of storage from a key. -/
def Mem.getN (m : Mem) : Nat → Nat → List Byte
  | _, 0 => []
  | k, n + 1 => m.get k :: m.getN (k + 1) n

/-- Storage with bytes written from a key. -/
def Mem.setN (m : Mem) : Nat → List Byte → Mem
  | _, [] => m
  | k, b :: bs => (m.set k b).setN (k + 1) bs

/-- Storage after the contents of one region are lost. -/
def Mem.lose (m : Mem) (region : Nat) : Mem :=
  { cells := m.cells.filter (fun c => memRegion c.1 != region),
    eras := ((m.eras ++ List.replicate (region + 1 - m.eras.length) 0).set region (m.eras.getD region 0 + 1)) }

/-- Storage after the contents of several regions are lost. -/
def Mem.loseAll (m : Mem) : List Nat → Mem
  | [] => m
  | r :: rs => (m.lose r).loseAll rs

/-- Storage with one region zeroed and its contents defined again: the destructive march of stage 5 (R188). -/
def Mem.zero (m : Mem) (region : Nat) : Mem :=
  { cells := m.cells.filter (fun c => memRegion c.1 != region), eras := m.eras.set region 0 }

/-- Strictly rising addresses. -/
def cellsSorted : List Host.Cell → Bool
  | [] => true
  | [_] => true
  | (a, _) :: (b, y) :: l => decide (a < b) && cellsSorted ((b, y) :: l)

/-- The canonical form: addresses strictly rising, no entry equal to what an unlisted key reads as. -/
def Mem.wf (m : Mem) : Bool := cellsSorted m.cells && m.cells.all (fun c => c.2 != m.blank c.1)

end Sys2Proof.Machine
end

