-- ==== Sys2Proof/Machine/State.lean ====
section
/-! DEFINITION. The state of the machine, its reset, and the reasons a step can stop. -/

namespace Sys2Proof.Machine

/-- Reasons a step stops with a fault. -/
inductive Fault where
  /-- Raised by no command of this block: every stop of the manual is a register state, not a stop of the machine. Safe. -/
  | none
deriving DecidableEq, Repr

/-- Reasons a command is refused. -/
inductive Refusal where
  /-- Raised by exec for a command without a meaning in the model. Safe. -/
  | notModelled (mnemonic : String)
deriving DecidableEq, Repr

/-- The state of the device. -/
structure State where
  /-- Commands that wait, first in first out. -/
  pending : List Instr
  /-- Registers that differ from, or were once written over, their reset values; others hold `Reg.reset`. -/
  regs : List (Reg × Word)
  /-- All addressed storage (R26). -/
  mem : Mem
  /-- The module is of the engineering-sample stepping A0 instead of B0 (R2, R3). -/
  a0 : Bool
  /-- The global timestamp (R34). -/
  time : Word
  /-- The model's own counter of free values. -/
  freeCtr : Nat
  /-- What the block has shown its surroundings (the model's own). -/
  out : List Output
  rails : Rails
  clocks : Clocks
  doms : Domains
  boot : BootState
  images : ImageState
  repair : RepairState
  faults : FaultState
  dict : DictState
  power : PowerState
  camp : BasecampState
  pcie : PcieState
  tiers : TierState
  ledge : List LedgeState
  restart : RestartState
  job : JobState
  input : InputState
  kv : KvState
  tensor : TensorState
  /-- Descriptors running on each traverse engine, engine `j` of die `n` at `22n + j`, oldest first. -/
  trv : List (List TrvRun)
  det : Option DetRun
  opt : OptState
  /-- Collective engines of the four dies. -/
  col : List ColDie
  /-- Rope ports, T0 to T7 as 0 to 7 and F0 to F7 as 8 to 15. -/
  ports : List RopePort
  /-- Rope of the four dies. -/
  rope : List RopeDie
deriving DecidableEq, Repr

/-- A flash pair as the module leaves the factory: copy A holds a first version, copy B nothing (log entry 7). -/
def FlashPair.first {α : Type} (x : α) : FlashPair α := ⟨some (1, x), none, none, false⟩

/-- The empty repair record (R359): identity core maps, no repairs. -/
def RepairRecord.empty : RepairRecord :=
  { remap := List.replicate 4 0xF9876543210, ledge := [], near := [], moraine := [],
    subst := List.replicate 8 0, fence := 0 }

/-- The machine right after reset: no rail in tolerance, every domain in reset, every register at its reset value
(State Off of R459). -/
def State.reset : State :=
  { pending := []
    regs := []
    mem := ⟨[], []⟩
    a0 := false
    time := 0
    freeCtr := 0
    out := []
    rails := ⟨false, false, true, false, false⟩
    clocks := ⟨false, false, false, false, false, false, 0⟩
    doms := ⟨false, false, false, 0, 0⟩
    boot := ⟨.off, 0, 0, false, false, false⟩
    images := ⟨List.replicate 6 [], List.replicate 6 [], List.replicate 6 none, List.replicate 6 none, 0⟩
    repair := ⟨RepairRecord.empty, .first RepairRecord.empty, []⟩
    faults := ⟨[], [], [], .first []⟩
    dict := ⟨[], .first [], [], 0, [], [], none, 0, 1000000⟩
    power := ⟨List.replicate 5 ⟨none, none, 0, 0, 0, 0, 0, 64, 0⟩, none, false, [], 0, 0, 0, List.replicate 9 [], List.replicate 9 false, 1, false⟩
    camp := ⟨⟨0xE00010000000, 0, false, false⟩ :: List.replicate 23 ⟨0, 0, false, false⟩, [], false⟩
    pcie := ⟨false, 0, 0, false, 128, 512, false, false, false, false, false, List.replicate 6 0,
      List.replicate 16 ⟨0, 0, true⟩, 0, 0, [], []⟩
    tiers := ⟨[], none, none, [], 0, 0, List.replicate 24 0, List.replicate 24 0,
      List.replicate 8 ⟨0, 0, 0, none, 0, false, false⟩, ⟨0, 0, false⟩, ⟨0, 0, false⟩, [], List.replicate 32 0,
      List.replicate 8 none, [], List.replicate 4 TierBandwidth.idle, [], 0⟩
    ledge := List.replicate 4 LedgeState.idle
    restart := RestartState.idle
    job := JobState.none
    input := InputState.idle
    kv := KvState.idle
    tensor := TensorState.idle
    trv := List.replicate 88 []
    det := none
    opt := OptState.idle
    col := List.replicate 4 ColDie.idle
    ports := List.replicate 16 RopePort.idle
    rope := List.replicate 4 RopeDie.idle }

end Sys2Proof.Machine
end

