-- ==== Sys2Proof/Machine/Ops.lean ====
section
/-! DEFINITION. The named operations over registers, storage, faults and interrupts that every meaning shares. -/

namespace Sys2Proof.Machine

/-! ### Registers (R11 to R16, R348) -/

/-- The stored value of a register. -/
def State.get (s : State) (r : Reg) : Word := (assocGet s.regs r).getD r.reset

/-- The state with a register's stored value replaced. -/
def State.set (s : State) (r : Reg) (w : Word) : State := { s with regs := assocSet s.regs r w }

/-- The value of a field of a register. -/
def State.fld (s : State) (r : Reg) (f : Fld) : Nat := fget (s.get r) f

/-- The state with one field of a register replaced by the device. -/
def State.put (s : State) (r : Reg) (f : Fld) (v : Nat) : State := s.set r (fput (s.get r) f v)

/-- A field that saturates, one higher (R478). -/
def State.bump (s : State) (r : Reg) (f : Fld) : State := s.put r f (satInc f.width (s.fld r f))

/-- A field that wraps, raised by `n` (R478). -/
def State.addf (s : State) (r : Reg) (f : Fld) (n : Nat) : State := s.put r f (s.fld r f + n)

/-- A one-bit field reads 1. -/
def State.isSet (s : State) (r : Reg) (f : Fld) : Bool := s.fld r f == 1

/-- Whether a reset domain is out of reset. -/
def State.domainUp (s : State) : Domain → Bool
  | .housekeeping => s.doms.hk
  | .anchorMain => s.doms.main
  | .pcie => s.doms.pcie
  | .ridgeFabric n => s.doms.fabric.testBit n.val
  | .ridgeCompute n => s.doms.compute.testBit n.val

/-- Put the registers of one domain back to their Reset values (R348). -/
def State.resetRegs (s : State) (d : Domain) : State :=
  { s with regs := s.regs.filter (fun e => decide (e.1.domain ≠ d)) }

/-- The RWL fields of a register are locked (R14). A register whose block names no lock bit never locks. -/
def State.locked (s : State) (r : Reg) : Bool :=
  match r.lock with
  | some (l, f) => s.isSet l f
  | none => false

/-! ### Time, free values, outputs -/

/-- The global timestamp as a number (R34). -/
def State.now (s : State) : Nat := s.time.toNat

/-- Append to what the block has shown. -/
def State.emit (s : State) (o : Output) : State := { s with out := s.out ++ [o] }

/-- The next free value: a number that nothing constrains (log entry 1). -/
def State.freeVal (s : State) : Nat := Config.freeNat s.freeCtr

/-- The state after a free value was taken. -/
def State.tookFree (s : State) : State := { s with freeCtr := s.freeCtr + 1 }

/-- `n` free values. -/
def State.freeVals (s : State) (n : Nat) : List Nat := (List.range n).map (fun i => Config.freeNat (s.freeCtr + i))

/-- The state after `n` free values were taken. -/
def State.tookFrees (s : State) (n : Nat) : State := { s with freeCtr := s.freeCtr + n }

/-! ### Fault events and interrupts (R379, R405, R472) -/

/-- The value of a field that names no instance (R406). -/
def noInst : Nat := 0xFF

/-- The value of NODE when no peer is concerned (R406). -/
def noNode : Nat := 0xFFFFFFFF

/-- A block raises a fault event; it waits for the collector (R405). -/
def State.raise (s : State) (cls : FaultClass) (r : Requester) (code addr detail : Nat) (node : Nat := noNode) : State :=
  { s with faults := { s.faults with queue := s.faults.queue ++
      [⟨s.now, cls, r.die, r.block, r.inst, code, node, addr, detail, false⟩] } }

/-- An uncorrected-contained event. -/
def State.ucc (s : State) (r : Requester) (code addr detail : Nat) : State := s.raise .ucc r code addr detail

/-- A corrected event. -/
def State.correctedEvent (s : State) (r : Requester) (code addr detail : Nat) : State :=
  s.raise .corrected r code addr detail

/-- An event on a source of the Basecamp interrupt controller sets PEND (R380). -/
def State.irq (s : State) (src : Fin 64) : State :=
  if s.doms.main then s.put (.bcIrqRoute src) Fld.bcIrqRoute_PEND 1 else s

/-- An event of an MSI-X vector sets its pending bit (R472). -/
def State.msix (s : State) (v : Nat) : State :=
  if s.doms.pcie then { s with pcie := { s.pcie with pba := setBit s.pcie.pba v true } } else s

/-- An event that Basecamp and the host both see. -/
def State.notify (s : State) (src : Fin 64) (v : Nat) : State := (s.irq src).msix v

/-- The source of ridge die `d`, event kind `i` (R379). -/
def ridgeSource (d : Fin 4) (i : Fin 8) : Fin 64 := ⟨16 + 8 * d.val + i.val, by omega⟩

/-- STATE of BC_JOB_STATUS is NONE (R238). -/
def State.noJob (s : State) : Bool := s.fld .bcJobStatus Fld.bcJobStatus_STATE == 0

/-- A job runs: STATE is RUNNING or ENDING. -/
def State.jobRuns (s : State) : Bool := 2 ≤ s.fld .bcJobStatus Fld.bcJobStatus_STATE

/-- The device is in Hold (R365, R393). -/
def State.inHold (s : State) : Bool := s.isSet .hkBoot Fld.hkBoot_HOLD

/-! ### Address decoding (R26, R48, R57, R177, R473) -/

/-- What a device address names. -/
inductive Loc where
  | near (stack off : Nat)
  | moraine (ch off : Nat)
  | ledge (die : Fin 4) (off : Nat)
  | host (seg : Fin 16) (off : Nat)
  | regs (off : Nat)
  | unmapped
deriving DecidableEq, Repr

/-- Pin group `g` is pinned (R49). -/
def State.pinned (s : State) (g : Nat) : Bool :=
  if g < 64 then (s.get (.ntPinMap 0)).toNat.testBit g else (s.get (.ntPinMap 1)).toNat.testBit (g - 64)

/-- Stack and stack offset of a near-tier address (R48). -/
def State.nearDecode (s : State) (a : Nat) : Nat × Nat :=
  let g := a / 2 ^ 32 % 128
  if s.pinned g then
    let n := a / 2 ^ 30 % 4
    let o := a % 2 ^ 30
    (2 * n + o / 2 ^ 12 % 2, g * 2 ^ 29 + o / 2 ^ 13 * 2 ^ 12 + o % 2 ^ 12)
  else (a / 2 ^ 12 % 8, a / 2 ^ 15 * 2 ^ 12 + a % 2 ^ 12)

/-- Channel and channel offset of a moraine address (R57). -/
def moraineDecode (a : Nat) : Nat × Nat :=
  (8 * (a / 2 ^ 40 % 16) + a / 2 ^ 12 % 8, a % 2 ^ 40 / 2 ^ 15 * 2 ^ 12 + a % 2 ^ 12)

/-- Base addresses of R473. -/
def morBase : Nat := 0x100000000000
def morEnd : Nat := 0x130000000000
def ledgeBase : Nat := 0x200000000000
def ledgeSize : Nat := 0xC000000
def hostBase : Nat := 0x400000000000
def hostEnd : Nat := 0x800000000000
def regEnd : Nat := 0xF00020000000
def sramBase : Nat := 0xE00000000000
def sramSize : Nat := 0x2000000
def romBase : Nat := 0xE00010000000
def romSize : Nat := 0x40000

/-- The device address map (R473). -/
def State.decodeAddr (s : State) (a : Nat) : Loc :=
  if a < 2 ^ 39 then let p := s.nearDecode a; .near p.1 p.2
  else if a < morBase then .unmapped
  else if a < morEnd then let p := moraineDecode a; .moraine p.1 p.2
  else if a < ledgeBase then .unmapped
  else if h : (a - ledgeBase) / 2 ^ 28 < 4 then
    if (a - ledgeBase) % 2 ^ 28 < ledgeSize then .ledge ⟨(a - ledgeBase) / 2 ^ 28, h⟩ ((a - ledgeBase) % 2 ^ 28) else .unmapped
  else if a < hostBase then .unmapped
  else if h : (a - hostBase) / 2 ^ 42 < 16 then .host ⟨(a - hostBase) / 2 ^ 42, h⟩ ((a - hostBase) % 2 ^ 42)
  else if regBase ≤ a ∧ a < regEnd then .regs (a - regBase)
  else .unmapped

/-- Position of a frame among the retired frames of its unit: its substitute slot (R55, R58). -/
def retireSlot (table : List (Nat × Nat)) (unit frame : Nat) : Option Nat :=
  ((table.filter (fun e => e.1 == unit)).map Prod.snd).findIdx? (fun f => f == frame)

/-- Frames retired in a unit. -/
def retireCount (table : List (Nat × Nat)) (unit : Nat) : Nat := (table.filter (fun e => e.1 == unit)).length

/-- Storage key of a moraine location, through the channel's retirement table (R58). -/
def State.moraineKey (s : State) (ch off : Nat) : Nat :=
  match retireSlot s.repair.record.moraine ch (off / 2 ^ 16) with
  | some k => 2 ^ 40 + ch * 2 ^ 37 + (2 ^ 37 - 2 ^ 28 + k * 2 ^ 16 + off % 2 ^ 16)
  | none => 2 ^ 40 + ch * 2 ^ 37 + off

/-- Moraine address that serves offset `off` of a stack from substitute slot `k` (R55). -/
def State.substAddr (s : State) (stack k off : Nat) : Nat :=
  s.fld (.ntSubstBase (Fin.ofNat 8 stack)) Fld.ntSubstBase_BASE + k * 2 ^ 16 + off % 2 ^ 16

/-- Storage key of a near location, through the stack's retirement table (R55). -/
def State.nearKey (s : State) (stack off : Nat) : Nat :=
  match retireSlot s.repair.record.near stack (off / 2 ^ 16) with
  | some k =>
    let p := moraineDecode (s.substAddr stack k off)
    s.moraineKey p.1 p.2
  | none => stack * 2 ^ 36 + off

/-! ### Accesses that wait (R55, R58, R59, R65) -/

/-- The retirement copy under way covers a near location (R55). -/
def State.underNearCopy (s : State) (st o : Nat) : Bool :=
  match s.tiers.nearCopy with
  | some c => c.unit == st && c.frame == o / 2 ^ 16
  | none => false

/-- The retirement copy under way covers a moraine location (R58). -/
def State.underMorCopy (s : State) (ch o : Nat) : Bool :=
  match s.tiers.morCopy with
  | some c => c.unit == ch && c.frame == o / 2 ^ 16
  | none => false

/-- A moraine channel is in self-refresh (R59). -/
def State.inSelfRefresh (s : State) (ch : Nat) : Bool := s.tiers.selfRefresh.testBit ch

/-- Calibration of one stack. -/
def State.calibOf (s : State) (st : Nat) : Calibration := s.tiers.calib.getD st ⟨0, 0, 0, none, 0, false, false⟩

/-- Channel of a near stack that holds an offset (R47; log entry 50). -/
def nearChannel (st o : Nat) : Nat := Config.nearChannel st (o / 64) % 32

/-- A calibration that must finish has taken the channel of a near location (R65, R66). -/
def State.underSteal (s : State) (st o : Nat) : Bool :=
  (s.calibOf st).stealing && nearChannel st o == (s.calibOf st).channel

/-- An access to a moraine location must wait: behind a retirement copy, or for its channel to leave self-refresh. -/
def State.moraineWaits (s : State) (c o : Nat) : Bool := s.underMorCopy c o || s.inSelfRefresh c

/-- An access must wait: behind a retirement copy or a calibration that takes its channel, or for a channel to leave self-refresh. -/
def State.mustWait (s : State) (a : Nat) : Bool :=
  match s.decodeAddr a with
  | .near st o => s.underNearCopy st o ||
    (match retireSlot s.repair.record.near st (o / 2 ^ 16) with
     | some k => s.moraineWaits (moraineDecode (s.substAddr st k o)).1 (moraineDecode (s.substAddr st k o)).2
     | none => s.underSteal st o)
  | .moraine c o => s.moraineWaits c o
  | _ => false

/-- No copy, no calibration that takes channels and no self-refresh: no access waits. -/
def State.tiersFree (s : State) : Bool :=
  s.tiers.nearCopy.isNone && s.tiers.morCopy.isNone && s.tiers.selfRefresh == 0 && s.tiers.calib.all (fun c => !c.stealing)

/-- Some 64 B block of a range of `n` bytes must wait. -/
def State.rangeWaits (s : State) (a n : Nat) : Bool :=
  (List.range (n / 64 + 2)).any (fun i => decide (64 * i < n + a % 64) && s.mustWait (a / 64 * 64 + 64 * i))

/-- Some block of some ranges must wait. -/
def State.mustWaitAny (s : State) (rs : List (Nat × Nat)) : Bool := !s.tiersFree && rs.any (fun r => s.rangeWaits r.1 r.2)

/-- A requester whose ranges, as `(address, bytes)`, meet a block that must wait does not go on yet (log entry 50). -/
def State.awaitTiers (s : State) (rs : List (Nat × Nat)) (go : State → State) : State := if s.mustWaitAny rs then s else go s

/-- Channel of a device address in the numbering of `scrubOpen` (R64). -/
def State.scrubChannel (s : State) (a : Nat) : Nat :=
  match s.decodeAddr a with
  | .near st o => 32 * st + nearChannel st o
  | .moraine c _ => 256 + c
  | _ => 0

/-- A foreground write of a block drops the write-back of the scrub that has it open (R64). -/
def State.dropScrub (s : State) (a : Nat) : State :=
  { s with tiers := { s.tiers with scrubOpen := s.tiers.scrubOpen.filter (fun e => e.2 != a / 64 * 64) } }

/-! ### Ledge geometry and ownership (R176 to R183) -/

/-- The die runs in pooled mode. -/
def State.pooled (s : State) (d : Fin 4) : Bool := s.isSet (.ldgCtrl d) Fld.ldgCtrl_POOLED

/-- Sub-bank, row and word of a ledge offset (R177). -/
def ledgeDecode (pooled : Bool) (o : Nat) : Nat × Nat × Nat :=
  let word := o / 64 % 16
  if pooled then
    let unit := o / 4096
    (4 * (unit % 48) + o / 1024 % 4, unit / 48, word)
  else (4 * (o / 2 ^ 22 % 48) + o / 2 ^ 20 % 4, o / 1024 % 1024, word)

/-- The spare that serves a data row, if one does (R191). -/
def State.spareOf (s : State) (d : Fin 4) (g row : Nat) : Option Nat :=
  ((List.range 8).find? (fun r =>
    let w := s.get (.ldgSpare d (Fin.ofNat 192 g) (Fin.ofNat 8 r))
    fget w Fld.ldgSpare_USED == 1 && fget w Fld.ldgSpare_FAILED == 0 && fget w Fld.ldgSpare_ROW == row))

/-- Storage key of the first byte of a physical row of a sub-bank. -/
def ledgeRowKey (d : Fin 4) (g row : Nat) : Nat := 2 ^ 44 + d.val * 2 ^ 28 + (g * 1032 + row) * 1024

/-- Storage key of a ledge offset, through the mode and the row repairs. -/
def State.ledgeKey (s : State) (d : Fin 4) (o : Nat) : Nat :=
  let p := ledgeDecode (s.pooled d) o
  let row := match s.spareOf d p.1 p.2.1 with
    | some r => 1024 + r
    | none => p.2.1
  ledgeRowKey d p.1 row + p.2.2 * 64 + o % 64

/-- The field of LDG_OWN that holds sub-bank `i` of a bank. -/
def ownField (i : Nat) : Fld := ⟨8 * (i % 4) + 7, 8 * (i % 4)⟩

/-- Owner code of sub-bank `g` (R180). -/
def State.ownerOf (s : State) (d : Fin 4) (g : Nat) : Nat := s.fld (.ldgOwn d (Fin.ofNat 48 (g / 4))) (ownField g)

/-- Owner code of the sub-bank that holds a ledge offset. -/
def State.ownerAt (s : State) (d : Fin 4) (o : Nat) : Nat := s.ownerOf d (ledgeDecode (s.pooled d) o).1

/-- The sub-bank that a transparent march tests now (R189). -/
def State.testing (s : State) (d : Fin 4) : Option Nat :=
  match (s.ledge.getD d.val LedgeState.idle).march with
  | some m => if m.transparent then some m.testing else none
  | none => none

/-- A word of a ledge die lies in the sub-bank under test: an access by Basecamp or the host waits (R189). -/
def State.underTest (s : State) (a : Nat) : Bool :=
  match s.decodeAddr a with
  | .ledge d o => s.ownerAt d o == 0x32 && s.testing d == some (ledgeDecode (s.pooled d) o).1
  | _ => false

/-- Some word of a range lies in a sub-bank under test. -/
def State.rangeTested (s : State) (a n : Nat) : Bool :=
  ([0, 1, 2, 3] : List (Fin 4)).any (fun d => (s.testing d).isSome) &&
  (List.range (n / 64 + 2)).any (fun i => decide (64 * i < n + a % 64) && s.underTest (a / 64 * 64 + 64 * i))

/-- LDG_VIOL takes a non-owner access or a refused entry; later events are counted (R181, R182). -/
def State.ledgeViolation (s : State) (d : Fin 4) (req owner off : Nat) : State :=
  if s.isSet (.ldgViol d) Fld.ldgViol_VALID then s.bump (.ldgViol d) Fld.ldgViol_COUNT
  else s.set (.ldgViol d) (fput (fput (fput (fput 0 Fld.ldgViol_VALID 1) Fld.ldgViol_REQ req) Fld.ldgViol_OWNER owner)
    Fld.ldgViol_OFFSET (off / 64 * 64))

/-! ### Accesses to a device address (R53 to R62, R182, R187) -/

/-- The host takes requests of the device now: the link is up, the function in D0 and Bus Master Enable set (R468 to R470). -/
def State.hostReady (s : State) : Bool := s.pcie.up && !s.pcie.d3hot && s.pcie.busMaster

/-- A device address in the host window. -/
def inHostWindow (a : Nat) : Bool := decide (hostBase ≤ a ∧ a < hostEnd)

/-- Requests of the device to the host wait: the link is down, or the function in D3hot (R469, R470). -/
def State.hostWaits (s : State) : Bool := !s.pcie.up || s.pcie.d3hot

/-- A request of the device to the host, with the No Snoop attribute of its segment (R60). -/
def State.hostRequest (s : State) (r : Requester) (isRead : Bool) (a n : Nat) : HostReq :=
  ⟨r, isRead, a, n, s.hostWaits, match s.decodeAddr a with
    | .host seg _ => s.isSet (.bcHwin seg) Fld.bcHwin_NOSNOOP
    | _ => false⟩

/-- A request covers an address. -/
def HostReq.covers (q : HostReq) (a : Nat) : Bool := decide (q.addr ≤ a ∧ a < q.addr + max 1 q.len)

/-- A failed access of a requester lies in a range. -/
def State.hostFailure (s : State) (r : Requester) (a n : Nat) : Bool :=
  s.pcie.expired.any (fun q => decide (q.req = r) && decide (a ≤ q.addr ∧ q.addr < a + n))

/-- A requester no longer has requests or failures outstanding in some ranges. -/
def State.hostSettled (s : State) (r : Requester) (rs : List (Nat × Nat)) : State :=
  let mine := fun (q : HostReq) => decide (q.req = r) && rs.any (fun x => decide (x.1 ≤ q.addr ∧ q.addr < x.1 + max 1 x.2))
  { s with pcie := { s.pcie with requests := s.pcie.requests.filter (fun q => !mine q), expired := s.pcie.expired.filter (fun q => !mine q) } }

/-- A requester that must wait for the host link at one of its ranges, as `(address, bytes)`, waits, as a request shows; otherwise it
goes on, and an access that has failed meanwhile ends as a host error (R60, R469, R470). -/
def State.awaitHost (s : State) (r : Requester) (ranges : List (Nat × Nat)) (go : State → State) : State :=
  let hosts := ranges.filter (fun x => inHostWindow x.1)
  if hosts.isEmpty then go s
  else if !s.hostWaits || hosts.any (fun x => s.hostFailure r x.1 x.2) then (go s).hostSettled r hosts
  else if hosts.any (fun x => s.pcie.requests.any (fun q => decide (q.req = r) && q.addr == x.1)) then s
  else { s with pcie := { s.pcie with requests := s.pcie.requests ++ hosts.map (fun x => s.hostRequest r true x.1 x.2) } }

/-- A requester goes on with an access to its ranges, as `(address, bytes)`, once neither a tier nor the host link makes it wait. -/
def State.awaitAccess (s : State) (r : Requester) (rs : List (Nat × Nat)) (go : State → State) : State :=
  s.awaitTiers rs (fun (t : State) => t.awaitHost r rs go)

/-- The same for Basecamp, which also waits for the end of a test of a ledge sub-bank (R189). -/
def State.awaitBasecamp (s : State) (r : Requester) (rs : List (Nat × Nat)) (go : State → State) : State :=
  if rs.any (fun x => s.rangeTested x.1 x.2) then s else s.awaitAccess r rs go

/-- Storage key of the host bus address that a segment offset names (R60). -/
def State.hostKey (s : State) (seg : Fin 16) (off : Nat) : Nat :=
  2 ^ 64 + (s.fld (.bcHwin seg) Fld.bcHwin_BASE * 4096 + off) % 2 ^ 64

/-- Ridge die that serves a near stack. -/
def stackDie (stack : Nat) : Nat := stack / 2

/-- A near stack or a ledge die can be reached: its ridge die is out of reset (R25). -/
def State.reachable (s : State) (die : Nat) : Bool := s.doms.fabric.testBit die

/-- Bytes that the manual does not determine. -/
def State.freeBytes (s : State) (n : Nat) : List Byte := (s.freeVals n).map (BitVec.ofNat 8)

/-- A block or quarter is known as uncorrectable. -/
def State.isBad (s : State) (k : Nat) : Bool := s.tiers.bad.contains k

/-- Mark or unmark a block or quarter as uncorrectable. -/
def State.setBad (s : State) (k : Nat) (b : Bool) : State :=
  { s with tiers := { s.tiers with bad :=
      if b then (if s.tiers.bad.contains k then s.tiers.bad else k :: s.tiers.bad) else s.tiers.bad.filter (· != k) } }

/-- The storage after bytes are written from a key. -/
def State.store (s : State) (k : Nat) (bs : List Byte) : State := { s with mem := s.mem.setN k bs }

/-- The uncorrectable quarters of a stored ledge word among those a range of its bytes touches. -/
def State.badQuarters (s : State) (wk lo n : Nat) : List Nat :=
  (List.range 4).filter (fun q => s.isBad (wk + 16 * q) && decide (16 * q < lo + n ∧ lo < 16 * q + 16))

/-- A destructive march has the bank that holds an offset: what it reads as is not stated (R188). -/
def State.underMarch (s : State) (d : Fin 4) (o : Nat) : Bool :=
  match (s.ledge.getD d.val LedgeState.idle).march with
  | some m => !m.transparent && m.banks.testBit ((ledgeDecode (s.pooled d) o).1 / 4)
  | none => false

/-- Read within one 64 B word of a ledge die, by owner code (R182, R187). -/
def State.ledgeRead (s : State) (d : Fin 4) (owner o n : Nat) : List Byte × MemStatus × State :=
  if !s.reachable d.val || s.underMarch d o && s.ownerAt d o == owner then (s.freeBytes n, .ok, s.tookFrees n)
  else if s.ownerAt d o ≠ owner then (zeros n, .nonOwner, s.ledgeViolation d owner (s.ownerAt d o) o)
  else
    let k := s.ledgeKey d o
    let wk := k - o % 64
    if (s.badQuarters wk 0 64).isEmpty then (s.mem.getN k n, .ok, s)
    else
      let p := ledgeDecode (s.pooled d) o
      (s.mem.getN k n, .uncorrectable,
        (s.bump (.ldgEcc d) Fld.ldgEcc_UNCORR).ucc ⟨d.val, 5, noInst⟩ 0x0101
          (ledgeBase + d.val * 2 ^ 28 + o / 64 * 64) (p.1 * 2 ^ 16 + p.2.1 * 16 + p.2.2))

/-- The bytes of a write from byte `lo` of a stored word as they are stored: those of an uncorrectable quarter that the write does not
cover stay as they were read (R187). -/
def State.keepBad (s : State) (wk lo : Nat) (bs : List Byte) : List Byte :=
  bs.mapIdx (fun i b =>
    let q := (lo + i) / 16
    if s.isBad (wk + 16 * q) && !decide (lo ≤ 16 * q ∧ 16 * q + 16 ≤ lo + bs.length) then s.mem.get (wk + lo + i) else b)

/-- Write within one 64 B word of a ledge die, by owner code (R182, R186, R187). -/
def State.ledgeWrite (s : State) (d : Fin 4) (owner o : Nat) (bs : List Byte) : MemStatus × State :=
  if !s.reachable d.val then (.ok, s)
  else if s.ownerAt d o ≠ owner then (.nonOwner, s.ledgeViolation d owner (s.ownerAt d o) o)
  else
    let k := s.ledgeKey d o
    let lo := o % 64
    let wk := k - lo
    let bad := s.badQuarters wk 0 64
    let partialWrite := !(lo % 16 == 0 && bs.length % 16 == 0)
    let p := ledgeDecode (s.pooled d) o
    let s1 := if partialWrite && !bad.isEmpty then
        (s.bump (.ldgEcc d) Fld.ldgEcc_UNCORR).ucc ⟨d.val, 5, noInst⟩ 0x0101
          (ledgeBase + d.val * 2 ^ 28 + o / 64 * 64) (p.1 * 2 ^ 16 + p.2.1 * 16 + p.2.2)
      else s
    let covered := (List.range 4).filter (fun q => decide (lo ≤ 16 * q ∧ 16 * q + 16 ≤ lo + bs.length))
    (.ok, (covered.foldl (fun t q => t.setBad (wk + 16 * q) false) s1).store k (if bad.isEmpty then bs else s.keepBad wk lo bs))

/-- An access to the host window fails: the host's own error, or no way to the host (R60, R469). -/
def State.hostError (s : State) (a : Nat) : State := s.ucc ⟨4, 10, noInst⟩ 0x0103 a 0

/-- What an access to a fenced die answers: to a traverse engine as an unmapped one (R157); the manual states nothing for another
requester, whose read returns free bytes. -/
def State.fencedRead (s : State) (r : Requester) (a n : Nat) : List Byte × MemStatus × State :=
  if r.block = 2 then (zeros n, .unmapped, s.ucc r 0x0102 a 0) else (s.freeBytes n, .ok, s.tookFrees n)

/-- A write to a fenced die is discarded (R157). -/
def State.fencedWrite (s : State) (r : Requester) (a : Nat) : MemStatus × State :=
  if r.block = 2 then (.unmapped, s.ucc r 0x0102 a 0) else (.ok, s)

/-- Read within one aligned 64 B block of the device address space. `owner` is the requester's ledge owner code. -/
def State.readBlock (s : State) (r : Requester) (owner a n : Nat) : List Byte × MemStatus × State :=
  match s.decodeAddr a with
  | .near st o =>
    if !s.reachable (stackDie st) then s.fencedRead r a n
    else
      let k := s.nearKey st o
      if s.isBad (k / 64 * 64) then (s.mem.getN k n, .uncorrectable, s.ucc ⟨stackDie st, 8, st⟩ 0x0101 a o)
      else (s.mem.getN k n, .ok, s)
  | .moraine c o =>
    let k := s.moraineKey c o
    if s.isBad (k / 64 * 64) then (s.mem.getN k n, .uncorrectable, s.ucc ⟨4, 9, c⟩ 0x0101 a o)
    else (s.mem.getN k n, .ok, s)
  | .ledge d o => if !s.reachable d.val then s.fencedRead r a n else s.ledgeRead d owner o n
  | .host seg o =>
    if !s.isSet (.bcHwin seg) Fld.bcHwin_EN then (zeros n, .unmapped, s.ucc r 0x0102 a 0)
    else if s.hostFailure r a n then (zeros n, .hostError, s)
    else if !s.hostReady then (zeros n, .hostError, s.hostError a)
    else (s.mem.getN (s.hostKey seg o) n, .ok, s)
  | .regs _ => (zeros n, .ok, s)
  | .unmapped => (zeros n, .unmapped, s.ucc r 0x0102 a 0)

/-- DETAIL of the record of a partial write that meets an uncorrectable block: DIE, BLOCK and INSTANCE name the writer, so the stack
stands above the stack offset (R54; DESIGN CHOICE, log entry 50). -/
def mergeDetail (st o : Nat) : Nat := st * 2 ^ 48 + o

/-- Write within one aligned 64 B block of the device address space. -/
def State.writeBlock (s : State) (r : Requester) (owner a : Nat) (bs : List Byte) : MemStatus × State :=
  match s.decodeAddr a with
  | .near st o =>
    if !s.reachable (stackDie st) then s.fencedWrite r a
    else
      let k := s.nearKey st o
      let s0 := s.dropScrub a
      let s1 := if bs.length = 64 then s0.setBad (k / 64 * 64) false
        else if s0.isBad (k / 64 * 64) then s0.ucc r 0x0101 a (mergeDetail st o) else s0
      (.ok, s1.store k bs)
  | .moraine c o =>
    let k := s.moraineKey c o
    let s0 := s.dropScrub a
    (.ok, (if bs.length = 64 then s0.setBad (k / 64 * 64) false else s0).store k bs)
  | .ledge d o => if !s.reachable d.val then s.fencedWrite r a else s.ledgeWrite d owner o bs
  | .host seg o =>
    if !s.isSet (.bcHwin seg) Fld.bcHwin_EN then (.unmapped, s.ucc r 0x0102 a 0)
    else if s.hostFailure r a bs.length then (.hostError, s)
    else if !s.hostReady then (.hostError, s.hostError a)
    else (.ok, s.store (s.hostKey seg o) bs)
  | .regs _ => (.ok, s)
  | .unmapped => (.unmapped, s.ucc r 0x0102 a 0)

/-- The first status of two that is not OK. -/
def MemStatus.worse (a b : MemStatus) : MemStatus := if a = .ok then b else a

/-- Read `n` bytes, one 64 B block at a time; `fuel` bounds the blocks. -/
def State.readGo (r : Requester) (owner : Nat) : Nat → State → Nat → Nat → List Byte × MemStatus × State
  | 0, s, _, _ => ([], .ok, s)
  | fuel + 1, s, a, n =>
    if n = 0 then ([], .ok, s)
    else
      let l := min n (64 - a % 64)
      let p := s.readBlock r owner a l
      let q := State.readGo r owner fuel p.2.2 (a + l) (n - l)
      (p.1 ++ q.1, p.2.1.worse q.2.1, q.2.2)

/-- Read `n` bytes from device address `a`. -/
def State.readBytes (s : State) (r : Requester) (owner a n : Nat) : List Byte × MemStatus × State :=
  State.readGo r owner (n / 64 + 2) s a n

/-- Write bytes, one 64 B block at a time; `fuel` bounds the blocks. -/
def State.writeGo (r : Requester) (owner : Nat) : Nat → State → Nat → List Byte → MemStatus × State
  | 0, s, _, _ => (.ok, s)
  | fuel + 1, s, a, bs =>
    if bs.isEmpty then (.ok, s)
    else
      let l := 64 - a % 64
      let p := s.writeBlock r owner a (bs.take l)
      let q := State.writeGo r owner fuel p.2 (a + l) (bs.drop l)
      (p.1.worse q.1, q.2)

/-- Write bytes from device address `a`. -/
def State.writeBytes (s : State) (r : Requester) (owner a : Nat) (bs : List Byte) : MemStatus × State :=
  State.writeGo r owner (bs.length / 64 + 2) s a bs

/-- Write bytes and keep the state alone. -/
def State.writeMem (s : State) (r : Requester) (owner a : Nat) (bs : List Byte) : State := (s.writeBytes r owner a bs).2

/-- Read a little-endian number and keep the state. -/
def State.readNat (s : State) (r : Requester) (owner a n : Nat) : Nat × State :=
  let p := s.readBytes r owner a n
  (ofLe p.1, p.2.2)

/-- Bytes as they stand, without a status or a record: what the device knows of a structure that it keeps itself. -/
def State.peek (s : State) (a n : Nat) : List Byte :=
  ((List.range n).map (fun i =>
    match s.decodeAddr (a + i) with
    | .near st o => s.mem.get (s.nearKey st o)
    | .moraine c o => s.mem.get (s.moraineKey c o)
    | .ledge d o => s.mem.get (s.ledgeKey d o)
    | .host seg o => s.mem.get (s.hostKey seg o)
    | _ => 0))

end Sys2Proof.Machine
end

