-- ==== Sys2Proof/Machine/Flags.lean ====
section
/-! DEFINITION. The masks, levels and flags that several blocks compute: HK_SHAPE (R41 to R46), fences (R45, R413, R486),
and the stop of an engine with its error register (R145, R173, R231, R280). -/

namespace Sys2Proof.Machine

/-- A dictionary entry that mirrors no register, as a number; `d` is its default (R433). -/
def State.dictNat (s : State) (idx sub d : Nat) : Nat :=
  match assocGet s.dict.stored (idx, sub) with
  | some bs => ofLe bs
  | none => d

/-- Active tensor cores of a ridge die: physical cores that TC_REMAP gives a logical number 0 to 9 (R41, R146). -/
def State.activeCores (s : State) (d : Fin 4) : Nat :=
  ((List.range 11).filter (fun k => decide (bits (s.fld (.tcRemap d) Fld.tcRemap_MAP) (4 * k + 3) (4 * k) < 10))).length

/-- FULL_SHAPE: every unit mask all ones, 40 cores, and every expected team port up (R41). -/
def fullShape (w : Word) (expect : Nat) : Bool :=
  fget w Fld.hkShape_RIDGE_MASK == 15 && fget w Fld.hkShape_LEDGE_MASK == 15 && fget w Fld.hkShape_NEAR_MASK == 255 &&
  fget w Fld.hkShape_MORAINE_MASK == 0xFFFFFF && fget w Fld.hkShape_TC_ACTIVE == 40 &&
  fget w Fld.hkShape_TEAM_PORT_MASK == expect

/-- Level S3 is complete: the full set of R43, every expected team port up. -/
def s3Complete (w : Word) (expect : Nat) : Bool :=
  fget w Fld.hkShape_RIDGE_MASK == 15 && fget w Fld.hkShape_LEDGE_MASK == 15 && fget w Fld.hkShape_NEAR_MASK == 255 &&
  fget w Fld.hkShape_MORAINE_MASK == 0xFFFFFF && fget w Fld.hkShape_TC_ACTIVE == 40 &&
  fget w Fld.hkShape_TEAM_PORT_MASK &&& expect == expect

/-- Level S2 is complete: a ridge die with its ledge die and one of its near stacks (R43). -/
def s2Complete (w : Word) : Bool :=
  (List.range 4).any (fun n =>
    (fget w Fld.hkShape_RIDGE_MASK).testBit n && (fget w Fld.hkShape_LEDGE_MASK).testBit n &&
    ((fget w Fld.hkShape_NEAR_MASK).testBit (2 * n) || (fget w Fld.hkShape_NEAR_MASK).testBit (2 * n + 1)))

/-- The highest level, from 1 up, whose set of units is complete (R43). -/
def levelOf (w : Word) (expect : Nat) : Nat := if s3Complete w expect then 3 else if s2Complete w then 2 else 1

/-- Expected team ports (R41, HK_ROPE_EXPECT). -/
def State.expectPorts (s : State) : Nat := s.fld .hkRopeExpect Fld.hkRopeExpect_EXPECT

/-- One update of HK_SHAPE; FULL_SHAPE follows the masks (R41, R42). -/
def State.setShape (s : State) (w : Word) : State :=
  s.set .hkShape (fput w Fld.hkShape_FULL_SHAPE (b2n (fullShape w s.expectPorts)))

/-- The service-level interrupt, and the announcement on the management pair (R44, R442). -/
def State.levelEvent (s : State) : State :=
  let s1 := s.notify 9 0
  if s.dictNat 0x1010 5 1 = 1 ∧ s.dictNat 0x1010 4 1 = 1 then s1.emit (.announce (s.fld .hkShape Fld.hkShape_SVC_LEVEL)) else s1

/-- A new service level, announced when it differs. -/
def State.setLevel (s : State) (lvl : Nat) : State :=
  if s.fld .hkShape Fld.hkShape_SVC_LEVEL = lvl then s else (s.put .hkShape Fld.hkShape_SVC_LEVEL lvl).levelEvent

/-- The masks of HK_SHAPE without the units that a set of ridge dies carries (R25, R45). -/
def shapeWithout (w : Word) (dies cores : Nat) : Word :=
  let d4 := fun (m : Nat) => clearBits m dies
  let pairs := (List.range 4).foldl (fun acc n => if dies.testBit n then acc ||| (3 <<< (2 * n)) else acc) 0
  let w1 := fput w Fld.hkShape_RIDGE_MASK (d4 (fget w Fld.hkShape_RIDGE_MASK))
  let w2 := fput w1 Fld.hkShape_LEDGE_MASK (d4 (fget w Fld.hkShape_LEDGE_MASK))
  let w3 := fput w2 Fld.hkShape_NEAR_MASK (clearBits (fget w Fld.hkShape_NEAR_MASK) pairs)
  let w4 := fput w3 Fld.hkShape_TEAM_PORT_MASK (clearBits (fget w Fld.hkShape_TEAM_PORT_MASK) pairs)
  fput w4 Fld.hkShape_TC_ACTIVE (fget w Fld.hkShape_TC_ACTIVE - cores)

/-- The ridge dies of a mask, ascending. -/
def diesOf (m : Nat) : List (Fin 4) := [0, 1, 2, 3].filter (fun d => m.testBit d.val)

/-- The first ridge die whose compute domain is up: where the device reads what all four dies hold alike. -/
def State.headDie (s : State) : Fin 4 := (diesOf s.doms.compute).headD 0

/-- Active cores of the dies of a mask that the shape counts. -/
def State.coresOf (s : State) (dies : Nat) : Nat :=
  (((diesOf dies).filter (fun d => (s.fld .hkShape Fld.hkShape_RIDGE_MASK).testBit d.val)).map s.activeCores).sum

/-- LDG_SPARE of a die after the reset of its domain: a fused spare shows its fused values, and USED is clear until stage 5 (R192). -/
def State.fuseSpares (s : State) (dies : Nat) : State :=
  s.repair.fused.foldl (fun (t : State) e =>
    if dies.testBit e.die then
      t.set (.ldgSpare (Fin.ofNat 4 e.die) (Fin.ofNat 192 e.sub) (Fin.ofNat 8 e.spare)) (fput (fput 0 Fld.ldgSpare_FUSED 1) Fld.ldgSpare_ROW e.row)
    else t) s

/-- The registers and engines of the dies of a mask at reset. -/
def State.clearDies (s : State) (dies : Nat) : State :=
  (diesOf dies).foldl (fun t d => (t.resetRegs (.ridgeFabric d)).resetRegs (.ridgeCompute d))
    { s with doms := { s.doms with fabric := clearBits s.doms.fabric dies, compute := clearBits s.doms.compute dies },
             ledge := (List.range 4).map (fun n => if dies.testBit n then LedgeState.idle else s.ledge.getD n LedgeState.idle)
             tensor := (diesOf dies).foldl (fun t d => t.resetDie d.val) s.tensor
             opt := { s.opt with dies := (List.range 4).map (fun n => if dies.testBit n then OptDie.idle else s.opt.dies.getD n OptDie.idle) }
             col := (List.range 4).map (fun n => if dies.testBit n then ColDie.idle else s.col.getD n ColDie.idle)
             rope := (List.range 4).map (fun n => if dies.testBit n then RopeDie.idle else s.rope.getD n RopeDie.idle)
             ports := (List.range 16).map (fun p => if dies.testBit (p % 8 / 2) then RopePort.idle else s.ports.getD p RopePort.idle)
             trv := (List.range 88).map (fun i => if dies.testBit (i / 22) then [] else s.trv.getD i []) }

/-- Both domains of the dies of a mask enter reset (R192, R348). -/
def State.resetDies (s : State) (dies : Nat) : State := (s.clearDies dies).fuseSpares dies

/-- A change of the repair record asks for a flash write, into the copy not under way (R359). -/
def FlashPair.request {α : Type} (f : FlashPair α) (x : α) : FlashPair α :=
  match f.writing with
  | some _ => { f with dirty := true }
  | none => { f with writing := some x }

/-- The repair record changes: a flash write starts, or the change waits for the next copy (R359). -/
def State.setRecord (s : State) (r : RepairRecord) : State :=
  { s with repair := { s.repair with record := r, flash := s.repair.flash.request r } }

/-- Logical number of a physical core, 0xF for none (R146). -/
def State.logicalOf (s : State) (d : Fin 4) (k : Fin 11) : Nat :=
  bits (s.fld (.tcRemap d) Fld.tcRemap_MAP) (4 * k.val + 3) (4 * k.val)

/-- LOGICAL of every core's TC_ID follows the map (R148). -/
def State.remapIds (s : State) (d : Fin 4) : State :=
  ([0, 1, 2, 3, 4, 5, 6, 7, 8, 9, 10] : List (Fin 11)).foldl (fun (t : State) (k : Fin 11) =>
    t.put (.tcId d k) Fld.tcId_LOGICAL (t.logicalOf d k)) s

/-- Fence the ridge dies of a mask that are not fenced yet (R45, R413, R486): mask kept, domains held in reset, shape
bits cleared in one write, level lowered, interrupt raised. -/
def State.fence (s : State) (dies : Nat) : State :=
  let fresh := clearBits dies (s.fld .fltFence Fld.fltFence_FENCED)
  if fresh = 0 then s
  else
    let mask := s.fld .fltFence Fld.fltFence_FENCED ||| fresh
    let old := s.fld .hkShape Fld.hkShape_SVC_LEVEL
    let w := shapeWithout (s.get .hkShape) fresh (s.coresOf fresh)
    let lvl := min old (levelOf w s.expectPorts)
    let s1 := ((s.put .fltFence Fld.fltFence_FENCED mask).setRecord { s.repair.record with fence := mask }).resetDies fresh
    (s1.setShape (fput w Fld.hkShape_SVC_LEVEL lvl)).levelEvent

end Sys2Proof.Machine
end

