-- ==== Sys2Proof/Machine/RegWrite.lean ====
section
/-! DEFINITION. Software's reads and writes of registers: access codes (R14), reserved bits (R16), blocks in reset (R477),
and the value rules that the register tables state for fields without a command of their own. -/

namespace Sys2Proof.Machine

/-- All bits of a field. -/
def Fld.mask (f : Fld) : Word := BitVec.ofNat 64 ((2 ^ f.width - 1) * 2 ^ f.lo)

/-- The bits of a register whose fields satisfy a test. -/
def maskOf (fs : List FieldSpec) (p : Access → Bool) : Word :=
  fs.foldl (fun m x => if p x.acc then m ||| x.fld.mask else m) 0

/-- A register's value after a software write of `v` to the bits of `wm` (R12, R14, R16). -/
def accessWrite (fs : List FieldSpec) (locked : Bool) (old wm v : Word) : Word :=
  let rw := maskOf fs (fun a => a == .rw || (a == .rwl && !locked)) &&& wm
  let w1c := maskOf fs (· == .w1c) &&& wm
  let w1s := maskOf fs (· == .w1s) &&& wm
  (((old &&& ~~~rw) ||| (v &&& rw)) &&& ~~~(v &&& w1c)) ||| (v &&& w1s)

/-- The bits of a half. -/
def Half.mask : Half → Word
  | .whole => 0xFFFFFFFFFFFFFFFF
  | .low => 0x00000000FFFFFFFF
  | .high => 0xFFFFFFFF00000000

/-- The fields whose write is a command of its own: a plain write leaves them alone. -/
def Reg.commandFields : Reg → List Fld
  | .hkBootCtrl => [Fld.hkBootCtrl_DIE_RESET]
  | .hkRepairMap _ => [Fld.hkRepairMap_MAP]
  | .pwrCtrl => [Fld.pwrCtrl_MODE]
  | .fltAck => [Fld.fltAck_SEQ]
  | .fltClear => [Fld.fltClear_SEQ]
  | .fltHb => [Fld.fltHb_EN, Fld.fltHb_FAIL]
  | .ntKvCfg => [Fld.ntKvCfg_EN]
  | .bcHart => [Fld.bcHart_RUN]
  | .bcJobCtrl => [Fld.bcJobCtrl_LOAD, Fld.bcJobCtrl_END, Fld.bcJobCtrl_ABORT]
  | .bcIrqMsip => [Fld.bcIrqMsip_MSIP]
  | .bcIrqMsipSet => [Fld.bcIrqMsipSet_MSIP]
  | .bcIrqComplete _ _ => [Fld.bcIrqComplete_SOURCE]
  | .tcRemap _ => [Fld.tcRemap_MAP]
  | .tcCtrl _ _ => [Fld.tcCtrl_RUN, Fld.tcCtrl_STOP]
  | .tcProgLimit _ _ => [Fld.tcProgLimit_INDEX]
  | .trvCtrl _ _ => [Fld.trvCtrl_RUN, Fld.trvCtrl_STOP]
  | .trvLimit _ _ => [Fld.trvLimit_INDEX]
  | .trvFbuf _ _ => [Fld.trvFbuf_COUNT]
  | .ldgCtrl _ => [Fld.ldgCtrl_POOLED]
  | .optCtrl _ => [Fld.optCtrl_MARK, Fld.optCtrl_STEP_END]
  | .colCtrl _ => [Fld.colCtrl_STOP, Fld.colCtrl_JOIN]
  | .ropeCtrl _ _ => [Fld.ropeCtrl_RETRAIN]
  | .chkPointState _ => [Fld.chkPointState_STATE]
  | .chkPointBytes _ => [Fld.chkPointBytes_BYTES]
  | .chkChanState _ => [Fld.chkChanState_STATE]
  | .chkChanBytes _ => [Fld.chkChanBytes_BYTES]
  | _ => []

/-- Bits of an access that a plain write may touch. -/
def plainMask (r : Reg) (wm : Word) : Word := r.commandFields.foldl (fun m f => m &&& ~~~f.mask) wm

/-- A write of an error register's VALID clears its record with MORE, and the copy in the status register; LDG_VIOL likewise its capture
and COUNT (R148, R174, R192, R232, R281). -/
def State.errorCleared (s : State) (r : Reg) : State :=
  match r with
  | .tcErr d k => if s.isSet r Fld.tcErr_VALID then s else (s.set r 0).put (.tcStatus d k) Fld.tcStatus_ERROR 0
  | .trvErr d j => if s.isSet r Fld.trvErr_VALID then s else (s.set r 0).put (.trvStatus d j) Fld.trvStatus_ERROR 0
  | .optErr _ => if s.isSet r Fld.optErr_VALID then s else s.set r 0
  | .colErr d => if s.isSet r Fld.colErr_VALID then s else (s.set r 0).put (.colStatus d) Fld.colStatus_ERROR 0
  | .ldgViol _ => if s.isSet r Fld.ldgViol_VALID then s else s.set r 0
  | _ => s

/-- The value rules of the register tables: the word that a write may leave, given the old word and the state. -/
def State.allowed (s : State) (r : Reg) (old new : Word) : Word :=
  match r with
  | .ntSubstBase st => if 0 < retireCount s.repair.record.near st.val then old else new
  | .morSwapqBase _ => if fget old Fld.morSwapqBase_EN = 1 then fput new Fld.morSwapqBase_BASE (fget old Fld.morSwapqBase_BASE) else new
  | .bcDetBase => if fget old Fld.bcDetBase_EN = 1 then fput new Fld.bcDetBase_BASE (fget old Fld.bcDetBase_BASE) else new
  | .bcJobPlan => if s.noJob then new else old
  | .bcJobReport => if s.noJob then new else old
  | .bcMboxReq _ => if s.isSet .bcMboxCtrl Fld.bcMboxCtrl_GO then old else new
  | .bcMboxCtrl =>
    if fget old Fld.bcMboxCtrl_GO = 1 then fput new Fld.bcMboxCtrl_GO 1
    else if fget new Fld.bcMboxCtrl_GO = 1 then fput new Fld.bcMboxCtrl_DONE 0 else new
  | .colTeam d => if s.isSet (.colCtrl d) Fld.colCtrl_RUN then fput new Fld.colTeam_MAP (fget old Fld.colTeam_MAP) else new
  | .tcPc d k => if s.isSet (.tcCtrl d k) Fld.tcCtrl_RUN then old else new
  | .trvPc d j => if s.isSet (.trvCtrl d j) Fld.trvCtrl_RUN then old else new
  | .chkPointCfg _ => if fget old Fld.chkPointCfg_HELD = 1 then fput new Fld.chkPointCfg_CRC64 (fget old Fld.chkPointCfg_CRC64) else new
  | .chkChanCfg _ => if fget old Fld.chkChanCfg_HELD = 1 then fput new Fld.chkChanCfg_CRC64 (fget old Fld.chkChanCfg_CRC64) else new
  | .pwrTlimit =>
    let t := fget new Fld.pwrTlimit_T_LIMIT
    let new1 := if 70 * 16 ≤ t ∧ t ≤ 100 * 16 then new else fput new Fld.pwrTlimit_T_LIMIT (fget old Fld.pwrTlimit_T_LIMIT)
    if fget new1 Fld.pwrTlimit_LO < fget new1 Fld.pwrTlimit_HI then new1
    else fput new1 Fld.pwrTlimit_HI (fget old Fld.pwrTlimit_HI)
  | .fltCtrl =>
    let g := fget new Fld.fltCtrl_GRACE
    if 1 ≤ g ∧ g ≤ 1000 then new else fput new Fld.fltCtrl_GRACE (fget old Fld.fltCtrl_GRACE)
  | _ => new

/-- ERR_N between pulses follows ERR_HOLD while the device is disarmed (R414). -/
def State.errLevel (s : State) : State :=
  if s.isSet .fltStatus Fld.fltStatus_PULSE || s.isSet .fltStatus Fld.fltStatus_ARMED then s
  else
    let hold := s.fld .fltCtrl Fld.fltCtrl_ERR_HOLD
    if s.fld .fltStatus Fld.fltStatus_ASSERTED = hold then s
    else (s.put .fltStatus Fld.fltStatus_ASSERTED hold).emit (.errPin (hold == 1))

/-- What a plain write sets off beside the word itself. A write of HK_ROPE_EXPECT changes FULL_SHAPE and leaves SVC_LEVEL, which the
manual does not state (DESIGN CHOICE, log entry 51). -/
def State.afterPlain (s : State) (r : Reg) (old : Word) : State :=
  match r with
  | .bcMboxCtrl => if fget old Fld.bcMboxCtrl_GO = 0 ∧ s.isSet .bcMboxCtrl Fld.bcMboxCtrl_GO then s.irq 8 else s
  | .fltCtrl => s.errLevel
  | .hkRopeExpect => s.setShape (s.get .hkShape)
  | _ => s.errorCleared r

/-- A software write to the fields of a register that have no command of their own (R12, R14 to R16, R477). -/
def State.writePlain (s : State) (r : Reg) (h : Half) (v : Word) : State :=
  if s.domainUp r.domain then
    let old := s.get r
    let new := s.allowed r old (accessWrite r.fields (s.locked r) old (plainMask r h.mask) v)
    (s.set r new).afterPlain r old
  else s

/-- Word `w` of a fault record (R406). -/
def FaultRec.word (x : FaultRec) (w : Nat) : Nat :=
  let cls := b2n x.corrected + 2 * b2n x.ucc + 4 * b2n x.fatal + 8 * b2n x.pinned + 16 * b2n x.acked + 32 * b2n x.cleared +
    64 * b2n x.escalated + 128 * b2n x.injected
  match w with
  | 0 => x.time
  | 1 => x.last
  | 2 => x.seq % 2 ^ 32 + cls * 2 ^ 32 + x.die % 256 * 2 ^ 40 + x.block % 256 * 2 ^ 48 + x.inst % 256 * 2 ^ 56
  | 3 => x.code % 2 ^ 16 + x.merge % 2 ^ 16 * 2 ^ 16 + x.node % 2 ^ 32 * 2 ^ 32
  | 4 => x.addr
  | 5 => x.detail
  | 6 => x.step % 2 ^ 40
  | _ => 0

/-- Word `w` of a journal entry (R446). -/
def JournalEntry.word (x : JournalEntry) (w : Nat) : Nat :=
  match w with
  | 0 => x.time
  | 1 => x.seq % 2 ^ 32 + x.source % 256 * 2 ^ 32 + x.status % 256 * 2 ^ 40 + x.index % 2 ^ 16 * 2 ^ 48
  | 2 => x.sub % 256 + x.type % 256 * 2 ^ 8 + x.origin % 2 ^ 48 * 2 ^ 32 % 2 ^ 64
  | 3 => x.origin % 2 ^ 48 / 2 ^ 32
  | 4 => x.old
  | 5 => x.new
  | _ => 0

/-- The journal entry at a ring index (R446). -/
def State.journalAt (s : State) (i : Nat) : Option JournalEntry :=
  s.dict.journal.reverse.find? (fun e => e.seq % 4096 == i)

/-- The value a software read of a register returns: WO fields and reserved bits as zero (R14, R16), zero while its
domain is in reset (R477); the fault ring and the journal are read from their stores. -/
def State.readReg (s : State) (r : Reg) : Word :=
  if s.domainUp r.domain then
    match r with
    | .fltRec i w => match s.faults.ring[i.val]? with
      | some x => BitVec.ofNat 64 (x.word w.val)
      | none => 0
    | .hkJrnl i w => match s.journalAt i.val with
      | some x => BitVec.ofNat 64 (x.word w.val)
      | none => 0
    | .bcIrqMsipSet => s.get .bcIrqMsip
    | _ => s.get r &&& maskOf r.fields (fun a => a != .wo)
  else 0

/-- What a read clears: RC fields (R14). No register of this device has one; the rule stands for all. -/
def State.afterRead (s : State) (r : Reg) : State :=
  if (maskOf r.fields (· == .rc)) = 0 then s else s.set r (s.get r &&& ~~~(maskOf r.fields (· == .rc)))

end Sys2Proof.Machine
end

