-- ==== Sys2Proof/Machine/Crc.lean ====
section
/-! DEFINITION. The two check values of R343, as running shift registers, bit by bit and reflected. -/

namespace Sys2Proof.Machine

/-- One shift of a reflected register. -/
def crcBit (poly r : Nat) : Nat := if r % 2 = 1 then (r / 2) ^^^ poly else r / 2

/-- Eight shifts. -/
def crcShift (poly : Nat) : Nat → Nat → Nat
  | 0, r => r
  | k + 1, r => crcShift poly k (crcBit poly r)

/-- Fold bytes into a running value. -/
def crcFold (poly : Nat) (r : Nat) : List Byte → Nat
  | [] => r
  | b :: bs => crcFold poly (crcShift poly 8 (r ^^^ b.toNat)) bs

/-- CRC-32C's polynomial 0x1EDC6F41, reflected. -/
def poly32 : Nat := 0x82F63B78

/-- CRC-64's polynomial 0x42F0E1EBA9EA3693, reflected. -/
def poly64 : Nat := 0xC96C5795D7870F42

/-- The polynomial of an Ethernet frame's FCS, 0x04C11DB7, reflected (PRESUMED, log entry 50: IEEE 802.3). -/
def polyFcs : Nat := 0xEDB88320

/-- The initial value and the final XOR: all ones. -/
def ones (w : Nat) : Nat := 2 ^ w - 1

/-- CRC-32C of bytes. -/
def crc32c (bs : List Byte) : Nat := crcFold poly32 (ones 32) bs ^^^ ones 32

/-- The FCS of a frame, as its four bytes leave (R285). -/
def frameFcs (bs : List Byte) : List Byte :=
  let c := crcFold polyFcs (ones 32) bs ^^^ ones 32
  [BitVec.ofNat 8 c, BitVec.ofNat 8 (c / 2 ^ 8), BitVec.ofNat 8 (c / 2 ^ 16), BitVec.ofNat 8 (c / 2 ^ 24)]

/-- CRC-64 of bytes. -/
def crc64 (bs : List Byte) : Nat := crcFold poly64 (ones 64) bs ^^^ ones 64

end Sys2Proof.Machine
end

