-- ==== Sys2Proof/Machine/Layer.lean ====
section
/-! DEFINITION. The layer table (R205 to R207), the counts that its fusion buffers are compared with (R225), and the order
in which entries become ready (R212). -/

namespace Sys2Proof.Machine

/-- Count `a` is older than count `b`, modulo 2^32 (R137). -/
def countOlder (a b : Nat) : Bool := newer 32 b a

/-- The count of a buffer has reached a value: it is not older than it (R137). -/
def State.fbufReached (s : State) (d : Fin 4) (b : Nat) (v : Nat) : Bool :=
  !countOlder (s.fld (.trvFbuf d (Fin.ofNat 256 b)) Fld.trvFbuf_COUNT) v

/-- A layer-table entry: its 128 bytes. -/
abbrev LayerEntry := List Byte

def leIndex (x : LayerEntry) : Nat := leAt x 0 2
def leMode (x : LayerEntry) : Nat := leAt x 2 1
def leFlag (x : LayerEntry) (i : Nat) : Bool := bit (leAt x 3 1) i
def leEprog (x : LayerEntry) : Nat := leAt x 4 1
def leCbase (x : LayerEntry) : Nat := leAt x 5 1
def leIter (x : LayerEntry) : Nat := leAt x 6 1
def leNsc (x : LayerEntry) : Nat := leAt x 7 1
def leRows (x : LayerEntry) : Nat := leAt x 8 4
def leCols (x : LayerEntry) : Nat := leAt x 12 4
def leW (x : LayerEntry) : Nat := leAt x 16 8
def leM1 (x : LayerEntry) : Nat := leAt x 24 8
def leM2 (x : LayerEntry) : Nat := leAt x 32 8
def leResid (x : LayerEntry) : Nat := leAt x 40 8
def lePend (x : LayerEntry) : Nat := leAt x 48 8
def leLocal (x : LayerEntry) : Nat := leAt x 56 8
def leQout (x : LayerEntry) : Nat := leAt x 64 8
def leGrad (x : LayerEntry) : Nat := leAt x 72 8
def leCopy (x : LayerEntry) : Nat := leAt x 80 8
def leAux1 (x : LayerEntry) : Nat := leAt x 88 8
def leAux2 (x : LayerEntry) : Nat := leAt x 96 8
def leNormMax (x : LayerEntry) : Nat := leAt x 104 4
def leCfmt (x : LayerEntry) : Nat := leAt x 108 1
def leLocalBuf (x : LayerEntry) : Nat := leAt x 109 1
def leQpostBuf (x : LayerEntry) : Nat := leAt x 110 1
def leGradBuf (x : LayerEntry) : Nat := leAt x 111 1
def leGramBuf (x : LayerEntry) : Nat := leAt x 112 1
def leDoneBuf (x : LayerEntry) : Nat := leAt x 113 1
def lePeriod (x : LayerEntry) : Nat := leAt x 114 2
def leDie (x : LayerEntry) : Nat := leAt x 116 1
def leGpostBuf (x : LayerEntry) : Nat := leAt x 117 1

/-- Elements of the shard. -/
def leElems (x : LayerEntry) : Nat := leRows x * leCols x

/-- The fallback path (R211). -/
def leFallback (x : LayerEntry) : Bool := leFlag x 0 || leResid x == 0

/-- Matrix entries (R207). -/
def leMatrix (x : LayerEntry) : Bool := leMode x == 1 || leMode x == 2

/-- Entry `i` of the table of a die. -/
def State.layer (s : State) (d : Fin 4) (i : Nat) : LayerEntry := s.peek (s.fld (.optLtab d) Fld.optLtab_BASE + 128 * i) 128

/-- Table indices that a die applies, ascending (R205). -/
def State.layersOf (s : State) (d : Fin 4) : List Nat :=
  (List.range (s.fld (.optLtab d) Fld.optLtab_COUNT)).filter (fun i => leDie (s.layer d i) == d.val)

/-- The count that the engine awaits or publishes in this attempt, for team product `k` (R225). -/
def State.attemptCount (s : State) (d : Fin 4) (k : Nat) : Nat :=
  (s.fld (.optAttempt d) Fld.optAttempt_ATTEMPT * 16 + k) % 2 ^ 32

/-! ### Phase maps (R271 to R273) -/

/-- Base of the phase map that is in force on a die; `none` when its VALID is 0. -/
def State.mapBase (s : State) (d : Fin 4) (i : Nat) : Option Nat :=
  let r : Reg := .colMap d (Fin.ofNat 8 i)
  if s.isSet r Fld.colMap_VALID then some (s.fld r Fld.colMap_BASE) else none

/-- The current phase of a die. -/
def State.colPhaseOf (s : State) (d : Fin 4) : Nat := s.fld (.colPhase d) Fld.colPhase_CURRENT

/-- Header of the current map: 64 bytes, zero when there is none. -/
def State.mapHeader (s : State) (d : Fin 4) : List Byte :=
  match s.mapBase d (s.colPhaseOf d) with
  | some b => s.peek b 64
  | none => zeros 64

/-- Group entry `g` of the current map (R273); `none` beyond GROUPS. -/
def State.groupEntry (s : State) (d : Fin 4) (g : Nat) : Option (List Byte) :=
  let h := s.mapHeader d
  if g < leAt h 12 4 then some (s.peek (leAt h 32 8 + 32 * g) 32) else none

/-- The group that the norm table of the current map names for a table index (R267). -/
def State.normGroup (s : State) (d : Fin 4) (entry : Nat) : Option (List Byte) :=
  let h := s.mapHeader d
  let t := (List.range (leAt h 20 4)).map (fun i => s.peek (leAt h 48 8 + 4 * i) 4)
  match t.find? (fun x => leAt x 0 2 == entry) with
  | some x => s.groupEntry d (leAt x 2 2)
  | none => none

/-- The logical node of this device as die `d` holds it; `none` without a team and for a spare (R257). -/
def State.nodeId (s : State) (d : Fin 4) : Option Nat :=
  let w := s.get (.colTeam d)
  let rank := bits (fget w Fld.colTeam_MAP) (4 * fget w Fld.colTeam_SLOT + 3) (4 * fget w Fld.colTeam_SLOT)
  if fget w Fld.colTeam_TEAM = 0x3FFF ∨ 8 ≤ rank then none else some (fget w Fld.colTeam_TEAM * 8 + rank)

/-- A collective engine. -/
def State.colDie (s : State) (d : Fin 4) : ColDie := s.col.getD d.val ColDie.idle

/-- Replace it. -/
def State.setColDie (s : State) (d : Fin 4) (c : ColDie) : State := { s with col := s.col.set d.val c }

/-! ### Engines -/

/-- An optimizer engine. -/
def State.optDie (s : State) (d : Fin 4) : OptDie := s.opt.dies.getD d.val OptDie.idle

/-- Replace it. -/
def State.setOptDie (s : State) (d : Fin 4) (o : OptDie) : State := { s with opt := { s.opt with dies := s.opt.dies.set d.val o } }

/-- Entries of a die whose GRAD_BUF has reached its count join the order of arrival, the lower index first when several
arrive together (R212). -/
def State.optSync (s : State) (d : Fin 4) : State :=
  if s.job.attemptOpen && s.doms.compute.testBit d.val then
    let o := s.optDie d
    let fresh := (s.layersOf d).filter (fun i =>
      leMode (s.layer d i) != 3 && !o.arrived.contains i && s.fbufReached d (leGradBuf (s.layer d i)) (s.attemptCount d 0))
    if fresh.isEmpty then s else s.setOptDie d { o with arrived := o.arrived ++ fresh }
  else s

end Sys2Proof.Machine
end

