-- ==== Sys2Proof/Machine/Wire.lean ====
section
/-! DEFINITION. Rope on the wire: ports, addresses, frames as bytes, credits, replay buffers and sending (R257, R258, R282 to
R296). -/

namespace Sys2Proof.Machine

/-! ### Ports (R282, R284) -/

/-- Die of a port and its local number: T0 to T7 are 0 to 7, F0 to F7 are 8 to 15. -/
def portDie (p : Fin 16) : Fin 4 := Fin.ofNat 4 (p.val % 8 / 2)
def portLocal (p : Fin 16) : Fin 4 := Fin.ofNat 4 (p.val % 2 + (if p.val < 8 then 0 else 2))

/-- A team port. -/
def isTeam (p : Fin 16) : Bool := decide (p.val < 8)

/-- A port's registers. -/
def pCtrl (p : Fin 16) : Reg := .ropeCtrl (portDie p) (portLocal p)
def pStatus (p : Fin 16) : Reg := .ropeStatus (portDie p) (portLocal p)
def pAddr (p : Fin 16) : Reg := .ropeAddr (portDie p) (portLocal p)
def pCredit (p : Fin 16) (v : Nat) : Reg := .ropeCredit (portDie p) (portLocal p) (Fin.ofNat 3 v)
def pSeq (p : Fin 16) : Reg := .ropeSeq (portDie p) (portLocal p)
def pErrs (p : Fin 16) : Reg := .ropeErrs (portDie p) (portLocal p)
def pDisc (p : Fin 16) : Reg := .ropeDisc (portDie p) (portLocal p)
def pVc (p : Fin 16) : Reg := .ropeVc (portDie p) (portLocal p)
def pHop (p : Fin 16) : Reg := .ropeNexthop (portDie p) (portLocal p)

/-- A port beside its registers. -/
def State.port (s : State) (p : Fin 16) : RopePort := s.ports.getD p.val RopePort.idle

/-- Replace it. -/
def State.setPort (s : State) (p : Fin 16) (x : RopePort) : State := { s with ports := s.ports.set p.val x }

/-- STATE of a port, and whether it is up. -/
def State.portState (s : State) (p : Fin 16) : Nat := s.fld (pStatus p) Fld.ropeStatus_STATE
def State.portIsUp (s : State) (p : Fin 16) : Bool := s.portState p == 2 || s.portState p == 3

/-- The ports, and the team ports. -/
def allPorts : List (Fin 16) := (List.range 16).map (Fin.ofNat 16)
def teamPortList : List (Fin 16) := (List.range 8).map (Fin.ofNat 16)

/-! ### Slots, nodes and addresses (R257, R258, R286) -/

/-- TEAM, SLOT and the rank that MAP gives a slot, as a die holds them. -/
def State.teamOf (s : State) (d : Fin 4) : Nat := s.fld (.colTeam d) Fld.colTeam_TEAM
def State.slotOf (s : State) (d : Fin 4) : Nat := s.fld (.colTeam d) Fld.colTeam_SLOT
def State.rankAt (s : State) (d : Fin 4) (slot : Nat) : Nat := bits (s.fld (.colTeam d) Fld.colTeam_MAP) (4 * slot + 3) (4 * slot)

/-- Identifier of a device without a logical node (R286). -/
def spareNode : Nat := 0xFFFFF

/-- The node that a die's ports use. -/
def State.selfNode (s : State) (d : Fin 4) : Nat := (s.nodeId d).getD spareNode

/-- The node of a slot of the team. -/
def State.slotNode (s : State) (d : Fin 4) (slot : Nat) : Nat :=
  if 8 ≤ s.rankAt d slot ∨ s.teamOf d = 0x3FFF then spareNode else s.teamOf d * 8 + s.rankAt d slot

/-- The slot at the far end of a team port, and the team port that leads to a slot (R258, R305). -/
def farSlot (slot : Nat) (p : Fin 16) : Nat := (slot + p.val + 1) % 9
def portTo (slot target : Nat) : Nat := (target + 9 - slot - 1) % 9

/-- Rope MAC of a port of a node (R286). -/
def State.ropeMac (s : State) (p : Fin 16) (node port : Nat) : Nat :=
  s.fld (pAddr p) Fld.ropeAddr_MAC_PREFIX * 2 ^ 24 + (node * 16 + port) % 2 ^ 24

/-- Rope IPv6 address of a port of a node (R286). -/
def State.ropeIp (s : State) (p : Fin 16) (node port : Nat) : Nat :=
  (s.get (.ropeIpPrefix (portDie p) (portLocal p))).toNat * 2 ^ 64 + (node * 16 + port) % 2 ^ 24

/-! ### The Rope header (R287) -/

/-- A parsed header with its payload. -/
structure RopeFrame where
  ver : Nat
  type : Nat
  vc : Nat
  phase : Nat
  retx : Bool
  relay : Bool
  srcNode : Nat
  srcDie : Nat
  dstNode : Nat
  dstDie : Nat
  seq : Nat
  srcSlot : Nat
  srcPort : Nat
  tag : Nat
  addr : Nat
  epoch : Nat
  arg : Nat
  ecrc : Nat
  payload : List Byte
deriving DecidableEq, Repr

/-- Big-endian field of a list of bytes. -/
def beAt (bs : List Byte) (off len : Nat) : Nat := ofBe (slice bs off len)

/-- A frame from its bytes. -/
def RopeFrame.parse (b : List Byte) : RopeFrame :=
  let b0 := beAt b 0 1
  let b1 := beAt b 1 1
  ⟨bits b0 7 4, bits b0 3 0, bits b1 7 6, bits b1 5 3, bit b1 2, bit b1 1, bits (beAt b 2 3) 23 4, bits (beAt b 2 3) 3 2,
    bits (beAt b 5 3) 23 4, bits (beAt b 5 3) 3 2, beAt b 8 3, bits (beAt b 11 1) 7 4, bits (beAt b 11 1) 3 0, beAt b 12 4,
    beAt b 16 6, beAt b 23 1, beAt b 24 4, beAt b 28 4, (b.drop 32).take (64 * beAt b 22 1)⟩

/-- The bytes that ECRC covers (R287). -/
def ecrcBytes (b : List Byte) : List Byte := b.take 8 ++ slice b 12 16 ++ b.drop 32

/-- Bytes 0 to 7 and 12 to 27 of a header, with the hop's bytes zero. -/
def headerBytes (f : RopeFrame) : List Byte :=
  toBe 1 (f.ver * 16 + f.type) ++ toBe 1 (f.vc * 64 + f.phase * 8 + b2n f.retx * 4 + b2n f.relay * 2) ++
  toBe 3 (f.srcNode * 16 + f.srcDie * 4) ++ toBe 3 (f.dstNode * 16 + f.dstDie * 4) ++ zeros 4 ++ toBe 4 f.tag ++ toBe 6 f.addr ++
  toBe 1 (f.payload.length / 64) ++ toBe 1 f.epoch ++ toBe 4 f.arg

/-- A frame as its originator makes it, with ECRC; the hop fills bytes 8 to 11 (R287). -/
def RopeFrame.make (f : RopeFrame) : List Byte :=
  let h := headerBytes f
  h ++ toBe 4 (crc32c (ecrcBytes (h ++ zeros 4 ++ f.payload))) ++ f.payload

/-- Units of 64 B that a frame occupies (R291). -/
def frameUnits (b : List Byte) : Nat := 1 + beAt b 22 1

/-- LINK and CREDIT frames carry no SEQ of their own (R295). -/
def unnumbered (b : List Byte) : Bool := bits (beAt b 0 1) 3 0 == 8 || bits (beAt b 0 1) 3 0 == 9

/-! ### Encapsulation (R285) -/

/-- Sum of 16-bit words in ones' complement. -/
def onesSum : List Byte → Nat
  | [] => 0
  | [a] => a.toNat * 256
  | a :: b :: l => a.toNat * 256 + b.toNat + onesSum l

/-- Fold of a sum to 16 bits. -/
def fold16 (n : Nat) : Nat := let m := n % 2 ^ 16 + n / 2 ^ 16; m % 2 ^ 16 + m / 2 ^ 16

/-- The flow label (R285). -/
def flowLabel (dst src : Nat) : Nat := dst ^^^ (src * 2 ^ 10 % 2 ^ 20 + src / 2 ^ 10)

/-- UDP checksum over the pseudo-header, the header and the data (RFC 768 over RFC 8200). -/
def udpSum (src dst : List Byte) (len : Nat) (body : List Byte) : Nat :=
  let n := 0xFFFF - fold16 (onesSum (src ++ dst ++ toBe 4 len ++ toBe 4 17 ++ body))
  if n = 0 then 0xFFFF else n

/-- PCP and DSCP of a virtual channel (R310). -/
def State.vcPcp (s : State) (p : Fin 16) (v : Nat) : Nat := bits (s.get (pVc p)).toNat (16 * v + 8) (16 * v + 6)
def State.vcDscp (s : State) (p : Fin 16) (v : Nat) : Nat := bits (s.get (pVc p)).toNat (16 * v + 5) (16 * v)

/-- A frame in IPv6/UDP mode, from its IPv6 header on. -/
def State.ipBody (s : State) (p : Fin 16) (via : Option Nat) (b : List Byte) : List Byte :=
  let f := RopeFrame.parse b
  let fl := flowLabel f.dstNode f.srcNode
  let src := toBe 16 (s.ropeIp p (s.selfNode (portDie p)) p.val)
  let dst := toBe 16 (s.ropeIp p (via.getD f.dstNode) p.val)
  let len := 8 + b.length
  let head := toBe 2 (0xC000 + fl % 2 ^ 14) ++ toBe 2 (s.fld (pAddr p) Fld.ropeAddr_UDP_PORT) ++ toBe 2 len
  toBe 4 (6 * 2 ^ 28 + s.vcDscp p f.vc * 2 ^ 22 + fl) ++ toBe 2 len ++ toBe 1 17 ++
  toBe 1 (s.fld (pHop p) Fld.ropeNexthop_HOP_LIMIT) ++ src ++ dst ++
  head ++ toBe 2 (udpSum src dst len (head ++ zeros 2 ++ b)) ++ b

/-- IPv6 mode of a port; team ports always use Ethernet (R285). -/
def State.ipMode (s : State) (p : Fin 16) : Bool := !isTeam p && s.isSet (pCtrl p) Fld.ropeCtrl_IPV6

/-- The frame on the wire without its FCS (R285); on a fabric port it goes to `via` where that is not its destination (R301). -/
def State.encapsulate (s : State) (p : Fin 16) (via : Option Nat) (b : List Byte) : List Byte :=
  let d := portDie p
  let f := RopeFrame.parse b
  let self := s.ropeMac p (s.selfNode d) p.val
  let far := if isTeam p then
      let t := farSlot (s.slotOf d) p
      s.ropeMac p (s.slotNode d t) (portTo t (s.slotOf d))
    else s.ropeMac p (via.getD f.dstNode) p.val
  let tag := if !isTeam p && s.isSet (pCtrl p) Fld.ropeCtrl_VLAN then
      toBe 2 0x8100 ++ toBe 2 (s.vcPcp p f.vc * 2 ^ 13 + s.fld (pCtrl p) Fld.ropeCtrl_VID)
    else []
  if s.ipMode p then toBe 6 (s.fld (pHop p) Fld.ropeNexthop_MAC) ++ toBe 6 self ++ tag ++ toBe 2 0x86DD ++ s.ipBody p via b
  else toBe 6 far ++ toBe 6 self ++ tag ++ toBe 2 (s.fld (pAddr p) Fld.ropeAddr_ETHERTYPE) ++ b

/-- The node that sent an arriving frame on this hop, from the source address of its encapsulation (R285, R286). -/
def State.hopSource (s : State) (p : Fin 16) (w : List Byte) : Nat :=
  let rest0 := w.drop 12
  let rest := if beAt rest0 0 2 = 0x8100 && !isTeam p then rest0.drop 4 else rest0
  if s.ipMode p then ofBe (slice (rest.drop 2) 8 16) % 2 ^ 24 / 16 else beAt w 6 6 % 2 ^ 24 / 16

/-- What encapsulation tells of an arriving frame: not Rope, Rope for somebody else, or Rope with its bytes. -/
inductive Decapsulated where
  | foreign
  | misdirected (b : List Byte)
  | rope (b : List Byte)
deriving DecidableEq, Repr

/-- The encapsulation check of R289. -/
def State.decapsulate (s : State) (p : Fin 16) (w : List Byte) : Decapsulated :=
  let d := portDie p
  let rest0 := w.drop 12
  let rest := if beAt rest0 0 2 = 0x8100 && !isTeam p then rest0.drop 4 else rest0
  let body := rest.drop 2
  if s.ipMode p then
    let src := slice body 8 16
    let dst := slice body 24 16
    let udp := body.drop 40
    let len := beAt udp 4 2
    if beAt rest 0 2 ≠ 0x86DD ∨ beAt body 6 1 ≠ 17 ∨ beAt udp 2 2 ≠ s.fld (pAddr p) Fld.ropeAddr_UDP_PORT then .foreign
    else if ofBe dst ≠ s.ropeIp p (s.selfNode d) p.val ∨
        beAt udp 6 2 ≠ udpSum src dst len (udp.take 6 ++ zeros 2 ++ (udp.take len).drop 8) then .misdirected body
    else .rope ((udp.take len).drop 8)
  else if beAt rest 0 2 ≠ s.fld (pAddr p) Fld.ropeAddr_ETHERTYPE then .foreign
  else if beAt w 0 6 ≠ s.ropeMac p (s.selfNode d) p.val then .misdirected body
  else .rope body

/-! ### Sending (R290 to R296) -/

/-- Receive buffer of a credited virtual channel of a team port in units, and the replay buffer in bytes (R291, R296). -/
def creditUnits : Nat := 715
def replayBytes : Nat := 48 * 1024

/-- A waiting frame can go now: the port is up; a credited channel of a team port has credit and room to replay; a channel of a
fabric port is not paused; no traffic goes while the transmit direction moves to another lane (R292, R293, R296, R308). -/
def State.canSend (s : State) (p : Fin 16) (x : TxFrame) : Bool :=
  let q := s.port p
  s.portIsUp p &&
  (unnumbered x.bytes || !isTeam p ||
    decide ((q.replay.map (fun e => e.2.bytes.length)).sum + x.bytes.length ≤ replayBytes)) &&
  (x.vc == 3 || (!q.moving &&
    if isTeam p then decide (frameUnits x.bytes ≤ s.fld (pCredit p x.vc) Fld.ropeCredit_AVAIL) else !q.paused.testBit x.vc))

/-- Charge of a frame against its channel (R292). -/
def State.charge (s : State) (p : Fin 16) (x : TxFrame) : State :=
  if isTeam p && x.vc < 3 then
    (s.addf (pCredit p x.vc) Fld.ropeCredit_SENT (frameUnits x.bytes)).put (pCredit p x.vc) Fld.ropeCredit_AVAIL
      (s.fld (pCredit p x.vc) Fld.ropeCredit_AVAIL - frameUnits x.bytes)
  else s

/-- Bytes 8 to 11 of a hop: SEQ, slot and port of this hop's sender (R287). -/
def State.hopBytes (s : State) (p : Fin 16) (seq : Nat) (b : List Byte) : List Byte :=
  b.take 8 ++ toBe 3 seq ++ toBe 1 (s.slotOf (portDie p) % 16 * 16 + p.val) ++ b.drop 12

/-- A frame as it leaves a port, with its FCS (R285). -/
def State.onCable (s : State) (p : Fin 16) (via : Option Nat) (seq : Nat) (b : List Byte) : List Byte :=
  let w := s.encapsulate p via (s.hopBytes p seq b)
  w ++ frameFcs w

/-- A frame leaves with a SEQ. -/
def State.onWire (s : State) (p : Fin 16) (via : Option Nat) (seq : Nat) (b : List Byte) : State :=
  s.emit (.frame p.val (s.onCable p via seq b))

/-! ### Link control of a port (R287, R288, R292, R296) -/

/-- The node at the far end of a team port; a fabric port's link partner has none. -/
def State.farNode (s : State) (p : Fin 16) : Nat :=
  if isTeam p then s.slotNode (portDie p) (farSlot (s.slotOf (portDie p)) p) else spareNode

/-- The ridge die at the far end: that of the far team port, or of the port of the same index (R258, R282, R284). -/
def State.farDie (s : State) (p : Fin 16) : Nat :=
  if isTeam p then (portDie (Fin.ofNat 16 (portTo (farSlot (s.slotOf (portDie p)) p) (s.slotOf (portDie p))))).val else (portDie p).val

/-- A link-control frame of this device to the far end of a port (R287, R288, R290). -/
def State.linkFrame (s : State) (p : Fin 16) (type arg : Nat) (payload : List Byte) (dst : Nat) : TxFrame :=
  ⟨3, RopeFrame.make ⟨1, type, 3, s.colPhaseOf (portDie p), false, false, s.selfNode (portDie p), (portDie p).val, dst, s.farDie p, 0, 0, 0,
    0, 0, s.fld (.ropeTimeout (portDie p)) Fld.ropeTimeout_EPOCH, arg, 0, payload⟩, none, none⟩

/-- A LINK frame: the last in-order SEQ, and whether it is a NAK (R288, R296). -/
def State.sendLink (s : State) (p : Fin 16) (nak : Bool) : State :=
  let last := (s.fld (pSeq p) Fld.ropeSeq_RX_EXPECT + 2 ^ 24 - 1) % 2 ^ 24
  (s.setPort p { s.port p with unacked := 0 }).onWire p none last (s.linkFrame p 9 (b2n nak) [] (s.farNode p)).bytes

/-- A CREDIT frame: the freed counts of the three channels (R292). -/
def State.sendCredit (s : State) (p : Fin 16) : State :=
  let q := s.port p
  (s.setPort p { q with reported := q.freed }).onWire p none 0
    (s.linkFrame p 8 0 ((q.freed.flatMap (fun n => toLe 4 (n % 2 ^ 32))) ++ zeros 52) (s.farNode p)).bytes

/-! ### Receive buffers (R290 to R293) -/

/-- Units of a channel are freed at this end (R292). -/
def State.freeUnits (s : State) (p : Fin 16) (v n : Nat) : State :=
  let q := s.port p
  s.setPort p { q with freed := q.freed.set v ((q.freed.getD v 0 + n) % 2 ^ 32), inUse := q.inUse.set v (q.inUse.getD v 0 - n) }

/-- Bytes of the receive buffer that a fabric port holds for each credited channel (R293). -/
def fabricBuffer : Nat := 131072

/-- Bytes that a fabric port's receive buffer of one channel has free (R293). -/
def State.rxFree (s : State) (p : Fin 16) (v : Nat) : Nat := fabricBuffer - 64 * (s.port p).inUse.getD v 0

/-- Another channel of a port pauses the priority of a channel. -/
def State.priorityPaused (s : State) (p : Fin 16) (v : Nat) : Bool :=
  (List.range 3).any (fun u => u != v && (s.port p).pausing.testBit u && s.vcPcp p u == s.vcPcp p v)

/-- A pause of the channel's priority at 93,760 free bytes, a resume above 110,144 once no other channel needs the pause (R293). -/
def State.pauseSync (s : State) (p : Fin 16) (v : Nat) : State :=
  let q := s.port p
  if !q.pausing.testBit v && decide (s.rxFree p v ≤ 93760) then
    (s.setPort p { q with pausing := setBit q.pausing v true }).emit (.pause p.val (s.vcPcp p v) true)
  else if q.pausing.testBit v && decide (110144 < s.rxFree p v) then
    let s1 := s.setPort p { q with pausing := setBit q.pausing v false }
    if s.priorityPaused p v then s1 else s1.emit (.pause p.val (s.vcPcp p v) false)
  else s

/-- An arriving frame takes units of a channel's receive buffer. -/
def State.takeUnits (s : State) (p : Fin 16) (v n : Nat) : State :=
  if v < 3 then
    let q := s.port p
    let s1 := s.setPort p { q with inUse := q.inUse.set v (q.inUse.getD v 0 + n) }
    if isTeam p then s1 else s1.pauseSync p v
  else s

/-- Units freed since the last CREDIT frame, the largest over the channels (R292). -/
def State.unreported (s : State) (p : Fin 16) : Nat :=
  let q := s.port p
  ((List.range 3).map (fun v => (q.freed.getD v 0 + 2 ^ 32 - q.reported.getD v 0) % 2 ^ 32)).foldl max 0

/-- A frame leaves a receive buffer: a team port reports 16 units or more at once (R292). -/
def State.releaseUnits (s : State) (p : Fin 16) (v n : Nat) : State :=
  if v < 3 then
    let s1 := s.freeUnits p v n
    if !isTeam p then s1.pauseSync p v
    else if 16 ≤ s1.unreported p && s1.portIsUp p then s1.sendCredit p
    else s1
  else s

/-- The buffer of virtual channel 3, 4 KiB, has room for a frame (R290). -/
def State.linkRoom (s : State) (p : Fin 16) (b : List Byte) : Bool := decide ((s.port p).link + frameUnits b ≤ 64)

/-- A frame of virtual channel 3 enters that buffer, which link control empties within a cycle of the clock (R290; log entry 50). -/
def State.takeLink (s : State) (p : Fin 16) (b : List Byte) : State :=
  s.setPort p { s.port p with link := (s.port p).link + frameUnits b }

/-! ### Transmission (R292, R295, R296) -/

/-- A relayed frame leaves the receive buffer that it occupied, once it is sent or discarded (R294, R301). -/
def State.leftBuffer (s : State) (x : TxFrame) : State :=
  match x.buffer with
  | some q => s.releaseUnits q.1 x.vc q.2
  | none => s

/-- Send a frame now: charged, numbered, kept for replay on a team port (R292, R295, R296). -/
def State.transmit (s : State) (p : Fin 16) (x : TxFrame) : State :=
  let seq := s.fld (pSeq p) Fld.ropeSeq_TX_SEQ
  let s1 := (s.charge p x).put (pSeq p) Fld.ropeSeq_TX_SEQ (seq + 1)
  let s2 := if isTeam p then s1.setPort p { s1.port p with replay := (s1.port p).replay ++ [(seq, x)] } else s1
  (s2.onWire p x.via seq x.bytes).leftBuffer x

/-- Send what can go, in order; a frame that cannot go holds back later ones of its channel. -/
def State.pumpGo (p : Fin 16) : List TxFrame → State → List TxFrame → State
  | [], s, kept => s.setPort p { s.port p with waiting := kept }
  | x :: xs, s, kept =>
    if s.canSend p x && !kept.any (fun y => y.vc == x.vc) then State.pumpGo p xs (s.transmit p x) kept
    else State.pumpGo p xs s (kept ++ [x])

/-- Send what can go on a port. -/
def State.pump (s : State) (p : Fin 16) : State := State.pumpGo p (s.port p).waiting s []

/-- A frame joins those that wait on a port, and what can go is sent. -/
def State.send (s : State) (p : Fin 16) (x : TxFrame) : State :=
  (s.setPort p { s.port p with waiting := (s.port p).waiting ++ [x] }).pump p

/-- Replay from the frame after an acknowledged one: what is replayed returns to AVAIL and is charged again (R294, R296). -/
def State.replayAll (s : State) (p : Fin 16) : State :=
  (s.port p).replay.foldl (fun t e => t.onWire p e.2.via e.1 e.2.bytes)
    ((s.bump (pErrs p) Fld.ropeErrs_REPLAY).setPort p { s.port p with replays := (s.port p).replays + 1 })

/-- HELLO on a port (R288, R305): team, slot, node and HK_SHAPE; the order of the fields is the model's (log entry 12). -/
def State.sendHello (s : State) (p : Fin 16) : State :=
  let d := portDie p
  s.send p (s.linkFrame p 0xD 0
    (toLe 2 (s.teamOf d) ++ toLe 1 (s.slotOf d) ++ zeros 1 ++ toLe 4 (s.selfNode d) ++ toLe 8 (s.get .hkShape).toNat ++ zeros 48)
    (s.farNode p))

/-! ### Heartbeats as frames (R417) -/

/-- The payload of a HEARTBEAT frame; its fields are little-endian under R10: only headers are big-endian. -/
def Heartbeat.payload (h : Heartbeat) : List Byte :=
  let flags := b2n h.failing + 2 * b2n h.leaving + 4 * b2n h.notice + 8 * b2n h.promote + 16 * b2n h.report + 32 * b2n h.target
  toLe 2 h.team ++ toLe 1 h.slot ++ toLe 1 flags ++ toLe 1 h.epoch ++ toLe 1 (h.reach % 16 + h.foreign % 16 * 16) ++ toLe 2 h.seen ++
  toLe 4 h.failed ++ toLe 8 h.map ++ toLe 8 h.step ++ toLe 4 h.count ++ zeros 32

/-- A heartbeat from a payload. -/
def Heartbeat.parse (b : List Byte) : Heartbeat :=
  let f := leAt b 3 1
  ⟨leAt b 0 2, leAt b 2 1, bit f 0, bit f 1, bit f 2, bit f 3, bit f 4, bit f 5, leAt b 4 1, bits (leAt b 5 1) 3 0, bits (leAt b 5 1) 7 4,
    leAt b 6 2, leAt b 8 4, bits (leAt b 12 8) 35 0, bits (leAt b 20 8) 39 0, leAt b 28 4⟩

/-- Send a heartbeat on a port, to the far end of a team port or to logical node 0 (R418). -/
def State.sendBeat (s : State) (p : Fin 16) (h : Heartbeat) : State :=
  s.send p (s.linkFrame p 0xA 0 h.payload (if isTeam p then s.farNode p else 0))

end Sys2Proof.Machine
end

