-- ==== Sys2Proof/Machine/Journal.lean ====
section
/-! DEFINITION. The write journal (R445 to R447), the kept dictionary entries (R434), heartbeats as they are sent (R417,
R418), and the start of a job's end (R236, R237). -/

namespace Sys2Proof.Machine

/-- Append a journal entry: the oldest of 4,096 is overwritten and OVERFLOW counts it, saturating (R446, R447). -/
def State.journalAdd (s : State) (source origin status idx sub type old new : Nat) : State :=
  let e : JournalEntry := ⟨s.now, s.dict.journalSeq % 2 ^ 32, source, status, idx, sub, type, origin, old, new⟩
  let full := 4096 ≤ s.dict.journal.length
  let j := s.dict.journal ++ [e]
  let s1 := { s with dict := { s.dict with journal := if full then j.drop 1 else j, journalSeq := s.dict.journalSeq + 1 } }
  let s2 := s1.put .hkJournal Fld.hkJournal_HEAD ((s.dict.journalSeq + 1) % 4096)
  if full then s2.bump .hkJournal Fld.hkJournal_OVERFLOW else s2

/-- Names of the kept entries (R434, R436, R403). -/
def keptNames : List (Nat × Nat) :=
  [(0x1000, 8), (0x1010, 1), (0x1010, 2), (0x1010, 3), (0x1010, 4), (0x1010, 5), (0x1020, 1), (0x1020, 2), (0x1020, 3),
   (0x2000, 1)]

/-- The kept part of the stored entries. -/
def keptPart (l : List ((Nat × Nat) × List Byte)) : List ((Nat × Nat) × List Byte) :=
  l.filter (fun e => keptNames.contains e.1)

/-- Store the value of an entry that mirrors no register; a kept entry asks for a flash write (R434). -/
def State.dictStore (s : State) (idx sub : Nat) (bs : List Byte) : State :=
  let st := assocSet s.dict.stored (idx, sub) bs
  let fl := if keptNames.contains (idx, sub) then s.dict.flash.request (keptPart st) else s.dict.flash
  { s with dict := { s.dict with stored := st, flash := fl } }

/-- The device itself changes a kept entry: recorded with source 0 (R445). -/
def State.deviceKept (s : State) (idx sub type old new : Nat) (bs : List Byte) : State :=
  (s.dictStore idx sub bs).journalAdd 0 0 0 idx sub type old new

/-- The heartbeat this device sends now, without flags (R417). -/
def State.heartbeatNow (s : State) : Heartbeat :=
  { team := s.fld (.colTeam s.headDie) Fld.colTeam_TEAM, slot := s.fld (.colTeam s.headDie) Fld.colTeam_SLOT,
    failing := false, leaving := false, notice := s.restart.notice, promote := s.restart.promote, report := false,
    target := false, epoch := s.fld (.ropeTimeout s.headDie) Fld.ropeTimeout_EPOCH,
    reach := s.fld .fltRestart Fld.fltRestart_REACH, foreign := s.restart.foreign,
    seen := s.fld .fltHb Fld.fltHb_SEEN, failed := s.restart.failedNode, map := s.restart.map,
    step := 0, count := 0 }

/-- Send a heartbeat on every up team port, from the dies still out of reset, and from the lead on F0 (port 8) to
node 0 (R418). -/
def State.sendHeartbeat (s : State) (h : Heartbeat) : State :=
  let ports := teamPortList.filter (fun p => s.doms.compute.testBit (portDie p).val && s.portIsUp p)
  let lead := if s.isSet .fltHb Fld.fltHb_LEAD && s.doms.compute.testBit 0 then [(8 : Fin 16)] else []
  (ports ++ lead).foldl (fun t p => t.sendBeat p h) s

/-- One heartbeat with FAILING; EN is cleared (R418). -/
def State.failHeartbeat (s : State) : State :=
  if s.isSet .fltHb Fld.fltHb_EN then
    (s.sendHeartbeat { s.heartbeatNow with failing := true }).put .fltHb Fld.fltHb_EN 0
  else s

/-- The end of a job begins with an end code (R236); a cause that arrives in an END-driven end replaces its code, and of two that arrive
in one H-clock cycle the higher code stands (R237). -/
def State.beginEnd (s : State) (code : Nat) : State :=
  let st := s.fld .bcJobStatus Fld.bcJobStatus_STATE
  if st = 2 then
    { (s.put .bcJobStatus Fld.bcJobStatus_STATE 3) with job := { s.job with endCode := code, endWaits := false, endAt := s.now } }
  else if st = 3 ∧ (s.job.endCode = 0x20 ∨ s.job.endAt = s.now) then { s with job := { s.job with endCode := max s.job.endCode code, endWaits := false } }
  else s

end Sys2Proof.Machine
end

