-- ==== Sys2Proof/Machine/RopeReq.lean ====
section
/-! DEFINITION. The requester's side of Rope: tags, planes, sending, retransmission (R272, R290, R297 to R299). -/

namespace Sys2Proof.Machine

/-- The die-wide part of Rope. -/
def State.ropeDie (s : State) (d : Fin 4) : RopeDie := s.rope.getD d.val RopeDie.idle

/-- Replace it. -/
def State.setRopeDie (s : State) (d : Fin 4) (r : RopeDie) : State := { s with rope := s.rope.set d.val r }

/-- The slot of the own team that holds a node, if one does (R258). -/
def State.mateSlot (s : State) (d : Fin 4) (node : Nat) : Option Nat :=
  if s.teamOf d = 0x3FFF ∨ node / 8 ≠ s.teamOf d then none
  else (List.range 9).find? (fun t => s.rankAt d t == node % 8)

/-- PORT and PERMIT of the route entry of a node in the current map (R272). -/
def State.routeOf (s : State) (d : Fin 4) (node : Nat) : Option (Nat × Nat) :=
  let h := s.mapHeader d
  ((List.range (leAt h 8 4)).map (fun i => leAt (s.peek (leAt h 24 8 + 8 * i) 8) 0 8)).find? (fun w => bits w 63 44 == node) |>.map
    (fun w => (bits w 43 40, bits w 39 24))

/-- A destination can be reached: a member of the own team, or a node with a route (R272). -/
def State.reaches (s : State) (d : Fin 4) (node : Nat) : Bool := (s.mateSlot d node).isSome || (s.routeOf d node).isSome

/-- The preferred port of a destination and its plane as a mask (R258, R272, R299). -/
def State.planeOf (s : State) (d : Fin 4) (node : Nat) : Nat × Nat :=
  match s.mateSlot d node with
  | some t => (portTo (s.slotOf d) t, 0xFF)
  | none => (s.routeOf d node).getD (0, 0)

/-- The first port of a mask that is up, in ascending cyclic order from a port. -/
def State.upFrom (s : State) (mask start : Nat) : Option (Fin 16) :=
  ((List.range 16).map (fun i => Fin.ofNat 16 (start + i))).find? (fun p => mask.testBit p.val && s.portIsUp p)

/-- The payload limit of requests: the smallest MTU that a port is set to (R285). -/
def State.ropeMtu (s : State) : Nat :=
  (allPorts.map (fun p => 1024 * 2 ^ min 2 (s.fld (pCtrl p) Fld.ropeCtrl_MTU))).foldl min 4096

/-- A frame of a request on a port; RELAY when a team member must pass it on (R287, R301). -/
def State.requestFrame (s : State) (d : Fin 4) (r : RopeReq) (p : Fin 16) (retx : Bool) : TxFrame :=
  let direct := decide ((s.mateSlot d r.node).map (portTo (s.slotOf d)) = some p.val)
  let vc := if r.type = 3 then 1 else 0
  ⟨vc, RopeFrame.make ⟨1, r.type, vc, r.phase, retx, isTeam p && !direct, s.selfNode d, d.val, r.node, r.die, 0, 0, 0, r.tag, r.addr,
    s.fld (.ropeTimeout d) Fld.ropeTimeout_EPOCH, r.arg, 0, r.payload⟩, none, none⟩

/-- Units that the response to a request takes (R290). -/
def RopeReq.answerUnits (r : RopeReq) : Nat := if r.type = 1 then 1 + r.arg % 2 ^ 16 else 1

/-- Units of a port's response buffer that outstanding requests have reserved, but for those of one tag of a die (R290). -/
def State.reserved (s : State) (p : Fin 16) (own : Option (Fin 4 × Nat)) : Nat :=
  ((List.finRange 4).flatMap (fun e => ((s.ropeDie e).open_.filter (fun x => x.port == p.val && !x.parked && own != some (e, x.tag))).map
    RopeReq.answerUnits)).sum

/-- Space for the response of a request is free in a port's receive buffer of channel 2 (R290, R291, R293). -/
def State.canReserve (s : State) (p : Fin 16) (r : RopeReq) (own : Option (Fin 4 × Nat)) : Bool :=
  decide (s.reserved p own + r.answerUnits ≤ if isTeam p then creditUnits else fabricBuffer / 64)

/-- The window of 4,096 tags has room (R297). -/
def State.tagFree (s : State) (d : Fin 4) : Bool :=
  (s.ropeDie d).open_.all (fun r => decide (((s.ropeDie d).nextTag + 2 ^ 32 - r.tag) % 2 ^ 32 < 4096))

/-- Send a request for the first time: it takes the next tag (R297). -/
def State.sendFirst (s : State) (d : Fin 4) (r : RopeReq) (p : Fin 16) : State :=
  let q := s.ropeDie d
  let r1 := { r with tag := q.nextTag, port := p.val, first := s.now, last := s.now }
  let s1 := s.setRopeDie d { q with nextTag := (q.nextTag + 1) % 2 ^ 32, open_ := q.open_ ++ [r1] }
  let s2 := match r.use with
    | .col _ => s1.addf (.colBytes d) Fld.colBytes_COUNT r.payload.length
    | _ => s1
  s2.send p (s2.requestFrame d r1 p false)

/-- A request that waits can be sent now, and on which port: one that no frame of its channel waits for (R290, R299). -/
def State.readyPort (s : State) (d : Fin 4) (r : RopeReq) : Option (Fin 16) :=
  let pl := s.planeOf d r.node
  match s.upFrom pl.2 pl.1 with
  | some p =>
    let x := s.requestFrame d r p false
    if s.tagFree d && s.canSend p x && !(s.port p).waiting.any (fun y => y.vc == x.vc) && s.canReserve p r none then some p else none
  | none => none

/-- Send what can go; requests to one destination keep their order. -/
def State.drainGo (d : Fin 4) : List RopeReq → State → List RopeReq → State
  | [], s, kept => s.setRopeDie d { s.ropeDie d with queue := kept }
  | r :: rs, s, kept =>
    match (if kept.any (fun k => k.node == r.node) then none else s.readyPort d r) with
    | some p => State.drainGo d rs (s.sendFirst d r p) kept
    | none => State.drainGo d rs s (kept ++ [r])

/-- Send what can go from a die. -/
def State.drain (s : State) (d : Fin 4) : State := State.drainGo d (s.ropeDie d).queue s []

/-- The outstanding request of a tag. -/
def State.openReq (s : State) (d : Fin 4) (tag : Nat) : Option RopeReq := (s.ropeDie d).open_.find? (fun r => r.tag == tag)

/-- Replace an outstanding request. -/
def State.putOpen (s : State) (d : Fin 4) (r : RopeReq) : State :=
  let q := s.ropeDie d
  s.setRopeDie d { q with open_ := q.open_.map (fun x => if x.tag = r.tag then r else x) }

/-- A request is outstanding no more. -/
def State.dropOpen (s : State) (d : Fin 4) (tag : Nat) : State :=
  let q := s.ropeDie d
  s.setRopeDie d { q with open_ := q.open_.filter (fun r => r.tag != tag) }

/-- Send an outstanding request again from a port on in cyclic order; with no port of its plane up, or no space reserved for its response
there, it waits (R290, R299). -/
def State.resend (s : State) (d : Fin 4) (r : RopeReq) (start : Nat) (retx : Bool) : State :=
  match (s.upFrom (s.planeOf d r.node).2 start).filter (fun p => s.canReserve p r (some (d, r.tag))) with
  | none => s.putOpen d { r with parked := true }
  | some p =>
    let r1 := { r with port := p.val, last := s.now, refused := false, parked := false }
    let s1 := s.putOpen d r1
    let s2 := if retx then s1.bump (.ropeRetx d) Fld.ropeRetx_RETX else s1
    s2.send p (s2.requestFrame d r1 p retx)

/-- Requests that wait for a port, or for space for their response, are sent again when there is one. -/
def State.unpark (s : State) : State :=
  ([0, 1, 2, 3] : List (Fin 4)).foldl (fun (t : State) d =>
    ((t.ropeDie d).open_.filter (fun r => r.parked)).foldl (fun (u : State) r => u.resend d r (r.port + 1) true) t) s

/-- Send what can go from every die, outstanding requests that wait first. -/
def State.drainAll (s : State) : State := ([0, 1, 2, 3] : List (Fin 4)).foldl State.drain s.unpark

/-- Requests join those of a die. -/
def State.submit (s : State) (d : Fin 4) (rs : List RopeReq) : State :=
  let q := s.ropeDie d
  (s.setRopeDie d { q with queue := q.queue ++ rs }).drain d

/-- A new request. -/
def State.newReq (s : State) (d : Fin 4) (use : RopeUse) (type node addr : Nat) (payload : List Byte) (arg : Nat) : RopeReq :=
  ⟨use, type, node, d.val, addr, payload, arg, s.colPhaseOf d, 0, 0, 0, 0, false, false, false⟩

/-- Pieces of at most `k` bytes, with their offsets. -/
def mtuPieces (k : Nat) (bs : List Byte) : List (Nat × List Byte) :=
  (List.range ((bs.length + k - 1) / max 1 k)).map (fun i => (k * i, slice bs (k * i) k))

/-- Write bytes at an address of a node's die of the same number (R288). -/
def State.writeReqs (s : State) (d : Fin 4) (use : RopeUse) (node addr : Nat) (bs : List Byte) : List RopeReq :=
  (mtuPieces s.ropeMtu bs).map (fun x => s.newReq d use 2 node (addr + x.1) x.2 0)

/-- Read `n` bytes from an address of a node; each piece comes back to its own address (R288). -/
def State.readReqs (s : State) (d : Fin 4) (node addr n dst : Nat) : List RopeReq :=
  (List.range ((n + s.ropeMtu - 1) / max 1 s.ropeMtu)).map (fun i =>
    s.newReq d (.restore (dst + s.ropeMtu * i)) 1 node (addr + s.ropeMtu * i) [] ((min s.ropeMtu (n - s.ropeMtu * i) + 63) / 64))

/-- Requests of a use are forgotten, waiting and outstanding ones alike. -/
def State.forget (s : State) (d : Fin 4) (p : RopeUse → Bool) : State :=
  let q := s.ropeDie d
  s.setRopeDie d { q with queue := q.queue.filter (fun r => !p r.use), open_ := q.open_.filter (fun r => !p r.use) }

/-- A use of the collective engine's descriptors. -/
def RopeUse.isCol : RopeUse → Bool
  | .col _ => true
  | _ => false

/-- The use of mirroring. -/
def RopeUse.isMirror : RopeUse → Bool
  | .mirror => true
  | _ => false

/-- A request of a use waits or is outstanding. -/
def State.busyWith (s : State) (d : Fin 4) (p : RopeUse → Bool) : Bool :=
  (s.ropeDie d).queue.any (fun r => p r.use) || (s.ropeDie d).open_.any (fun r => p r.use)

end Sys2Proof.Machine
end

