-- ==== Sys2Proof/Machine/Bandwidth.lean ====
section
/-! DEFINITION. Bandwidth contracts, deliverable bandwidth and the degradation order (R52, R67 to R74, R471). Bandwidths are
whole MB/s. Tier 0 near, 1 moraine, 2 host towards the device, 3 host from the device. -/

namespace Sys2Proof.Machine

/-- Fraction of peak, in hundredths, that a burst of `bytes` can use on a tier (R52). -/
def burstFraction (tier bytes : Nat) : Nat :=
  let row := if bytes < 128 then 0 else if bytes < 256 then 1 else if bytes < 512 then 2 else if bytes < 1024 then 3
    else if bytes < 2048 then 4 else 5
  let near := [24, 42, 66, 88, 94, 96]
  let mor := [45, 62, 78, 86, 90, 92]
  let host := [40, 60, 80, 95, 98, 100]
  (if tier = 0 then near else if tier = 1 then mor else host).getD row 100

/-- Peak of each direction of the host link in MB/s (R471); `rate` is in units of 0.1 GT/s. -/
def hostPeak (rate width mps : Nat) (flit : Bool) : Nat :=
  let e := if flit then 945 else if 80 ≤ rate then 920 else 780
  let m := if 512 ≤ mps then 100 else if 256 ≤ mps then 90 else 80
  rate * width * 100 / 8 * e / 1000 * m / 100

/-- Peak of a tier in MB/s (R35, R57, R471). -/
def State.tierPeak (s : State) (tier : Nat) : Nat :=
  if tier = 0 then (if s.a0 then 11468800 else 12800000) else if tier = 1 then 1638336
  else if s.pcie.up then hostPeak s.pcie.rate s.pcie.width s.pcie.mps s.pcie.flit else 0

/-- Parts of a MB/s in which charges are counted: a common multiple of every fraction of R52 in hundredths and of 1,000, so that no
charge is rounded. -/
def chargeUnit : Nat := 6906278102724000

/-- Charge of a class against a tier (R68), in parts of a MB/s. Class 5 is scrub and 6 telemetry: reservations of these are
percentages, held in MB/s. -/
def chargeOf (tier : Nat) (c : Contract) : Nat :=
  if 5 ≤ c.cls then c.mbps * chargeUnit else c.mbps * (chargeUnit / burstFraction tier c.burst) * 100

/-- Charge of class `cls` in `tier` over the declared contracts. -/
def classCharge (cs : List Contract) (tier cls : Nat) : Nat :=
  ((cs.filter (fun c => c.tier == tier && c.cls == cls)).map (chargeOf tier)).sum

/-- The charge of telemetry: 0.1 % of peak (R67). -/
def telemetryCharge (peak : Nat) : Nat := peak * (chargeUnit / 1000)

/-- Sum of the charges of all classes for a tier, telemetry at its fixed 0.1 % of peak (R67, R69). -/
def tierCharge (cs : List Contract) (tier peak : Nat) : Nat :=
  ((List.range 6).map (classCharge cs tier)).sum + telemetryCharge peak

/-- The class at each position of the degradation order: scrub, telemetry, mirroring, input decode, KV swap, compute
streams (R71), as class numbers of R67. -/
def degradeOrder : List Nat := [5, 6, 3, 4, 1, 0]

/-- How far the class at a position of the order can be cut (R71): to zero, telemetry to 1/64, input decode to one batch
of `depth`. -/
def maxCut (cs : List Contract) (tier peak depth pos : Nat) : Nat :=
  let cls := degradeOrder.getD pos 0
  let c := if cls = 6 then telemetryCharge peak else classCharge cs tier cls
  if cls = 6 then c - c / 64 else if cls = 4 then (if depth = 0 then c else c - c / depth) else c

/-- The smallest number of classes that must be degraded so that what is left fits; 6 when nothing suffices. -/
def neededLevel (sum deliverable : Nat) : List Nat → Nat → Nat
  | [], n => n
  | c :: cs, n => if sum ≤ deliverable then n else neededLevel (sum - c) deliverable cs (n + 1)

/-- Batches by which input decode, with `depth` batches ahead, must be cut when it is the last class degraded: as few as
let the rest fit (R71). A deeper level cuts it to one batch. -/
def neededCuts (cs : List Contract) (tier peak depth sum deliverable level : Nat) : Nat :=
  if level < 4 then 0
  else if 4 < level then depth - 1
  else
    let rest := sum - ((List.range 3).map (maxCut cs tier peak depth)).sum
    let step := classCharge cs tier 4 / max 1 depth
    if step = 0 then 1 else max 1 (min (depth - 1) ((rest - deliverable + step - 1) / step))

/-- One computation for a tier, whose charges `fit` what is deliverable or do not: a fall acts at once; a rise restores one class, or
one batch of input decode, after 10 computations in which they fitted (R71, R73). -/
def TierBandwidth.step (t : TierBandwidth) (deliverable needed cuts depth : Nat) (fit : Bool) : TierBandwidth :=
  if t.level < needed ∨ (t.level = needed ∧ t.cuts < cuts) then
    { t with deliverable := deliverable, level := needed, cuts := cuts, calm := 0 }
  else if fit && decide (0 < t.level) then
    if t.calm + 1 = 10 then
      if t.level = 4 ∧ 1 < t.cuts then { t with deliverable := deliverable, cuts := t.cuts - 1, calm := 0 }
      else { t with deliverable := deliverable, level := t.level - 1,
                    cuts := (if t.level = 5 then depth - 1 else if t.level ≤ 4 then 0 else t.cuts), calm := 0 }
    else { t with deliverable := deliverable, calm := t.calm + 1 }
  else { t with deliverable := deliverable, calm := 0 }

/-- The field of NT_CONTRACT_STATE that holds a tier's level. -/
def levelField (tier : Nat) : Fld :=
  if tier = 0 then Fld.ntContractState_LEVEL_NEAR else if tier = 1 then Fld.ntContractState_LEVEL_MOR
  else if tier = 2 then Fld.ntContractState_LEVEL_HOST_OUT else Fld.ntContractState_LEVEL_HOST_IN

/-- Deliverable bandwidth of a tier: peak less refresh and PHY losses, and for the near tier the share of the retired
frames, which the moraine tier carries instead (R70). -/
def State.deliverable (s : State) (tier loss : Nat) : Nat :=
  let peak := s.tierPeak tier
  let retired := s.repair.record.near.length
  peak - loss - (if tier = 0 then peak * retired / 2 ^ 23 else 0)

/-- Sum of charges of a tier with the near traffic that retired frames move to the moraine tier. -/
def State.chargeSum (s : State) (tier : Nat) : Nat :=
  tierCharge s.tiers.contracts tier (s.tierPeak tier) +
    (if tier = 1 then tierCharge s.tiers.contracts 0 (s.tierPeak 0) * s.repair.record.near.length / 2 ^ 23 else 0)

/-- Degradation of a tier. -/
def State.tierBandwidth (s : State) (tier : Nat) : TierBandwidth := s.tiers.bandwidth.getD tier TierBandwidth.idle

/-- Whole batches by which the highest SAMPLE taken lies ahead of OPT_CURSOR (R313). -/
def State.leadBatches (s : State) : Nat :=
  let d := (diesOf s.doms.compute).headD 0
  let cursor := s.fld (.optCursor d) Fld.optCursor_CURSOR
  let batch := s.fld (.optBatch d) Fld.optBatch_BATCH
  match s.input.highSample with
  | some h => (h - cursor) / batch
  | none => 0

/-- Batches of input decode ahead of OPT_CURSOR before any cut: DEPTH, or without a limit what the first cut found. -/
def State.inputDepth (s : State) : Nat :=
  let d := s.fld .medCtrl Fld.medCtrl_DEPTH
  if d ≠ 0 then d else s.input.depthBase.getD s.leadBatches

/-- How often the mirroring interval is doubled when mirroring is the last of `level` classes degraded: as often as the rest then
fits; 0 while it is not degraded, 7 once it is degraded to zero or 64 times EVERY would not do (R71, R422). -/
def mirrorShift (cs : List Contract) (tier peak sum deliverable level : Nat) : Nat :=
  if level < 3 then 0
  else if 3 < level then 7
  else
    let mirror := classCharge cs tier 3
    let rest := sum - maxCut cs tier peak 1 0 - maxCut cs tier peak 1 1
    ((List.range 7).find? (fun k => decide (rest ≤ deliverable + (mirror - mirror / 2 ^ k)))).getD 7

/-- BLOCK of a tier's records: the near-tier controller, the moraine controller, the host window (R407). -/
def tierBlock (tier : Nat) : Nat := if tier = 0 then 8 else if tier = 1 then 9 else 10

/-- The record of one class whose degradation changed: tier, class and new level (R72). -/
def State.degradeRecord (s : State) (tier : Nat) (new : TierBandwidth) (cls : Nat) : State :=
  s.correctedEvent ⟨7, tierBlock tier, noInst⟩ 0x0107 0 (tier * 2 ^ 16 + cls * 2 ^ 8 + new.level + new.cuts * 2 ^ 24 + new.shift * 2 ^ 48)

/-- Classes whose degradation a computation changed, in the order of R71: each that is newly degraded or restored, the one that was
the last before when a deeper level takes it as far as it goes, and input decode or mirroring whose cut changed (R72). -/
def changedClasses (old new : TierBandwidth) : List Nat :=
  (List.range 6).filterMap (fun p =>
    let c := degradeOrder.getD p 0
    let moved := decide (min old.level new.level ≤ p ∧ p < max old.level new.level)
    let cut := c == 4 && new.cuts != old.cuts || c == 3 && new.shift != old.shift
    if moved || cut then some c else none)

/-- The computation of one tier, with its reports on a change (R70 to R73). -/
def State.computeTier (s : State) (tier loss : Nat) : State :=
  let cs := s.tiers.contracts
  let peak := s.tierPeak tier
  let depth := s.inputDepth
  let dv := s.deliverable tier loss
  let sum := s.chargeSum tier
  let need := neededLevel sum (dv * chargeUnit) ((List.range 6).map (maxCut cs tier peak depth)) 0
  let old := s.tierBandwidth tier
  let mid := old.step dv need (neededCuts cs tier peak depth sum (dv * chargeUnit) need) depth (decide (sum ≤ dv * chargeUnit))
  let new := { mid with peak := peak, loss := loss, shift := mirrorShift cs tier peak sum (dv * chargeUnit) mid.level }
  let s1 := { s with tiers := { s.tiers with bandwidth := s.tiers.bandwidth.set tier new } }
  let frac := if peak ≤ dv then 0xFFFF else dv * 65536 / peak
  let s2 := if tier = 0 then s1.put .ntContractState Fld.ntContractState_DELIV_NEAR frac
    else if tier = 1 then s1.put .ntContractState Fld.ntContractState_DELIV_MOR frac else s1
  if (changedClasses old new).isEmpty then s2
  else ((changedClasses old new).foldl (fun (t : State) c => t.degradeRecord tier new c)
    (s2.put .ntContractState (levelField tier) new.level)).notify 2 4

/-- EFF_DEPTH: DEPTH less one batch for each cut, at least one; without a limit the first cut sets one (R71, R313). -/
def State.effectiveDepth (s : State) : State :=
  let d := s.fld .medCtrl Fld.medCtrl_DEPTH
  let cuts : Nat := (s.tiers.bandwidth.map (fun (t : TierBandwidth) => t.cuts)).foldl max 0
  if d ≠ 0 then
    ({ s with input := { s.input with depthBase := none } }).put .medStatus Fld.medStatus_EFF_DEPTH (max 1 (d - cuts))
  else if cuts = 0 then
    ({ s with input := { s.input with depthBase := none } }).put .medStatus Fld.medStatus_EFF_DEPTH 0
  else
    let base := s.input.depthBase.getD s.leadBatches
    ({ s with input := { s.input with depthBase := some base } }).put .medStatus Fld.medStatus_EFF_DEPTH
      (max 1 (max 1 (base - 1) - (cuts - 1)))

/-! ### What degraded classes do (R71, R421, R422) -/

/-- EVERY as degradation lengthens it; `none` while mirroring is degraded to zero (R422). -/
def State.mirrorEvery (s : State) : Option Nat :=
  let k := (s.tiers.bandwidth.map TierBandwidth.shift).foldl max 0
  if 7 ≤ k then none else some (s.fld .fltMirror Fld.fltMirror_EVERY * 2 ^ k)

/-- Milliseconds between telemetry samples: 1, and while telemetry is degraded as many as let the rest fit, at most 64 (R71). -/
def State.telemetryPeriod (s : State) : Nat :=
  ((List.range 4).map (fun tier =>
    let b := s.tierBandwidth tier
    let t := telemetryCharge b.peak
    let rest := s.chargeSum tier - maxCut s.tiers.contracts tier b.peak 1 0
    if b.level < 2 then 1
    else if 2 < b.level then 64
    else ((List.range 64).find? (fun k => decide (rest ≤ b.deliverable * chargeUnit + (t - t / (k + 1))))).getD 63 + 1)).foldl max 1

/-- KV swap is degraded to zero on a tier: deeper classes are degraded too, or all of its charge had to go (R71). -/
def State.swapAtZero (s : State) (tier : Nat) : Bool :=
  let b := s.tierBandwidth tier
  let cs := s.tiers.contracts
  decide (0 < b.peak) && (decide (5 < b.level) || b.level == 5 &&
    decide (b.deliverable * chargeUnit + ((List.range 5).map (maxCut cs tier b.peak s.inputDepth)).sum ≤ s.chargeSum tier))

/-- Compute streams are degraded on a tier of the KV feeder: their issue is throttled (R71). -/
def State.computeThrottled (s : State) : Bool := (s.tierBandwidth 0).level == 6 || (s.tierBandwidth 1).level == 6

/-! ### Short bursts (R68) -/

/-- Tier of R67 that an address lies in: 0 near, 1 moraine, 2 and 3 the host link; `none` for the ledge and registers. -/
def contractTier (a : Nat) (isRead : Bool) : Option Nat :=
  if a < 2 ^ 39 then some 0
  else if morBase ≤ a ∧ a < morEnd then some 1
  else if hostBase ≤ a ∧ a < hostEnd then some (if isRead then 2 else 3)
  else none

/-- What a class must stall of a requester whose shortest burst at an address is `bytes` long: a burst shorter than the shortest that
the class declared (R68, R161). -/
def State.shortBursts (s : State) (r : Requester) (a : Nat) (isRead : Bool) (cls bytes : Nat) : List StalledBurst :=
  match contractTier a isRead with
  | none => []
  | some tier => match s.tiers.contracts.find? (fun c => c.tier == tier && c.cls == cls) with
    | some c => if bytes < c.burst then [⟨r, tier, cls, bytes⟩] else []
    | none => []

/-- Bursts that stall until their charge allows them. -/
def State.stallBursts (s : State) (l : List StalledBurst) : State :=
  { s with tiers := { s.tiers with stalledBursts := s.tiers.stalledBursts ++ l } }

/-- A burst of a requester is stalled by its contract (R68). -/
def State.burstStalled (s : State) (r : Requester) : Bool := s.tiers.stalledBursts.any (fun b => decide (b.req = r))

/-- The requests of mirroring are forgotten on every die. -/
def State.forgetMirror (s : State) : State :=
  ([0, 1, 2, 3] : List (Fin 4)).foldl (fun (t : State) d => t.forget d RopeUse.isMirror) s

/-- The generation being written is abandoned: its slot becomes invalid, a Corrected record is written (R422). -/
def State.abandonMirror (s : State) : State :=
  match s.restart.mirrorSlot with
  | none => s
  | some g =>
    let r : Reg := .fltMgen (Fin.ofNat 2 g)
    let s1 := ({ s with restart := { s.restart with mirrorSlot := none } }).forgetMirror
    ((s1.put r Fld.fltMgen_WRITING 0).put r Fld.fltMgen_COMPLETE 0).correctedEvent ⟨5, 20, noInst⟩ 0x0113 0 0

/-- The computation of R70 over the four tiers, with the refresh and PHY losses of each in MB/s. -/
def State.computeBandwidth (s : State) (losses : List Nat) : State :=
  if s.doms.main then
    let s1 := (((((s.computeTier 0 (losses.getD 0 0)).computeTier 1 (losses.getD 1 0)).computeTier 2 (losses.getD 2 0)).computeTier 3
      (losses.getD 3 0))).effectiveDepth
    if s1.mirrorEvery.isNone then s1.abandonMirror else s1
  else s

/-- The losses last taken into account, for a computation that an event starts (R70). -/
def State.lastLosses (s : State) : List Nat := (List.range 4).map (fun t => (s.tierBandwidth t).loss)

/-- The computation that an event starts at once (R70). -/
def State.recompute (s : State) : State := s.computeBandwidth s.lastLosses

end Sys2Proof.Machine
end

