-- ==== Sys2Proof/Machine/NearMor.lean ====
section
/-! DEFINITION. The near and moraine tiers, the host window's failures, scrub and calibration (R47 to R66). -/

namespace Sys2Proof.Machine

/-! ### Accesses of the host through an aperture (R467) -/

/-- The state with its PCIe function replaced. -/
def State.setPcie (s : State) (p : PcieState) : State := { s with pcie := p }

/-- An Unsupported Request is logged in AER. -/
def State.aer (s : State) : State := s.setPcie { s.pcie with aerUr := s.pcie.aerUr + 1 }

/-- A read is completed with UR; a posted write is discarded; both are logged in AER (R467). -/
def State.refuseHost (s : State) (isRead : Bool) : State :=
  if isRead then s.aer.emit (.completion .unsupported []) else s.aer

/-- The host as a requester of the tiers. -/
def hostReq : Requester := ⟨4, 10, noInst⟩

/-- A read through an aperture ends (R467). -/
def State.apertureRead (s : State) (st : MemStatus) (bs : List Byte) : State :=
  match st with
  | .ok => s.emit (.completion .success bs)
  | .uncorrectable => s.emit (.completion .poisoned bs)
  | .nonOwner => s.emit (.completion .abort [])
  | .unmapped => s.refuseHost true
  | .hostError => s.refuseHost true

/-- What an access through an aperture does where it reaches memory of the device. -/
def State.apertureServe (s : State) (a len : Nat) (data : Option (List Byte)) : State :=
  match data with
  | some bs => s.writeMem hostReq 0x32 a bs
  | none =>
    let p := s.readBytes hostReq 0x32 a len
    p.2.2.apertureRead p.2.1 p.1

/-! ### Accesses to the near and moraine tiers -/

/-- Put an access among those that wait. -/
def State.addWaiting (s : State) (w : WaitingAccess) : State :=
  { s with tiers := { s.tiers with waiting := s.tiers.waiting ++ [w] } }

/-- Serve one access and show its outcome; an access of the host through an aperture is completed as one (R467). -/
def State.serve (s : State) (w : WaitingAccess) : State :=
  if w.owner = 0x32 then s.apertureServe w.addr w.len w.data
  else match w.data with
  | none => let p := s.readBytes w.req w.owner w.addr w.len; p.2.2.emit (.readData w.req w.addr p.2.1 p.1)
  | some bs => let p := s.writeBytes w.req w.owner w.addr bs; p.2.emit (.writeDone w.req w.addr p.1)

/-- An access still waits: for a tier, or, of Basecamp or the host, for the end of a sub-bank's test (R189). -/
def State.accessWaits (s : State) (w : WaitingAccess) : Bool :=
  s.mustWaitAny [(w.addr, w.len)] || (w.owner == 0x32 && s.rangeTested w.addr w.len)

/-- Serve every waiting access that no longer has to wait, in order of arrival. -/
def State.releaseWaiting (s : State) : State :=
  let go := s.tiers.waiting.filter (fun w => !s.accessWaits w)
  let stay := s.tiers.waiting.filter (fun w => s.accessWaits w)
  go.foldl State.serve { s with tiers := { s.tiers with waiting := stay } }

/-- Correction counts of a near stack (R53). -/
def State.countCorrected (s : State) (u : Nat) : State :=
  { s with tiers := { s.tiers with corrected := s.tiers.corrected.set u (s.tiers.corrected.getD u 0 + 1) } }

/-- The Reed–Solomon code meets errors in `symbols` symbols of a near block (R53): one is corrected, two or three are
detected, and more may be miscorrected, which a free value decides. -/
inductive NearOutcome where
  | clean | corrected | detected | miscorrected
deriving DecidableEq, Repr

/-- Outcome of decoding a block (R53, R54): a block that is known bad is uncorrectable whatever this read meets. -/
def nearOutcome (bad : Bool) (symbols free : Nat) : NearOutcome :=
  if bad then .detected
  else if symbols = 0 then .clean
  else if symbols = 1 then .corrected
  else if symbols ≤ 3 then .detected
  else if free % 2 = 0 then .detected else .miscorrected

/-- The block of a near location is served by the near stack itself, not by a substitute slot. -/
def State.onStack (s : State) (st o : Nat) : Bool := (retireSlot s.repair.record.near st (o / 2 ^ 16)).isNone

/-- A severity report of a stack's on-die ECC is counted with the controller's own corrections (R53). -/
def State.severity (s : State) (st : Nat) (report : Bool) : State := if report then s.countCorrected st else s

/-- A block whose errors the code detects and cannot correct: what it holds from now on is what was delivered, free bytes, and it
reads as uncorrectable; a block already known bad stays as it is (R54; log entry 1). -/
def State.spoil (s : State) (k : Nat) : State :=
  if s.isBad k then s else ((s.tookFrees 64).store k (s.freeBytes 64)).setBad k true

/-- NEAR_READ: one foreground read of the 64 B block that holds `a`, with the errors that the code meets there (R53 to R55). -/
def execNearRead (r : Requester) (a : Nat) (errs : NearErrors) (s : State) : Host.Outcome State Fault Refusal :=
  let b := a / 64 * 64
  .next (match s.decodeAddr b with
  | .near st o =>
    if s.mustWait b then s.addWaiting ⟨r, 0, b, 64, none⟩
    else if !s.reachable (stackDie st) || !s.onStack st o then s.serve ⟨r, 0, b, 64, none⟩
    else
      let k := s.nearKey st o
      let s0 := s.severity st errs.report
      match nearOutcome (s.isBad k) errs.symbols s.freeVal with
      | .clean => s0.emit (.readData r b .ok (s.mem.getN k 64))
      | .corrected => (s0.countCorrected st).emit (.readData r b .ok (s.mem.getN k 64))
      | .detected =>
        let s1 := s0.spoil k
        (s1.ucc ⟨stackDie st, 8, st⟩ 0x0101 b o).emit (.readData r b .uncorrectable (s1.mem.getN k 64))
      | .miscorrected => (s0.tookFrees 64).emit (.readData r b .ok (s.freeBytes 64))
  | _ => s)

/-- NEAR_WRITE: a write of a whole 64 B block; the scrub's write-back of it is dropped (R54, R64). -/
def execNearWrite (r : Requester) (a : Nat) (data : List Byte) (s : State) : Host.Outcome State Fault Refusal :=
  let b := a / 64 * 64
  .next (match s.decodeAddr b with
  | .near _ _ =>
    if data.length = 64 then
      if s.mustWait b then s.addWaiting ⟨r, 0, b, 64, some data⟩ else s.serve ⟨r, 0, b, 64, some data⟩
    else s
  | _ => s)

/-- NEAR_PARTIAL_WRITE: a write of part of a block, with the errors that its internal read meets (R53, R54). -/
def execNearPartialWrite (r : Requester) (a : Nat) (errs : NearErrors) (data : List Byte) (s : State) :
    Host.Outcome State Fault Refusal :=
  let b := a / 64 * 64
  .next (match s.decodeAddr b with
  | .near st o =>
    if data.length = 0 ∨ 64 ≤ data.length ∨ b + 64 < a + data.length then s
    else if s.mustWait b then s.addWaiting ⟨r, 0, a, data.length, some data⟩
    else if !s.reachable (stackDie st) || !s.onStack st o then s.serve ⟨r, 0, a, data.length, some data⟩
    else
      let k := s.nearKey st o
      let s0 := s.severity st errs.report
      match nearOutcome (s.isBad k) errs.symbols s.freeVal with
      | .clean => s0.serve ⟨r, 0, a, data.length, some data⟩
      | .corrected => (s0.countCorrected st).serve ⟨r, 0, a, data.length, some data⟩
      | .detected => (s0.spoil k).serve ⟨r, 0, a, data.length, some data⟩
      | .miscorrected => ((s0.tookFrees 64).store k (s.freeBytes 64)).serve ⟨r, 0, a, data.length, some data⟩
  | _ => s)

/-- MORAINE_ACCESS: a read of `len` bytes, or a write of `data`, within one 64 B block of the moraine tier (R57 to R59). An error
that is reported concerns this transfer alone: a read answers free bytes with an uncorrectable status, a write stores free bytes,
and the record is that of an uncorrectable access (DESIGN CHOICE, log entry 50). -/
def execMoraineAccess (r : Requester) (a len : Nat) (data : Option (List Byte)) (e : MoraineError) (s : State) :
    Host.Outcome State Fault Refusal :=
  .next (match s.decodeAddr a with
  | .moraine c o =>
    if s.mustWait a then s.addWaiting ⟨r, 0, a, len, data⟩
    else
      let k := s.moraineKey c o
      match data, e with
      | some bs, .undetected => (s.tookFrees bs.length).serve ⟨r, 0, a, len, some (s.freeBytes bs.length)⟩
      | some bs, .reported =>
        ((s.tookFrees bs.length).serve ⟨r, 0, a, len, some (s.freeBytes bs.length)⟩).ucc ⟨4, 9, c⟩ 0x0101 a o
      | some bs, _ => s.serve ⟨r, 0, a, len, some bs⟩
      | none, .reported =>
        if s.isBad (k / 64 * 64) then s.serve ⟨r, 0, a, len, none⟩
        else ((s.tookFrees len).ucc ⟨4, 9, c⟩ 0x0101 a o).emit (.readData r a .uncorrectable (s.freeBytes len))
      | none, .undetected => (s.tookFrees len).emit (.readData r a .ok (s.freeBytes len))
      | none, _ => s.serve ⟨r, 0, a, len, none⟩
  | _ => s)

/-- UNMAPPED_ACCESS: an access to an address that no tier and no register occupies (R62), or to a disabled host segment
(R60). -/
def execUnmappedAccess (r : Requester) (a len : Nat) (data : Option (List Byte)) (s : State) :
    Host.Outcome State Fault Refusal :=
  let miss := match s.decodeAddr a with
    | .unmapped => true
    | .host seg _ => !s.isSet (.bcHwin seg) Fld.bcHwin_EN
    | _ => false
  .next (if miss then
    let s1 := s.ucc r 0x0102 a 0
    match data with
    | none => s1.emit (.readData r a .unmapped (zeros len))
    | some _ => s1.emit (.writeDone r a .unmapped)
  else s)

/-! ### Retirement (R55, R56, R58) -/

/-- A substitute base is usable: aligned to 1 GiB, the whole gibibyte within one group of the moraine tier (R55). -/
def usableBase (b : Nat) : Bool := b ≠ 0 && b % 2 ^ 30 == 0 && decide (morBase ≤ b ∧ b < morEnd)

/-- Frames of near stack and moraine channel tables (R56, R58). -/
def nearTableSize (a0 : Bool) : Nat := if a0 then 4096 else 16384
def morTableSize : Nat := 4096

/-- First frame of a channel's substitute area (R58). -/
def morSubstFrame : Nat := (2 ^ 37 - 2 ^ 28) / 2 ^ 16

/-- NT_RETIRE: a GO write (R55, R56). -/
def execNtRetire (stack : Fin 8) (frame : Nat) (s : State) : Host.Outcome State Fault Refusal :=
  let st := stack.val
  let f := frame % 2 ^ 20
  let r := Reg.ntRetireStatus
  let count := retireCount s.repair.record.near st
  .next (
    if !s.doms.main || s.isSet r Fld.ntRetireStatus_BUSY then s
    else
      let s1 := s.put r Fld.ntRetireStatus_COUNT count
      if !usableBase (s.fld (.ntSubstBase stack) Fld.ntSubstBase_BASE) then s1.put r Fld.ntRetireStatus_RESULT 3
      else if (retireSlot s.repair.record.near st f).isSome then s1.put r Fld.ntRetireStatus_RESULT 1
      else if nearTableSize s.a0 ≤ count then
        (s1.put r Fld.ntRetireStatus_RESULT 2).ucc ⟨stackDie st, 8, st⟩ 0x0105 0 f
      else { s1.put r Fld.ntRetireStatus_BUSY 1 with tiers := { s.tiers with nearCopy := some ⟨st, f⟩ } })

/-- Copy `n` 64 B blocks from storage key `src` to the moraine device address `dst`. -/
def State.copyToMoraine : Nat → State → Nat → Nat → State
  | 0, s, _, _ => s
  | n + 1, s, src, dst =>
    let p := moraineDecode dst
    let k := s.moraineKey p.1 p.2
    State.copyToMoraine n ((s.setBad k false).store k (s.mem.getN src 64)) (src + 64) (dst + 64)

/-- Some block of a 64 KiB frame is uncorrectable. -/
def State.frameBad (s : State) (key : Nat) : Bool := s.tiers.bad.any (fun k => decide (key ≤ k ∧ k < key + 2 ^ 16))

/-- Some channel of the moraine frame at a device address is in self-refresh: a copy to it waits (R59). -/
def State.slotAsleep (s : State) (dst : Nat) : Bool :=
  s.tiers.selfRefresh != 0 && (List.range 1024).any (fun i => s.inSelfRefresh (moraineDecode (dst + 64 * i)).1)

/-- Substitute slot of the copy under way. -/
def State.copySlot (s : State) (c : RetireCopy) : Nat :=
  s.fld (.ntSubstBase (Fin.ofNat 8 c.unit)) Fld.ntSubstBase_BASE + retireCount s.repair.record.near c.unit * 2 ^ 16

/-- RETIRE_COPY_DONE: the copy ends, the frame enters the table, stalled accesses are released (R55, R56). -/
def execRetireCopyDone (s : State) : Host.Outcome State Fault Refusal :=
  .next (match s.tiers.nearCopy with
  | none => s
  | some c =>
    if s.slotAsleep (s.copySlot c) then s
    else
    let key := c.unit * 2 ^ 36 + c.frame * 2 ^ 16
    let slot := retireCount s.repair.record.near c.unit
    let s1 := State.copyToMoraine 1024 s key (s.copySlot c)
    let s2 := s1.setRecord { s.repair.record with near := s.repair.record.near ++ [(c.unit, c.frame)] }
    let s3 := { s2 with tiers := { s2.tiers with nearCopy := none } }
    let s4 := ((s3.put .ntRetireStatus Fld.ntRetireStatus_BUSY 0).put .ntRetireStatus Fld.ntRetireStatus_RESULT
      (if s.frameBad key then 4 else 0)).put .ntRetireStatus Fld.ntRetireStatus_COUNT (slot + 1)
    s4.releaseWaiting.recompute)

/-- MOR_RETIRE: a GO write (R58). -/
def execMorRetire (channel : Fin 32) (frame : Nat) (s : State) : Host.Outcome State Fault Refusal :=
  let c := channel.val
  let f := frame % 2 ^ 21
  let r := Reg.morRetireStatus
  let count := retireCount s.repair.record.moraine c
  .next (
    if !s.doms.main || s.isSet r Fld.morRetireStatus_BUSY then s
    else
      let s1 := s.put r Fld.morRetireStatus_COUNT count
      if 24 ≤ c then s1.put r Fld.morRetireStatus_RESULT 5
      else if morSubstFrame ≤ f then s1.put r Fld.morRetireStatus_RESULT 3
      else if (retireSlot s.repair.record.moraine c f).isSome then s1.put r Fld.morRetireStatus_RESULT 1
      else if morTableSize ≤ count then (s1.put r Fld.morRetireStatus_RESULT 2).ucc ⟨4, 9, c⟩ 0x0105 0 f
      else { s1.put r Fld.morRetireStatus_BUSY 1 with tiers := { s.tiers with morCopy := some ⟨c, f⟩ } })

/-- MOR_RETIRE_COPY_DONE: the frame is served from its substitute slot of the same channel (R58). -/
def execMorRetireCopyDone (s : State) : Host.Outcome State Fault Refusal :=
  .next (match s.tiers.morCopy with
  | none => s
  | some c =>
    if s.inSelfRefresh c.unit then s
    else
    let chan := 2 ^ 40 + c.unit * 2 ^ 37
    let key := chan + c.frame * 2 ^ 16
    let slot := retireCount s.repair.record.moraine c.unit
    let dst := chan + (2 ^ 37 - 2 ^ 28) + slot * 2 ^ 16
    let s1 := ((List.range 1024).foldl (fun (t : State) i => t.setBad (dst + 64 * i) false) s).store dst (s.mem.getN key (2 ^ 16))
    let s2 := s1.setRecord { s.repair.record with moraine := s.repair.record.moraine ++ [(c.unit, c.frame)] }
    let s3 := { s2 with tiers := { s2.tiers with morCopy := none } }
    let s4 := ((s3.put .morRetireStatus Fld.morRetireStatus_BUSY 0).put .morRetireStatus Fld.morRetireStatus_RESULT
      (if s.frameBad key then 4 else 0)).put .morRetireStatus Fld.morRetireStatus_COUNT (slot + 1)
    s4.releaseWaiting.recompute)

/-! ### Moraine upkeep (R59) -/

/-- DRIFT_CHECK: the drift of each channel in thousandths of a unit interval; beyond one eighth the write timing is
retrained. -/
def execDriftCheck (drifts : List Nat) (s : State) : Host.Outcome State Fault Refusal :=
  .next (if s.jobRuns then
    let beyond := fun c => decide (125 < drifts.getD c 0)
    { s with tiers := { s.tiers with
        drift := (List.range 24).map (fun c => if beyond c then 0 else drifts.getD c 0),
        retrains := (List.range 24).map (fun c => s.tiers.retrains.getD c 0 + b2n (beyond c)) } }
  else s)

/-- MORAINE_CASE_HOT: the package case of a channel passes 85 °C and its refresh interval is halved; deliverable
bandwidth is computed at once with about 3 % of the channel lost (R59, R70). -/
def execMoraineCaseHot (ch : Fin 24) (s : State) : Host.Outcome State Fault Refusal :=
  .next (if s.tiers.halved.testBit ch.val then s
  else
    let s1 := { s with tiers := { s.tiers with halved := setBit s.tiers.halved ch.val true } }
    s1.computeBandwidth ((s.lastLosses).set 1 ((s.lastLosses).getD 1 0 + 68264 * 3 / 100)))

/-- SELF_REFRESH_ENTRY: a channel idle for 1 ms while the device is in Hold or holds no job. -/
def execSelfRefreshEntry (ch : Fin 24) (s : State) : Host.Outcome State Fault Refusal :=
  .next (if s.inHold || s.noJob then
    { s with tiers := { s.tiers with selfRefresh := setBit s.tiers.selfRefresh ch.val true } } else s)

/-- SELF_REFRESH_EXIT: the channel leaves self-refresh for a waiting access, which is then served. -/
def execSelfRefreshExit (ch : Fin 24) (s : State) : Host.Outcome State Fault Refusal :=
  .next (if s.inSelfRefresh ch.val then
    ({ s with tiers := { s.tiers with selfRefresh := setBit s.tiers.selfRefresh ch.val false } }).releaseWaiting else s)

/-- SELF_REFRESH_SCRUB_WAKE: every 64 ms the channel wakes for the scrub that has fallen due. -/
def execSelfRefreshScrubWake (ch : Fin 24) (s : State) : Host.Outcome State Fault Refusal :=
  .next (if s.inSelfRefresh ch.val then
    ({ s with tiers := { s.tiers with selfRefresh := setBit s.tiers.selfRefresh ch.val false } }).releaseWaiting else s)

/-- A request of the device to the host fails at one address as a host error, with its record; the requester meets the failure when
its access gets there: what it moved before stands (R60, R61, R469). -/
def State.failRequest (s : State) (q : HostReq) (a : Nat) : State :=
  ({ s with pcie := { s.pcie with requests := s.pcie.requests.filter (fun x => decide (x ≠ q)),
                                  expired := s.pcie.expired ++ [{ q with addr := a, len := 1, waiting := false }] } }).hostError a

/-- HOST_ERROR_COMPLETION: the host completes a request of the device with Unsupported Request or Completer Abort (R60). A requester
whose command makes its whole access at once meets the error when the command comes (log entry 50). -/
def execHostErrorCompletion (r : Requester) (a len : Nat) (isRead : Bool) (s : State) : Host.Outcome State Fault Refusal :=
  .next (match s.decodeAddr a with
  | .host seg _ =>
    if s.isSet (.bcHwin seg) Fld.bcHwin_EN then
      let s1 := s.failRequest ((s.pcie.requests.find? (fun q => decide (q.req = r) && q.covers a)).getD (s.hostRequest r isRead a len)) a
      if isRead then s1.emit (.readData r a .hostError (zeros len)) else s1.emit (.writeDone r a .hostError)
    else s
  | _ => s)

/-! ### Scrub and calibration (R63 to R66) -/

/-- A retirement copy works on the channel of an address: on the stack or channel of its frame, or on the eight channels of the
group that holds its substitute slot (R55, R58, R66). -/
def State.copyOnChannel (s : State) (a : Nat) : Bool :=
  match s.decodeAddr a with
  | .near st _ => s.tiers.nearCopy.any (fun c => c.unit == st)
  | .moraine c _ => s.tiers.morCopy.any (fun x => x.unit == c) ||
      s.tiers.nearCopy.any (fun x => (moraineDecode (s.fld (.ntSubstBase (Fin.ofNat 8 x.unit)) Fld.ntSubstBase_BASE)).1 / 8 == c / 8)
  | _ => false

/-- A calibration has or waits for the channel of an address (R65, R66). -/
def State.calibOnChannel (s : State) (a : Nat) : Bool :=
  match s.decodeAddr a with
  | .near st o => (s.calibOf st).trigger.isSome && nearChannel st o == (s.calibOf st).channel
  | _ => false

/-- Scrub of a block yields: to a copy, a calibration or foreground traffic on its channel, and to self-refresh (R56, R63, R66). -/
def State.scrubYields (s : State) (a : Nat) : Bool :=
  s.mustWait a || s.copyOnChannel a || s.calibOnChannel a || s.tiers.waiting.any (fun w => s.scrubChannel w.addr == s.scrubChannel a)

/-- SCRUB_READ: the next block of a pass over the near tier or the moraine tier, in a cycle without foreground traffic on
its channel (R63, R64, R66). INSTANCE 0xFF names the scrub as the source of its records (DESIGN CHOICE, log entry 50). -/
def execScrubRead (near : Bool) (find : ScrubFind) (s : State) : Host.Outcome State Fault Refusal :=
  let p := if near then s.tiers.scrubNear else s.tiers.scrubMor
  let a := if near then p.pos else morBase + p.pos
  let size := if near then 2 ^ 39 else 3 * 2 ^ 40
  let nextPass : ScrubPass := if p.pos + 64 < size then { p with pos := p.pos + 64 } else ⟨0, s.now, false⟩
  let ch := s.scrubChannel a
  let unit := if near then ch / 32 else ch - 248
  let rq : Requester := if near then ⟨stackDie unit, 8, noInst⟩ else ⟨4, 9, noInst⟩
  let key := match s.decodeAddr a with
    | .near st o => s.nearKey st o
    | .moraine c o => s.moraineKey c o
    | _ => 0
  .next (if s.scrubYields a then s
  else
    let open1 := s.tiers.scrubOpen.filter (fun e => e.1 != ch)
    let s1 := { s with tiers := { s.tiers with
      scrubNear := if near then nextPass else s.tiers.scrubNear, scrubMor := if near then s.tiers.scrubMor else nextPass,
      scrubOpen := if find = .corrected then open1 ++ [(ch, a)] else open1 } }
    match find with
    | .good => if s.isBad key then s1.ucc rq 0x0101 a 0 else s1
    | .corrected => s1.countCorrected unit
    | .uncorrectable => (s1.spoil (key / 64 * 64)).ucc rq 0x0101 a 0)

/-- 24 hours in nanoseconds. -/
def dayNs : Nat := 24 * 3600 * 10 ^ 9

/-- SCRUB_OVERDUE: a pass has not finished within 24 hours (R63). -/
def execScrubOverdue (near : Bool) (s : State) : Host.Outcome State Fault Refusal :=
  let p := if near then s.tiers.scrubNear else s.tiers.scrubMor
  .next (if p.overdue then s
  else
    let q := { p with overdue := true }
    let s1 := { s with tiers := { s.tiers with
      scrubNear := if near then q else s.tiers.scrubNear, scrubMor := if near then s.tiers.scrubMor else q } }
    s1.correctedEvent (if near then ⟨7, 8, noInst⟩ else ⟨4, 9, noInst⟩) 0x0106 0 0)

/-- Calibration of one stack replaced. -/
def State.setCalib (s : State) (st : Nat) (c : Calibration) : State :=
  { s with tiers := { s.tiers with calib := s.tiers.calib.set st c } }

/-- CALIBRATION_TRIGGER: the stack's temperature, in 1/16 °C, has moved by 4 °C, or 256 ms have passed (R65). -/
def execCalibrationTrigger (stack : Fin 8) (temp : Int) (s : State) : Host.Outcome State Fault Refusal :=
  let c := s.calibOf stack.val
  .next (if 64 ≤ (temp - c.lastTemp).natAbs ∨ c.lastTime + 256000000 ≤ s.now then
    match c.trigger with
    | none => s.setCalib stack.val { c with trigger := some s.now, temp := temp, channel := 0 }
    | some _ => s.setCalib stack.val { c with restart := true, trigger := some s.now, temp := temp }
  else s)

/-- CALIBRATION_STEAL: 24 ms after the trigger, the newest one when another arrived meanwhile, the controller takes each remaining
channel in turn (R65). -/
def execCalibrationSteal (stack : Fin 8) (s : State) : Host.Outcome State Fault Refusal :=
  let c := s.calibOf stack.val
  .next (match c.trigger with
  | some t => if t + 24000000 ≤ s.now then s.setCalib stack.val { c with stealing := true } else s
  | none => s)

/-- CALIBRATION_CHANNEL_DONE: the next channel follows, or a restart from channel 0 for a new trigger (R65). The temperature of the
last calibration is the one that its trigger reported, not one at its end (DESIGN CHOICE, log entry 50). Accesses that a taken
channel held are served. -/
def execCalibrationChannelDone (stack : Fin 8) (s : State) : Host.Outcome State Fault Refusal :=
  let c := s.calibOf stack.val
  .next (match c.trigger with
  | none => s
  | some _ =>
    if (s.tiers.nearCopy.map RetireCopy.unit) = some stack.val then s
    else if c.restart then (s.setCalib stack.val { c with channel := 0, restart := false, stealing := false }).releaseWaiting
    else if c.channel + 1 < 32 then (s.setCalib stack.val { c with channel := c.channel + 1 }).releaseWaiting
    else (s.setCalib stack.val { c with lastTime := s.now, lastTemp := c.temp, trigger := none, channel := 0, stealing := false }).releaseWaiting)

/-- DELIVERABLE_COMPUTE: every 1 ms, with the refresh and PHY losses of the four tiers in MB/s (R70). -/
def execDeliverableCompute (losses : List Nat) (s : State) : Host.Outcome State Fault Refusal :=
  .next (s.computeBandwidth losses)

/-- CONTRACT_STALL_RELEASE: the oldest stalled burst of a requester is released once its charge allows it (R68). -/
def execContractStallRelease (r : Requester) (s : State) : Host.Outcome State Fault Refusal :=
  let rest := s.tiers.stalledBursts.eraseP (fun b => decide (b.req = r))
  .next { s with tiers := { s.tiers with stalledBursts := rest } }

/-- NEAR_STACK_HOT: a near stack passes 95 °C; its controller limits its PHY power, and deliverable bandwidth is computed
at once with the loss that the limit brings (R70, R395). -/
def execNearStackHot (stack : Fin 8) (loss : Nat) (s : State) : Host.Outcome State Fault Refusal :=
  .next (if s.tiers.hotStacks.testBit stack.val then s
  else
    let s1 := { s with tiers := { s.tiers with hotStacks := setBit s.tiers.hotStacks stack.val true } }
    s1.computeBandwidth ((s.lastLosses).set 0 ((s.lastLosses).getD 0 0 + loss)))

end Sys2Proof.Machine
end

