-- ==== Sys2Proof/Machine/Ledge.lean ====
section
/-! DEFINITION. The ledge controllers: modes, ownership, port accesses, march tests and row repair (R176 to R192). -/

namespace Sys2Proof.Machine

/-- The state of a ledge die beside its registers. -/
def State.ledgeOf (s : State) (d : Fin 4) : LedgeState := s.ledge.getD d.val LedgeState.idle

/-- Replace it. -/
def State.setLedge (s : State) (d : Fin 4) (l : LedgeState) : State := { s with ledge := s.ledge.set d.val l }

/-- The ledge controller of a die is out of reset. -/
def State.ledgeUp (s : State) (d : Fin 4) : Bool := s.doms.fabric.testBit d.val

/-! ### Ownership (R178 to R183) -/

/-- Set the owner of one sub-bank. -/
def State.setOwner (s : State) (d : Fin 4) (g v : Nat) : State := s.put (.ldgOwn d (Fin.ofNat 48 (g / 4))) (ownField g) v

/-- Set the owner of a sub-bank and, in pooled mode, of its whole bank (R180, R183). -/
def State.setOwners (s : State) (d : Fin 4) (g v : Nat) : State :=
  if s.pooled d then (List.range 4).foldl (fun (t : State) i => t.setOwner d (g / 4 * 4 + i) v) s else s.setOwner d g v

/-- Every owner of a die becomes 0x32. -/
def State.ownersToBasecamp (s : State) (d : Fin 4) : State := (List.range 192).foldl (fun t g => t.setOwner d g 0x32) s

/-- Every named bank is owned by 0x32. -/
def State.banksFree (s : State) (d : Fin 4) (banks : Nat) : Bool :=
  (List.range 192).all (fun g => !banks.testBit (g / 4) || s.ownerOf d g == 0x32)

/-- LEDGE_MODE_CHANGE: a write of POOLED; a change sets every owner to 0x32 (R178). -/
def execLedgeModeChange (d : Fin 4) (pooled : Bool) (s : State) : Host.Outcome State Fault Refusal :=
  .next (if s.ledgeUp d && !s.isSet (.ldgCtrl d) Fld.ldgCtrl_LOCK && s.pooled d != pooled then
    (s.put (.ldgCtrl d) Fld.ldgCtrl_POOLED (b2n pooled)).ownersToBasecamp d
  else s)

/-- The physical core that holds logical core `l` of a die (R147). -/
def State.coreOf (s : State) (d : Fin 4) (l : Nat) : Option (Fin 11) :=
  [0, 1, 2, 3, 4, 5, 6, 7, 8, 9, 10].find? (fun k => decide (l < 10) && bits (s.fld (.tcRemap d) Fld.tcRemap_MAP) (4 * k.val + 3) (4 * k.val) == l)

/-- An owner code that LDG_GIVE may name (R179, R181). -/
def State.ownerNameable (s : State) (d : Fin 4) (c : Nat) : Bool :=
  if c < 10 then (s.coreOf d c).isSome else decide (0x10 ≤ c ∧ c ≤ 0x25) || c == 0x30 || c == 0x31 || c == 0x32

/-- Sub-banks that an entry names: bank bit and sub-bank bit. -/
def giveNames (w : Word) (g : Nat) : Bool :=
  (fget w Fld.ldgGive_BANKS).testBit (g / 4) && (fget w Fld.ldgGive_SUB).testBit (g % 4)

/-- The lowest set bit of a field, or 0 when none is set. -/
def lowestBit (k n : Nat) : Nat := (bitList k n).headD 0

/-- LDG_VIOL for a refused entry (R181). -/
def State.giveRefused (s : State) (d : Fin 4) (w : Word) : State :=
  if s.isSet (.ldgViol d) Fld.ldgViol_VALID then s.bump (.ldgViol d) Fld.ldgViol_COUNT
  else
    let banks := fget w Fld.ldgGive_BANKS
    let subs := fget w Fld.ldgGive_SUB
    let off := if banks = 0 ∨ subs = 0 then 0 else lowestBit 48 banks * 2 ^ 22 + lowestBit 4 subs * 2 ^ 20
    s.set (.ldgViol d) (fput (fput (fput (fput 0 Fld.ldgViol_VALID 1) Fld.ldgViol_REQ 0xFF) Fld.ldgViol_OWNER
      (fget w Fld.ldgGive_OWNER)) Fld.ldgViol_OFFSET off)

/-- Apply one entry with GO set, or refuse it (R181). -/
def State.applyGive (s : State) (d : Fin 4) (w : Word) : State :=
  let c := fget w Fld.ldgGive_OWNER
  if !s.ownerNameable d c || (s.pooled d && fget w Fld.ldgGive_SUB != 15) then s.giveRefused d w
  else (List.range 192).foldl (fun t g => if giveNames w g then t.setOwner d g c else t) s

/-- An entry names the sub-bank under test. -/
def State.giveBlocked (s : State) (d : Fin 4) (w : Word) : Bool :=
  match s.testing d with
  | some g => giveNames w g
  | none => false

/-- Take entries in order: the first that names the sub-bank under test, and every entry after it, is held (R181). -/
def State.takeGives (s : State) (d : Fin 4) : List Word → State
  | [] => s
  | w :: rest =>
    if s.giveBlocked d w then s.setLedge d { s.ledgeOf d with held := (w :: rest).map BitVec.toNat }
    else (s.applyGive d w).takeGives d rest

/-- The words of one write in ascending register number. -/
def sortEntries (es : List (Fin 8 × Word)) : List (Fin 8 × Word) := insertSort (fun a b => decide (a.1.val < b.1.val)) es

/-- A write to registers LDG_GIVE (R181): entries with GO set are applied in ascending register number. -/
def State.writeGives (s : State) (d : Fin 4) (es : List (Fin 8 × Word)) : State :=
  if s.ledgeUp d then
    let ws := ((sortEntries es).map Prod.snd).filter (fun w => fget w Fld.ldgGive_GO == 1)
    if (s.ledgeOf d).held.isEmpty then s.takeGives d ws
    else s.setLedge d { s.ledgeOf d with held := (s.ledgeOf d).held ++ ws.map BitVec.toNat }
  else s

/-- Place of a source in the order of one cycle: traverse engines in ascending number, Basecamp, the host (R181). -/
def GiveSource.rank : GiveSource → Nat
  | .traverse j => j.val
  | .basecamp => 22
  | .host => 23

/-- LDG_GIVE: the writes that arrive in one cycle, in the order of their sources (R181). -/
def execLdgGive (d : Fin 4) (writes : List (GiveSource × List (Fin 8 × Word))) (s : State) : Host.Outcome State Fault Refusal :=
  .next ((insertSort (fun a b => decide (a.1.rank < b.1.rank)) writes).foldl (fun (t : State) x => t.writeGives d x.2) s)

/-! ### Port accesses (R182 to R187) -/

/-- Sub-bank of a request. -/
def State.subOf (s : State) (d : Fin 4) (q : LedgeReq) : Nat := (ledgeDecode (s.pooled d) q.offset).1

/-- Row and word of a request within its sub-bank. -/
def State.rowWordOf (s : State) (d : Fin 4) (q : LedgeReq) : Nat × Nat := (ledgeDecode (s.pooled d) q.offset).2

/-- What the code makes of `n` wrong bits in one quarter (R187): 0 good, 1 corrected, 2 uncorrectable; beyond the code
one of uncorrectable, miscorrected and good as read. -/
inductive QuarterFind where
  | good | corrected | uncorrectable | wrongCorrected | wrongGood
deriving DecidableEq, Repr

/-- Judge a quarter; `free` decides where the manual does not. -/
def judgeQuarter (bad : Bool) (errs free : Nat) : QuarterFind :=
  if bad then .uncorrectable
  else match errs with
    | 0 => .good
    | 1 => .corrected
    | 2 => .uncorrectable
    | _ => if free % 3 = 0 then .uncorrectable else if free % 3 = 1 then .wrongCorrected else .wrongGood

/-- Address and detail of a record about a ledge word: die, sub-bank, row and word (R187). -/
def State.wordUcc (s : State) (d : Fin 4) (o : Nat) : State :=
  let p := ledgeDecode (s.pooled d) o
  (s.bump (.ldgEcc d) Fld.ldgEcc_UNCORR).ucc ⟨d.val, 5, noInst⟩ 0x0101 (ledgeBase + d.val * 2 ^ 28 + o / 64 * 64)
    (p.1 * 2 ^ 16 + p.2.1 * 16 + p.2.2)

/-- The array holds errors in the quarters of a word: uncorrectable ones are marked, and quarters whose error passes
unseen hold a free value; the answer is the finds of the four quarters. -/
def State.meetErrors (s : State) (d : Fin 4) (o : Nat) (errs : List Nat) : List QuarterFind × State :=
  let wk := s.ledgeKey d (o / 64 * 64)
  (List.range 4).foldl (fun p q =>
    let e := errs.getD q 0
    let t := p.2
    let f := judgeQuarter (t.isBad (wk + 16 * q)) e t.freeVal
    let t1 := if 3 ≤ e then t.tookFree else t
    let t2 := if 2 ≤ e then (t1.tookFrees 16).store (wk + 16 * q) (t1.freeBytes 16) else t1
    (p.1 ++ [f], if f = .uncorrectable then t2.setBad (wk + 16 * q) true else t2)) ([], s)

/-- A read that needed correction adds 1 to CORR (R187). -/
def State.countFixed (s : State) (d : Fin 4) (finds : List QuarterFind) : State :=
  if finds.any (fun f => f == .corrected || f == .wrongCorrected) then s.bump (.ldgEcc d) Fld.ldgEcc_CORR else s

/-- Ledge offset outside the die (R177). -/
def ledgeOutside (o : Nat) : Bool := decide (ledgeSize ≤ o)

/-- Device address of a ledge offset. -/
def ledgeAddr (d : Fin 4) (o : Nat) : Nat := ledgeBase + d.val * 2 ^ 28 + o

/-- A request outside the die, or from a requester that does not own the sub-bank, is turned away (R62, R182). -/
def State.ledgeTurned (s : State) (d : Fin 4) (q : LedgeReq) : Option State :=
  let a := ledgeAddr d q.offset
  if ledgeOutside q.offset then
    let t := s.ucc q.req 0x0102 a 0
    some (if q.write then t.emit (.writeDone q.req a .unmapped) else t.emit (.readData q.req a .unmapped (zeros 64)))
  else if s.ownerAt d q.offset ≠ q.owner then
    let t := s.ledgeViolation d q.owner (s.ownerAt d q.offset) q.offset
    some (if q.write then t.emit (.writeDone q.req a .nonOwner) else t.emit (.readData q.req a .nonOwner (zeros 64)))
  else none

/-- Serve a read of one word (R185, R187). -/
def State.ledgePortRead (s : State) (d : Fin 4) (q : LedgeReq) (errs : List Nat) : State :=
  let a := ledgeAddr d q.offset
  if s.underMarch d q.offset then (s.tookFrees 64).emit (.readData q.req a .ok (s.freeBytes 64))
  else
    let p := s.meetErrors d q.offset errs
    let data := p.2.mem.getN (p.2.ledgeKey d (q.offset / 64 * 64)) 64
    let s1 := p.2.countFixed d p.1
    if p.1.contains .uncorrectable then (s1.wordUcc d q.offset).emit (.readData q.req a .uncorrectable data)
    else s1.emit (.readData q.req a .ok data)

/-- The bytes of a word after a masked write. -/
def mergeBytes (mask : Nat) (old new : List Byte) : List Byte :=
  (List.range 64).map (fun i => if mask.testBit i then new.getD i 0 else old.getD i 0)

/-- A mask covers quarter `q` completely. -/
def coversQuarter (mask q : Nat) : Bool := (List.range 16).all (fun i => mask.testBit (16 * q + i))

/-- A mask touches quarter `q`. -/
def touchesQuarter (mask q : Nat) : Bool := (List.range 16).any (fun i => mask.testBit (16 * q + i))

/-- A write that must read the word first: some quarter is touched and not covered (R186). -/
def partialMask (mask : Nat) : Bool := (List.range 4).any (fun q => touchesQuarter mask q && !coversQuarter mask q)

/-- The byte mask without the quarters that stay as read: those uncorrectable and not covered (R187). -/
def keptMask (mask : Nat) (finds : List QuarterFind) : Nat :=
  (List.range 4).foldl (fun m q =>
    if finds.getD q .good == .uncorrectable && !coversQuarter mask q then clearBits m (0xFFFF * 2 ^ (16 * q)) else m) mask

/-- Serve a write of one word on a port (R186, R187). One that must read the word first counts as a write of the next cycle too. -/
def State.ledgePortWrite (s : State) (d : Fin 4) (port : Nat) (q : LedgeReq) (errs : List Nat) : State :=
  let wk := s.ledgeKey d (q.offset / 64 * 64)
  let two := partialMask q.mask
  let p := if two then s.meetErrors d q.offset errs else ([], s)
  let bad := p.1.contains .uncorrectable
  let s0 := p.2.countFixed d p.1
  let s1 := if bad then s0.wordUcc d q.offset else s0
  let s2 := (List.range 4).foldl (fun t i => if coversQuarter q.mask i then t.setBad (wk + 16 * i) false else t) s1
  let old := s2.mem.getN wk 64
  let s3 := if two then s2.setLedge d { s2.ledgeOf d with second := (s2.ledgeOf d).second ++ [⟨s.subOf d q, port, q, old, bad⟩] } else s2
  (s3.store wk (mergeBytes (keptMask q.mask p.1) old q.data)).emit (.writeDone q.req (ledgeAddr d q.offset) .ok)

/-- An access that waits for the end of a test: one by Basecamp or the host to the sub-bank under test (R189). -/
def State.ledgeWaits (s : State) (d : Fin 4) (q : LedgeReq) : Bool :=
  match s.testing d with
  | some g => q.owner == 0x32 && s.subOf d q == g
  | none => false

/-- Serve one request alone, on a port of its sub-bank. -/
def State.ledgeServe (s : State) (d : Fin 4) (port : Nat) (q : LedgeReq) (errs : List Nat) : State :=
  match s.ledgeTurned d q with
  | some t => t
  | none =>
    if s.ledgeWaits d q then s.setLedge d { s.ledgeOf d with waits := (s.ledgeOf d).waits ++ [q] }
    else if q.write then s.ledgePortWrite d port q errs else s.ledgePortRead d q errs

/-- The two ports reach the same word. -/
def State.sameWord (s : State) (d : Fin 4) (p q : LedgeReq) : Bool :=
  !ledgeOutside p.offset && !ledgeOutside q.offset && s.subOf d p == s.subOf d q && s.rowWordOf d p == s.rowWordOf d q

/-! #### One cycle of a sub-bank (R184 to R186) -/

/-- What a port carries in a cycle: a request with the wrong bits it meets, new, presented again, or in its second cycle. -/
structure PortUse where
  req : LedgeReq
  errs : List Nat
  wins : Bool
  second : Option (List Byte × Bool)

/-- A new request on a port. -/
def PortUse.new (q : LedgeReq) (errs : List Nat) : PortUse := ⟨q, errs, false, none⟩

/-- What a port of a sub-bank carries from the cycle before, ahead of any new request: the second cycle of a partial write, else the
request that it must present again (R184, R186). -/
def LedgeState.heldOn (l : LedgeState) (g port : Nat) : Option PortUse :=
  match l.second.find? (fun x => x.sub == g && x.port == port) with
  | some x => some ⟨x.req, [], false, some (x.old, x.bad)⟩
  | none => (l.retry.find? (fun x => x.sub == g && x.port == port)).map (fun x => ⟨x.req, x.errs, x.wins, none⟩)

/-- A request goes to the head of those that its port must present again. -/
def State.ledgeAgain (s : State) (d : Fin 4) (g port : Nat) (u : PortUse) (wins : Bool) : State :=
  s.setLedge d { s.ledgeOf d with retry := (s.ledgeOf d).retry ++ [⟨g, port, u.req, if wins then [] else u.errs, wins⟩] }

/-- A port makes its access; the second cycle of a partial write has nothing more to do. -/
def State.portServe (s : State) (d : Fin 4) (port : Nat) (u : PortUse) : State :=
  match u.second with
  | some _ => s
  | none => s.ledgeServe d port u.req u.errs

/-- A read that meets the second cycle of a partial write in split mode returns the word as it was before (R185, R186). -/
def State.readBefore (s : State) (d : Fin 4) (q : LedgeReq) (old : List Byte × Bool) : State :=
  let a := ledgeAddr d q.offset
  if old.2 then (s.wordUcc d q.offset).emit (.readData q.req a .uncorrectable old.1) else s.emit (.readData q.req a .ok old.1)

/-- A read and a write of one word in one cycle (R185). -/
def State.readWithWrite (s : State) (d : Fin 4) (rp wp : Nat) (r w : PortUse) : State :=
  if s.pooled d then (s.portServe d wp w).portServe d rp r
  else match w.second with
    | some old => s.readBefore d r.req old
    | none => (s.portServe d rp r).portServe d wp w

/-- The two ports of a sub-bank in one cycle (R185). Of two writes of a word port 0 has its way, unless port 1 presents again a request
that has lost before and port 0 does not; the other receives collision status (R184). -/
def State.ledgePair (s : State) (d : Fin 4) (u v : PortUse) : State :=
  if s.sameWord d u.req v.req && s.ownerAt d u.req.offset == u.req.owner && s.ownerAt d v.req.offset == v.req.owner then
    match u.req.write, v.req.write with
    | true, true =>
      if v.wins && !u.wins then (s.portServe d 1 v).ledgeAgain d (s.subOf d u.req) 0 u true
      else (s.portServe d 0 u).ledgeAgain d (s.subOf d v.req) 1 v true
    | true, false => s.readWithWrite d 1 0 v u
    | false, true => s.readWithWrite d 0 1 u v
    | false, false => (s.portServe d 0 u).portServe d 1 v
  else (s.portServe d 0 u).portServe d 1 v

/-- The lists of a sub-bank after its ports have taken what they carried from the cycle before. -/
def LedgeState.taken (l : LedgeState) (g : Nat) : LedgeState :=
  let busy := fun (p : Nat) => l.second.any (fun x => x.sub == g && x.port == p)
  let drop := fun (p : Nat) (r : List LedgeRetry) => if busy p then r else r.eraseP (fun x => x.sub == g && x.port == p)
  { l with second := l.second.filter (fun x => x.sub != g), retry := drop 1 (drop 0 l.retry) }

/-- A new request that finds its port taken comes in the next cycle. -/
def State.delayNew (s : State) (d : Fin 4) (g port : Nat) (held new : Option PortUse) : State :=
  match held, new with
  | some _, some u => s.ledgeAgain d g port u false
  | _, _ => s

/-- One T-clock cycle of a sub-bank, with the new requests on its two ports. -/
def State.ledgeCycle (s : State) (d : Fin 4) (g : Nat) (new0 new1 : Option PortUse) : State :=
  let l := s.ledgeOf d
  let h0 := l.heldOn g 0
  let h1 := l.heldOn g 1
  let s1 := ((s.setLedge d (l.taken g)).delayNew d g 0 h0 new0).delayNew d g 1 h1 new1
  match h0.or new0, h1.or new1 with
  | some u, some v => s1.ledgePair d u v
  | some u, none => s1.portServe d 0 u
  | none, some v => s1.portServe d 1 v
  | none, none => s1

/-- LEDGE_ACCESS: the requests on ports 0 and 1 of one T-clock cycle, with the wrong bits that each meets in the four
quarters of its word (R184 to R187). -/
def execLedgeAccess (d : Fin 4) (port0 : LedgeReq) (port1 : Option LedgeReq) (errs0 errs1 : List Nat) (s : State) :
    Host.Outcome State Fault Refusal :=
  let g := s.subOf d port0
  .next (if s.ledgeUp d then
    match port1 with
    | none => s.ledgeCycle d g (some (.new port0 errs0)) none
    | some q =>
      if s.subOf d q = g then s.ledgeCycle d g (some (.new port0 errs0)) (some (.new q errs1))
      else (s.ledgeCycle d g (some (.new port0 errs0)) none).ledgeCycle d (s.subOf d q) none (some (.new q errs1))
  else s)

/-- LEDGE_RETRY: the next cycle, without new requests: every sub-bank ends second cycles and serves one request presented again on
each port (R184, R186). -/
def execLedgeRetry (d : Fin 4) (s : State) : Host.Outcome State Fault Refusal :=
  let l := s.ledgeOf d
  .next ((l.second.map LedgeSecond.sub ++ l.retry.map LedgeRetry.sub).dedup.foldl (fun (t : State) g => t.ledgeCycle d g none none) s)

/-! ### Row repair (R190, R191) -/

/-- LDG_SPARE of a sub-bank and spare. -/
def spareReg (d : Fin 4) (g r : Nat) : Reg := .ldgSpare d (Fin.ofNat 192 g) (Fin.ofNat 8 r)

/-- The lowest unused spare of a sub-bank. -/
def State.freeSpare (s : State) (d : Fin 4) (g : Nat) : Option Nat :=
  (List.range 8).find? (fun r => !s.isSet (spareReg d g r) Fld.ldgSpare_USED)

/-- Unused spares of a sub-bank. -/
def State.sparesLeft (s : State) (d : Fin 4) (g : Nat) : Nat :=
  ((List.range 8).filter (fun r => !s.isSet (spareReg d g r) Fld.ldgSpare_USED)).length

/-- The soft repairs of one die as its spares show them (R191). -/
def State.softRepairs (s : State) (d : Fin 4) : List LedgeRepair :=
  (List.range 192).flatMap (fun g => ((List.range 8).filter (fun r =>
    s.isSet (spareReg d g r) Fld.ldgSpare_USED && !s.isSet (spareReg d g r) Fld.ldgSpare_FUSED)).map (fun r =>
      ⟨d.val, g, r, s.fld (spareReg d g r) Fld.ldgSpare_ROW, s.isSet (spareReg d g r) Fld.ldgSpare_FAILED⟩))

/-- Copy the soft repairs of a die into the repair record (R191). -/
def State.recordRepairs (s : State) (d : Fin 4) : State :=
  s.setRecord { s.repair.record with ledge := s.repair.record.ledge.filter (fun e => e.die != d.val) ++ s.softRepairs d }

/-- A spare serves a row. -/
def State.mapSpare (s : State) (d : Fin 4) (g r row : Nat) : State :=
  s.set (spareReg d g r) (fput (fput 0 Fld.ldgSpare_USED 1) Fld.ldgSpare_ROW row)

/-- A spare has failed and serves no row. -/
def State.failSpare (s : State) (d : Fin 4) (g r : Nat) : State :=
  (s.put (spareReg d g r) Fld.ldgSpare_USED 1).put (spareReg d g r) Fld.ldgSpare_FAILED 1

/-- A row found failing by a destructive march: its spare fails, and the next unused spare is taken; the answer says
whether every row found failing has a spare (R190). -/
def State.repairRow (s : State) (d : Fin 4) (g row : Nat) : Bool × State :=
  let old := if row < 1024 then s.spareOf d g row else some (row - 1024)
  let target := if row < 1024 then some row
    else if s.isSet (spareReg d g (row - 1024)) Fld.ldgSpare_USED && !s.isSet (spareReg d g (row - 1024)) Fld.ldgSpare_FAILED
    then some (s.fld (spareReg d g (row - 1024)) Fld.ldgSpare_ROW) else none
  let s1 := match old with
    | some r => s.failSpare d g r
    | none => s
  match target with
  | none => (true, s1)
  | some t => match s1.freeSpare d g with
    | some r => (true, s1.mapSpare d g r t)
    | none => (false, s1)

/-- Repair every failing row in order; the answer lists the sub-banks that ran out of spares. -/
def State.repairRows (d : Fin 4) : State → List (Fin 192 × Fin 1032) → List Nat × State
  | s, [] => ([], s)
  | s, (g, row) :: rest =>
    let p := s.repairRow d g.val row.val
    let q := State.repairRows d p.2 rest
    (if p.1 then q.1 else g.val :: q.1, q.2)

/-! ### March tests (R188, R189) -/

/-- A march is refused (R188, R189). -/
def State.marchRefused (s : State) (d : Fin 4) : State := s.put (.ldgMarchStatus d) Fld.ldgMarchStatus_RESULT 3

/-- Start a march: LDG_MARCH_STATUS shows it busy. -/
def State.marchStart (s : State) (d : Fin 4) (m : March) : State :=
  (s.setLedge d { s.ledgeOf d with march := some m }).put (.ldgMarchStatus d) Fld.ldgMarchStatus_BUSY 1

/-- MARCH_DESTRUCTIVE: GO with TRANSP 0 (R188). A write while a march runs starts none. -/
def execMarchDestructive (d : Fin 4) (banks : BitVec 48) (s : State) : Host.Outcome State Fault Refusal :=
  .next (if s.ledgeUp d && (s.ledgeOf d).march.isNone then
    if !s.isSet (.ldgCtrl d) Fld.ldgCtrl_LOCK && s.banksFree d banks.toNat then s.marchStart d ⟨false, banks.toNat, 0⟩
    else s.marchRefused d
  else s)

/-- MARCH_TRANSPARENT: GO with TRANSP 1 (R189). -/
def execMarchTransparent (d : Fin 4) (banks : BitVec 48) (s : State) : Host.Outcome State Fault Refusal :=
  .next (if s.ledgeUp d && (s.ledgeOf d).march.isNone then
    if s.banksFree d banks.toNat then s.marchStart d ⟨true, banks.toNat, 4 * lowestBit 48 banks.toNat⟩ else s.marchRefused d
  else s)

/-- The sub-bank that a transparent march tests after `g`; 192 when none is left. -/
def nextSub (banks g : Nat) : Nat := ((List.range 192).find? (fun x => decide (g < x) && banks.testBit (x / 4))).getD 192

/-- The test of the present sub-bank ends: accesses that waited are served, held entries applied in order, and the march
goes on (R181, R189). -/
def State.testEnds (s : State) (d : Fin 4) : State :=
  let l := s.ledgeOf d
  match l.march with
  | none => s
  | some m =>
    let s1 := s.setLedge d { l with march := some { m with testing := nextSub m.banks m.testing }, held := [], waits := [] }
    ((l.waits.foldl (fun t q => t.ledgeServe d 0 q []) s1).releaseWaiting).takeGives d (l.held.map (BitVec.ofNat 64))

/-- GIVE_HELD_APPLY: the test of a sub-bank under a transparent march ends (R181). -/
def execGiveHeldApply (d : Fin 4) (s : State) : Host.Outcome State Fault Refusal :=
  .next (if (s.testing d).isSome then s.testEnds d else s)

/-- Every word of the named banks is zero with valid check bits, spare rows included (R188). -/
def State.zeroBanks (s : State) (d : Fin 4) (banks : Nat) : State :=
  let lo := 2 ^ 44 + d.val * 2 ^ 28
  let named := fun (k : Nat) => decide (lo ≤ k ∧ k < lo + 2 ^ 28) && banks.testBit ((k - lo) / 1024 / 1032 / 4)
  let s1 := { s with mem := (if banks = 2 ^ 48 - 1 then s.mem.zero (32 + d.val)
      else { s.mem with cells := s.mem.cells.filter (fun c => !named c.1) }) }
  let s2 := if s.mem.era lo = 0 ∨ banks = 2 ^ 48 - 1 then s1
    else (List.range 48).foldl (fun t b => if banks.testBit b then t.store (lo + b * 4 * 1032 * 1024) (zeros (4 * 1032 * 1024)) else t) s1
  { s2 with tiers := { s2.tiers with bad := s2.tiers.bad.filter (fun k => !named k) } }

/-- The contents of the named banks become undefined. -/
def State.spoilBanks (s : State) (d : Fin 4) (banks : Nat) : State :=
  let n := 4 * 1032 * 1024
  (List.range 48).foldl (fun t b =>
    if banks.testBit b then (t.store (2 ^ 44 + d.val * 2 ^ 28 + b * n) (t.freeBytes n)).tookFrees n else t) s

/-- RESULT, FAIL_SUB and FAIL_ROWS of a finished march. -/
def State.marchResult (s : State) (d : Fin 4) (result failSub rows : Nat) : State :=
  (((s.put (.ldgMarchStatus d) Fld.ldgMarchStatus_BUSY 0).put (.ldgMarchStatus d) Fld.ldgMarchStatus_RESULT result).put
    (.ldgMarchStatus d) Fld.ldgMarchStatus_FAIL_SUB failSub).put (.ldgMarchStatus d) Fld.ldgMarchStatus_FAIL_ROWS rows

/-- A destructive march over named banks ends with the rows it found failing: repair analysis, then zeros (R188, R190).
The answer says whether the die passed. -/
def State.destructiveEnd (s : State) (d : Fin 4) (banks : Nat) (fails : List (Fin 192 × Fin 1032)) : Bool × State :=
  let p := State.repairRows d s fails
  let s1 := if fails.isEmpty then p.2 else p.2.recordRepairs d
  let s2 := (s1.zeroBanks d banks).marchResult d (if !p.1.isEmpty then 2 else if fails.isEmpty then 0 else 1)
    (p.1.foldl min 0xFF) fails.length
  (p.1.isEmpty, s2)

/-- A march has come to its end: what waited for the test of a sub-bank is served, and held entries are applied (R181, R189). -/
def State.marchLeft (s : State) (d : Fin 4) : State :=
  let s1 := s.testEnds d
  let s2 := s1.setLedge d { s1.ledgeOf d with march := none }
  let l := s2.ledgeOf d
  let s3 := ((s2.setLedge d { l with held := [], waits := [] }).releaseWaiting).takeGives d (l.held.map (BitVec.ofNat 64))
  l.waits.foldl (fun t q => t.ledgeServe d 0 q []) s3

/-- Rows of the named banks, as `(sub-bank, row)`, that hold a word known as uncorrectable: a transparent march finds them failing. It
skips unused spare rows (R189). -/
def State.badRows (s : State) (d : Fin 4) (banks : Nat) : List (Nat × Nat) :=
  let lo := 2 ^ 44 + d.val * 2 ^ 28
  ((s.tiers.bad.filter (fun k => decide (lo ≤ k ∧ k < lo + 2 ^ 28))).map (fun k => ((k - lo) / 1024 / 1032, (k - lo) / 1024 % 1032))).filter
    (fun x => banks.testBit (x.1 / 4) && decide (x.1 < 192) &&
      (decide (x.2 < 1024) || (s.isSet (spareReg d x.1 (x.2 - 1024)) Fld.ldgSpare_USED && !s.isSet (spareReg d x.1 (x.2 - 1024)) Fld.ldgSpare_FAILED)))

/-- MARCH_DONE: a march ends with the rows it found failing (R188, R189). A transparent march only reports them. -/
def execMarchDone (d : Fin 4) (fails : List (Fin 192 × Fin 1032)) (s : State) : Host.Outcome State Fault Refusal :=
  .next (match (s.ledgeOf d).march with
  | none => s
  | some m =>
    if m.transparent then
      let rows := (fails.map (fun f => (f.1.val, f.2.val)) ++ s.badRows d m.banks).dedup
      let short := (rows.map Prod.fst).filter (fun g => decide (s.sparesLeft d g < (rows.filter (fun f => f.1 == g)).length))
      (s.marchLeft d).marchResult d (if short.isEmpty then 0 else 2) (short.foldl min 0xFF) rows.length
    else
      (State.destructiveEnd (s.setLedge d { s.ledgeOf d with march := none }) d m.banks fails).2)

/-! ### Repair commands (R191) -/

/-- LDG_REPAIR_STATUS after a command that has completed or been refused. -/
def State.repairStatus (s : State) (d : Fin 4) (g result : Nat) : State :=
  (s.put (.ldgRepairStatus d) Fld.ldgRepairStatus_RESULT result).put (.ldgRepairStatus d) Fld.ldgRepairStatus_SPARES_LEFT
    (s.sparesLeft d g)

/-- LDG_REPAIR takes a command now. -/
def State.repairReady (s : State) (d : Fin 4) : Bool := s.ledgeUp d && !s.isSet (.ldgRepairStatus d) Fld.ldgRepairStatus_BUSY

/-- The spare that served a row gives way to a new repair of the same row. -/
def State.dropOldSpare (s : State) (d : Fin 4) (g row : Nat) : State :=
  match s.spareOf d g row with
  | some r => s.failSpare d g r
  | none => s

/-- SOFT (R191). -/
def execSoft (d : Fin 4) (g : Fin 256) (row : Fin 1024) (s : State) : Host.Outcome State Fault Refusal :=
  .next (if s.repairReady d then
    if 192 ≤ g.val ∨ s.ownerOf d g.val ≠ 0x32 then s.repairStatus d g.val 2
    else match s.freeSpare d g.val with
      | none => s.repairStatus d g.val 1
      | some r =>
        let s1 := ((s.dropOldSpare d g.val row.val).mapSpare d g.val r row.val).recordRepairs d
        let s2 := (s1.tookFrees 1024).store (ledgeRowKey d g.val (1024 + r)) (s1.freeBytes 1024)
        s2.repairStatus d g.val 0
  else s)

/-- The uncorrectable quarters of a row move with it, each word reported (R187). -/
def State.copyRowErrors (s : State) (d : Fin 4) (g row r src : Nat) : State :=
  (List.range 16).foldl (fun t w =>
    let k := src + 64 * w
    let badQ := (List.range 4).filter (fun q => t.isBad (k + 16 * q))
    let t1 := if badQ.isEmpty then t else
      (t.bump (.ldgEcc d) Fld.ldgEcc_UNCORR).ucc ⟨d.val, 5, noInst⟩ 0x0101 0 (g * 2 ^ 16 + row * 16 + w)
    (List.range 4).foldl (fun u q => u.setBad (ledgeRowKey d g (1024 + r) + 64 * w + 16 * q) (badQ.contains q)) t1) s

/-- SOFT_COPY (R191). -/
def execSoftCopy (d : Fin 4) (g : Fin 256) (row : Fin 1024) (s : State) : Host.Outcome State Fault Refusal :=
  .next (if s.repairReady d then
    if 192 ≤ g.val ∨ s.ownerOf d g.val ≠ 0x32 then s.repairStatus d g.val 2
    else match s.freeSpare d g.val with
      | none => s.repairStatus d g.val 1
      | some r =>
        let src := ledgeRowKey d g.val (match s.spareOf d g.val row.val with | some q => 1024 + q | none => row.val)
        let data := s.mem.getN src 1024
        let s1 := (s.copyRowErrors d g.val row.val r src).dropOldSpare d g.val row.val
        (((s1.mapSpare d g.val r row.val).recordRepairs d).store (ledgeRowKey d g.val (1024 + r)) data).repairStatus d g.val 0
  else s)

/-- FUSE (R191): the command stays busy for 2 ms. -/
def execFuse (d : Fin 4) (g : Fin 256) (row : Fin 1024) (s : State) : Host.Outcome State Fault Refusal :=
  .next (if s.repairReady d then
    if !s.inHold ∨ 192 ≤ g.val then s.repairStatus d g.val 2
    else match s.spareOf d g.val row.val with
      | none => s.repairStatus d g.val 4
      | some r =>
        if s.isSet (spareReg d g.val r) Fld.ldgSpare_FUSED then s.repairStatus d g.val 4
        else (s.setLedge d { s.ledgeOf d with fusing := some (g.val, row.val) }).put (.ldgRepairStatus d) Fld.ldgRepairStatus_BUSY 1
  else s)

/-- FUSE_DONE: fusing ends, well or not (R191). -/
def execFuseDone (d : Fin 4) (ok : Bool) (s : State) : Host.Outcome State Fault Refusal :=
  .next (match (s.ledgeOf d).fusing with
  | none => s
  | some (g, row) =>
    let s1 := (s.setLedge d { s.ledgeOf d with fusing := none }).put (.ldgRepairStatus d) Fld.ldgRepairStatus_BUSY 0
    if ok then
      match s1.spareOf d g row with
      | some r =>
        let s2 := (s1.put (spareReg d g r) Fld.ldgSpare_FUSED 1).recordRepairs d
        ({ s2 with repair := { s2.repair with fused := s2.repair.fused ++ [(⟨d.val, g, r, row, false⟩ : LedgeRepair)] } }).repairStatus d g 0
      | none => s1.repairStatus d g 3
    else s1.repairStatus d g 3)

/-- RELEASE (R191): the row is served by its data row again. -/
def execRelease (d : Fin 4) (g : Fin 256) (row : Fin 1024) (s : State) : Host.Outcome State Fault Refusal :=
  .next (if s.repairReady d then
    if !s.inHold ∨ 192 ≤ g.val then s.repairStatus d g.val 2
    else match s.spareOf d g.val row.val with
      | none => s.repairStatus d g.val 4
      | some r =>
        if s.isSet (spareReg d g.val r) Fld.ldgSpare_FUSED then s.repairStatus d g.val 2
        else ((s.set (spareReg d g.val r) 0).recordRepairs d).repairStatus d g.val 0
  else s)

/-- A reserved OP of LDG_REPAIR returns RESULT 2 (R192). -/
def State.repairReserved (s : State) (d : Fin 4) (g : Nat) : State := if s.repairReady d then s.repairStatus d g 2 else s

/-- Stage 5 loads the fused repairs of a die, then its soft repairs (R190). -/
def State.loadRepairs (s : State) (d : Fin 4) : State :=
  let fused := s.repair.fused.filter (fun e => e.die == d.val)
  let soft := s.repair.record.ledge.filter (fun e => e.die == d.val)
  let put := fun (f : Nat) (t : State) (e : LedgeRepair) =>
    t.set (spareReg d e.sub e.spare) (fput (fput (fput (fput 0 Fld.ldgSpare_USED 1) Fld.ldgSpare_ROW e.row)
      Fld.ldgSpare_FUSED f) Fld.ldgSpare_FAILED (b2n e.failed))
  soft.foldl (put 0) (fused.foldl (put 1) s)

end Sys2Proof.Machine
end

