-- ==== Sys2Proof/Machine/Fault.lean ====
section
/-! DEFINITION. The fault collector (R404 to R416): records, merges, Fatal actions, grace, ERR_N and clearing. -/

namespace Sys2Proof.Machine

/-! ### Two-copy flash (R359, R405, R434) -/

/-- The valid copy with the higher sequence count. -/
def FlashPair.newest {α : Type} (f : FlashPair α) : Option α :=
  match f.copyA, f.copyB with
  | some a, some b => some (if a.1 < b.1 then b.2 else a.2)
  | some a, none => some a.2
  | none, some b => some b.2
  | none, none => none

/-- Copy A holds the newer valid contents. -/
def FlashPair.newerA {α : Type} (f : FlashPair α) : Bool :=
  match f.copyA, f.copyB with
  | some a, some b => decide (b.1 < a.1)
  | some _, none => true
  | none, _ => false

/-- The next sequence count. -/
def FlashPair.nextCount {α : Type} (f : FlashPair α) : Nat :=
  max ((f.copyA.map Prod.fst).getD 0) ((f.copyB.map Prod.fst).getD 0) + 1

/-- The write under way ends in the older copy; what changed meanwhile goes into the other one. -/
def FlashPair.finish {α : Type} (f : FlashPair α) (now : α) : FlashPair α :=
  match f.writing with
  | none => f
  | some x =>
    let e := some (f.nextCount, x)
    let g := if f.newerA then { f with copyB := e } else { f with copyA := e }
    if f.dirty then { g with writing := some now, dirty := false } else { g with writing := none, dirty := false }

/-- Power fails: the copy under way is torn and its CRC wrong, and its change is lost. -/
def FlashPair.torn {α : Type} (f : FlashPair α) : FlashPair α :=
  match f.writing with
  | none => f
  | some _ => if f.newerA then { f with copyB := none, writing := none, dirty := false }
    else { f with copyA := none, writing := none, dirty := false }

/-- The older copy is still whole: the loss of one copy loses only the last change (R359). -/
def FlashPair.anyCopy {α : Type} (f : FlashPair α) : Bool := f.copyA.isSome || f.copyB.isSome

/-! ### The clock stop (R33, R395) -/

/-- Where the boot order stands after the clocks stop: before stage 2, which runs again (R33). -/
def BootPhase.stopped : BootPhase → BootPhase
  | .off => .off
  | .stage 1 => .stage 1
  | _ => .standby

/-- The T-, F- and M-clocks stop (R33, R395): the contents of the near tier, the moraine tier and the ledge are undefined from
then on, the device falls to S0, and nothing that these clocks drive goes on until the boot order runs again. A DIE_RESET under way
or held stays held (R349). HK_SHAPE keeps its masks and SHAPE_VALID until CLOCK_RESTART; only SVC_LEVEL falls, which the manual leaves
open (DESIGN CHOICE, log entry 51). -/
def State.stopClocks (s : State) (cause : Nat) : State :=
  if s.clocks.stopped ≠ 0 then { s with clocks := { s.clocks with stopped := max s.clocks.stopped cause } }
  else
    let s1 := { s with clocks := { s.clocks with tRun := false, fRun := false, mRun := false, stopped := cause }
                       mem := s.mem.loseAll (List.range 36), tiers := { s.tiers with bad := [] } }
    let s2 := s1.setLevel 0
    { s2 with
      doms := { s2.doms with main := false, pcie := false, compute := 0 }
      boot := { s2.boot with
        phase := s2.boot.phase.stopped
        heldReset := s2.boot.heldReset ||| s2.boot.rerunMask
        rerunMask := 0 } }

/-! ### Records -/

/-- The record's class is Fatal. -/
def FaultRec.isFatal (x : FaultRec) : Bool := x.fatal

/-- The record's class is UCC. -/
def FaultRec.isUcc (x : FaultRec) : Bool := x.ucc && !x.fatal

/-- An open Fatal record (R408, R414). -/
def FaultRec.openFatal (x : FaultRec) : Bool := x.fatal && !x.cleared

/-- An open UCC record (R414). -/
def FaultRec.openUcc (x : FaultRec) : Bool := x.isUcc && !x.cleared

/-- A UCC record that has not been acknowledged (R411). -/
def FaultRec.unacked (x : FaultRec) : Bool := x.isUcc && !x.acked

/-- A record in handling (R409). -/
def FaultRec.inHandling (x : FaultRec) : Bool := x.unacked || x.openFatal

/-- A record that a new record may overwrite (R408). -/
def FaultRec.replaceable (x : FaultRec) : Bool := !x.pinned && !x.openFatal

/-- SEQ of the next new record. -/
def State.nextSeq (s : State) : Nat := s.fld .fltHead Fld.fltHead_SEQ

/-- Age of a SEQ, so that the oldest has the highest (R406). -/
def State.seqAge (s : State) (q : Nat) : Nat := (s.nextSeq + 2 ^ 32 - q % 2 ^ 32) % 2 ^ 32

/-- The ring index of the record of highest age that satisfies a test. -/
def State.oldestRec (s : State) (p : FaultRec → Bool) : Option Nat :=
  (List.range s.faults.ring.length).foldl (fun best i =>
    match s.faults.ring[i]? with
    | none => best
    | some x =>
      if p x then
        match best.bind (fun b => s.faults.ring[b]?) with
        | some y => if s.seqAge y.seq < s.seqAge x.seq then some i else best
        | none => some i
      else best) none

/-- Index of the next new record: the ring grows to 1,024 records, then the oldest replaceable one gives way. -/
def State.nextIndex (s : State) : Option Nat :=
  if s.faults.ring.length < 1024 then some s.faults.ring.length else s.oldestRec FaultRec.replaceable

/-- SEQ and deadline of every unacknowledged UCC record, in the ring or overwritten (R408). -/
def State.unackedList (s : State) : List (Nat × Option Nat) :=
  ((s.faults.ring.filter FaultRec.unacked).map (fun x => (x.seq, x.deadline))) ++
    s.faults.lost.map (fun x => (x.seq, x.deadline))

/-- The oldest of them. -/
def State.oldestUnacked (s : State) : Option (Nat × Option Nat) :=
  s.unackedList.foldl (fun best e =>
    match best with
    | some b => if s.seqAge b.1 < s.seqAge e.1 then some e else best
    | none => some e) none

/-- A UCC or Fatal record is open (R414). -/
def State.anyOpen (s : State) : Bool := s.faults.ring.any (fun x => x.openUcc || x.openFatal)

/-- The registers that report on the ring follow it (R415, R429). -/
def State.faultSync (s : State) : State :=
  let ring := s.faults.ring
  let nu := (ring.filter FaultRec.openUcc).length
  let nf := (ring.filter FaultRec.openFatal).length
  let s1 := ((((s.put .fltStatus Fld.fltStatus_FATAL (b2n (nf != 0))).put .fltStatus Fld.fltStatus_UCC (b2n (nu != 0))).put
    .fltStatus Fld.fltStatus_UNACKED (b2n (!s.unackedList.isEmpty))).put .fltStatus Fld.fltStatus_OPEN_UCC nu).put
    .fltStatus Fld.fltStatus_OPEN_FATAL nf
  let s2 := (s1.put .fltPin Fld.fltPin_PINNED (ring.filter FaultRec.pinned).length).put .fltHead Fld.fltHead_INDEX
    (s.nextIndex.getD (s.fld .fltHead Fld.fltHead_INDEX))
  match s.oldestUnacked with
  | some (q, d) => ((s2.put .fltGrace Fld.fltGrace_RUNNING 1).put .fltGrace Fld.fltGrace_OLDEST q).put .fltDeadline
      Fld.fltDeadline_TIME (d.getD 0)
  | none => ((s2.put .fltGrace Fld.fltGrace_RUNNING 0).put .fltGrace Fld.fltGrace_OLDEST 0).put .fltDeadline Fld.fltDeadline_TIME 0

/-- The pinned records, which flash keeps (R405). -/
def State.pinnedRecs (s : State) : List FaultRec := s.faults.ring.filter FaultRec.pinned

/-- The set of pinned records has changed: flash is asked for a write (R405). -/
def State.pinnedChanged (s : State) : State :=
  { s with faults := { s.faults with flash := s.faults.flash.request s.pinnedRecs } }

/-! ### ERR_N (R414) -/

/-- A UCC or Fatal event reaches the pin: the first one pulses. -/
def State.errEvent (s : State) : State :=
  if s.isSet .fltStatus Fld.fltStatus_ARMED then
    (((s.put .fltStatus Fld.fltStatus_PULSE 1).put .fltStatus Fld.fltStatus_ASSERTED 1).put .fltStatus Fld.fltStatus_ARMED 0).emit
      (.errPin true)
  else s

/-- A record has become Fatal: while disarmed and released, ERR_HOLD is set and the pin driven again. -/
def State.errFatal (s : State) : State :=
  if s.isSet .fltStatus Fld.fltStatus_ARMED || s.isSet .fltStatus Fld.fltStatus_ASSERTED then s
  else ((s.put .fltCtrl Fld.fltCtrl_ERR_HOLD 1).put .fltStatus Fld.fltStatus_ASSERTED 1).emit (.errPin true)

/-- Release, set ERR_HOLD and arm. -/
def State.errRearm (s : State) : State :=
  let s1 := ((s.put .fltCtrl Fld.fltCtrl_ERR_HOLD 1).put .fltStatus Fld.fltStatus_ASSERTED 0).put .fltStatus Fld.fltStatus_ARMED 1
  if s.isSet .fltStatus Fld.fltStatus_ASSERTED then s1.emit (.errPin false) else s1

/-- The pin after a record stopped being open. -/
def State.errSettle (s : State) : State :=
  if s.anyOpen || s.isSet .fltStatus Fld.fltStatus_PULSE || s.isSet .fltStatus Fld.fltStatus_ARMED then s else s.errRearm

/-! ### Writing records (R405 to R409) -/

/-- The step in force when a record is made: OPT_STEP of the lowest ridge die out of reset. -/
def State.stepNow (s : State) : Nat :=
  match diesOf s.doms.fabric with
  | d :: _ => s.fld (.optStep d) Fld.optStep_STEP
  | [] => 0

/-- Grace time that applies to a record made now, in ms. -/
def State.graceNow (s : State) : Nat := s.fld .fltCtrl Fld.fltCtrl_GRACE

/-- A deadline from a moment, once S1 has been reached (R411). -/
def State.deadlineFrom (s : State) (t g : Nat) : Option Nat := if s.boot.reachedS1 then some (t + g * 1000000) else none

/-- Ridge dies that the Fatal actions fence for a source (R413). -/
def fatalMask (die code : Nat) : Nat :=
  if code = 0x0124 ∨ code = 0x0125 then 0 else if die < 4 then 2 ^ die else 15

/-- The Fatal actions (R413): a final heartbeat, the end of the job with FATAL, the fence. -/
def State.fatalActions (s : State) (mask : Nat) : State := ((s.failHeartbeat).beginEnd 0x23).fence mask

/-- Replace a record of the ring. -/
def State.setRec (s : State) (i : Nat) (x : FaultRec) : State :=
  { s with faults := { s.faults with ring := s.faults.ring.set i x } }

/-- Room for one more pinned record (R408). -/
def State.pinRoom (s : State) : Bool := (s.pinnedRecs).length < 64

/-- A record of the ring becomes Fatal, by a merge, a promotion or as it is written: it is pinned while there is room,
what it fences is kept with it, and the Fatal actions follow (R408, R409, R412, R413). -/
def State.makeFatal (s : State) (i : Nat) (mask : Nat) : State :=
  match s.faults.ring[i]? with
  | none => s
  | some x =>
    let fresh := clearBits mask (s.fld .fltFence Fld.fltFence_FENCED)
    let s1 := s.setRec i { x with fatal := true, pinned := s.pinRoom, fenced := x.fenced ||| fresh }
    let s2 := if s.pinRoom then s1.pinnedChanged else s1.bump .fltPin Fld.fltPin_UNPINNED
    (s2.errFatal).fatalActions mask

/-- A UCC record stops being in the ring while it is unacknowledged: SEQ and TIME are kept (R408). -/
def State.loseRec (s : State) (x : FaultRec) : State :=
  if x.unacked then { s with faults := { s.faults with lost := s.faults.lost ++ [⟨x.seq, x.time, x.grace, x.deadline⟩] } } else s

/-- Write a new record, overwriting the oldest replaceable one of a full ring, or drop it (R405, R408). -/
def State.writeRec (s : State) (e : FaultEvent) (escalated : Bool) : State :=
  let isErr := e.cls ≠ .corrected
  let mask := fatalMask e.die e.code
  let s0 := if isErr then s.errEvent else s
  match s.nextIndex with
  | none =>
    let s1 := s0.bump .fltPin Fld.fltPin_DROPPED
    let s2 := if s0.isSet .fltStatus Fld.fltStatus_PULSE then s1 else s1.errSettle
    if e.cls = .fatal then s2.fatalActions mask else s2
  | some i =>
    let g := s.graceNow
    let x : FaultRec :=
      { time := e.time, last := e.time, seq := s.nextSeq, corrected := e.cls = .corrected, ucc := e.cls = .ucc, fatal := false,
        pinned := false, acked := false, cleared := false, escalated := escalated, injected := e.injected, die := e.die,
        block := e.block, inst := e.inst, code := e.code, merge := 0, node := e.node, addr := e.addr, detail := e.detail,
        step := s.stepNow, grace := g, deadline := s.deadlineFrom e.time g, fenced := 0, bootAgain := false }
    let s1 := match s0.faults.ring[i]? with
      | some y => ((s0.loseRec y).bump .fltTotals Fld.fltTotals_OVERWRITTEN).setRec i x
      | none => { s0 with faults := { s0.faults with ring := s0.faults.ring ++ [x] } }
    let s2 := s1.put .fltHead Fld.fltHead_SEQ (s.nextSeq + 1)
    let s3 := if e.cls = .corrected then s2.bump .fltTotals Fld.fltTotals_CORRECTED else s2
    let s4 := if e.cls = .fatal then s3.makeFatal i mask else s3
    let s5 := (s4.errSettle).irq 10
    if isErr then s5.msix 3 else s5

/-- The record in handling that an event merges into: same DIE, BLOCK and INSTANCE (R409). -/
def State.mergeTarget (s : State) (e : FaultEvent) : Option Nat :=
  if e.cls = .corrected then none
  else s.faults.ring.findIdx? (fun x => x.inHandling && x.die == e.die && x.block == e.block && x.inst == e.inst)

/-- Merge an event into a record (R409). -/
def State.mergeRec (s : State) (i : Nat) (e : FaultEvent) : State :=
  match s.faults.ring[i]? with
  | none => s
  | some x =>
    let s1 := s.setRec i { x with merge := satInc 16 x.merge, last := e.time, ucc := x.ucc || e.cls == .ucc }
    if e.cls = .fatal ∧ x.fatal = false then ((s1.makeFatal i (fatalMask x.die e.code)).irq 10).msix 3
    else if e.cls = .fatal then
      let mask := fatalMask x.die e.code
      let fresh := clearBits mask (s.fld .fltFence Fld.fltFence_FENCED)
      (s1.setRec i { x with merge := satInc 16 x.merge, last := e.time, fenced := x.fenced ||| fresh }).fatalActions mask
    else s1

/-- FAULT_RECORD: the collector accepts the oldest waiting event: a merge, a new record or a drop (R405 to R409). -/
def execFaultRecord (s : State) : Host.Outcome State Fault Refusal :=
  .next (if s.doms.hk then
    match s.faults.queue with
    | [] => s
    | e :: rest =>
      let s1 := { s with faults := { s.faults with queue := rest } }
      (match s1.mergeTarget e with
      | some i => s1.mergeRec i e
      | none => s1.writeRec e false).faultSync
  else s)

/-! ### Acknowledgement, grace, clearing (R410 to R415) -/

/-- The write was refused. -/
def State.fltRefused (s : State) : State := s.put .fltStatus Fld.fltStatus_REFUSED 1

/-- A SEQ is not newer than another (R406). -/
def seqUpTo (x q : Nat) : Bool := !newer 32 x q

/-- An acknowledgement of every UCC record not newer than `q` (R410). -/
def State.ackFaults (s : State) (q : Nat) : State :=
  if newer 32 q (s.nextSeq + 2 ^ 32 - 1) then s.fltRefused
  else
    let ring := s.faults.ring.map (fun x => if x.unacked && seqUpTo x.seq q then { x with acked := true } else x)
    let lost := s.faults.lost.filter (fun x => !seqUpTo x.seq q)
    ({ s with faults := { s.faults with ring := ring, lost := lost } }).faultSync

/-- FLT_ACK (R410). -/
def execFltAck (q : BitVec 32) (s : State) : Host.Outcome State Fault Refusal :=
  .next (if s.doms.hk then s.ackFaults q.toNat else s)

/-- The source of a UCC record of BLOCK 1 to 5 still holds VALID in its error register (R415). -/
def State.sourceHolds (s : State) (x : FaultRec) : Bool :=
  let d : Fin 4 := Fin.ofNat 4 x.die
  match x.block with
  | 1 => s.isSet (.tcErr d (Fin.ofNat 11 x.inst)) Fld.tcErr_VALID
  | 2 => s.isSet (.trvErr d (Fin.ofNat 22 x.inst)) Fld.trvErr_VALID
  | 3 => s.isSet (.optErr d) Fld.optErr_VALID
  | 4 => s.isSet (.colErr d) Fld.colErr_VALID
  | 5 => s.isSet (.ldgViol d) Fld.ldgViol_VALID
  | _ => false

/-- The cause of a record is gone (R415). -/
def State.causeGone (s : State) (x : FaultRec) : Bool :=
  if x.fatal then x.fenced == 0 && ((x.code != 0x0124 && x.code != 0x0125) || x.bootAgain)
  else if x.ucc then x.acked && !s.sourceHolds x
  else true

/-- Clear the record with a SEQ, or refuse (R415). -/
def State.clearFault (s : State) (q : Nat) : State :=
  match s.faults.ring.findIdx? (fun x => x.seq == q % 2 ^ 32) with
  | none => s.fltRefused
  | some i =>
    match s.faults.ring[i]? with
    | none => s.fltRefused
    | some x =>
      if s.causeGone x then
        let s1 := s.setRec i { x with cleared := true, pinned := false }
        ((if x.pinned then s1.pinnedChanged else s1).errSettle).faultSync
      else s.fltRefused

/-- FLT_CLEAR (R415). -/
def execFltClear (q : BitVec 32) (s : State) : Host.Outcome State Fault Refusal :=
  .next (if s.doms.hk then s.clearFault q.toNat else s)

/-- Promotion of a record to Fatal in place: ESCALATED and PINNED (R412). -/
def State.promote (s : State) (i : Nat) : State :=
  match s.faults.ring[i]? with
  | none => s
  | some x =>
    let s1 := (s.setRec i { x with escalated := true }).makeFatal i (fatalMask x.die x.code)
    ((s1.irq 10).msix 3).faultSync

/-- GRACE_EXPIRY: the deadline passes (R412). -/
def execGraceExpiry (s : State) : Host.Outcome State Fault Refusal :=
  .next (match s.oldestUnacked with
  | none => s
  | some (_, none) => s
  | some (q, some _) =>
    match s.faults.ring.findIdx? (fun x => x.unacked && x.seq == q) with
    | some i => s.promote i
    | none =>
      let s1 := { s with faults := { s.faults with lost := s.faults.lost.filter (fun x => x.seq != q) } }
      (s1.writeRec ⟨s.now, .fatal, 7, 19, noInst, 0x0133, noNode, 0, q, false⟩ true).faultSync)

/-- ERR_PULSE_END (R414). -/
def execErrPulseEnd (s : State) : Host.Outcome State Fault Refusal :=
  .next (if s.isSet .fltStatus Fld.fltStatus_PULSE then
    let s1 := s.put .fltStatus Fld.fltStatus_PULSE 0
    if s1.anyOpen then s1.errLevel else s1.errRearm
  else s)

/-- PINNED_RECORD_FLASH_WRITE: the write completes; records pinned meanwhile go into the other copy (R405). -/
def execPinnedRecordFlashWrite (s : State) : Host.Outcome State Fault Refusal :=
  .next { s with faults := { s.faults with flash := s.faults.flash.finish s.pinnedRecs } }

/-- S1 is reached: UCC records made before it get their deadlines from this moment (R411). -/
def State.startGrace (s : State) : State :=
  let f := fun (d : Option Nat) (g : Nat) => match d with
    | some t => some t
    | none => some (s.now + g * 1000000)
  let ring := s.faults.ring.map (fun (x : FaultRec) => { x with deadline := f x.deadline x.grace })
  let lost := s.faults.lost.map (fun (x : LostUcc) => { x with deadline := f x.deadline x.grace })
  ({ s with boot := { s.boot with reachedS1 := true }, faults := { s.faults with ring := ring, lost := lost } }).faultSync

/-- Stage 1 reloads the pinned records in ascending SEQ order (R405). -/
def State.reloadPinned (s : State) : State :=
  match s.faults.flash.newest with
  | none => s.faultSync
  | some rs =>
    let ring := insertSort (fun a b => newer 32 b.seq a.seq) rs
    let s1 := { s with faults := { s.faults with ring := ring, lost := [], queue := s.faults.queue } }
    (match ring.getLast? with
    | some x => s1.put .fltHead Fld.fltHead_SEQ (x.seq + 1)
    | none => s1).faultSync

/-- A die is released: no record's clearing waits for it any longer (R415). -/
def State.releaseFences (s : State) (dies : Nat) : State :=
  { s with faults := { s.faults with ring := s.faults.ring.map (fun x => { x with fenced := clearBits x.fenced dies }) } }

/-- The boot order has run again: Fatal records of a clock stop may be cleared (R415). -/
def State.bootRanAgain (s : State) : State :=
  { s with faults := { s.faults with ring := s.faults.ring.map (fun x =>
      if x.code = 0x0124 ∨ x.code = 0x0125 then { x with bootAgain := true } else x) } }

end Sys2Proof.Machine
end

