-- ==== Sys2Proof/Machine/Fp.lean ====
section
/-! DEFINITION. Number formats, rounding and arithmetic, exactly as R101 to R119 state them. A value is held as an exact
dyadic number; an FP32 value in a register or in memory is its 32-bit code, a natural number. -/

namespace Sys2Proof.Machine

/-- An exact value: NaN, an infinity, or `± m · 2^e`; zero keeps its sign (R102). -/
inductive Fp where
  | nan
  | inf (neg : Bool)
  | fin (neg : Bool) (m : Nat) (e : Int)
deriving DecidableEq, Repr

/-- The element formats of R101. -/
inductive Elt where
  | e2m1 | e2m3 | e3m2 | e4m3 | e5m2 | bf16 | fp32 | int8 | mxint8
deriving DecidableEq, Repr

/-- Bits of an element. -/
def Elt.width : Elt → Nat
  | .e2m1 => 4 | .e2m3 => 6 | .e3m2 => 6 | .e4m3 => 8 | .e5m2 => 8 | .bf16 => 16 | .fp32 => 32 | .int8 => 8 | .mxint8 => 8

/-- Mantissa bits (R101). -/
def Elt.mant : Elt → Nat
  | .e2m1 => 1 | .e2m3 => 3 | .e3m2 => 2 | .e4m3 => 3 | .e5m2 => 2 | .bf16 => 7 | .fp32 => 23 | .int8 => 0 | .mxint8 => 6

/-- Exponent bits (R101). -/
def Elt.expo : Elt → Nat
  | .e2m1 => 2 | .e2m3 => 2 | .e3m2 => 3 | .e4m3 => 4 | .e5m2 => 5 | .bf16 => 8 | .fp32 => 8 | .int8 => 0 | .mxint8 => 0

/-- Exponent bias (R101). -/
def Elt.bias : Elt → Nat
  | .e2m1 => 1 | .e2m3 => 1 | .e3m2 => 3 | .e4m3 => 7 | .e5m2 => 15 | .bf16 => 127 | .fp32 => 127 | .int8 => 0 | .mxint8 => 0

/-- Formats whose all-ones exponent holds infinities and NaNs (R101). -/
def Elt.ieee : Elt → Bool
  | .e5m2 => true | .bf16 => true | .fp32 => true | _ => false

/-- emax of an element in a block format (R105). -/
def Elt.emax : Elt → Int
  | .e2m1 => 2 | .e2m3 => 2 | .e3m2 => 4 | .e4m3 => 8 | .e5m2 => 15 | _ => 0

/-- The exponent of the smallest subnormal step (R101). -/
def Elt.qmin (f : Elt) : Int := match f with
  | .int8 => 0
  | .mxint8 => -6
  | _ => 1 - (f.bias : Int) - (f.mant : Int)

/-- Largest finite magnitude as `(m, e)` (R101). -/
def Elt.maxFin (f : Elt) : Nat × Int := match f with
  | .int8 => (127, 0)
  | .mxint8 => (127, -6)
  | .e4m3 => (14, 5)
  | _ =>
    let top : Int := if f.ieee then (2 ^ f.expo - 2 : Nat) else (2 ^ f.expo - 1 : Nat)
    (2 ^ (f.mant + 1) - 1, top - f.bias - f.mant)

/-- The NaN that the device writes in a format (R104). -/
def Elt.nanCode : Elt → Nat
  | .e4m3 => 0x7F | .e5m2 => 0x7E | .bf16 => 0x7FC0 | .fp32 => 0x7FC00000 | _ => 0

/-- The value of an element's code (R101, R103). -/
def Elt.decode (f : Elt) (c : Nat) : Fp := match f with
  | .int8 => let i := signed 8 c; .fin (decide (i < 0)) i.natAbs 0
  | .mxint8 => let i := signed 8 c; .fin (decide (i < 0)) i.natAbs (-6)
  | _ =>
    let neg := bit c (f.width - 1)
    let x := bits c (f.width - 2) f.mant
    let m := c % 2 ^ f.mant
    if f.ieee && x == 2 ^ f.expo - 1 then (if m = 0 then .inf neg else .nan)
    else if f == .e4m3 && x == 15 && m == 7 then .nan
    else if x = 0 then .fin neg m f.qmin
    else .fin neg (2 ^ f.mant + m) ((x : Int) - f.bias - f.mant)

/-- `floor (log2 (m · 2^e))` of a nonzero magnitude. -/
def ilogb (m : Nat) (e : Int) : Int := (Nat.log2 m : Int) + e

/-- How a conversion rounds: to nearest even (R110), or stochastically with a 16-bit draw (R111). -/
inductive Rounding where
  | nearest
  | stochastic (r : Nat)
deriving DecidableEq, Repr

/-- Round a nonzero magnitude to `p` significant bits with steps no finer than `2^q`: the result is `(M, u)` for
`M · 2^u` (R110, R111). -/
def roundMag (p : Nat) (q : Int) (rd : Rounding) (m : Nat) (e : Int) : Nat × Int :=
  let u := max (ilogb m e - (p - 1 : Nat)) q
  if u ≤ e then (m * 2 ^ (e - u).toNat, u)
  else
    let sh := (u - e).toNat
    let lo := m / 2 ^ sh
    let rem := m % 2 ^ sh
    let up := match rd with
      | .nearest => decide (2 ^ sh < 2 * rem) || (decide (2 * rem = 2 ^ sh) && lo % 2 == 1)
      | .stochastic r =>
        let f := if 16 ≤ sh then rem / 2 ^ (sh - 16) else rem * 2 ^ (16 - sh)
        decide (65536 ≤ f + r % 65536)
    (if up then lo + 1 else lo, u)

/-- `a ≤ b` of two magnitudes. -/
def magLe (a : Nat × Int) (b : Nat × Int) : Bool :=
  let k := min a.2 b.2
  decide (a.1 * 2 ^ (a.2 - k).toNat ≤ b.1 * 2 ^ (b.2 - k).toNat)

/-- The code of a representable finite magnitude in a format, without its sign. -/
def Elt.encodeMag (f : Elt) (m : Nat) (e : Int) : Nat :=
  if m = 0 then 0
  else match f with
  | .int8 => m * 2 ^ e.toNat
  | .mxint8 => m * 2 ^ (e + 6).toNat
  | _ =>
    let l := ilogb m e
    if l < 1 - (f.bias : Int) then m * 2 ^ (e - f.qmin).toNat
    else
      let k := l - f.mant
      let mm := if k ≤ e then m * 2 ^ (e - k).toNat else m / 2 ^ (k - e).toNat
      (l + f.bias).toNat * 2 ^ f.mant + mm % 2 ^ f.mant

/-- A code with its sign. -/
def Elt.withSign (f : Elt) (neg : Bool) (mag : Nat) : Nat := match f with
  | .int8 => if neg then (256 - mag) % 256 else mag
  | .mxint8 => if neg then (256 - mag) % 256 else mag
  | _ => mag + b2n neg * 2 ^ (f.width - 1)

/-- Significant bits that rounding keeps: for the integer formats, all that lie above the unit. -/
def Elt.prec (f : Elt) : Nat := match f with
  | .int8 => 64
  | .mxint8 => 64
  | _ => f.mant + 1

/-- Round an exact value to FP32 (R110): overflow gives an infinity, zero keeps its sign. -/
def roundF32 : Fp → Nat
  | .nan => 0x7FC00000
  | .inf neg => 0x7F800000 + b2n neg * 2 ^ 31
  | .fin neg m e =>
    if m = 0 then b2n neg * 2 ^ 31
    else
      let r := roundMag 24 (-149) .nearest m e
      if magLe r (Elt.maxFin .fp32) then Elt.encodeMag .fp32 r.1 r.2 + b2n neg * 2 ^ 31
      else 0x7F800000 + b2n neg * 2 ^ 31

/-- The value of an FP32 code. -/
def f32 (c : Nat) : Fp := Elt.decode .fp32 c

/-- Signed numerator at exponent `k` (not above the value's own exponent). -/
def Fp.num (k : Int) : Fp → Int
  | .fin neg m e => let v : Int := ((m * 2 ^ (e - k).toNat : Nat) : Int); if neg then -v else v
  | _ => 0

/-- Exponent of a value; zero for the others. -/
def Fp.exp : Fp → Int
  | .fin _ _ e => e
  | _ => 0

/-- Exact sum of two values. An exact zero of two values of unlike sign is `+0`; of two like zeros it keeps the sign. -/
def Fp.add : Fp → Fp → Fp
  | .nan, _ => .nan
  | _, .nan => .nan
  | .inf a, .inf b => if a = b then .inf a else .nan
  | .inf a, _ => .inf a
  | _, .inf b => .inf b
  | .fin na ma ea, .fin nb mb eb =>
    if ma = 0 ∧ mb = 0 then .fin (na && nb) 0 0
    else
      let k := min ea eb
      let v := Fp.num k (.fin na ma ea) + Fp.num k (.fin nb mb eb)
      .fin (decide (v < 0)) v.natAbs k

/-- Exact product. -/
def Fp.mul : Fp → Fp → Fp
  | .nan, _ => .nan
  | _, .nan => .nan
  | .inf a, .inf b => .inf (a != b)
  | .inf a, .fin b m _ => if m = 0 then .nan else .inf (a != b)
  | .fin b m _, .inf a => if m = 0 then .nan else .inf (a != b)
  | .fin a ma ea, .fin b mb eb => .fin (a != b) (ma * mb) (ea + eb)

/-- A value times a power of two. -/
def Fp.scale (k : Int) : Fp → Fp
  | .fin n m e => .fin n m (e + k)
  | x => x

/-- Negation. -/
def Fp.neg : Fp → Fp
  | .nan => .nan
  | .inf n => .inf !n
  | .fin n m e => .fin (!n) m e

/-- Magnitude. -/
def Fp.abs : Fp → Fp
  | .nan => .nan
  | .inf _ => .inf false
  | .fin _ m e => .fin false m e

/-- The value is finite. -/
def Fp.isFin : Fp → Bool
  | .fin _ _ _ => true
  | _ => false

/-- The value is NaN. -/
def Fp.isNan : Fp → Bool
  | .nan => true
  | _ => false

/-- The value is a zero. -/
def Fp.isZero : Fp → Bool
  | .fin _ m _ => m == 0
  | _ => false

/-- `a < b`; false when either is NaN. -/
def Fp.lt : Fp → Fp → Bool
  | .nan, _ => false
  | _, .nan => false
  | .inf a, .inf b => a && !b
  | .inf a, _ => a
  | _, .inf b => !b
  | .fin na ma ea, .fin nb mb eb =>
    let k := min ea eb
    decide (Fp.num k (.fin na ma ea) < Fp.num k (.fin nb mb eb))

/-- Exact quotient with a sticky bit below the precision of FP32, so that one rounding of it is the correct one. -/
def Fp.div : Fp → Fp → Fp
  | .nan, _ => .nan
  | _, .nan => .nan
  | .inf _, .inf _ => .nan
  | .inf a, .fin b _ _ => .inf (a != b)
  | .fin a _ _, .inf b => .fin (a != b) 0 0
  | .fin a ma ea, .fin b mb eb =>
    if mb = 0 then (if ma = 0 then .nan else .inf (a != b))
    else if ma = 0 then .fin (a != b) 0 0
    else
      let k := Nat.log2 mb + 40
      let q := ma * 2 ^ k / mb
      let sticky := b2n (decide (ma * 2 ^ k % mb ≠ 0))
      .fin (a != b) (2 * q + sticky) (ea - eb - k - 1)

/-- Integer square root by bits, from bit `n` down. -/
def isqrtGo (x : Nat) : Nat → Nat → Nat
  | 0, r => r
  | n + 1, r => let t := r + 2 ^ n; isqrtGo x n (if t * t ≤ x then t else r)

/-- Integer square root. -/
def isqrt (x : Nat) : Nat := isqrtGo x (Nat.log2 x / 2 + 1) 0

/-- Square root with a sticky bit, for one correct rounding to FP32. -/
def Fp.sqrt : Fp → Fp
  | .nan => .nan
  | .inf neg => if neg then .nan else .inf false
  | .fin neg m e =>
    if m = 0 then .fin neg 0 0
    else if neg then .nan
    else
      let odd : Int := e % 2
      let k : Nat := 60
      let x := m * 2 ^ (odd.toNat + k)
      let r := isqrt x
      .fin false (2 * r + b2n (decide (r * r ≠ x))) ((e - odd - k) / 2 - 1)

/-! ### FP32 arithmetic on codes (R110) -/

/-- IEEE sum, rounded once. -/
def fadd (a b : Nat) : Nat := roundF32 ((f32 a).add (f32 b))

/-- IEEE difference. -/
def fsub (a b : Nat) : Nat := roundF32 ((f32 a).add (f32 b).neg)

/-- IEEE product. -/
def fmul (a b : Nat) : Nat := roundF32 ((f32 a).mul (f32 b))

/-- Fused multiply-add `a·b + c`. -/
def ffma (a b c : Nat) : Nat := roundF32 (((f32 a).mul (f32 b)).add (f32 c))

/-- IEEE quotient. -/
def fdiv (a b : Nat) : Nat := roundF32 ((f32 a).div (f32 b))

/-- IEEE square root. -/
def fsqrt (a : Nat) : Nat := roundF32 (f32 a).sqrt

/-- Magnitude. -/
def fabs32 (a : Nat) : Nat := if (f32 a).isNan then 0x7FC00000 else a % 2 ^ 31

/-- `a < b`. -/
def flt (a b : Nat) : Bool := (f32 a).lt (f32 b)

/-- One of two values that are neither NaN nor ordered: of two zeros of unlike sign the manual does not say which (log entry 1). -/
def eitherZero (a b : Nat) : Nat := if a = b then a else if Config.firstZero a b then a else b

/-- The greater of two values that are not NaN. -/
def fmax (a b : Nat) : Nat := if flt a b then b else if flt b a then a else eitherZero a b

/-- The lesser of two values that are not NaN. -/
def fmin (a b : Nat) : Nat := if flt b a then b else if flt a b then a else eitherZero a b

/-- The value is finite. -/
def ffinite (a : Nat) : Bool := (f32 a).isFin

/-- FP32 code of a natural number, rounded once. -/
def f32OfNat (n : Nat) : Nat := roundF32 (.fin false n 0)

/-- FP32 code of an integer, rounded once. -/
def f32OfInt (i : Int) : Nat := roundF32 (.fin (decide (i < 0)) i.natAbs 0)

/-- An exact value rounded to the nearest integer, ties to even. -/
def Fp.toIntNearest : Fp → Int
  | .fin neg m e =>
    if m = 0 then 0
    else
      let r := roundMag 4096 0 .nearest m e
      let v : Int := ((r.1 * 2 ^ r.2.toNat : Nat) : Int)
      if neg then -v else v
  | _ => 0

/-- `floor` of a finite value. -/
def Fp.floor : Fp → Int
  | .fin neg m e =>
    let v := Fp.num (min e 0) (.fin neg m e)
    v / ((2 ^ (-(min e 0)).toNat : Nat) : Int)
  | _ => 0

/-- The array's sum: one rounding, never −0 (R117, R118). -/
def add32 (s : Nat) (p : Fp) : Nat :=
  let r := roundF32 ((f32 s).add p)
  if r = 0x80000000 then 0 else r

/-! ### Conversions (R107 to R111) -/

/-- A converted element with the flags it raises. -/
structure Converted where
  code : Nat
  sat : Bool
  nf : Bool
deriving DecidableEq, Repr

/-- Conversion of an FP32 value into a plain format (R108, R109). -/
def convPlain (f : Elt) (nanp : Bool) (rd : Rounding) (x : Nat) : Converted :=
  match f with
  | .fp32 => ⟨(match f32 x with | .nan => 0x7FC00000 | _ => x), false, false⟩
  | .int8 =>
    match f32 x with
    | .nan => ⟨0, false, true⟩
    | .inf neg => ⟨if neg then 0x80 else 0x7F, false, true⟩
    | .fin neg m e =>
      if m = 0 then ⟨0, false, false⟩
      else
        let r := roundMag 4096 0 rd m e
        let v := r.1 * 2 ^ r.2.toNat
        if neg then (if 128 < v then ⟨0x80, true, false⟩ else ⟨(256 - v) % 256, false, false⟩)
        else if 127 < v then ⟨0x7F, true, false⟩ else ⟨v, false, false⟩
  | _ =>
    match f32 x with
    | .nan => ⟨f.nanCode, false, true⟩
    | .inf neg =>
      if f.ieee then ⟨f.withSign neg ((2 ^ f.expo - 1) * 2 ^ f.mant), false, true⟩
      else if nanp then ⟨f.nanCode, false, true⟩
      else ⟨f.withSign neg (f.encodeMag f.maxFin.1 f.maxFin.2), false, true⟩
    | .fin neg m e =>
      if m = 0 then ⟨f.withSign neg 0, false, false⟩
      else
        let r := roundMag f.prec f.qmin rd m e
        if magLe r f.maxFin then ⟨f.withSign neg (f.encodeMag r.1 r.2), false, false⟩
        else if f == .bf16 || (f == .e5m2 && nanp) then
          ⟨f.withSign neg ((2 ^ f.expo - 1) * 2 ^ f.mant), false, true⟩
        else if nanp then ⟨f.nanCode, false, true⟩
        else ⟨f.withSign neg (f.encodeMag f.maxFin.1 f.maxFin.2), true, false⟩

/-- The greatest magnitude of a list of finite FP32 codes, as a code. -/
def maxAbs (xs : List Nat) : Nat := xs.foldl (fun m x => max m (x % 2 ^ 31)) 0

/-- Block scale of a conversion into a block format (R107). -/
def blockScale (f : Elt) (xs : List Nat) : Nat :=
  if !xs.all ffinite then 0xFF
  else
    let m := maxAbs xs
    if m = 0 then 0x7F
    else match f32 m with
      | .fin _ mm e => (max (ilogb mm e - f.emax) (-127) + 127).toNat
      | _ => 0xFF

/-- One element of a block under its scale, clipped without a flag (R107, R109). -/
def blockElem (f : Elt) (scale : Nat) (rd : Rounding) (x : Nat) : Nat :=
  if scale = 0xFF then 0
  else match (f32 x).scale (127 - (scale : Int)) with
    | .fin neg m e =>
      if m = 0 then f.withSign neg 0
      else
        let r := roundMag f.prec f.qmin rd m e
        if magLe r f.maxFin then f.withSign neg (f.encodeMag r.1 r.2)
        else f.withSign neg (f.encodeMag f.maxFin.1 f.maxFin.2)
    | _ => 0

/-- The value of a block element (R105): NaN when the scale is 0xFF. -/
def blockValue (f : Elt) (scale c : Nat) : Fp :=
  if scale = 0xFF then .nan else (f.decode c).scale ((scale : Int) - 127)

/-- A value from a narrower format as FP32, which is exact where FP32 can hold it (R108). -/
def toF32 (x : Fp) : Nat := roundF32 x

/-! ### Generators (R113, R114) -/

/-- The mixing function of R114. -/
def mix (z0 : Nat) : Nat :=
  let z1 := z0 ^^^ (z0 >>> 30)
  let z2 := z1 * 0xBF58476D1CE4E5B9 % 2 ^ 64
  let z3 := z2 ^^^ (z2 >>> 27)
  let z4 := z3 * 0x94D049BB133111EB % 2 ^ 64
  z4 ^^^ (z4 >>> 31)

/-- State of a generator before the first marker (R114). -/
def genIdle : Nat := 0x9E3779B97F4A7C15

/-- The seeded state of a lane's generator (R114). -/
def seedState (seed step node lane : Nat) : Nat :=
  let s := mix (mix (seed ^^^ step) ^^^ (node * 2 ^ 16 ||| lane))
  if s = 0 then genIdle else s

/-- One advance of a generator's state (R114). -/
def genNext (x0 : Nat) : Nat :=
  let x1 := x0 ^^^ (x0 * 2 ^ 13 % 2 ^ 64)
  let x2 := x1 ^^^ (x1 >>> 7)
  x2 ^^^ (x2 * 2 ^ 17 % 2 ^ 64)

/-- State after `k` advances. -/
def genAfter : Nat → Nat → Nat
  | 0, x => x
  | k + 1, x => genAfter k (genNext x)

/-- The draw that a state returns (R114). -/
def genDraw (x : Nat) : Nat := x * 0x2545F4914F6CDD1D % 2 ^ 64 / 2 ^ 48

/-- Lane number of an output column (R113). -/
def laneColumn (die core col : Nat) : Nat := die * 2 ^ 14 + core * 2 ^ 10 + col

/-- Lane number of a vector lane (R113). -/
def laneVector (die v : Nat) : Nat := die * 2 ^ 14 + 15 * 2 ^ 10 + v

end Sys2Proof.Machine
end

