-- ==== Sys2Proof/Machine/Power.lean ====
section
/-! DEFINITION. Power arbiter, modes, temperature, brake and live calibration (R387 to R403). Powers are whole watts. -/

namespace Sys2Proof.Machine

/-- Cap of a mode (R38, R388): 0 Summit, 1 Traverse, 2 Bivouac, 3 Hold. -/
def modeCap (m : Nat) : Nat := [1600, 1200, 600, 300].getD m 300

/-- Grantable power under a cap: the cap less cap ÷ 16 rounded up (R388). -/
def capGrant (cap : Nat) : Nat := cap - (cap + 15) / 16

/-- Default budget of domain `d` in a mode (R388). -/
def modeDefault (m d : Nat) : Nat := if d < 4 then [340, 250, 115, 55].getD m 55 else [140, 125, 102, 61].getD m 61

/-- Brake budget of domain `d` in a mode (R388); in Hold the clocks are gated instead and the floor stands. -/
def modeBrake (m d : Nat) : Nat := if d < 4 then [160, 120, 55, 50].getD m 50 else [110, 82, 61, 50].getD m 50

/-- The five domains (R387). -/
def powerDomains : List (Fin 5) := [0, 1, 2, 3, 4]

/-- Die that a record of a domain names (R406). -/
def domainDie (d : Fin 5) : Nat := d.val

/-- The domain's record beside PWR_DOMAIN. -/
def State.pdom (s : State) (d : Fin 5) : PowerDomain := s.power.domains.getD d.val ⟨none, none, 0, 0, 0, 0, 0, 64, 0⟩

/-- Replace a domain's record. -/
def State.setPdom (s : State) (d : Fin 5) (p : PowerDomain) : State :=
  { s with power := { s.power with domains := s.power.domains.set d.val p } }

/-- Budget in force of a domain. -/
def State.budget (s : State) (d : Fin 5) : Nat := s.fld (.pwrDomain d) Fld.pwrDomain_BUDGET

/-- The mode in MODE. -/
def State.mode (s : State) : Nat := s.fld .pwrCtrl Fld.pwrCtrl_MODE

/-- Grantable power after any reduction (R400). -/
def State.grant (s : State) : Nat := s.fld .pwrStatus Fld.pwrStatus_GRANT

/-- The counted budget of a domain: the higher of old and new while an acknowledgement is outstanding (R390). -/
def State.counted (s : State) (d : Fin 5) : Nat :=
  match (s.pdom d).msg with
  | some m => max m.old m.new
  | none => s.budget d

/-- The counted sum over the five domains. -/
def State.countedSum (s : State) : Nat := (powerDomains.map s.counted).sum

/-- Some lowering has not been acknowledged (R390). -/
def State.loweringOut (s : State) : Bool :=
  powerDomains.any (fun d => match (s.pdom d).msg with
    | some m => decide (m.new < m.old)
    | none => false)

/-- Send a BUDGET message (R390). -/
def State.sendBudget (s : State) (d : Fin 5) (w : Nat) : State :=
  (s.setPdom d { s.pdom d with msg := some ⟨s.budget d, w, s.now, false, false⟩, raise := none }).put
    (.pwrDomain d) Fld.pwrDomain_PENDING 1

/-- Send the raise that waits for a domain when every lowering is acknowledged and the counted sum allows it (R390). -/
def State.tryRaise (s : State) (d : Fin 5) : State :=
  match (s.pdom d).raise, (s.pdom d).msg with
  | some w, none =>
    if s.loweringOut then s
    else if s.countedSum - s.counted d + w ≤ s.grant then s.sendBudget d w else s
  | _, _ => s

/-- Domain of a number below five. -/
def domOf (n : Nat) : Fin 5 := Fin.ofNat 5 n

/-- Send pending raises: one at a time in the order of a restoration (R399), otherwise in ascending order. -/
def State.sendRaises (s : State) : State :=
  match s.power.restoring with
  | [] => powerDomains.foldl State.tryRaise s
  | d :: _ => s.tryRaise (domOf d)

/-- Ask for a budget: a lowering is sent at once, a raise waits (R390). -/
def State.askBudget (s : State) (d : Fin 5) (w : Nat) : State :=
  if (s.pdom d).msg.isSome then s.setPdom d { s.pdom d with raise := some w }
  else if w < s.budget d then s.sendBudget d w
  else if s.budget d < w then s.setPdom d { s.pdom d with raise := some w }
  else s

/-- The target budget of a domain (R389), from the demands, floors and grantable power. -/
def targetBudget (g : Nat) (ds fs : List Nat) (thermal : Bool) (tcap d : Nat) : Nat :=
  let above := fun i => max (ds.getD i 0) (fs.getD i 0) - fs.getD i 0
  let f := ((List.range 5).map (fun i => fs.getD i 0)).sum
  let e := ((List.range 5).map above).sum
  let x := if e = 0 then 0 else (g - f) * above d / e
  let t := min (fs.getD d 0 + x) (ds.getD d 0 + 8)
  if thermal then min t tcap else t

/-- The arbiter redistributes now: no brake, no restoration, no mode change under way (R392, R397, R399). -/
def State.redistributes (s : State) : Bool :=
  !s.power.brakeHeld && s.power.restoring.isEmpty && s.power.target.isNone

/-- The budget that a redistribution starts from: the one in force, and at the first of a job the mode's default (R389). -/
def State.startBudget (s : State) (d : Fin 5) : Nat := if s.power.firstOfJob then modeDefault s.mode d.val else s.budget d

/-- The budget that a domain is to have with a target: the one it starts from, unless the target differs by 4 W or more (R389). -/
def stepBudget (start target : Nat) : Nat := if 4 ≤ max target start - min target start then target else start

/-- BUDGET_REDISTRIBUTE: every 100 µs, by demand; a budget changes only by 4 W or more (R389). While a mode change or a restoration
is under way, only raises that wait for room are tried (R390). -/
def execBudgetRedistribute (s : State) : Host.Outcome State Fault Refusal :=
  let ds := powerDomains.map (fun d => s.fld (.pwrDomain d) Fld.pwrDomain_DEMAND)
  let fs := powerDomains.map (fun d => s.fld (.pwrDomain d) Fld.pwrDomain_FLOOR)
  .next (if s.redistributes then
    let asked := powerDomains.foldl (fun t d =>
      let w := stepBudget (s.startBudget d) (max (targetBudget s.grant ds fs (s.isSet (.pwrDomain d) Fld.pwrDomain_THERMAL)
        (s.pdom d).tcap d.val) (fs.getD d.val 0))
      if (t.pdom d).msg.isNone ∧ w ≠ s.budget d then t.askBudget d w else t) s
    ({ asked with power := { asked.power with firstOfJob := false } }).sendRaises
  else if s.power.brakeHeld then s else s.sendRaises)

/-- BUDGET: the domain receives the message and adopts the budget (R390). -/
def execBudget (d : Fin 5) (s : State) : Host.Outcome State Fault Refusal :=
  .next (match (s.pdom d).msg with
  | some m => (s.setPdom d { s.pdom d with msg := some { m with adopted := true } }).put (.pwrDomain d) Fld.pwrDomain_BUDGET m.new
  | none => s)

/-- Put a mode's cap and grantable power in force (R392). -/
def State.setCap (s : State) (m : Nat) : State :=
  (s.put .pwrStatus Fld.pwrStatus_CAP (modeCap m)).put .pwrStatus Fld.pwrStatus_GRANT (capGrant (modeCap m) - s.power.reduction)

/-- No message and no raise is outstanding. -/
def State.budgetsSettled (s : State) : Bool :=
  powerDomains.all (fun d => (s.pdom d).msg.isNone && (s.pdom d).raise.isNone)

/-- A mode change completes: source 11, vector 11 and the computation of R70 (R392). -/
def State.modeComplete (s : State) : State :=
  match s.power.target with
  | some m =>
    if s.budgetsSettled then
      let s1 := { s with power := { s.power with target := none, modeDone := s.now, inForce := m } }
      ((s1.setCap m).notify 11 11).recompute
    else s
  | none => s

/-- A restoration goes on with the next domain once the present one stands at its default (R399). -/
def State.restoreNext (s : State) : State :=
  match s.power.restoring with
  | [] => s
  | d :: rest =>
    let p := s.pdom (domOf d)
    if p.msg.isNone && p.raise.isNone then { s with power := { s.power with restoring := rest } } else s

/-- BUDGET_ACK: the arbiter counts the new budget and sends pending raises (R390). -/
def execBudgetAck (d : Fin 5) (s : State) : Host.Outcome State Fault Refusal :=
  .next (match (s.pdom d).msg with
  | some m =>
    if m.adopted then
      let s1 := (s.setPdom d { s.pdom d with msg := none }).put (.pwrDomain d) Fld.pwrDomain_PENDING 0
      s1.restoreNext.sendRaises.modeComplete
    else s
  | none => s)

/-- BUDGET_ACK_LATE: no acknowledgement within 20 µs (R390). -/
def execBudgetAckLate (d : Fin 5) (s : State) : Host.Outcome State Fault Refusal :=
  .next (match (s.pdom d).msg with
  | some m =>
    if m.late then s
    else (s.setPdom d { s.pdom d with msg := some { m with late := true } }).ucc ⟨domainDie d, 15, d.val⟩ 0x0122 0 m.new
  | none => s)

/-- BUDGET_ACK_FATAL: 1 ms without an acknowledgement promotes the record to Fatal in place (R390, R404, R412); domain 4
stops the device. -/
def execBudgetAckFatal (d : Fin 5) (s : State) : Host.Outcome State Fault Refusal :=
  .next (match (s.pdom d).msg with
  | some m =>
    if m.late then
      let s1 := match s.faults.ring.findIdx? (fun x => x.isUcc && x.die == domainDie d && x.block == 15 && x.code == 0x0122) with
        | some i => s.promote i
        | none => s.raise .fatal ⟨domainDie d, 15, d.val⟩ 0x0122 0 m.new
      if d.val = 4 then s1.stopClocks 1 else s1
    else s
  | none => s)

/-- The duty step, 1 to 64, that holds a demand within a budget (R391). -/
def dutyFor (demand budget : Nat) : Nat := if demand = 0 then 64 else max 1 (min 64 (budget * 64 / demand))

/-- DUTY_REJUDGE: every 1 µs a domain reports its draw and re-judges its duty (R387, R389, R391). `raw` is the draw
measured at the regulators. -/
def execDutyRejudge (d : Fin 5) (raw : Nat) (s : State) : Host.Outcome State Fault Refusal :=
  let gain := s.fld (.pwrGain d) Fld.pwrGain_GAIN
  let draw := raw * gain / 0x8000
  let cur := s.fld (.pwrDomain d) Fld.pwrDomain_DUTY + 1
  let demand := draw * 64 / cur
  let byBudget := dutyFor demand (s.budget d)
  let duty := if d.val = 4 then 64 else if s.isSet .pwrCtrl Fld.pwrCtrl_COMPAT then min byBudget (s.pdom d).compatDuty else byBudget
  .next ((((s.setPdom d { s.pdom d with rawDraw := raw }).put (.pwrDomain d) Fld.pwrDomain_DRAW draw).put
    (.pwrDomain d) Fld.pwrDomain_DEMAND (min demand 65535)).put (.pwrDomain d) Fld.pwrDomain_DUTY (duty - 1))

/-- Lower every budget to the brake budget of a mode at once, past the exchange; raises and messages are cancelled (R397). -/
def State.adoptBrake (s : State) (m : Nat) : State :=
  powerDomains.foldl (fun t d =>
    ((t.setPdom d { t.pdom d with msg := none, raise := none }).put (.pwrDomain d) Fld.pwrDomain_PENDING 0).put
      (.pwrDomain d) Fld.pwrDomain_BUDGET (min (t.budget d) (modeBrake m d.val))) s

/-- The boot order has started the T- and M-clocks (R357). -/
def BootPhase.clocked : BootPhase → Bool
  | .stage i => decide (7 ≤ i)
  | .done => true
  | .rerun _ => true
  | _ => false

/-- The brake gates the T- and M-clocks: it is held in Hold, and no job is there any more (R393, R398). -/
def State.clocksGated (s : State) : Bool := s.power.brakeHeld && s.inHold && s.noJob

/-- The T- and M-clocks run once the boot order has started them, unless they have stopped or the brake gates them (R33, R398). -/
def State.gateClocks (s : State) : State :=
  let run := s.boot.phase.clocked && s.clocks.stopped == 0 && !s.clocksGated
  { s with clocks := { s.clocks with tRun := run, mRun := run } }

/-- A march test on one die is stopped (R398): accesses that waited are served and held entries applied; what a destructive test had
under its hands is undefined. RESULT keeps its value. -/
def State.stopMarch (s : State) (d : Fin 4) : State :=
  match (s.ledgeOf d).march with
  | none => s
  | some m =>
    if m.transparent then (s.marchLeft d).put (.ldgMarchStatus d) Fld.ldgMarchStatus_BUSY 0
    else ((s.marchLeft d).put (.ldgMarchStatus d) Fld.ldgMarchStatus_BUSY 0).spoilBanks d m.banks

/-- Gate the clocks where the brake does, and stop every march test with them (R398). -/
def State.brakeGate (s : State) : State :=
  if s.clocksGated then ([0, 1, 2, 3] : List (Fin 4)).foldl State.stopMarch s.gateClocks else s.gateClocks

/-- Ask for a mode's default budgets: only lowerings, or lowerings and raises. -/
def State.askDefaults (s : State) (m : Nat) (raises : Bool) : State :=
  powerDomains.foldl (fun t d =>
    let w := modeDefault m d.val
    let t1 := t.setPdom d { t.pdom d with raise := none }
    if w < t1.budget d ∨ raises then t1.askBudget d w else t1) s

/-- Budgets and cap begin to move to a mode (R392, R398): downwards the budgets first, upwards the cap first; under the
brake the lower of the brake budgets applies. -/
def State.startMode (s : State) (m : Nat) : State :=
  let cap := s.fld .pwrStatus Fld.pwrStatus_CAP
  let s0 := ({ s with power := { s.power with target := some m } }).brakeGate
  if s.power.brakeHeld then
    let s1 := powerDomains.foldl (fun t d =>
      t.put (.pwrDomain d) Fld.pwrDomain_BUDGET (min (t.budget d) (modeBrake m d.val))) s0
    s1.modeComplete
  else if modeCap m < cap then ((s0.askDefaults m false).sendRaises).modeComplete
  else (((s0.setCap m).askDefaults m true).sendRaises).modeComplete

/-- A write of MODE by any path (R392, R393). Hold entered by other causes ignores it, and the mode there is changes nothing. A change that does not come through
a dictionary interface is journalled as the device's own (R445). -/
def State.writeMode (s : State) (m : Nat) (own : Bool) : State :=
  let holdCause := s.fld .hkBoot Fld.hkBoot_HOLD_CAUSE
  if (s.inHold && holdCause != 3) || (s.mode == m && s.inHold == (m == 3)) then s
  else
    let old := s.mode
    let s0 := s.put .pwrCtrl Fld.pwrCtrl_MODE m
    let s1 := if old = m then s else if own then s0.deviceKept 0x2000 1 2 old m (toLe 1 m) else s0.dictStore 0x2000 1 (toLe 1 m)
    if m = 3 then
      let s2 := ((s1.put .hkBoot Fld.hkBoot_HOLD 1).put .hkBoot Fld.hkBoot_HOLD_CAUSE 3).failHeartbeat
      if s.jobRuns then ({ s2 with power := { s2.power with target := some 3 } }).beginEnd 0x24 else s2.startMode 3
    else ((s1.put .hkBoot Fld.hkBoot_HOLD 0).put .hkBoot Fld.hkBoot_HOLD_CAUSE 0).startMode m

/-- MODE_CHANGE: a register write of MODE (R392). -/
def execModeChange (m : Fin 4) (s : State) : Host.Outcome State Fault Refusal :=
  .next (if s.doms.hk then s.writeMode m.val true else s)

/-! ### Temperature (R394 to R396) -/

/-- The domain that a sensor group belongs to: ridge dies 0 to 3, the anchor die 4, ledge dies 5 to 8 (R395, R402). -/
def sensorDomain (i : Fin 9) : Fin 5 := if h : i.val < 5 then ⟨i.val, h⟩ else ⟨i.val - 5, by omega⟩

/-- Fast sensors on a die (R394). -/
def fastSensors (i : Fin 9) : Nat := if i.val < 4 then 32 else if i.val = 4 then 16 else 8

/-- The die is judged by its reference sensor alone: more than half its fast sensors have failed (R401). -/
def State.byReference (s : State) (i : Fin 9) : Bool :=
  decide (fastSensors i < 2 * popCount 32 (s.fld (.pwrTherm i) Fld.pwrTherm_FAILED))

/-- The limit that applies to a die, in 1/16 °C: lowered by 5 °C when it is judged by its reference alone (R401). -/
def State.tLimit (s : State) (i : Fin 9) : Int :=
  (s.fld .pwrTlimit Fld.pwrTlimit_T_LIMIT : Int) - (if s.byReference i then 80 else 0)

/-- A die's temperature as PWR_THERM shows it (R394, R402). -/
def State.dieTemp (s : State) (i : Fin 9) : Int := signed 16 (s.fld (.pwrTherm i) Fld.pwrTherm_HOT)

/-- Show a die's temperature. -/
def State.setTemp (s : State) (i : Fin 9) (t : Int) : State := s.put (.pwrTherm i) Fld.pwrTherm_HOT (unsign 16 t)

/-- THERMAL_LIMIT: a die above its limit sets THERMAL and caps its domain at 95 % of its budget, in native mode (R395). -/
def execThermalLimit (i : Fin 9) (temp : Int) (s : State) : Host.Outcome State Fault Refusal :=
  let d := sensorDomain i
  let s1 := s.setTemp i temp
  .next (if s.tLimit i < temp ∧ ¬ (s.isSet .pwrCtrl Fld.pwrCtrl_COMPAT = true ∧ d.val < 4) ∧
      s.isSet (.pwrDomain d) Fld.pwrDomain_THERMAL = false then
    (s1.setPdom d { s1.pdom d with tbase := s.budget d, tsteps := 1, tcap := s.budget d * 95 / 100 }).put
      (.pwrDomain d) Fld.pwrDomain_THERMAL 1
  else s1)

/-- THERMAL_CAP_STEP: every 100 µs without a fall of temperature the cap falls by a further 5 % (R395). -/
def execThermalCapStep (d : Fin 5) (s : State) : Host.Outcome State Fault Refusal :=
  .next (if s.isSet (.pwrDomain d) Fld.pwrDomain_THERMAL then
    let p := s.pdom d
    let n := min 20 (p.tsteps + 1)
    s.setPdom d { p with tsteps := n, tcap := p.tbase * (100 - 5 * n) / 100 }
  else s)

/-- The dies that are compared for a domain: a ridge die and its ledge die, or the anchor die (R395). -/
def domainSensors (d : Fin 5) : List (Fin 9) := if d.val < 4 then [Fin.ofNat 9 d.val, Fin.ofNat 9 (5 + d.val)] else [4]

/-- THERMAL_CLEAR: 10 ms at or below T_LIMIT − 2 °C, where the domain's other die is not above that either; in native mode (R395). -/
def execThermalClear (i : Fin 9) (temp : Int) (s : State) : Host.Outcome State Fault Refusal :=
  let d := sensorDomain i
  let s1 := s.setTemp i temp
  .next (if temp ≤ s.tLimit i - 32 ∧ ¬ (s.isSet .pwrCtrl Fld.pwrCtrl_COMPAT = true ∧ d.val < 4) ∧
      (domainSensors d).all (fun j => j == i || decide (s.dieTemp j ≤ s.tLimit j - 32)) = true then
    (s1.setPdom d { s1.pdom d with tbase := 0, tsteps := 0, tcap := 0 }).put (.pwrDomain d) Fld.pwrDomain_THERMAL 0
  else s1)

/-- Die that a fault record names for a sensor group: a ledge die is named by its ridge die (R406). -/
def sensorDie (i : Fin 9) : Nat := (sensorDomain i).val

/-- OVER_TEMPERATURE: a sensor above T_SHUT for 1 ms (R395). -/
def execOverTemperature (i : Fin 9) (temp : Int) (s : State) : Host.Outcome State Fault Refusal :=
  .next (if (s.fld .pwrTlimit Fld.pwrTlimit_T_SHUT : Int) < temp ∧ s.clocks.stopped ≠ 2 then
    (((s.setTemp i temp).raise .fatal ⟨sensorDie i, 16, i.val⟩ 0x0124 0 (unsign 16 temp)).failHeartbeat).stopClocks 2
  else s.setTemp i temp)

/-- Duty in 64ths at a ledge temperature in compatibility mode (R396). -/
def compatDutyAt (t lo hi : Int) : Nat := if t ≤ lo then 64 else if hi ≤ t then 16 else (64 - (48 * (t - lo)) / (hi - lo)).toNat

/-- COMPAT_DUTY: every 100 µs a ridge die takes its duty from its ledge die; a rise waits for a fall of 2 °C (R396). -/
def execCompatDuty (n : Fin 4) (temp : Int) (s : State) : Host.Outcome State Fault Refusal :=
  let d : Fin 5 := ⟨n.val, by omega⟩
  let i : Fin 9 := ⟨5 + n.val, by omega⟩
  let s1 := s.setTemp i temp
  .next (if s.isSet .pwrCtrl Fld.pwrCtrl_COMPAT then
    let p := s1.pdom d
    let k := compatDutyAt temp (signed 16 (s.fld .pwrTlimit Fld.pwrTlimit_LO)) (signed 16 (s.fld .pwrTlimit Fld.pwrTlimit_HI))
    if k < p.compatDuty ∨ (p.compatDuty < k ∧ temp ≤ p.dutyTemp - 32) then
      let s2 := s1.setPdom d { p with compatDuty := k, dutyTemp := temp }
      let byBudget := dutyFor (s.fld (.pwrDomain d) Fld.pwrDomain_DEMAND) (s.budget d)
      (s2.put (.pwrDomain d) Fld.pwrDomain_DUTY (min k byBudget - 1)).put (.pwrDomain d) Fld.pwrDomain_THERMAL (b2n (decide (k < 64)))
    else s1
  else s1)

/-! ### The brake (R397 to R399) -/

/-- BRAKE_ASSERT: PWR_BRAKE_N low for two samples (R397, R398). -/
def execBrakeAssert (s : State) : Host.Outcome State Fault Refusal :=
  .next (if !s.doms.hk then s
  else
    let m := match s.power.target with
      | some t => if modeCap t < modeCap s.power.inForce then t else s.power.inForce
      | none => s.mode
    let s1 := (s.adoptBrake m).put .pwrCtrl Fld.pwrCtrl_BRAKE 1
    let s2 := { s1 with power := { s1.power with brakeHeld := true, restoring := [] }
                        rails := { s1.rails with cableBrakeLow := true } }
    (s2.brakeGate.notify 11 11).correctedEvent ⟨5, 15, noInst⟩ 0x0120 0 0)

/-- BRAKE_RELEASE: PWR_BRAKE_N high for 1 ms; the defaults return one domain at a time, domain 4 first (R399). -/
def execBrakeRelease (s : State) : Host.Outcome State Fault Refusal :=
  .next (if s.power.brakeHeld then
    let s1 := s.put .pwrCtrl Fld.pwrCtrl_BRAKE 0
    let s2 := { s1 with power := { s1.power with brakeHeld := false, restoring := [4, 0, 1, 2, 3] }
                        rails := { s1.rails with cableBrakeLow := false } }
    ((s2.gateClocks.setCap s.mode).askDefaults s.mode true).sendRaises
  else s)

/-! ### Calibration (R400, R401) -/

/-- The trimmed gains, as FP32 codes (R400). -/
def trimGains (meter : Nat) (ps gs : List Nat) : List Nat :=
  let pf := ps.map f32OfNat
  let m := (List.zip gs pf).foldl (fun a x => fadd a (fmul x.1 x.2)) 0
  let q := pf.foldl (fun a x => fadd a (fmul x x)) 0
  let err := fsub (f32OfNat meter) (fmul m (fdiv 0x41800000 0x41700000))
  (List.zip gs pf).map (fun x =>
    let step := fdiv (fmul (fmul 0x3B800000 err) x.2) q
    let g := fadd x.1 step
    if flt g 0x3F600000 then 0x3F600000 else if flt 0x3F900000 g then 0x3F900000 else g)

/-- GAIN as an FP32 code: 1.0 is held as 0x8000 (R402). -/
def gainF32 (g : Nat) : Nat := roundF32 (.fin false g (-15))

/-- An FP32 gain as the register holds it. -/
def gainCode (g : Nat) : Nat := ((f32 g).scale 15).toIntNearest.toNat

/-- GAIN_TRIM: every 1 ms, with the meter's reading and the raw draws averaged over it (R400). -/
def execGainTrim (meter : Nat) (raws : List Nat) (s : State) : Host.Outcome State Fault Refusal :=
  let ps := (List.range 5).map (fun i => raws.getD i 0)
  let gs := powerDomains.map (fun d => gainF32 (s.fld (.pwrGain d) Fld.pwrGain_GAIN))
  let trims := !s.a0 && !s.isSet .pwrCtrl Fld.pwrCtrl_BRAKE && !s.isSet .pwrCtrl Fld.pwrCtrl_CAL_FREEZE &&
    decide (s.power.modeDone + 10000000 ≤ s.now)
  let new := if trims then (trimGains meter ps gs).map gainCode else powerDomains.map (fun d => s.fld (.pwrGain d) Fld.pwrGain_GAIN)
  let clamped := fun (g : Nat) => decide (g ≤ 0x7000) || decide (0x9000 ≤ g)
  let s1 := powerDomains.foldl (fun t d =>
    let g := new.getD d.val 0x8000
    let p := t.pdom d
    ((t.put (.pwrGain d) Fld.pwrGain_GAIN g).put (.pwrGain d) Fld.pwrGain_CLAMPED (b2n (clamped g))).setPdom d
      { p with clampedMs := if clamped g then p.clampedMs + 1 else 0 }) s
  let model := ((List.zip new ps).map (fun x => x.1 * x.2 / 0x8000)).sum * 16 / 15
  let cap := s.fld .pwrStatus Fld.pwrStatus_CAP
  let overNow := decide (cap * 101 < meter * 100)
  let overMs := if overNow then s.power.overMs + 1 else 0
  let trouble := powerDomains.any (fun d => decide ((s1.pdom d).clampedMs = 100)) || decide (overMs = 10)
  let excess := meter - model
  let keep := decide (0 < s.power.reduction) && decide (0 < excess)
  let reduction := if trouble ∨ keep then excess else 0
  let s2 := { s1 with power := { s1.power with overMs := overMs, reduction := reduction } }
  let s3 := ((s2.put .pwrStatus Fld.pwrStatus_METER meter).put .pwrStatus Fld.pwrStatus_MODEL model).put
    .pwrStatus Fld.pwrStatus_GRANT (capGrant cap - reduction)
  .next (if s.doms.hk then (if trouble then s3.correctedEvent ⟨5, 15, noInst⟩ 0x0121 0 excess else s3) else s)

/-- One update of a sensor's offset, in 1/256 °C, limited to 1/16 °C (R401). Temperatures are in 1/16 °C. -/
def offsetUpdate (o tref k power reading : Int) : Int :=
  let err := 16 * (tref + k * power / 65536 - reading) - o
  o + max (-16) (min 16 (err / 16))

/-- SENSOR_OFFSET_UPDATE: every 10 ms while a die is quiet (R401). `readings` are the uncorrected fast sensors. -/
def execSensorOffsetUpdate (i : Fin 9) (tref power : Int) (refOk : Bool) (readings : List Int) (s : State) :
    Host.Outcome State Fault Refusal :=
  let n := fastSensors i
  let old := s.power.offsets.getD i.val []
  let failed0 := s.fld (.pwrTherm i) Fld.pwrTherm_FAILED
  let upd := (List.range n).map (fun j =>
    if refOk && !failed0.testBit j then
      offsetUpdate (old.getD j 0) tref (Config.sensorCoefficient i.val j) power (readings.getD j 0)
    else old.getD j 0)
  let newFail := (List.range n).filter (fun j => !failed0.testBit j && decide (1024 < (upd.getD j 0).natAbs))
  let failed := newFail.foldl (fun m j => setBit m j true) failed0
  let temps := ((List.range n).filter (fun j => !failed.testBit j)).map (fun j => readings.getD j 0 + upd.getD j 0 / 16)
  let hot := if n < 2 * popCount 32 failed then tref else temps.foldl max (temps.headD tref)
  let s1 := { s with power := { s.power with offsets := s.power.offsets.set i.val upd, refFailed := s.power.refFailed.set i.val !refOk } }
  let s2 := ((s1.put (.pwrTherm i) Fld.pwrTherm_FAILED failed).put (.pwrTherm i) Fld.pwrTherm_REF (unsign 16 tref)).setTemp i hot
  .next (newFail.foldl (fun t j => t.correctedEvent ⟨sensorDie i, 16, j⟩ 0x0123 0 i.val) s2)

end Sys2Proof.Machine
end

