-- ==== Sys2Proof/Machine/Boot.lean ====
section
/-! DEFINITION. Rails, clocks, reset domains, firmware images and the boot order (R28 to R46, R348 to R369, R458 to R465). -/

namespace Sys2Proof.Machine

/-! ### Firmware images and the manifest (R360 to R364) -/

/-- An image in a slot is good: magic, type, length, digest and signature (R361, R363). -/
def imageGood (type : Nat) (bs : List Byte) : Bool :=
  decide (slice bs 0 4 = [0x41, 0x51, 0x46, 0x57]) && leAt bs 4 1 == type && decide (leAt bs 5 1 ≤ 32) &&
  decide (4096 + leAt bs 12 4 ≤ bs.length) && Config.imageGenuine (bs.take (4096 + leAt bs 12 4))

/-- VERSION of an image. -/
def imageVersion (bs : List Byte) : Nat := leAt bs 8 4

/-- Body of an image. -/
def imageBody (bs : List Byte) : List Byte := slice bs 4096 (leAt bs 12 4)

/-- One interface entry: interface, epoch, lowest and highest epoch accepted (R361). -/
structure IfEntry where
  iface : Nat
  epoch : Nat
  lo : Nat
  hi : Nat
deriving DecidableEq, Repr

/-- Interface entries of a header block. -/
def imageIfs (bs : List Byte) : List IfEntry :=
  (List.range (min 32 (leAt bs 5 1))).map (fun i =>
    ⟨leAt bs (64 + 8 * i) 2, leAt bs (66 + 8 * i) 2, leAt bs (68 + 8 * i) 2, leAt bs (70 + 8 * i) 2⟩)

/-- One manifest entry (R364). -/
structure ManifestEntry where
  kind : Nat
  typeA : Nat
  typeB : Nat
  versionA : Nat
  versionB : Nat
deriving DecidableEq, Repr

/-- The entries of a manifest's body. -/
def manifestEntries (bs : List Byte) : List ManifestEntry :=
  let b := imageBody bs
  (List.range (b.length / 16)).map (fun i =>
    ⟨leAt b (16 * i) 1, leAt b (16 * i + 1) 1, leAt b (16 * i + 2) 1, leAt b (16 * i + 4) 4, leAt b (16 * i + 8) 4⟩)

/-- The manifest lists a pair of types and versions, in either order; 0xFFFF_FFFF stands for any driver or plan. -/
def pairListed (m : List ManifestEntry) (ta va tb vb : Nat) : Bool :=
  let fits := fun (e : ManifestEntry) (t1 v1 t2 v2 : Nat) =>
    e.typeA == t1 && e.versionA == v1 && e.typeB == t2 && (e.versionB == v2 || (e.versionB == 0xFFFFFFFF && decide (6 ≤ t2)))
  m.any (fun e => e.kind == 1 && (fits e ta va tb vb || fits e tb vb ta va))

/-- Interface entries of two images agree (R364). -/
def ifsAgree (a b : List IfEntry) : Bool :=
  a.all (fun x => b.all (fun y =>
    x.iface != y.iface || (decide (x.lo ≤ y.epoch) && decide (y.epoch ≤ x.hi) && decide (y.lo ≤ x.epoch) && decide (x.epoch ≤ y.hi))))

/-- A slot of an image type: false A, true B. -/
def State.slot (s : State) (t : Nat) (b : Bool) : List Byte := if b then s.images.slotB.getD t [] else s.images.slotA.getD t []

/-- Slots in the order in which they are tried: the one a commit marked, then A, then B (R363, R444). -/
def State.slotOrder (s : State) (t : Nat) : List Bool :=
  match s.images.markedB.getD t none with
  | some b => [b, false, true]
  | none => [false, true]

/-- The slot that an image is loaded from. -/
def State.pickSlot (s : State) (t : Nat) : Option Bool := (s.slotOrder t).find? (fun b => imageGood t (s.slot t b))

/-- The image of a type in use. -/
def State.image (s : State) (t : Nat) : Option (List Byte) := (s.images.loadedB.getD t none).map (s.slot t)

/-- Load an image: HK_FW, SLOT_B and the slot in use follow (R369). -/
def State.loadImage (s : State) (t : Nat) (pick : Option Bool) : State :=
  let s1 := { s with images := { s.images with loadedB := s.images.loadedB.set t pick } }
  let r : Reg := .hkFw (Fin.ofNat 8 t)
  match pick with
  | some b =>
    let w := fput (fput 0 Fld.hkFw_VERSION (imageVersion (s.slot t b))) Fld.hkFw_VALID 1
    (s1.set r w).put .hkBoot Fld.hkBoot_SLOT_B (setBit (s.fld .hkBoot Fld.hkBoot_SLOT_B) t b)
  | none => s1.set r 0

/-- Entries of the manifest in use; none when no slot holds a good one. -/
def State.manifest (s : State) : List ManifestEntry :=
  match s.image 5 with
  | some bs => manifestEntries bs
  | none => []

/-- Two images in use make a tested pair (R364). -/
def State.pairTested (s : State) (ta tb : Nat) : Bool :=
  match s.image ta, s.image tb with
  | some a, some b => pairListed s.manifest ta (imageVersion a) tb (imageVersion b) && ifsAgree (imageIfs a) (imageIfs b)
  | _, _ => false

/-- The six pairs among types 1 to 4, in order. -/
def imagePairs : List (Nat × Nat) := [(1, 2), (1, 3), (1, 4), (2, 3), (2, 4), (3, 4)]

/-- The first untested pair. -/
def State.untestedPair (s : State) : Option (Nat × Nat) := imagePairs.find? (fun p => !s.pairTested p.1 p.2)

/-! ### Stages (R357, R358) -/

/-- At stage 9 each enabled port of some dies that are out of reset trains (R305, R310). -/
def State.trainPorts (s : State) (dies : Nat) : State :=
  ((diesOf dies).flatMap (fun d => (List.finRange 4).map (fun p => (d, p)))).foldl (fun (t : State) x =>
    if t.doms.compute.testBit x.1.val && t.isSet (.ropeCtrl x.1 x.2) Fld.ropeCtrl_EN then
      t.put (.ropeStatus x.1 x.2) Fld.ropeStatus_STATE 1 else t) s

/-- A stage begins. -/
def State.beginStage (s : State) (i : Nat) : State :=
  let t := s.put .hkBoot Fld.hkBoot_STAGE i
  let u := if i = 9 then t.trainPorts 15 else t
  { u with boot := { u.boot with phase := .stage i } }

/-- A stage ends. -/
def State.stageTime (s : State) (i : Nat) : State := s.put (.hkBootTime (Fin.ofNat 11 i)) Fld.hkBootTime_TIME s.now

/-- A unit has failed a stage: FAILED_STAGE names the first such stage. -/
def State.failedAt (s : State) (i : Nat) : State :=
  if s.fld .hkBoot Fld.hkBoot_FAILED_STAGE = 0 then s.put .hkBoot Fld.hkBoot_FAILED_STAGE i else s

/-- Record a failure when there is one. -/
def State.failedIf (s : State) (b : Bool) (i : Nat) : State := if b then s.failedAt i else s

/-- The stages that a DIE_RESET rerun runs, in order (R369); 10 stands for the end of the rerun. -/
def rerunNext (i : Nat) : Nat := if i = 7 then 9 else i + 1

/-- Whether stage `i` runs now, in the boot order or in a rerun. -/
def State.inStage (s : State) (i : Nat) : Bool := s.boot.phase == .stage i || s.boot.phase == .rerun i

/-- Dies that the stage in progress works on: in a rerun those reset, otherwise all; never a fenced die (R486). -/
def State.scope (s : State) : Nat :=
  clearBits (match s.boot.phase with | .rerun _ => s.boot.rerunMask | _ => 15) (s.fld .fltFence Fld.fltFence_FENCED)

/-- Go on to the next stage. -/
def State.nextStage (s : State) (i : Nat) : State :=
  let s1 := s.stageTime i
  match s.boot.phase with
  | .rerun _ =>
    let t := { s1 with boot := { s1.boot with phase := .rerun (rerunNext i) } }
    let u := if rerunNext i = 9 then t.trainPorts s.boot.rerunMask else t
    if rerunNext i ≤ 9 then u.put .hkBoot Fld.hkBoot_STAGE (rerunNext i) else u
  | _ => s1.beginStage (i + 1)

/-- Mode, cap and budgets take their values from the kept mode (R388, R402, R403). -/
def State.loadMode (s : State) : State :=
  let m := s.dictNat 0x2000 1 1 % 4
  let s0 := { s with power := { s.power with inForce := m } }
  let s1 := (s0.put .pwrCtrl Fld.pwrCtrl_MODE m).setCap m
  let s2 := powerDomains.foldl (fun t d => (t.put (.pwrDomain d) Fld.pwrDomain_BUDGET (modeDefault m d.val)).put
    (.pwrGain d) Fld.pwrGain_GAIN (max 0x7000 (min 0x9000 (Config.fusedGain d.val)))) s1
  if m = 3 then (s2.put .hkBoot Fld.hkBoot_HOLD 1).put .hkBoot Fld.hkBoot_HOLD_CAUSE 3 else s2

/-- Stage 2 begins: the anchor main domain leaves reset, and hart 0 starts at the boot ROM (R348, R373). -/
def State.beginMain (s : State) : State :=
  let s1 := s.resetRegs .anchorMain
  let cycles := s1.dictNat 0x1000 8 0
  let s2 := { s1 with doms := { s1.doms with main := true }, clocks := { s1.clocks with fRun := true, stopped := 0 } }
  let s3 := s2.deviceKept 0x1000 8 5 cycles (cycles + 1) (toLe 8 (cycles + 1))
  let s4 := ((s3.put .hkBoot Fld.hkBoot_FAILED_STAGE 0).put .hkBoot Fld.hkBoot_RECOVERY 0).stageTime 0
  let s5 := if s4.fld .hkBoot Fld.hkBoot_HOLD_CAUSE == 3 then s4
    else (s4.put .hkBoot Fld.hkBoot_HOLD 0).put .hkBoot Fld.hkBoot_HOLD_CAUSE 0
  let s6 := (List.range 8).foldl (fun t i => t.put (.ntSubstBase (Fin.ofNat 8 i)) Fld.ntSubstBase_BASE
    (t.repair.record.subst.getD i 0)) s5
  ((s6.put .hkBoot Fld.hkBoot_PAIR_A 0xFF).put .hkBoot Fld.hkBoot_PAIR_B 0xFF).beginStage 2

/-- Stage 2 begins once the main rail is in tolerance with PWR_EN asserted, unless a stop of the clocks lasts (R33, R395). -/
def State.tryMain (s : State) : State :=
  if s.rails.main && s.boot.phase == .standby && s.clocks.stopped == 0 then s.beginMain else s

/-! ### Rails (R45, R348, R458 to R460) -/

/-- AUX_RAIL_ON: the auxiliary rail enters tolerance and stage 1 begins; the factory strap is read (R357, R366). -/
def execAuxRailOn (strapLow : Bool) (s : State) : Host.Outcome State Fault Refusal :=
  .next (if s.rails.aux then s
  else
    let s1 := { s with rails := { s.rails with aux := true, factoryStrapLow := strapLow }, doms := { s.doms with hk := true } }
    s1.beginStage 1)

/-- Registers and state of the anchor main, PCIe and ridge domains enter reset; what they held is lost (R348, R460). -/
def State.mainReset (s : State) : State :=
  let s1 := ((s.resetRegs .anchorMain).resetRegs .pcie |>.resetDies 15).set (.hkFw 6) 0 |>.set (.hkFw 7) 0
  { s1 with
    doms := { s1.doms with main := false, pcie := false, fabric := 0, compute := 0 }
    camp := State.reset.camp, tiers := State.reset.tiers, ledge := State.reset.ledge, job := JobState.none, input := InputState.idle
    kv := KvState.idle
    det := none
    opt := OptState.idle
    pcie := State.reset.pcie
    clocks := { s1.clocks with tRun := false, fRun := false, mRun := false } }

/-- The masks of HK_SHAPE clear and the level falls to S0 (R45). -/
def State.shapeToS0 (s : State) : State :=
  let was := s.fld .hkShape Fld.hkShape_SVC_LEVEL
  let s1 := s.set .hkShape 0
  if was = 0 then s1 else s1.levelEvent

/-- Budget messages to domains that have lost power are no longer awaited; a mode change or a restoration under way has nothing
left to wait for, and the domains come back with the mode's defaults. -/
def State.dropBudgets (s : State) : State :=
  let s1 := powerDomains.foldl (fun t d =>
    (t.setPdom d { t.pdom d with msg := none, raise := none }).put (.pwrDomain d) Fld.pwrDomain_PENDING 0) s
  let s2 := { s1 with power := { s1.power with restoring := [], firstOfJob := false } }
  (match s2.power.target with
  | some m => powerDomains.foldl (fun (t : State) d => t.put (.pwrDomain d) Fld.pwrDomain_BUDGET (modeDefault m d.val)) s2
  | none => s2).modeComplete

/-- AUX_RAIL_LOSS: the auxiliary rail leaves tolerance: the device is absent; flash, fuses and firmware slots remain,
and a flash write under way is torn (R45, R348, R359, R405, R434). -/
def execAuxRailLoss (s : State) : Host.Outcome State Fault Refusal :=
  .next (if s.rails.aux then
    { State.reset with
      pending := s.pending, freeCtr := s.freeCtr, out := s.out, a0 := s.a0
      mem := s.mem.loseAll (List.range 37)
      rails := { s.rails with aux := false }
      images := { s.images with loadedB := List.replicate 6 none, nextOffset := 0 }
      repair := ⟨RepairRecord.empty, s.repair.flash.torn, s.repair.fused⟩
      faults := { State.reset.faults with flash := s.faults.flash.torn }
      dict := { State.reset.dict with flash := s.dict.flash.torn } }
  else s)

/-- MAIN_RAIL_ON: the main rail is in tolerance with PWR_EN asserted; a stop under R395 ends with the rail that was away (R357,
R395, R459). -/
def execMainRailOn (s : State) : Host.Outcome State Fault Refusal :=
  .next (if s.rails.main then s
  else ({ s with rails := { s.rails with main := true }
                 clocks := { s.clocks with stopped := if s.clocks.stopped = 2 then 0 else s.clocks.stopped } }).tryMain)

/-- MAIN_RAIL_LOSS: the main rail leaves tolerance or PWR_EN falls: a job is lost without a report or an end code, the
tiers lose their contents, and the device falls to S0 (R45, R59, R348, R349, R460). -/
def execMainRailLoss (s : State) : Host.Outcome State Fault Refusal :=
  .next (if s.rails.main then
    let s1 := { s with rails := { s.rails with main := false } }
    if s.rails.aux then
      let r := s1.mainReset
      let s2 := { r with mem := r.mem.loseAll (List.range 37) }
      let s3 := (((s2.dropBudgets.put .pwrCtrl Fld.pwrCtrl_LOCK 0).put .hkBoot Fld.hkBoot_FACTORY 0).put .fltStatus
        Fld.fltStatus_FACTORY 0).put .hkBoot Fld.hkBoot_LANE_PLAN 0
      let ph := if s.boot.phase = .stage 1 then BootPhase.stage 1 else BootPhase.standby
      ({ s3 with boot := { s3.boot with
                   phase := ph
                   heldReset := s3.boot.heldReset ||| s3.boot.rerunMask
                   rerunMask := 0
                   tokenGood := false }
                 clocks := { s3.clocks with stopped := if s3.clocks.stopped = 1 then 1 else 0 } }).shapeToS0
    else s1
  else s)

/-! ### Clocks (R32 to R34) -/

/-- ROOT_PLL_LOCK: the root PLL locks; the timestamp starts at the first lock (R32, R34). -/
def execRootPllLock (s : State) : Host.Outcome State Fault Refusal :=
  .next (if s.rails.aux then
    { s with clocks := { s.clocks with reference := true, pll := true, everLocked := true },
             time := if s.clocks.everLocked then s.time else 0 }
  else s)

/-- REFERENCE_LOST: the reference or the lock is lost. Before stage 1 has ended there is no Fatal (R33). -/
def execReferenceLost (s : State) : Host.Outcome State Fault Refusal :=
  .next (if s.rails.aux && s.clocks.pll then
    let s1 := { s with clocks := { s.clocks with reference := false, pll := false } }
    if s.boot.phase = .stage 1 then s1
    else (s1.raise .fatal ⟨5, 16, noInst⟩ 0x0125 0 0).failHeartbeat.stopClocks 1
  else s)

/-- CLOCK_RESTART: lock has held for 1 ms after a stop under R33: the anchor main and ridge domains are reset, and the
boot order runs from stage 2 when the main rail allows (R33). A stop under R395 ends only with the main rail. -/
def execClockRestart (s : State) : Host.Outcome State Fault Refusal :=
  .next (if s.clocks.pll && s.clocks.stopped == 1 then
    let s1 := s.mainReset.dropBudgets.put .pwrCtrl Fld.pwrCtrl_LOCK 0
    ({ s1 with clocks := { s1.clocks with stopped := 0 }
               boot := { s1.boot with
                 phase := .standby
                 heldReset := s1.boot.heldReset ||| s1.boot.rerunMask
                 rerunMask := 0 } }).shapeToS0.tryMain
  else s)

/-! ### PERST_N (R348, R349, R465, R469) -/

/-- The PCIe domain is reset: outstanding requests fail as host errors, those that wait stay (R349, R465, R469). -/
def State.pcieReset (s : State) : State :=
  let s1 := (s.pcie.requests.filter (fun q => !q.waiting)).foldl (fun (t : State) q => t.failRequest q q.addr) s
  let keep := s1.pcie.requests
  let over_ := s1.pcie.expired
  let s2 := s1.resetRegs .pcie
  { s2 with pcie := { State.reset.pcie with requests := keep, expired := over_ } }

/-- Stage 2 has ended and Basecamp runs. -/
def State.pastStage2 (s : State) : Bool :=
  match s.boot.phase with
  | .stage i => decide (3 ≤ i)
  | .token | .hold | .done | .rerun _ => true
  | _ => false

/-- PERST_ASSERT: only the PCIe domain is reset (R349). -/
def execPerstAssert (s : State) : Host.Outcome State Fault Refusal :=
  .next (let s1 := { s with rails := { s.rails with perst := true }, doms := { s.doms with pcie := false } }
    s1.pcieReset)

/-- PERST_RELEASE: the PCIe domain leaves reset once stage 2 has ended (R348, R465). -/
def execPerstRelease (s : State) : Host.Outcome State Fault Refusal :=
  .next { s with rails := { s.rails with perst := false }, doms := { s.doms with pcie := s.doms.pcie || s.pastStage2 } }

/-! ### Stages 1 to 3 (R359, R363 to R366, R405, R434, R445) -/

/-- The value of an ANNOUNCE goes out when T1S_EN and ANNOUNCE are TRUE (R442). -/
def State.announce (s : State) : State :=
  if s.dictNat 0x1010 5 1 = 1 ∧ s.dictNat 0x1010 4 1 = 1 then s.emit (.announce (s.fld .hkShape Fld.hkShape_SVC_LEVEL)) else s

/-- HK_T1S shows the kept PLCA settings (R455). -/
def State.syncT1s (s : State) : State :=
  ((s.put .hkT1s Fld.hkT1s_EN (s.dictNat 0x1010 4 1)).put .hkT1s Fld.hkT1s_NODE_COUNT (s.dictNat 0x1010 2 8)).put .hkT1s
    Fld.hkT1s_NODE_ID (s.dictNat 0x1010 1 255)

/-- HOUSEKEEPING_STAGE_END: stage 1 ends: repair record, fence mask, kept entries and pinned records are loaded, the
journal starts, the device is at S0 (R357, R359, R405, R434, R445). -/
def execHousekeepingStageEnd (s : State) : Host.Outcome State Fault Refusal :=
  .next (if s.boot.phase = .stage 1 ∧ s.clocks.pll = true then
    let rec0 := s.repair.flash.newest.getD RepairRecord.empty
    let s1 := { s with repair := { s.repair with record := rec0 }, dict := { s.dict with stored := s.dict.flash.newest.getD [] } }
    let s2 := (List.range 4).foldl (fun t n => t.put (.hkRepairMap (Fin.ofNat 4 n)) Fld.hkRepairMap_MAP (rec0.remap.getD n 0))
      (s1.put .fltFence Fld.fltFence_FENCED rec0.fence)
    let s3 := s2.reloadPinned
    let s4 := if s.repair.flash.newest.isNone then s3.ucc ⟨5, 19, noInst⟩ 0x0131 0 0 else s3
    let s5 := if s.dict.flash.newest.isNone then s4.correctedEvent ⟨5, 19, noInst⟩ 0x0132 0 0 else s4
    let s6 := ((s5.loadMode.syncT1s).journalAdd 0 0 0 0 0 0 0 0).stageTime 1
    let s7 := { s6 with boot := { s6.boot with phase := .standby, windowOpen := s.rails.factoryStrapLow, tokenGood := false } }
    s7.announce.tryMain
  else s)

/-- BASECAMP_STAGE_END: stage 2 ends: Basecamp firmware from a slot, or recovery (R363, R465). -/
def execBasecampStageEnd (s : State) : Host.Outcome State Fault Refusal :=
  .next (if s.boot.phase = .stage 2 then
    match s.pickSlot 1 with
    | some b =>
      let body := imageBody (s.slot 1 b)
      let s1 := ((s.loadImage 1 (some b)).store (2 ^ 45) (body.take (2 ^ 24))).stageTime 2
      ({ s1 with doms := { s1.doms with pcie := !s1.rails.perst } }).beginStage 3
    | none =>
      let s1 := ((s.loadImage 1 none).put .hkBoot Fld.hkBoot_RECOVERY 1).failedAt 2
      { s1 with boot := { s1.boot with phase := .recovery } }
  else s)

/-- Hold of R365 with its cause. -/
def State.enterBootHold (s : State) (cause : Nat) : State :=
  let s1 := (s.put .hkBoot Fld.hkBoot_HOLD 1).put .hkBoot Fld.hkBoot_HOLD_CAUSE cause
  { s1 with boot := { s1.boot with phase := .hold } }

/-- Some image of types 2 to 4 has no good slot (R363). -/
def State.imageMissing (s : State) : Bool := [2, 3, 4].any (fun t => (s.image t).isNone)

/-- After stage 3, or after the token window: stage 4, or the Hold of R365; a valid token overrides it (R365, R366). -/
def State.afterStage3 (s : State) : State :=
  if s.untestedPair.isSome && !s.boot.tokenGood then s.enterBootHold (if s.imageMissing then 2 else 1) else s.beginStage 4

/-- The device enters S1 (R44, R384, R411). -/
def State.enterS1 (s : State) : State :=
  let s1 := (s.setLevel 1).startGrace
  { s1 with camp := { s1.camp with mboxOpen := false } }

/-- Stage 3 has ended: the pair check's result is shown and S1 reached; an open token window is waited for (R364 to R366). -/
def State.endStage3 (s : State) : State :=
  let s1 := match s.untestedPair with
    | some p => (s.put .hkBoot Fld.hkBoot_PAIR_A p.1).put .hkBoot Fld.hkBoot_PAIR_B p.2
    | none => s
  let s2 := (s1.failedIf s.untestedPair.isSome 3).stageTime 3 |>.enterS1
  if s.boot.windowOpen then { s2 with boot := { s2.boot with phase := .token } } else s2.afterStage3

/-- MANIFEST_CHECK: stage 3 (R364, R365). -/
def execManifestCheck (s : State) : Host.Outcome State Fault Refusal :=
  .next (if s.boot.phase = .stage 3 then
    ([2, 3, 4, 5].foldl (fun t i => t.loadImage i (t.pickSlot i)) s).endStage3
  else s)

/-- TOKEN_WINDOW_CLOSE: 10 s after stage 3 without a valid token (R366). -/
def execTokenWindowClose (s : State) : Host.Outcome State Fault Refusal :=
  .next (if s.boot.windowOpen = true ∧ s.boot.phase = .token then
    ({ s with boot := { s.boot with windowOpen := false } }).afterStage3
  else s)

/-- A valid token is accepted: factory mode; a boot order that waits goes on (R366, R416). -/
def State.acceptToken (s : State) : State :=
  let s1 := (s.put .hkBoot Fld.hkBoot_FACTORY 1).put .fltStatus Fld.fltStatus_FACTORY 1
  let s2 := { s1 with boot := { s1.boot with windowOpen := false, tokenGood := true } }
  if s.boot.phase = .token then s2.afterStage3 else s2

/-- The check of a factory token: form, serial number, main-power cycle, signature (R416). -/
def State.tokenValid (s : State) (bs : List Byte) : Bool :=
  decide (bs.length = 128) && decide (slice bs 0 4 = [0x41, 0x51, 0x46, 0x54]) && leAt bs 4 4 == 0 &&
  decide (slice bs 8 16 = (List.range 16).map Config.serialByte) && leAt bs 24 8 == s.dictNat 0x1000 8 0 && Config.tokenGenuine bs

/-! ### Stage 4: belay edges (R350 to R356) -/

/-- Role of group `g` of an edge. -/
def State.belayRole (s : State) (e : Fin 8) (g : Nat) : Nat :=
  let v := s.fld (.hkBelayRole e (Fin.ofNat 8 (g / 16))) Fld.hkBelayRole_ROLE
  bits v (4 * (g % 16) + 3) (4 * (g % 16))

/-- Give a group a role. -/
def State.setRole (s : State) (e : Fin 8) (g role : Nat) : State :=
  s.put (.hkBelayRole e (Fin.ofNat 8 (g / 16))) ⟨4 * (g % 16) + 3, 4 * (g % 16)⟩ role

/-- Groups of a direction of an edge that hold a role. -/
def State.roleCount (s : State) (e : Fin 8) (dir role : Nat) : Nat :=
  ((List.range 64).filter (fun i => s.belayRole e (64 * dir + i) == role)).length

/-- The minimums of R353 hold in both directions of an edge. -/
def State.edgeMinimums (s : State) (e : Fin 8) : Bool :=
  [0, 1].all (fun dir =>
    if e.val < 4 then decide (4 ≤ s.roleCount e dir 1) && decide (8 ≤ s.roleCount e dir 3)
    else decide (8 ≤ s.roleCount e dir 1) && decide (1 ≤ s.roleCount e dir 2))

/-- The ridge dies at the ends of an edge, as a mask. -/
def edgeDies (e : Fin 8) : Nat := if e.val < 4 then 2 ^ e.val else 2 ^ (e.val - 4) ||| 2 ^ ((e.val - 4 + 1) % 4)

/-- The eight edges. -/
def belayEdges : List (Fin 8) := [0, 1, 2, 3, 4, 5, 6, 7]

/-- Edges that stage 4 trains: those of the dies in scope whose every die is unfenced (R486). -/
def State.edgesInScope (s : State) : List (Fin 8) :=
  belayEdges.filter (fun e => (edgeDies e &&& s.scope) != 0 && (edgeDies e &&& s.fld .fltFence Fld.fltFence_FENCED) == 0)

/-- Train one edge: its roles return to the default table, failed groups get code 15 with a record each (R354). -/
def State.trainEdge (s : State) (failed : List (Fin 8 × Fin 128)) (e : Fin 8) : State :=
  let mine := (List.range 128).filter (fun g => failed.any (fun f => decide (f.1 = e) && f.2.val == g))
  let s1 := (List.range 8).foldl (fun t k => t.set (.hkBelayRole e (Fin.ofNat 8 k)) (Reg.reset (.hkBelayRole e (Fin.ofNat 8 k)))) s
  let s2 := mine.foldl (fun t g => (t.setRole e g 15).correctedEvent ⟨4, 18, e.val⟩ 0x0110 0 g) s1
  let n0 := (mine.filter (fun g => decide (g < 64))).length
  let down := !s2.edgeMinimums e
  s2.set (.hkBelayStatus e) (fput (fput (fput 0 Fld.hkBelayStatus_DOWN (b2n down)) Fld.hkBelayStatus_FAILED_0 n0)
    Fld.hkBelayStatus_FAILED_1 (mine.length - n0))

/-- The fabric domains of a mask of dies leave reset. -/
def State.releaseFabric (s : State) (dies : Nat) : State :=
  ((diesOf dies).foldl (fun (t : State) d => t.resetRegs (.ridgeFabric d)) { s with doms := { s.doms with fabric := s.doms.fabric ||| dies } }).fuseSpares dies

/-- Stage 4 ends: fabric domains are released, edges trained; a die behind a failed anchor edge is fenced (R354). -/
def State.endStage4 (s : State) (failed : List (Fin 8 × Fin 128)) : State :=
  let s1 := s.releaseFabric s.scope
  let edges := s.edgesInScope
  let s2 := edges.foldl (fun t e => t.trainEdge failed e) s1
  let lost := (edges.filter (fun e => decide (e.val < 4) && s2.isSet (.hkBelayStatus e) Fld.hkBelayStatus_DOWN)).foldl
    (fun m e => m ||| 2 ^ e.val) 0
  ((s2.failedIf (!failed.isEmpty) 4).fence lost).nextStage 4

/-- BELAY_TRAINING: stage 4 ends with the wire groups that failed (R354). -/
def execBelayTraining (failed : List (Fin 8 × Fin 128)) (s : State) : Host.Outcome State Fault Refusal :=
  .next (if s.inStage 4 then s.endStage4 failed else s)

/-! ### Stages 5 to 10 (R44, R190, R357) -/

/-- Change the masks of HK_SHAPE in one write. -/
def State.shapeMask (s : State) (f : Fld) (v : Nat) : State := s.setShape (fput (s.get .hkShape) f v)

/-- A mask with the bits of a scope replaced. -/
def inScope (old scope new : Nat) : Nat := clearBits old scope ||| (new &&& scope)

/-- Stage 5 on one die: repairs are loaded and the destructive march run; the answer says whether the die passed (R190). -/
def State.marchDie (s : State) (d : Fin 4) (fails : List (Fin 192 × Fin 1032)) : Bool × State :=
  State.destructiveEnd ((s.loadRepairs d).setLedge d LedgeState.idle) d (2 ^ 48 - 1) fails

/-- Stage 5 on several dies. -/
def State.marchDies (fails : List (Fin 4 × Fin 192 × Fin 1032)) (finished : Nat) : State → List (Fin 4) → Nat × State
  | s, [] => (0, s)
  | s, d :: rest =>
    let mine := (fails.filter (fun f => decide (f.1 = d))).map Prod.snd
    let p := if finished.testBit d.val then s.marchDie d mine else (false, s)
    let q := State.marchDies fails finished p.2 rest
    ((if p.1 then 2 ^ d.val else 0) ||| q.1, q.2)

/-- Stage 5 ends: LEDGE_MASK of the dies that passed. -/
def State.endStage5 (s : State) (fails : List (Fin 4 × Fin 192 × Fin 1032)) (finished : Nat) : State :=
  let sc := s.scope &&& s.doms.fabric
  let p := State.marchDies fails finished s (diesOf sc)
  let s1 := p.2.shapeMask Fld.hkShape_LEDGE_MASK (inScope (s.fld .hkShape Fld.hkShape_LEDGE_MASK) s.scope p.1)
  (s1.failedIf (decide (p.1 ≠ sc)) 5).nextStage 5

/-- LEDGE_MARCH_STAGE: stage 5 ends with the rows found failing (R190). -/
def execLedgeMarchStage (fails : List (Fin 4 × Fin 192 × Fin 1032)) (s : State) : Host.Outcome State Fault Refusal :=
  .next (if s.inStage 5 then s.endStage5 fails 15 else s)

/-- Active cores of the dies of a mask. -/
def State.coreCount (s : State) (dies : Nat) : Nat := ((diesOf dies).map s.activeCores).sum

/-- The compute domain of a die leaves reset with its core map from the repair record (R146, R357). -/
def State.releaseCompute (s : State) (d : Fin 4) : State :=
  let s1 := (s.resetRegs (.ridgeCompute d))
  (({ s1 with doms := { s1.doms with compute := s1.doms.compute ||| 2 ^ d.val } }).put (.tcRemap d) Fld.tcRemap_MAP
    (s1.repair.record.remap.getD d.val 0xF9876543210)).remapIds d

/-- Stage 6 ends for the dies that succeeded; a die that failed leaves its own bit and those of its units clear (R45). -/
def State.endStage6 (s : State) (ok : Nat) : State :=
  let sc := s.scope &&& s.doms.fabric
  let good := ok &&& sc
  let s1 := (diesOf good).foldl State.releaseCompute s
  let s2 := { s1 with clocks := { s1.clocks with tRun := !s1.clocksGated, mRun := !s1.clocksGated } }
  let ridge := inScope (s.fld .hkShape Fld.hkShape_RIDGE_MASK) s.scope good
  let w0 := fput (s2.get .hkShape) Fld.hkShape_RIDGE_MASK ridge
  let w1 := shapeWithout w0 (clearBits s.scope good) 0
  let s3 := s2.setShape (fput w1 Fld.hkShape_TC_ACTIVE (s2.coreCount ridge))
  (s3.failedIf (decide (good ≠ sc)) 6).nextStage 6

/-- RIDGE_STAGE: stage 6 ends with the dies that started (R357). -/
def execRidgeStage (ok : BitVec 4) (s : State) : Host.Outcome State Fault Refusal :=
  .next (if s.inStage 6 then s.endStage6 ok.toNat else s)

/-- The near stacks, and the team ports, of a mask of dies: two of each. -/
def stacksOf (dies : Nat) : Nat := (diesOf dies).foldl (fun m d => m ||| (3 <<< (2 * d.val))) 0

/-- Stage 7 ends for the stacks that trained (R357). -/
def State.endStage7 (s : State) (ok : Nat) : State :=
  let up := s.scope &&& s.fld .hkShape Fld.hkShape_RIDGE_MASK
  let good := ok &&& stacksOf up
  let s1 := s.shapeMask Fld.hkShape_NEAR_MASK (inScope (s.fld .hkShape Fld.hkShape_NEAR_MASK) (stacksOf s.scope) good)
  (s1.failedIf (decide (good ≠ stacksOf up)) 7).nextStage 7

/-- NEAR_TRAINING: stage 7 ends with the stacks that trained; the retirement tables are in force again (R56, R357). -/
def execNearTraining (ok : BitVec 8) (s : State) : Host.Outcome State Fault Refusal :=
  .next (if s.inStage 7 then s.endStage7 ok.toNat else s)

/-- Stage 8 ends for the channels that trained. -/
def State.endStage8 (s : State) (ok : Nat) : State :=
  ((s.shapeMask Fld.hkShape_MORAINE_MASK ok).failedIf (decide (ok ≠ 0xFFFFFF)) 8).nextStage 8

/-- MORAINE_TRAINING: stage 8 ends with the channels that trained (R59, R357). -/
def execMoraineTraining (ok : BitVec 24) (s : State) : Host.Outcome State Fault Refusal :=
  .next (if s.inStage 8 then s.endStage8 ok.toNat else s)

/-- A team port is up, on four lanes or on three (R41, R310). -/
def State.teamPortUp (s : State) (p : Nat) : Bool :=
  let st := s.fld (.ropeStatus (Fin.ofNat 4 (p / 2)) (Fin.ofNat 4 (p % 2))) Fld.ropeStatus_STATE
  s.doms.compute.testBit (p / 2) && (st == 2 || st == 3)

/-- Mask of the team ports that are up. -/
def State.teamPorts (s : State) : Nat := (List.range 8).foldl (fun m p => if s.teamPortUp p then m ||| 2 ^ p else m) 0

/-- Stage 9 ends: the bits of the ports that are up; a rerun changes only those of its dies (R45, R305, R357, R369). -/
def State.endStage9 (s : State) : State :=
  let ports := stacksOf s.scope
  let s1 := s.shapeMask Fld.hkShape_TEAM_PORT_MASK (inScope (s.fld .hkShape Fld.hkShape_TEAM_PORT_MASK) ports s.teamPorts)
  (s1.failedIf (decide (s.teamPorts &&& s.expectPorts &&& ports ≠ s.expectPorts &&& ports)) 9).nextStage 9

/-- ROPE_BRINGUP: stage 9 ends (R305, R357). -/
def execRopeBringup (s : State) : Host.Outcome State Fault Refusal :=
  .next (if s.inStage 9 then s.endStage9 else s)

/-- A DIE_RESET rerun begins (R369): fences are released, the dies reset, their units leave the shape until the rerun's
stages bring them back. -/
def State.beginRerun (s : State) (dies : Nat) : State :=
  let mask := clearBits (s.fld .fltFence Fld.fltFence_FENCED) dies
  let w := fput (shapeWithout (s.get .hkShape) dies (s.coresOf dies)) Fld.hkShape_SHAPE_VALID 0
  let s0 := (s.put .fltFence Fld.fltFence_FENCED mask).releaseFences dies
  let s1 := if mask = s.repair.record.fence then s0 else s0.setRecord { s.repair.record with fence := mask }
  let s2 := ((s1.resetDies dies).setShape w).put .hkBootCtrl Fld.hkBootCtrl_DIE_RESET dies
  let s3 := s2.setLevel (min (s.fld .hkShape Fld.hkShape_SVC_LEVEL) (levelOf w s.expectPorts))
  ({ s3 with boot := { s3.boot with phase := .rerun 4, rerunMask := dies, heldReset := 0 } }).put .hkBoot Fld.hkBoot_STAGE 4

/-- The boot order or a rerun has ended: STAGE reads 0xF, SHAPE_VALID 1, and the level is chosen and signalled; a held
DIE_RESET follows (R44, R349, R369). -/
def State.announceLevel (s : State) : State :=
  let w := fput (s.get .hkShape) Fld.hkShape_SHAPE_VALID 1
  let s1 := (s.setShape (fput w Fld.hkShape_SVC_LEVEL (levelOf w s.expectPorts))).put .hkBoot Fld.hkBoot_STAGE 15
  let s2 := ({ s1 with boot := { s1.boot with phase := .done, rerunMask := 0 } }).levelEvent
  if s.boot.heldReset ≠ 0 then s2.beginRerun s.boot.heldReset else s2

/-- SERVICE_ANNOUNCE: stage 10 (R44, R357). -/
def execServiceAnnounce (s : State) : Host.Outcome State Fault Refusal :=
  .next (if s.boot.phase = .stage 10 then ((s.stageTime 10).bootRanAgain).announceLevel else s)

/-- STAGE_TIMEOUT: the limit of the stage in progress passes; `finished` names the units that have finished: edges for
stage 4, dies for stages 5 and 6, stacks for 7, channels for 8 (R357). -/
def execStageTimeout (finished : BitVec 24) (s : State) : Host.Outcome State Fault Refusal :=
  let ok := finished.toNat
  .next (match s.boot.phase with
  | .stage 2 =>
    let s1 := ((s.loadImage 1 none).put .hkBoot Fld.hkBoot_RECOVERY 1).failedAt 2
    { s1 with boot := { s1.boot with phase := .recovery } }
  | .stage 3 => s.endStage3
  | .stage 4 | .rerun 4 =>
    s.endStage4 ((belayEdges.filter (fun e => !ok.testBit e.val)).flatMap (fun e =>
      (List.range 128).map (fun g => (e, Fin.ofNat 128 g))))
  | .stage 5 | .rerun 5 => s.endStage5 [] ok
  | .stage 6 | .rerun 6 => s.endStage6 ok
  | .stage 7 | .rerun 7 => s.endStage7 ok
  | .stage 8 => s.endStage8 ok
  | .stage 9 | .rerun 9 => s.endStage9
  | _ => s)

/-- DIE_RESET: a write of DIE_RESET (R349, R369). -/
def execDieReset (dies : BitVec 4) (s : State) : Host.Outcome State Fault Refusal :=
  .next (if dies.toNat = 0 ∨ s.doms.hk = false then s
  else if s.noJob then
    if s.boot.phase = .done then s.beginRerun dies.toNat
    else
      let s1 := s.put .hkBootCtrl Fld.hkBootCtrl_DIE_RESET (s.fld .hkBootCtrl Fld.hkBootCtrl_DIE_RESET ||| dies.toNat)
      { s1 with boot := { s1.boot with heldReset := s1.boot.heldReset ||| dies.toNat } }
  else s.put .hkBootCtrl Fld.hkBootCtrl_REFUSED 1)

/-- DIE_RESET_DONE: the rerun ends (R369). -/
def execDieResetDone (s : State) : Host.Outcome State Fault Refusal :=
  .next (if s.boot.phase = .rerun 10 then (s.put .hkBootCtrl Fld.hkBootCtrl_DIE_RESET s.boot.heldReset).announceLevel else s)

/-! ### The repair record (R146, R359) -/

/-- A core map keeps the value rules of R146: each of 0 to 9 at most once, no value from 0xA to 0xE. -/
def mapValid (m : Nat) : Bool :=
  let vs := (List.range 11).map (fun k => bits m (4 * k + 3) (4 * k))
  vs.all (fun v => decide (v < 10) || v == 15) &&
  (List.range 10).all (fun v => decide ((vs.filter (fun x => x == v)).length ≤ 1))

/-- HK_REPAIR_MAP_WRITE (R359). -/
def execHkRepairMapWrite (n : Fin 4) (map : BitVec 44) (s : State) : Host.Outcome State Fault Refusal :=
  .next (if s.doms.hk then
    if s.inHold && mapValid map.toNat then
      (s.put (.hkRepairMap n) Fld.hkRepairMap_MAP map.toNat).setRecord
        { s.repair.record with remap := s.repair.record.remap.set n.val map.toNat }
    else s.put .hkBootCtrl Fld.hkBootCtrl_REFUSED 1
  else s)

/-- REPAIR_FLASH_WRITE: a flash write of the repair record completes (R359). -/
def execRepairFlashWrite (s : State) : Host.Outcome State Fault Refusal :=
  .next { s with repair := { s.repair with flash := s.repair.flash.finish s.repair.record } }

end Sys2Proof.Machine
end

