-- ==== Sys2Proof/Machine/Dict.lean ====
section
/-! DEFINITION. The object dictionary, its 10BASE-T1S pair, its write journal and the headlamp port (R431 to R455). -/

namespace Sys2Proof.Machine

/-! ### Entries (R431 to R436, R403, R430, R444, R448, R366) -/

/-- Access codes of entries. -/
inductive DictAccess where
  | ro | rw | wo | const
deriving DecidableEq, Repr

/-- An entry's type code and access. -/
structure DictEntry where
  type : Nat
  acc : DictAccess
deriving DecidableEq, Repr

/-- The entries that the manual names, by index and sub-index. -/
def dictNamed : List ((Nat × Nat) × DictEntry) :=
  [((0x1000, 0), ⟨2, .const⟩), ((0x1000, 1), ⟨8, .const⟩), ((0x1000, 2), ⟨8, .const⟩), ((0x1000, 3), ⟨8, .const⟩),
   ((0x1000, 4), ⟨5, .const⟩), ((0x1000, 5), ⟨2, .ro⟩), ((0x1000, 6), ⟨5, .ro⟩), ((0x1000, 7), ⟨5, .ro⟩),
   ((0x1000, 8), ⟨5, .ro⟩), ((0x1000, 9), ⟨1, .wo⟩)] ++
  [((0x1010, 0), ⟨2, .const⟩), ((0x1010, 1), ⟨2, .rw⟩), ((0x1010, 2), ⟨2, .rw⟩), ((0x1010, 3), ⟨2, .rw⟩),
   ((0x1010, 4), ⟨1, .rw⟩), ((0x1010, 5), ⟨1, .rw⟩)] ++
  [((0x1020, 0), ⟨2, .const⟩), ((0x1020, 1), ⟨1, .rw⟩), ((0x1020, 2), ⟨4, .rw⟩), ((0x1020, 3), ⟨1, .rw⟩)] ++
  [((0x2000, 0), ⟨2, .const⟩), ((0x2000, 1), ⟨2, .rw⟩), ((0x2000, 2), ⟨1, .rw⟩), ((0x2001, 0), ⟨2, .const⟩),
   ((0x2001, 1), ⟨3, .ro⟩), ((0x2001, 2), ⟨3, .ro⟩)] ++
  [((0x5000, 0), ⟨2, .const⟩), ((0x5000, 1), ⟨3, .rw⟩), ((0x5000, 2), ⟨1, .rw⟩), ((0x5000, 3), ⟨3, .ro⟩),
   ((0x5000, 4), ⟨3, .ro⟩), ((0x5000, 5), ⟨4, .wo⟩), ((0x5000, 6), ⟨4, .wo⟩), ((0x5000, 7), ⟨4, .ro⟩),
   ((0x5001, 0), ⟨2, .const⟩), ((0x5001, 1), ⟨3, .ro⟩), ((0x5001, 2), ⟨4, .ro⟩), ((0x5001, 3), ⟨4, .ro⟩)] ++
  [((0x7100, 0), ⟨2, .const⟩), ((0x7100, 1), ⟨2, .rw⟩), ((0x7100, 2), ⟨9, .wo⟩), ((0x7100, 3), ⟨1, .wo⟩),
   ((0x9000, 1), ⟨9, .wo⟩)]

/-- Highest sub-index in use of the named indices (R431). -/
def dictTop (idx : Nat) : Nat :=
  match assocGet [(0x1000, 9), (0x1010, 5), (0x1020, 3), (0x2000, 2), (0x2001, 2), (0x5000, 7), (0x5001, 3), (0x7100, 3)] idx with
  | some n => n
  | none => 0

/-- Areas that hold entries without naming each (R435): power, memory, Rope, telemetry, firmware, input pipeline, factory. -/
def dictOpenArea (idx : Nat) : Bool :=
  decide (0x2000 ≤ idx ∧ idx ≤ 0x4FFF) || decide (0x6000 ≤ idx ∧ idx ≤ 0x9FFF)

/-- The access of an entry that an area holds without naming it. -/
def dictAccessOf : Nat → DictAccess
  | 1 => .rw
  | 2 => .wo
  | 3 => .const
  | _ => .ro

/-- A name of a telemetry index that stands for its sample counter (R435). -/
def dictSampleCount (idx sub : Nat) : Bool := decide (0x6000 ≤ idx ∧ idx ≤ 0x6FFF) && sub == 1

/-- The entry under a name, or none (R431). -/
def dictEntry (idx sub : Nat) : Option DictEntry :=
  match assocGet dictNamed (idx, sub) with
  | some e => some e
  | none =>
    if decide (0x5100 ≤ idx ∧ idx ≤ 0x5103) || decide (0x5200 ≤ idx ∧ idx ≤ 0x520F) then some ⟨9, .ro⟩
    else if dictSampleCount idx sub then (Config.dictUnlisted idx sub).map (fun _ => ⟨4, .ro⟩)
    else if dictOpenArea idx then (Config.dictUnlisted idx sub).map (fun p => ⟨p.1 % 9 + 1, dictAccessOf p.2⟩)
    else none

/-- Bytes of a type, or none for STR and DOMAIN (R432). -/
def dictSize : Nat → Option Nat
  | 1 | 2 => some 1
  | 3 => some 2
  | 4 | 6 | 7 => some 4
  | 5 => some 8
  | _ => none

/-- "AQ-MBX2-A" (R436). -/
def partNumber : List Byte := [0x41, 0x51, 0x2D, 0x4D, 0x42, 0x58, 0x32, 0x2D, 0x41]

/-- "A0" or "B0" (R3, R436). -/
def steppingName (a0 : Bool) : List Byte := if a0 then [0x41, 0x30] else [0x42, 0x30]

/-- The serial number (R436). -/
def serialNumber : List Byte := (List.range 16).map Config.serialByte

/-- Default of an entry that mirrors no register (R436, R444). -/
def dictDefault (idx sub : Nat) : Nat :=
  match assocGet [((0x1010, 1), 255), ((0x1010, 2), 8), ((0x1010, 3), 32), ((0x1010, 4), 1), ((0x1010, 5), 1),
      ((0x1020, 3), 1), ((0x2000, 1), 1), ((0x7100, 1), 1)] (idx, sub) with
  | some v => v
  | none => 0

/-- The value of an entry that an area holds without naming it: one that is read only may change between reads, any other stands at
its default until it is written, and a const one for the life of the part (R19, R435; log entry 5). -/
def State.unlistedValue (s : State) (idx sub : Nat) (e : DictEntry) : List Byte :=
  let v := Config.dictUnlistedValue idx sub (if e.acc = .ro then s.freeCtr else 0)
  match dictSize e.type with
  | some n => toLe n (ofLe v)
  | none => v

/-- The value of an entry now (R433). -/
def State.dictValue (s : State) (idx sub : Nat) (e : DictEntry) : List Byte :=
  let n := (dictSize e.type).getD 0
  if decide (0x5100 ≤ idx ∧ idx ≤ 0x5103) then
    (match s.faults.ring[256 * (idx - 0x5100) + sub]? with
    | some x => (List.range 8).flatMap (fun w => toLe 8 (x.word w))
    | none => zeros 64)
  else if decide (0x5200 ≤ idx ∧ idx ≤ 0x520F) then
    (match s.journalAt (256 * (idx - 0x5200) + sub) with
    | some x => (List.range 6).flatMap (fun w => toLe 8 (x.word w))
    | none => zeros 48)
  else if sub = 0 ∧ dictTop idx ≠ 0 then toLe 1 (dictTop idx)
  else if dictSampleCount idx sub then toLe 4 s.dict.samples
  else match (idx, sub) with
  | (0x1000, 1) => partNumber
  | (0x1000, 2) => steppingName s.a0
  | (0x1000, 3) => serialNumber
  | (0x1000, 4) => toLe 8 (Config.macAddress % 2 ^ 48)
  | (0x1000, 5) => toLe 1 (s.fld .hkShape Fld.hkShape_SVC_LEVEL)
  | (0x1000, 6) => toLe 8 (s.get .hkShape).toNat
  | (0x1000, 7) => toLe 8 s.now
  | (0x1000, 9) => toLe 1 0
  | (0x2000, 1) => toLe 1 s.mode
  | (0x2000, 2) => toLe 1 (s.fld .pwrCtrl Fld.pwrCtrl_COMPAT)
  | (0x2001, 1) => toLe 2 (s.fld .pwrStatus Fld.pwrStatus_METER)
  | (0x2001, 2) => toLe 2 (s.fld .pwrStatus Fld.pwrStatus_CAP)
  | (0x5000, 1) => toLe 2 (s.fld .fltCtrl Fld.fltCtrl_GRACE)
  | (0x5000, 2) => toLe 1 (s.fld .fltCtrl Fld.fltCtrl_ERR_HOLD)
  | (0x5000, 3) => toLe 2 (s.fld .fltStatus Fld.fltStatus_OPEN_UCC)
  | (0x5000, 4) => toLe 2 (s.fld .fltStatus Fld.fltStatus_OPEN_FATAL)
  | (0x5000, 7) => toLe 4 s.nextSeq
  | (0x5001, 1) => toLe 2 (s.fld .hkJournal Fld.hkJournal_HEAD)
  | (0x5001, 2) => toLe 4 s.dict.journalSeq
  | (0x5001, 3) => toLe 4 (s.fld .hkJournal Fld.hkJournal_OVERFLOW)
  | _ =>
    match assocGet s.dict.stored (idx, sub) with
    | some bs => bs
    | none =>
      if (assocGet dictNamed (idx, sub)).isSome then toLe n (dictDefault idx sub)
      else s.unlistedValue idx sub e

/-- What the journal holds of a value: a scalar, or a length and a CRC-32C (R446). -/
def journalValue (type : Nat) (bs : List Byte) : Nat :=
  if type = 8 ∨ type = 9 then bs.length * 2 ^ 32 + crc32c bs else ofLe bs % 2 ^ 64

/-! ### Statuses and writes (R437, R438) -/

/-- The statuses of R438. -/
inductive DictStatus where
  | ok | noEntry | access | type | range | state | busy | segment
deriving DecidableEq, Repr

/-- Their codes. -/
def DictStatus.code : DictStatus → Nat
  | .ok => 0
  | .noEntry => 1
  | .access => 2
  | .type => 3
  | .range => 4
  | .state => 5
  | .busy => 6
  | .segment => 7

/-- A continuation byte of UTF-8. -/
def utf8Cont (b : Nat) : Bool := decide (0x80 ≤ b ∧ b ≤ 0xBF)

/-- Length of the well-formed UTF-8 character at the head of a list, 0 when it is ill-formed (R337, R432). -/
def utf8Len (bs : List Nat) : Nat :=
  match bs with
  | [] => 0
  | b :: rest =>
    let c1 := rest.getD 0 0
    let c2 := utf8Cont (rest.getD 1 0)
    let c3 := utf8Cont (rest.getD 2 0)
    if b < 0x80 then 1
    else if 0xC2 ≤ b ∧ b ≤ 0xDF then (if utf8Cont c1 then 2 else 0)
    else if b = 0xE0 then (if decide (0xA0 ≤ c1 ∧ c1 ≤ 0xBF) && c2 then 3 else 0)
    else if b = 0xED then (if decide (0x80 ≤ c1 ∧ c1 ≤ 0x9F) && c2 then 3 else 0)
    else if 0xE1 ≤ b ∧ b ≤ 0xEF then (if utf8Cont c1 && c2 then 3 else 0)
    else if b = 0xF0 then (if decide (0x90 ≤ c1 ∧ c1 ≤ 0xBF) && c2 && c3 then 4 else 0)
    else if 0xF1 ≤ b ∧ b ≤ 0xF3 then (if utf8Cont c1 && c2 && c3 then 4 else 0)
    else if b = 0xF4 then (if decide (0x80 ≤ c1 ∧ c1 ≤ 0x8F) && c2 && c3 then 4 else 0)
    else 0

/-- A list of bytes is well-formed UTF-8; `fuel` bounds its characters. -/
def utf8Good : Nat → List Nat → Bool
  | _, [] => true
  | 0, _ => false
  | fuel + 1, bs => let n := utf8Len bs; n != 0 && utf8Good fuel (bs.drop n)

/-- An FP32 bit pattern is a NaN. -/
def isNan32 (w : Nat) : Bool := bits w 30 23 == 255 && bits w 22 0 != 0

/-- A value suits its type code in form (R432): TYPE when the length does not match, RANGE when the value does not suit. -/
def typeCheck (type : Nat) (bs : List Byte) : DictStatus :=
  match dictSize type with
  | some n =>
    if bs.length ≠ n then .type
    else if type = 1 ∧ 1 < ofLe bs then .range
    else if type = 7 ∧ isNan32 (ofLe bs) then .range
    else .ok
  | none =>
    if type = 8 then
      if 255 < bs.length then .type else if utf8Good 256 (bs.map BitVec.toNat) then .ok else .range
    else if 1024 < bs.length then .type else .ok

/-- The stated ranges of the named entries. -/
def rangeCheck (idx sub v : Nat) : Bool :=
  match (idx, sub) with
  | (0x1010, 2) => decide (2 ≤ v)
  | (0x1010, 3) => decide (1 ≤ v)
  | (0x2000, 1) => decide (v ≤ 3)
  | (0x5000, 1) => decide (1 ≤ v ∧ v ≤ 1000)
  | (0x7100, 1) => decide (1 ≤ v ∧ v ≤ 5)
  | _ => true

/-- The firmware slot of a type that is not in use: never the one the running image came from (R363); slot A when no
slot is in use. -/
def State.spareSlot (s : State) (t : Nat) : Bool :=
  match s.images.loadedB.getD t none with
  | some b => !b
  | none => false

/-- Bytes of a slot after a write at an offset; flash between reads as erased. -/
def writeAt (old : List Byte) (off : Nat) (bs : List Byte) : List Byte :=
  let base := old ++ List.replicate (off - old.length) 0xFF
  base.take off ++ bs ++ base.drop (off + bs.length)

/-- Write firmware bytes into the slot not in use. -/
def State.fwWrite (s : State) (t off : Nat) (bs : List Byte) : State :=
  if s.spareSlot t then { s with images := { s.images with slotB := s.images.slotB.set t (writeAt (s.images.slotB.getD t []) off bs) } }
  else { s with images := { s.images with slotA := s.images.slotA.set t (writeAt (s.images.slotA.getD t []) off bs) } }

/-- Check the written slot and mark it for the next main-power cycle; a bad image keeps no mark (R384, R444). -/
def State.fwCommit (s : State) (t : Nat) : Bool × State :=
  let b := s.spareSlot t
  if imageGood t (s.slot t b) then (true, { s with images := { s.images with markedB := s.images.markedB.set t (some b) } })
  else if s.images.markedB.getD t none = some b then
    (false, { s with images := { s.images with markedB := s.images.markedB.set t none } })
  else (false, s)

/-- RESTORE: every rw entry takes its default (R436). -/
def State.dictRestore (s : State) : State :=
  let kept := s.dict.stored.filter (fun e => e.1 == (0x1000, 8))
  let s1 := { s with dict := { s.dict with stored := kept, flash := s.dict.flash.request kept },
                     images := { s.images with nextOffset := 0 } }
  let s2 := ((s1.put .fltCtrl Fld.fltCtrl_GRACE 20).put .fltCtrl Fld.fltCtrl_ERR_HOLD 1).errLevel
  ((s2.put .pwrCtrl Fld.pwrCtrl_COMPAT 0).writeMode 1 false).syncT1s

/-- The effect of a write whose entry, type and range are right: a status, and the state when it is OK (R433). -/
def State.dictApply (s : State) (idx sub off : Nat) (bs : List Byte) : DictStatus × State :=
  let v := ofLe bs
  match (idx, sub) with
  | (0x1000, 9) => if !s.inHold then (.state, s) else if v = 1 then (.ok, s.dictRestore) else (.ok, s)
  | (0x2000, 1) =>
    if s.inHold && s.fld .hkBoot Fld.hkBoot_HOLD_CAUSE != 3 then (.state, s) else (.ok, s.writeMode v false)
  | (0x2000, 2) =>
    if s.noJob && !s.isSet .pwrCtrl Fld.pwrCtrl_LOCK then (.ok, s.put .pwrCtrl Fld.pwrCtrl_COMPAT v) else (.state, s)
  | (0x5000, 1) => (.ok, s.put .fltCtrl Fld.fltCtrl_GRACE v)
  | (0x5000, 2) => (.ok, (s.put .fltCtrl Fld.fltCtrl_ERR_HOLD v).errLevel)
  | (0x5000, 5) => if newer 32 v (s.nextSeq + 2 ^ 32 - 1) then (.state, s.fltRefused) else (.ok, s.ackFaults v)
  | (0x5000, 6) =>
    (match s.faults.ring.find? (fun x => x.seq == v) with
    | some x => if s.causeGone x then (.ok, s.clearFault v) else (.state, s.fltRefused)
    | none => (.state, s.fltRefused))
  | (0x7100, 1) =>
    let t := s.dictStore idx sub bs
    (.ok, { t with images := { t.images with nextOffset := 0 } })
  | (0x7100, 2) =>
    if bs.isEmpty then (.range, s)
    else if off ≠ s.images.nextOffset then (.segment, s)
    else
      let t := s.fwWrite (s.dictNat 0x7100 1 1) off bs
      (.ok, { t with images := { t.images with nextOffset := off + bs.length } })
  | (0x7100, 3) => if v = 0 then (.ok, s) else let p := s.fwCommit (s.dictNat 0x7100 1 1); (if p.1 then .ok else .range, p.2)
  | (0x9000, 1) =>
    if !s.boot.windowOpen then (.state, s)
    else if off ≠ 0 then (.segment, s)
    else if s.tokenValid bs then (.ok, s.acceptToken) else (.range, s)
  | _ => (.ok, (s.dictStore idx sub bs).syncT1s)

/-- Whether an access code admits a write now (R433). -/
def State.dictWritable (s : State) (idx : Nat) (e : DictEntry) : Bool :=
  match e.acc with
  | .wo => true
  | .rw => !decide (0x9000 ≤ idx ∧ idx ≤ 0x9FFF) || s.isSet .hkBoot Fld.hkBoot_FACTORY
  | _ => false

/-- One write through an interface, before its journal entry: type code as sent, or the entry's own where the interface
carries none (R437). -/
def State.dictTry (s : State) (idx sub : Nat) (type : Option Nat) (off : Nat) (bs : List Byte) : DictStatus × State :=
  match dictEntry idx sub with
  | none => (.noEntry, s)
  | some e =>
    if !s.dictWritable idx e then (.access, s)
    else if type.getD e.type ≠ e.type then (.type, s)
    else if typeCheck e.type bs = .type then (.type, s)
    else if idx = 0x9000 ∧ sub = 1 then s.dictApply idx sub off bs
    else if typeCheck e.type bs ≠ .ok ∨ !rangeCheck idx sub (ofLe bs) then (.range, s)
    else s.dictApply idx sub off bs

/-- One write through an interface with its journal entry (R445, R446). -/
def State.dictWrite (s : State) (source origin idx sub : Nat) (type : Option Nat) (off : Nat) (bs : List Byte) :
    DictStatus × State :=
  let p := s.dictTry idx sub type off bs
  let ty := match dictEntry idx sub with
    | some e => e.type
    | none => type.getD 0
  let old := if idx = 0x7100 ∧ sub = 2 then off else match dictEntry idx sub with
    | some e => if e.acc = .wo then 0 else journalValue e.type (s.dictValue idx sub e)
    | none => 0
  (p.1, p.2.journalAdd source origin p.1.code idx sub ty old (journalValue (type.getD ty) bs))

/-- One read through an interface: status, type and value (R433). -/
def State.dictRead (s : State) (idx sub : Nat) : DictStatus × Nat × List Byte :=
  match dictEntry idx sub with
  | none => (.noEntry, 0, [])
  | some e => if e.acc = .wo then (.access, e.type, []) else (.ok, e.type, s.dictValue idx sub e)

/-- Whether the housekeeping island is at S0 or above. -/
def State.serving (s : State) : Bool :=
  s.doms.hk && !(s.boot.phase == .off) && !(s.boot.phase == .stage 1)

/-! ### The 10BASE-T1S pair (R440 to R444) -/

/-- The port takes requests now. -/
def State.t1sOn (s : State) : Bool := s.serving && s.dictNat 0x1010 4 1 == 1

/-- Keep a response as the last of its source; 16 sources are remembered (R443). -/
def State.keepResponse (s : State) (k : T1sKept) : State :=
  { s with dict := { s.dict with t1sKept := (k :: s.dict.t1sKept.filter (fun x => x.mac != k.mac)).take 16 } }

/-- A request that repeats the last SEQ of its source within 1 s (R443). -/
def State.t1sRepeat (s : State) (q : T1sRequest) : Option T1sResponse :=
  (s.dict.t1sKept.find? (fun k => k.mac == q.mac && k.seq == q.seq && decide (s.now ≤ k.time + 1000000000))).map (·.response)

/-- Put a response in hand. -/
def State.t1sAnswer (s : State) (r : T1sResponse) : State := { s with dict := { s.dict with t1sHand := s.dict.t1sHand ++ [r] } }

/-- Serve one request: a repeated one gets its kept response, a ninth in hand BUSY, any other is executed (R443). -/
def State.t1sServe (s : State) (q : T1sRequest) (respOp : Nat) (run : State → T1sResponse × State) : State :=
  if !s.t1sOn then s
  else match s.t1sRepeat q with
  | some r => s.emit (.t1s r)
  | none =>
    if 8 ≤ s.dict.t1sHand.length then
      (s.bump .hkT1s Fld.hkT1s_BUSY_SENT).emit (.t1s ⟨q.mac, respOp, q.seq, q.index, q.sub, q.type, 6, q.offset, []⟩)
    else
      let p := run s
      (p.2.t1sAnswer p.1).keepResponse ⟨q.mac, q.seq, s.now, p.1⟩

/-- The response to a READ: the value, or a DOMAIN's segment from OFFSET to its end (R442). -/
def State.t1sReadRun (q : T1sRequest) (s : State) : T1sResponse × State :=
  let p := s.dictRead q.index q.sub
  let bs := if p.2.1 = 9 then p.2.2.drop q.offset else p.2.2
  let st := if p.1 = .ok ∧ p.2.1 = 9 ∧ p.2.2.length < q.offset then DictStatus.segment else p.1
  (⟨q.mac, 0x81, q.seq, q.index, q.sub, p.2.1, st.code, q.offset, bs⟩, s)

/-- T1S_READ (R442). -/
def execT1sRead (req : T1sRequest) (s : State) : Host.Outcome State Fault Refusal :=
  .next (s.t1sServe req 0x81 (State.t1sReadRun req))

/-- The response to a WRITE (R442). -/
def State.t1sWriteRun (q : T1sRequest) (s : State) : T1sResponse × State :=
  let p := s.dictWrite 3 q.mac q.index q.sub (some q.type) q.offset q.data
  (⟨q.mac, 0x82, q.seq, q.index, q.sub, q.type, p.1.code, q.offset, []⟩, p.2)

/-- T1S_WRITE (R442). -/
def execT1sWrite (req : T1sRequest) (s : State) : Host.Outcome State Fault Refusal :=
  .next (s.t1sServe req 0x82 (State.t1sWriteRun req))

/-- The 32 B value of an ANNOUNCE (R442). -/
def State.announceValue (s : State) : List Byte :=
  partNumber ++ steppingName s.a0 ++ serialNumber ++ toLe 1 (s.fld .hkShape Fld.hkShape_SVC_LEVEL) ++ toLe 1 (s.dictNat 0x1010 1 255) ++ zeros 3

/-- The response to a DISCOVER. -/
def State.discoverRun (q : T1sRequest) (s : State) : T1sResponse × State :=
  (⟨q.mac, 0x83, q.seq, q.index, q.sub, 9, 0, 0, s.announceValue⟩, s)

/-- DISCOVER (R442). -/
def execDiscover (req : T1sRequest) (s : State) : Host.Outcome State Fault Refusal :=
  .next (s.t1sServe req 0x83 (State.discoverRun req))

/-- The response to any other OP: its own value OR 0x80, and ACCESS. -/
def State.unknownOpRun (q : T1sRequest) (s : State) : T1sResponse × State :=
  (⟨q.mac, q.op % 256 ||| 0x80, q.seq, q.index, q.sub, q.type, 2, q.offset, []⟩, s)

/-- T1S_UNKNOWN_OP (R442). -/
def execT1sUnknownOp (req : T1sRequest) (s : State) : Host.Outcome State Fault Refusal :=
  .next (if req.op = 1 ∨ req.op = 2 ∨ req.op = 3 then s
  else s.t1sServe req (req.op % 256 ||| 0x80) (State.unknownOpRun req))

/-- KEPT_FLASH_WRITE: a flash write of the kept entries completes (R434). -/
def execKeptFlashWrite (s : State) : Host.Outcome State Fault Refusal :=
  .next { s with dict := { s.dict with flash := s.dict.flash.finish (keptPart s.dict.stored) } }

/-! ### The headlamp port (R449 to R454) -/

/-- The port receives now: S0 or above, HEADLAMP_EN, no reply pending (R454). -/
def State.lampOn (s : State) : Bool := s.serving && s.dictNat 0x1020 3 1 == 1 && s.dict.lampReply.isNone

/-- A frame was accepted, or the silence after a discard has passed: the reply follows 5 ms later. -/
def State.lampAnswer (s : State) (ambient : Nat) (r : LampReply) : State :=
  let s1 := (s.put .hkHeadlamp Fld.hkHeadlamp_BUSY 1).put .hkHeadlamp Fld.hkHeadlamp_AMBIENT ambient
  { s1 with dict := { s1.dict with lampReply := some r } }

/-- An accepted frame is counted. -/
def State.lampAccept (s : State) (ambient : Nat) (r : LampReply) : State :=
  (s.bump .hkHeadlamp Fld.hkHeadlamp_ACCEPTED).lampAnswer ambient r

/-- IDENTIFY (R453); `ambient` is the highest level measured while the frame arrived. -/
def execIdentify (ambient : BitVec 8) (s : State) : Host.Outcome State Fault Refusal :=
  .next (if s.lampOn then
    s.lampAccept ambient.toNat ⟨0x81, partNumber ++ steppingName s.a0 ++ serialNumber ++ toLe 1 (s.fld .hkShape Fld.hkShape_SVC_LEVEL) ++
      toLe 1 (s.dictNat 0x1020 1 0) ++ [ambient]⟩
  else s)

/-- CODE of the newest open Fatal record, or 0. -/
def State.newestFatalCode (s : State) : Nat :=
  (s.faults.ring.foldl (fun (best : Option FaultRec) x =>
    if x.openFatal then
      match best with
      | some y => if s.seqAge x.seq < s.seqAge y.seq then some x else best
      | none => some x
    else best) none).map (·.code) |>.getD 0

/-- The hottest die, in 1/16 °C. -/
def State.hottest (s : State) : Int := ([1, 2, 3, 4, 5, 6, 7, 8].map (fun i => s.dieTemp (Fin.ofNat 9 i))).foldl max (s.dieTemp 0)

/-- READ_SUMMARY (R453). -/
def execReadSummary (ambient : BitVec 8) (s : State) : Host.Outcome State Fault Refusal :=
  .next (if s.lampOn then
    s.lampAccept ambient.toNat ⟨0x82, toLe 1 (s.fld .hkShape Fld.hkShape_SVC_LEVEL) ++ toLe 1 s.mode ++
      toLe 2 (s.fld .fltStatus Fld.fltStatus_OPEN_UCC) ++ toLe 1 (min 255 (s.fld .fltStatus Fld.fltStatus_OPEN_FATAL)) ++
      toLe 1 (s.dictNat 0x1020 1 0) ++ toLe 2 s.newestFatalCode ++ toLe 2 (unsign 16 s.hottest) ++
      toLe 4 (s.dictNat 0x1020 2 0) ++ [ambient]⟩
  else s)

/-- TAG_FOR_REPLACEMENT: two journalled writes with source 4 (R453). -/
def execTagForReplacement (workOrder : BitVec 32) (ambient : BitVec 8) (s : State) : Host.Outcome State Fault Refusal :=
  .next (if s.lampOn then
    let p := s.dictWrite 4 0 0x1020 2 none 0 (toLe 4 workOrder.toNat)
    let q := p.2.dictWrite 4 0 0x1020 1 none 0 [1]
    q.2.lampAccept ambient.toNat ⟨0x83, [BitVec.ofNat 8 (if p.1 = .ok ∧ q.1 = .ok then 0 else 5), ambient]⟩
  else s)

/-- HEADLAMP_REJECT: a discarded frame, then 4 bit times of silence; reasons 1 to 5 (R452). -/
def execHeadlampReject (reason : Fin 5) (ambient : BitVec 8) (s : State) : Host.Outcome State Fault Refusal :=
  .next (if s.lampOn then s.lampAnswer ambient.toNat ⟨0xFF, [BitVec.ofNat 8 (reason.val + 1), ambient]⟩ else s)

/-- HEADLAMP_REPLY: the reply is transmitted (R454). -/
def execHeadlampReply (s : State) : Host.Outcome State Fault Refusal :=
  .next (match s.dict.lampReply with
  | none => s
  | some r =>
    let s1 := ({ s with dict := { s.dict with lampReply := none } }).put .hkHeadlamp Fld.hkHeadlamp_BUSY 0
    let s2 := if r.cmd = 0xFF then (s1.bump .hkHeadlamp Fld.hkHeadlamp_REJECTED).put .hkHeadlamp Fld.hkHeadlamp_LAST_REASON
        ((r.data.getD 0 0).toNat) else s1
    s2.emit (.lamp r))

end Sys2Proof.Machine
end

