-- ==== Sys2Proof/Machine/Harts.lean ====
section
/-! DEFINITION. Basecamp's harts as the device starts, stops and interrupts them: BC_HART (R373), the timers (R372) and the
interrupt controller (R379 to R382). -/

namespace Sys2Proof.Machine

/-- A hart beside its registers. -/
def State.hart (s : State) (h : Nat) : HartState := s.camp.harts.getD h ⟨0, 0, false, false⟩

/-- The state with one hart replaced. -/
def State.setHart (s : State) (h : Nat) (x : HartState) : State :=
  { s with camp := { s.camp with harts := s.camp.harts.set h x } }

/-- Where a hart starts: the boot ROM for hart 0, BC_RESET_VEC for the others (R373). -/
def State.startPc (s : State) (h : Nat) : Nat := if h = 0 then romBase else s.fld .bcResetVec Fld.bcResetVec_ADDR

/-- A hart starts in machine mode. -/
def State.startHart (s : State) (h : Nat) : State := s.setHart h { s.hart h with pc := s.startPc h }

/-- A hart is reset: dirty lines still in its data cache are discarded; the L2 of its cluster keeps its own (R373). Its machine
timer belongs to the controller and stays. -/
def State.stopHart (s : State) (h : Nat) : State :=
  ({ s with camp := { s.camp with cache := s.camp.cache.filter (fun l => !(l.dirty && l.hart == some h)) } }).setHart h
    ⟨0, 0, (s.hart h).mtip, false⟩

/-- A write of RUN: every bit that rises starts its hart, every bit that falls resets it (R373). -/
def State.runHarts (s : State) (run : Nat) : State :=
  let old := s.fld .bcHart Fld.bcHart_RUN
  (List.range 24).foldl (fun (t : State) h =>
      if run.testBit h && !old.testBit h then t.startHart h
      else if old.testBit h && !run.testBit h then t.stopHart h else t)
    (s.put .bcHart Fld.bcHart_RUN run)

/-- HART_RUN: software writes RUN in BC_HART (R373). -/
def execHartRun (run : BitVec 24) (s : State) : Host.Outcome State Fault Refusal :=
  .next (if s.doms.main then s.runHarts run.toNat else s)

/-- The source names an event line (R379): 0, 13 to 15 and 48 to 63 name none. -/
def irqLine (src : Nat) : Bool := (1 ≤ src && src ≤ 12) || (16 ≤ src && src ≤ 47)

/-- IRQ_EVENT: an event on a source sets PEND, or merges with one that waits (R379, R380). -/
def execIrqEvent (src : Fin 64) (s : State) : Host.Outcome State Fault Refusal :=
  .next (if irqLine src.val then s.irq src else s)

/-- Source `src` is offered to mode `m` of hart `h` (R380). -/
def State.offered (s : State) (h : Fin 24) (m : Fin 2) (src : Fin 64) : Bool :=
  let w := s.get (.bcIrqRoute src)
  fget w Fld.bcIrqRoute_EN == 1 && fget w Fld.bcIrqRoute_PEND == 1 && fget w Fld.bcIrqRoute_ACTIVE == 0 &&
  fget w Fld.bcIrqRoute_HART == h.val && fget w Fld.bcIrqRoute_MODE == m.val && fget w Fld.bcIrqRoute_PRIO != 0 &&
  decide (s.fld (.bcIrqThreshold h m) Fld.bcIrqThreshold_THRESHOLD < fget w Fld.bcIrqRoute_PRIO)

/-- The better of two sources: higher PRIO, then the lower number, which comes first (R380). -/
def State.betterSource (s : State) (best : Option (Fin 64)) (src : Fin 64) : Option (Fin 64) :=
  match best with
  | none => some src
  | some b =>
    if s.fld (.bcIrqRoute b) Fld.bcIrqRoute_PRIO < s.fld (.bcIrqRoute src) Fld.bcIrqRoute_PRIO then some src else some b

/-- The source that CLAIM returns, if one is offered (R380). -/
def State.claimable (s : State) (h : Fin 24) (m : Fin 2) : Option (Fin 64) :=
  ((List.finRange 64).filter (s.offered h m)).foldl s.betterSource none

/-- The controller asserts MEIP (mode 0) or SEIP (mode 1) of a hart (R380). -/
def State.externalIrq (s : State) (h : Fin 24) (m : Fin 2) : Bool := (s.claimable h m).isSome

/-- A claim: PEND of the source clears, unless an event arrives in the same cycle, and ACTIVE sets (R380). -/
def State.claim (s : State) (h : Fin 24) (m : Fin 2) (again : Bool) : Nat × State :=
  match s.claimable h m with
  | none => (0, s)
  | some src => (src.val, (s.put (.bcIrqRoute src) Fld.bcIrqRoute_PEND (b2n again)).put (.bcIrqRoute src) Fld.bcIrqRoute_ACTIVE 1)

/-- CLAIM: a hart reads CLAIM of a context; `again` says that an event on the claimed source arrives in the same cycle. Two
harts that read in one cycle are two commands, the lower-numbered hart's first (R380). -/
def execClaim (h : Fin 24) (m : Fin 2) (again : Bool) (s : State) : Host.Outcome State Fault Refusal :=
  .next (if s.doms.main then
    let p := s.claim h m again
    p.2.emit (.claim h.val m.val p.1)
  else s)

/-- A completion: ACTIVE of a source that is active in this context clears (R380). -/
def State.complete (s : State) (h : Fin 24) (m : Fin 2) (src : Fin 64) : State :=
  let w := s.get (.bcIrqRoute src)
  if fget w Fld.bcIrqRoute_ACTIVE = 1 ∧ fget w Fld.bcIrqRoute_HART = h.val ∧ fget w Fld.bcIrqRoute_MODE = m.val then
    s.put (.bcIrqRoute src) Fld.bcIrqRoute_ACTIVE 0
  else s

/-- COMPLETE: software writes a source number to COMPLETE of a context (R380). -/
def execComplete (h : Fin 24) (m : Fin 2) (src : Fin 64) (s : State) : Host.Outcome State Fault Refusal :=
  .next (if s.doms.main then s.complete h m src else s)

/-- MSIP after bits are cleared and bits are set; a bit that both name stays set (R381). -/
def State.setMsip (s : State) (clear set : Nat) : State :=
  s.put .bcIrqMsip Fld.bcIrqMsip_MSIP (clearBits (s.fld .bcIrqMsip Fld.bcIrqMsip_MSIP) clear ||| set)

/-- MSIP_SET: software writes BC_IRQ_MSIP_SET (R381). -/
def execMsipSet (mask : BitVec 24) (s : State) : Host.Outcome State Fault Refusal :=
  .next (if s.doms.main then s.setMsip 0 mask.toNat else s)

/-- MSIP_CLEAR: software writes BC_IRQ_MSIP; `set` are the bits that BC_IRQ_MSIP_SET sets in the same cycle (R381). -/
def execMsipClear (mask set : BitVec 24) (s : State) : Host.Outcome State Fault Refusal :=
  .next (if s.doms.main then s.setMsip mask.toNat set.toNat else s)

/-- The machine timer of a hart follows its comparison (R372, R382). -/
def State.compareTimer (s : State) (h : Fin 24) : State :=
  s.setHart h.val { s.hart h.val with mtip := decide (s.fld (.bcIrqTimecmp h) Fld.bcIrqTimecmp_CMP ≤ s.now) }

/-- MACHINE_TIMER: mtime is compared with BC_IRQ_TIMECMP of a hart (R372). -/
def execMachineTimer (h : Fin 24) (s : State) : Host.Outcome State Fault Refusal :=
  .next (if s.doms.main then s.compareTimer h else s)

/-- SUPERVISOR_TIMER: the time value is compared with stimecmp of a hart, which holds `cmp` (R372). -/
def execSupervisorTimer (h : Fin 24) (cmp : Word) (s : State) : Host.Outcome State Fault Refusal :=
  .next (if s.doms.main then
    s.setHart h.val { s.hart h.val with stimecmp := cmp.toNat, stip := decide (cmp.toNat ≤ s.now) }
  else s)

end Sys2Proof.Machine
end

