-- ==== Sys2Proof/Machine/Swap.lean ====
section
/-! DEFINITION. The swap queues (R61). -/

namespace Sys2Proof.Machine

/-- The swap engine as a requester: queue `q` of the moraine controller. -/
def swapReq (q : Fin 8) : Requester := ⟨4, 9, q.val⟩

/-- Device address of descriptor `i` of queue `q`. -/
def State.swapDesc (s : State) (q : Fin 8) (i : Nat) : Nat := s.fld (.morSwapqBase q) Fld.morSwapqBase_BASE + 32 * (i % 4096)

/-- A range lies wholly within the near tier, the moraine tier or the host window (R61). -/
def swapRange (a n : Nat) : Bool :=
  decide (a + n ≤ 2 ^ 39) || decide (morBase ≤ a ∧ a + n ≤ morEnd) || decide (hostBase ≤ a ∧ a + n ≤ hostEnd)

/-- The descriptor check before a transfer starts (R61). -/
def swapValid (src dst len : Nat) : Bool :=
  decide (1 ≤ len ∧ len ≤ 16) && src % 2 ^ 16 == 0 && dst % 2 ^ 16 == 0 && swapRange src (len * 2 ^ 16) && swapRange dst (len * 2 ^ 16)

/-- Whether another descriptor waits to be taken. -/
def State.swapReady (s : State) (q : Fin 8) : Bool :=
  s.isSet (.morSwapqBase q) Fld.morSwapqBase_EN && (s.tiers.swap.getD q.val none).isNone &&
  s.fld (.morSwapqPtr q) Fld.morSwapqPtr_TAKEN != s.fld (.morSwapqPtr q) Fld.morSwapqPtr_SUBMIT

/-- Queue service is throttled to zero for a transfer, on a tier of its source or destination (R71). -/
def State.swapThrottled (s : State) (src dst : Nat) : Bool :=
  (contractTier src true).any s.swapAtZero || (contractTier dst false).any s.swapAtZero

/-- A transfer goes in bursts of 4 KiB, charged to KV swap (R61, R68). -/
def State.swapShort (s : State) (q : Fin 8) (x : SwapXfer) : List StalledBurst :=
  s.shortBursts (swapReq q) x.src true 1 4096 ++ s.shortBursts (swapReq q) x.dst false 1 4096

/-- STATUS of a descriptor as memory holds it. -/
def State.swapStatus (s : State) (q : Fin 8) (i : Nat) : Nat := ofLe (s.peek (s.swapDesc q i + 25) 1)

/-- A descriptor ends: STATUS is written, DONE advances, and SWAP_DONE is raised when asked (R61, R379, R472). -/
def State.swapEnd (s : State) (q : Fin 8) (i flags status : Nat) : State :=
  let s1 := s.writeMem (swapReq q) 0 (s.swapDesc q i + 25) (toLe 1 status)
  let s2 := s1.put (.morSwapqPtr q) Fld.morSwapqPtr_DONE ((i + 1) % 4096)
  if flags % 2 = 1 then s2.notify 12 12 else s2

/-- SWAP_DESC_TAKE (R61). -/
def execSwapDescTake (q : Fin 8) (s : State) : Host.Outcome State Fault Refusal :=
  let i := s.fld (.morSwapqPtr q) Fld.morSwapqPtr_TAKEN
  let d := s.peek (s.swapDesc q i) 32
  .next (if s.swapReady q && s.swapStatus q i != 4 && !s.swapThrottled (leAt d 0 8) (leAt d 8 8) then
    let x : SwapXfer := ⟨i, leAt d 0 8, leAt d 8 8, leAt d 16 4, leAt d 24 1, leAt d 20 4⟩
    let s1 := s.put (.morSwapqPtr q) Fld.morSwapqPtr_TAKEN ((i + 1) % 4096)
    if swapValid x.src x.dst x.len then
      let reqs := (if inHostWindow x.src then [s.hostRequest (swapReq q) true x.src (x.len * 2 ^ 16)] else []) ++
        (if inHostWindow x.dst then [s.hostRequest (swapReq q) false x.dst (x.len * 2 ^ 16)] else [])
      { s1 with tiers := { s1.tiers with swap := s1.tiers.swap.set q.val (some x),
                                         stalledBursts := s1.tiers.stalledBursts ++ s.swapShort q x },
                pcie := { s1.pcie with requests := s1.pcie.requests ++ reqs } }
    else s1.swapEnd q i x.flags 5
  else s)

/-- SWAP_DESC_SKIP: a descriptor cancelled with STATUS 4 before it was taken (R61). -/
def execSwapDescSkip (q : Fin 8) (s : State) : Host.Outcome State Fault Refusal :=
  let i := s.fld (.morSwapqPtr q) Fld.morSwapqPtr_TAKEN
  .next (if s.swapReady q && s.swapStatus q i == 4 then
    (s.put (.morSwapqPtr q) Fld.morSwapqPtr_TAKEN ((i + 1) % 4096)).put (.morSwapqPtr q) Fld.morSwapqPtr_DONE ((i + 1) % 4096)
  else s)

/-- STATUS that a failed access gives a transfer (R61). -/
def swapFailure : MemStatus → Nat
  | .unmapped => 3
  | .hostError => 2
  | _ => 1

/-- Move `n` bursts of 4 KiB; the answer is the final STATUS. A failed burst stops the transfer and writes nothing. -/
def State.swapMove (q : Fin 8) : Nat → State → Nat → Nat → Nat → Nat × State
  | 0, s, _, _, st => (st, s)
  | n + 1, s, src, dst, st =>
    let p := s.readBytes (swapReq q) 0 src 4096
    if p.2.1 = .unmapped ∨ p.2.1 = .hostError then (swapFailure p.2.1, p.2.2)
    else
      let w := p.2.2.writeBytes (swapReq q) 0 dst p.1
      if w.1 = .unmapped ∨ w.1 = .hostError then (swapFailure w.1, w.2)
      else State.swapMove q n w.2 (src + 4096) (dst + 4096) (if p.2.1 = .uncorrectable then 6 else st)

/-- The transfer waits: for the host link, for a tier, or for its contract (R55, R59, R65, R68, R469, R470). -/
def State.swapWaits (s : State) (q : Fin 8) (x : SwapXfer) : Bool :=
  (inHostWindow x.src || inHostWindow x.dst) && s.hostWaits && !s.pcie.expired.any (fun e => decide (e.req = swapReq q)) ||
  s.mustWaitAny [(x.src, x.len * 2 ^ 16), (x.dst, x.len * 2 ^ 16)] || s.burstStalled (swapReq q)

/-- SWAP_DESC_DONE: the transfer ends, or stops on a failed access; bursts before that access stand (R61). -/
def execSwapDescDone (q : Fin 8) (s : State) : Host.Outcome State Fault Refusal :=
  .next (match s.tiers.swap.getD q.val none with
  | none => s
  | some x =>
    if s.swapWaits q x then s
    else
      let r := State.swapMove q (16 * x.len) s x.src x.dst 1
      let s1 := { r.2 with tiers := { r.2.tiers with swap := r.2.tiers.swap.set q.val none } }
      (s1.hostSettled (swapReq q) [(x.src, x.len * 2 ^ 16), (x.dst, x.len * 2 ^ 16)]).swapEnd q x.index x.flags r.1)

end Sys2Proof.Machine
end

