-- ==== Sys2Proof/Machine/Kv.lean ====
section
/-! DEFINITION. The KV frame manager: frames, sequences, page tables, swaps and its commands (R75 to R100). -/

namespace Sys2Proof.Machine

/-- The frame manager as the source of an event (R407). -/
def kvReq : Requester := ⟨4, 14, noInst⟩

/-! ### Pages and frames (R76 to R81) -/

/-- Bytes of one head of a page; `fp8` false is MX-FP4 (R76). -/
def kvHeadBytes (fp8 : Bool) : Nat := if fp8 then 67584 else 34816

/-- Bytes of a page without its trailer (R76). -/
def kvBody (fp8 : Bool) (heads : Nat) : Nat := heads * kvHeadBytes fp8

/-- Bytes of a frame (R78). -/
def State.kvFrameSize (s : State) : Nat := 2 ^ (16 + s.fld .ntKvCfg Fld.ntKvCfg_FRAME_SIZE)

/-- A pool number as an index. -/
def poolIx (t : Nat) : Fin 3 := Fin.ofNat 3 t

/-- Device address of a frame (R79). -/
def State.kvAddr (s : State) (pool frame : Nat) : Nat :=
  s.fld (.ntKvPool (poolIx pool)) Fld.ntKvPool_BASE * 2 ^ 16 + frame * s.kvFrameSize

/-- The frame manager is enabled. -/
def State.kvOn (s : State) : Bool := s.doms.main && s.isSet .ntKvCfg Fld.ntKvCfg_EN

/-- Replace the manager's own state. -/
def State.setKv (s : State) (k : KvState) : State := { s with kv := k }

/-- Field of NT_KV_BOOK that counts a frame state: 0 FREE, 1 ALLOCATED, 2 IN_FLIGHT (R80). -/
def bookField : Nat → Fld
  | 0 => Fld.ntKvBook_FREE
  | 1 => Fld.ntKvBook_ALLOC
  | _ => Fld.ntKvBook_INFLIGHT

/-- A transition changes two counts of a pool in one write (R81). -/
def State.kvBook (s : State) (pool src dst : Nat) : State :=
  let r : Reg := .ntKvBook (poolIx pool)
  let w := s.get r
  let w1 := fput w (bookField src) (fget w (bookField src) - 1)
  s.set r (fput w1 (bookField dst) (fget w1 (bookField dst) + 1))

/-- TRAIN_USED changes with the frame transition that causes it (R100). -/
def State.kvTrain (s : State) (pool : Nat) (train up : Bool) : State :=
  if train then
    let r : Reg := .ntKvResv (poolIx pool)
    let n := s.fld r Fld.ntKvResv_TRAIN_USED
    s.put r Fld.ntKvResv_TRAIN_USED (if up then n + 1 else n - 1)
  else s

/-- The book's state number of a frame. -/
def KvFrame.state (f : KvFrame) : Nat := if f.moving then 2 else 1

/-- The entry of a frame that is not FREE. -/
def State.kvFrameOf (s : State) (pool frame : Nat) : Option KvFrame :=
  s.kv.frames.find? (fun f => f.pool == pool && f.frame == frame)

/-- A FREE frame becomes ALLOCATED or IN_FLIGHT (R81). -/
def State.kvTake (s : State) (pool frame : Nat) (moving train : Bool) : State :=
  let f : KvFrame := ⟨pool, frame, moving, train⟩
  ((s.setKv { s.kv with frames := s.kv.frames ++ [f] }).kvBook pool 0 f.state).kvTrain pool train true

/-- A frame goes between ALLOCATED and IN_FLIGHT (R81). -/
def State.kvShift (s : State) (pool frame : Nat) (moving : Bool) : State :=
  match s.kvFrameOf pool frame with
  | none => s
  | some f =>
    if f.moving = moving then s
    else (s.setKv { s.kv with frames := s.kv.frames.map (fun g =>
      if g = f then ({ g with moving := moving } : KvFrame) else g) }).kvBook pool f.state (if moving then 2 else 1)

/-- A frame becomes FREE (R81). -/
def State.kvFree (s : State) (pool frame : Nat) : State :=
  match s.kvFrameOf pool frame with
  | none => s
  | some f => ((s.setKv { s.kv with frames := s.kv.frames.filter (fun g => decide (g ≠ f)) }).kvBook pool f.state 0).kvTrain
      pool f.train false

/-- The `n`-th number that does not stand in a rising list. -/
def nthFree : List Nat → Nat → Nat
  | [], n => n
  | u :: us, n => nthFree us (if u ≤ n then n + 1 else n)

/-- Frames of a pool that are not FREE, rising. -/
def State.kvUsed (s : State) (pool : Nat) : List Nat :=
  insertSort (fun a b => decide (a < b)) ((s.kv.frames.filter (fun f => f.pool == pool)).map KvFrame.frame)

/-- FREE of a pool. -/
def State.kvFreeCount (s : State) (pool : Nat) : Nat := s.fld (.ntKvBook (poolIx pool)) Fld.ntKvBook_FREE

/-- Frames of a pool that the training reservation still holds back (R96). -/
def State.kvHeldBack (s : State) (pool : Nat) : Nat :=
  s.fld (.ntKvResv (poolIx pool)) Fld.ntKvResv_TRAIN_RESV - s.fld (.ntKvResv (poolIx pool)) Fld.ntKvResv_TRAIN_USED

/-- Frames of a pool that a sequence that is not a training one may take now (R96). -/
def State.kvAvail (s : State) (pool : Nat) : Nat := s.kvFreeCount pool - s.kvHeldBack pool

/-- An allocation from a pool may succeed now (R96). -/
def State.kvMayTake (s : State) (pool : Nat) (train : Bool) : Bool :=
  if train then
    s.fld (.ntKvResv (poolIx pool)) Fld.ntKvResv_TRAIN_USED < s.fld (.ntKvResv (poolIx pool)) Fld.ntKvResv_TRAIN_RESV &&
    0 < s.kvFreeCount pool
  else 0 < s.kvAvail pool

/-- The FREE frame that an allocation takes: the manual does not say which (log entry 11), so a free value picks it. -/
def State.kvPick (s : State) (pool : Nat) : Nat := nthFree (s.kvUsed pool) (s.freeVal % max 1 (s.kvFreeCount pool))

/-! ### Sequences and the page table (R82 to R84) -/

/-- Device address of a sequence descriptor (R82). -/
def State.seqAddr (s : State) (n : Nat) : Nat := s.fld .ntKvSeqBase Fld.ntKvSeqBase_BASE / 64 * 64 + 64 * n

/-- A field of a sequence descriptor (R82). -/
def State.seqGet (s : State) (n off len : Nat) : Nat := ofLe (s.peek (s.seqAddr n + off) len)

/-- The device writes a field of a sequence descriptor (R82). -/
def State.seqPut (s : State) (n off len v : Nat) : State := s.writeMem kvReq 0 (s.seqAddr n + off) (toLe len v)

/-- LAYERS, HEADS and STATE of a sequence; FLAGS[0] forbids FP8. -/
def State.seqLayers (s : State) (n : Nat) : Nat := s.seqGet n 4 2
def State.seqHeads (s : State) (n : Nat) : Nat := s.seqGet n 6 1
def State.seqFp4Only (s : State) (n : Nat) : Bool := s.seqGet n 7 1 % 2 == 1
def State.seqClass (s : State) (n : Nat) : Nat := s.seqGet n 16 1
def State.seqState (s : State) (n : Nat) : Nat := s.seqGet n 18 1
def State.seqStride (s : State) (n : Nat) : Nat := s.seqGet n 19 1
def State.seqInflight (s : State) (n : Nat) : Nat := s.seqGet n 20 4

/-- The sequence is a training sequence. -/
def State.seqTrain (s : State) (n : Nat) : Bool := s.seqClass n == 0

/-- STATE of a sequence changes. -/
def State.setSeqState (s : State) (n v : Nat) : State := s.seqPut n 18 1 v

/-- INFLIGHT of a sequence, one up or down. -/
def State.seqInflightAdd (s : State) (n : Nat) (up : Bool) : State :=
  s.seqPut n 20 4 (if up then s.seqInflight n + 1 else s.seqInflight n - 1)

/-- A page-table entry (R83). -/
structure Pte where
  gen : Nat
  tier : Nat
  fmt : Nat
  full : Bool
  moving : Bool
  frame : Nat
deriving DecidableEq, Repr

/-- A page-table entry from its word. -/
def Pte.ofNat (w : Nat) : Pte := ⟨bits w 63 32, bits w 31 30, bits w 29 28, bit w 27, bit w 26, bits w 23 0⟩

/-- The word of a page-table entry. -/
def Pte.toNat (p : Pte) : Nat :=
  p.gen % 2 ^ 32 * 2 ^ 32 + p.tier % 4 * 2 ^ 30 + p.fmt % 4 * 2 ^ 28 + b2n p.full * 2 ^ 27 + b2n p.moving * 2 ^ 26 + p.frame % 2 ^ 24

/-- Device address of a page-table entry (R83). -/
def State.pteAddr (s : State) (n l p : Nat) : Nat := s.seqGet n 8 8 + (l * 2 ^ s.seqStride n + p) * 8

/-- A page-table entry as memory holds it. -/
def State.pte (s : State) (n l p : Nat) : Pte := Pte.ofNat (ofLe (s.peek (s.pteAddr n l p) 8))

/-- The device writes a page-table entry (R83). -/
def State.setPte (s : State) (n l p : Nat) (e : Pte) : State := s.writeMem kvReq 0 (s.pteAddr n l p) (toLe 8 e.toNat)

/-- The pages of a sequence that are not absent, as `(layer, page)`. -/
def State.seqPages (s : State) (n : Nat) : List (Nat × Nat) :=
  ((List.range (s.seqLayers n)).flatMap (fun l => (List.range (2 ^ s.seqStride n)).map (fun p => (l, p)))).filter
    (fun x => (s.pte n x.1 x.2).tier != 0)

/-- Sequence numbers of the table in some state. -/
def State.seqsIn (s : State) (st : Nat → Bool) : List Nat :=
  (List.range (s.fld .ntKvCfg Fld.ntKvCfg_SEQ_COUNT)).filter (fun n => st (s.seqState n))

/-! ### Events (R95) -/

/-- The evaluation slice sees the events of its sequences (R249). -/
def JobState.saw (j : JobState) (n code : Nat) : JobState :=
  { j with evals := j.evals.map (fun e =>
      if e.seq = n ∧ e.admitted = true then
        (if code = 6 then { e with preempted := true } else if 3 ≤ code then { e with ended := code } else e)
      else e) }

/-- The frame manager posts an event, or counts it as lost (R95). -/
def State.kvEvent (s0 : State) (n code : Nat) : State :=
  let s := { s0 with job := s0.job.saw n code }
  let head := s.fld .ntKvEvqPtr Fld.ntKvEvqPtr_HEAD
  let s1 := if (head + 1) % 1024 = s.fld .ntKvEvqPtr Fld.ntKvEvqPtr_TAIL then s.bump .ntKvEvqPtr Fld.ntKvEvqPtr_OVERFLOW
    else (s.writeMem kvReq 0 (s.fld .ntKvEvqBase Fld.ntKvEvqBase_BASE + 16 * head)
      (toLe 8 s.now ++ toLe 2 n ++ toLe 1 code ++ zeros 5)).put .ntKvEvqPtr Fld.ntKvEvqPtr_HEAD ((head + 1) % 1024)
  s1.notify 3 5

/-- DETAIL of a record that names a page: sequence, layer, page (R92; the packing is the model's, log entry 11). -/
def pageDetail (n l p : Nat) : Nat := n * 2 ^ 48 + l * 2 ^ 32 + p

/-! ### Moves (R61, R97) -/

/-- The ring index of a queue has room and no record of the manager still names it. -/
def State.kvRoom (s : State) (q : Fin 8) : Bool :=
  let i := s.fld (.morSwapqPtr q) Fld.morSwapqPtr_SUBMIT
  (i + 1) % 4096 != s.fld (.morSwapqPtr q) Fld.morSwapqPtr_DONE && !s.kv.moves.any (fun m => m.queue == q.val && m.index == i)

/-- The lowest record index not in use: the TAG of the next move. -/
def State.kvTag (s : State) : Nat := nthFree (insertSort (fun a b => decide (a < b)) (s.kv.moves.map KvMove.tag)) 0

/-- The trailer CRC of a page, over the page up to trailer byte 55 (R77). -/
def State.pageCrc (s : State) (a body : Nat) : Nat := crc64 (s.peek a (body + 56))

/-- Post a move of a page to a frame of a pool, on a queue: steps 1 to 3 of R97. -/
def State.kvPost (s : State) (q : Fin 8) (n l p dstPool dstFrame : Nat) : State :=
  let e := s.pte n l p
  let src := e.tier - 1
  let s1 := (s.kvTake dstPool dstFrame true (s.seqTrain n)).kvShift src e.frame true
  let s2 := (s1.setPte n l p { e with moving := true }).seqInflightAdd n true
  let a := s2.kvAddr src e.frame
  let body := kvBody (e.fmt == 1) (s2.seqHeads n)
  let s3 := if e.full then s2 else s2.writeMem kvReq 0 (a + body + 56) (toLe 8 (s2.pageCrc a body))
  let i := s3.fld (.morSwapqPtr q) Fld.morSwapqPtr_SUBMIT
  let t := s3.kvTag
  let d := toLe 8 a ++ toLe 8 (s3.kvAddr dstPool dstFrame) ++ toLe 4 (s3.kvFrameSize / 2 ^ 16) ++ toLe 4 t ++ zeros 8
  let s4 := (s3.writeMem kvReq 0 (s3.swapDesc q i) d).put (.morSwapqPtr q) Fld.morSwapqPtr_SUBMIT ((i + 1) % 4096)
  s4.setKv { s4.kv with moves := s4.kv.moves ++ [⟨t, q.val, i, n, l, p, e.gen, src, e.frame, dstPool, dstFrame⟩] }

/-- The descriptor of a move has not been taken (R61). -/
def State.kvUntaken (s : State) (m : KvMove) : Bool :=
  let q : Fin 8 := Fin.ofNat 8 m.queue
  let t := s.fld (.morSwapqPtr q) Fld.morSwapqPtr_TAKEN
  let sub := s.fld (.morSwapqPtr q) Fld.morSwapqPtr_SUBMIT
  decide ((m.index + 4096 - t) % 4096 < (sub + 4096 - t) % 4096)

/-- A record leaves the manager: INFLIGHT falls and the entry's MOVING clears (R97). -/
def State.kvDropMove (s : State) (m : KvMove) : State :=
  let s1 := (s.setKv { s.kv with moves := s.kv.moves.filter (fun x => decide (x ≠ m)) }).seqInflightAdd m.seq false
  s1.setPte m.seq m.layer m.page { s1.pte m.seq m.layer m.page with moving := false }

/-- An untaken descriptor is cancelled with STATUS 4; the source is ALLOCATED again, the destination FREE (R81, R99). -/
def State.kvCancelMove (s : State) (m : KvMove) : State :=
  let s1 := s.writeMem kvReq 0 (s.swapDesc (Fin.ofNat 8 m.queue) m.index + 25) (toLe 1 4)
  ((s1.kvDropMove m).kvShift m.srcPool m.srcFrame false).kvFree m.dstPool m.dstFrame

/-- The untaken descriptors of a sequence are cancelled. -/
def State.kvCancelUntaken (s : State) (n : Nat) : State :=
  (s.kv.moves.filter (fun m => m.seq == n && s.kvUntaken m)).foldl State.kvCancelMove s

/-- A page is released: GEN rises, TIER is 0, and a frame no taken move holds becomes FREE (R81, R84, R99). -/
def State.kvRelease (n : Nat) (s : State) (x : Nat × Nat) : State :=
  let e := s.pte n x.1 x.2
  let s1 := s.setPte n x.1 x.2 { e with gen := (e.gen + 1) % 2 ^ 32, tier := 0 }
  if e.moving then s1 else s1.kvFree (e.tier - 1) e.frame

/-- The frames granted to a sequence at a step boundary and not used are released. -/
def State.kvDropGrants (s : State) (n : Nat) : State :=
  let mine := s.kv.grants.filter (fun g => g.1 == n)
  let s1 := mine.foldl (fun (t : State) (g : Nat × Nat) => t.kvFree 0 g.2) s
  s1.setKv { s1.kv with
    grants := s1.kv.grants.filter (fun g => g.1 != n)
    owed := s1.kv.owed.filter (fun m => m != n)
    planned := s1.kv.planned.filter (fun x => x.seq != n) }

/-- The end of a cancelled sequence: EMPTY, with its event (R95, R99). -/
def State.kvEndCancel (s : State) (n code : Nat) : State := (s.setSeqState n 0).kvEvent n code

/-- A sequence is cancelled; it is EMPTY at once unless taken moves remain (R94, R99). -/
def State.kvCancel (s : State) (n code : Nat) : State :=
  let s1 := (s.kvCancelUntaken n).kvDropGrants n
  let s2 := (s1.seqPages n).foldl (State.kvRelease n) s1
  if s2.seqInflight n = 0 then s2.kvEndCancel n code
  else (s2.setSeqState n 5).setKv { s2.kv with ending := assocSet s2.kv.ending n code }

/-! ### Progress of a sequence that moves (R97, R99) -/

/-- Take a frame of a pool, its number from a free value; the answer is the frame. -/
def State.kvAlloc (s : State) (pool : Nat) : Nat × State := (s.kvPick pool, s.tookFree)

/-- Post the swap-outs that a sequence still needs; without a frame of pool 2 the sequence is cancelled (R97). -/
def State.kvPumpOut (n : Nat) : State → List (Nat × Nat) → State
  | s, [] => s
  | s, x :: xs =>
    let e := s.pte n x.1 x.2
    if e.tier = 3 ∨ e.tier = 0 ∨ e.moving ∨ !s.kvRoom 0 then State.kvPumpOut n s xs
    else if s.kvMayTake 2 false then
      let a := s.kvAlloc 2
      State.kvPumpOut n (a.2.kvPost 0 n x.1 x.2 2 a.1) xs
    else s.kvCancel n 5

/-- Post the swap-ins that a sequence still needs, as near frames become available (R97). -/
def State.kvPumpIn (n : Nat) : State → List (Nat × Nat) → State
  | s, [] => s
  | s, x :: xs =>
    let e := s.pte n x.1 x.2
    if e.tier = 3 ∧ !e.moving ∧ s.kvRoom 1 ∧ s.kvMayTake 0 false then
      let a := s.kvAlloc 0
      State.kvPumpIn n (a.2.kvPost 1 n x.1 x.2 0 a.1) xs
    else State.kvPumpIn n s xs

/-- What a sequence does next: it posts what it still can, or it ends its state change (R97, R99). -/
def State.kvSettle (s : State) (n : Nat) : State :=
  let st := s.seqState n
  if st = 5 then
    (if s.seqInflight n = 0 then
      let s1 := s.kvEndCancel n ((assocGet s.kv.ending n).getD 3)
      s1.setKv { s1.kv with ending := s1.kv.ending.filter (fun e => e.1 != n) }
    else s)
  else if st = 2 then
    let s1 := State.kvPumpOut n s (s.seqPages n)
    if s1.seqState n = 2 ∧ s1.seqInflight n = 0 ∧ (s1.seqPages n).all (fun x => (s1.pte n x.1 x.2).tier == 3)
    then (s1.setSeqState n 3).kvEvent n 1 else s1
  else if st = 4 then
    let s1 := State.kvPumpIn n s (s.seqPages n)
    if s1.seqInflight n = 0 ∧ (s1.seqPages n).all (fun x => (s1.pte n x.1 x.2).tier != 3)
    then (s1.setSeqState n 1).kvEvent n 2 else s1
  else s

/-- Frames that became FREE go first to the grants that wait (R97). A frame granted counts as ALLOCATED although no append has used it
yet, where R81 names only the append (DESIGN CHOICE, log entry 51). -/
def State.kvServeOwed : State → List Nat → State
  | s, [] => s
  | s, n :: ns =>
    if s.kvMayTake 0 false then
      let a := s.kvAlloc 0
      let s1 := a.2.kvTake 0 a.1 false false
      State.kvServeOwed (s1.setKv { s1.kv with grants := s1.kv.grants ++ [(n, a.1)], owed := s1.kv.owed.erase n }) ns
    else s

/-- The queue of 2 to 7 that takes a planned move: the manual does not say which (log entry 11), so a free value names the
first to be tried. -/
def State.planQueue (s : State) : Option (Fin 8) :=
  ((List.range 6).map (fun i => Fin.ofNat 8 (2 + (s.freeVal + i) % 6))).find? s.kvRoom

/-- Planned moves are posted as queues and frames allow; the others stay (R96, R97). -/
def State.kvPostPlanned : State → List KvPlanned → State
  | s, [] => s
  | s, x :: xs =>
    match s.planQueue with
    | some q =>
      if !(s.pte x.seq x.layer x.page).moving ∧ s.kvMayTake x.pool (s.seqTrain x.seq) then
        let s0 := s.tookFree
        let a := s0.kvAlloc x.pool
        let s1 := a.2.kvPost q x.seq x.layer x.page x.pool a.1
        State.kvPostPlanned (s1.setKv { s1.kv with planned := s1.kv.planned.erase x }) xs
      else State.kvPostPlanned s xs
    | none => s

/-- After any action of the manager: waiting grants, planned moves, then every sequence that moves, in order of its number. -/
def State.kvProgress (s : State) : State :=
  let s0 := s.kvServeOwed s.kv.owed
  let s1 := State.kvPostPlanned s0 s0.kv.planned
  (s1.seqsIn (fun st => st == 2 || st == 4 || st == 5)).foldl State.kvSettle s1

/-! ### Victims (R97, R98) -/

/-- `a` is chosen as a victim before `b`: lowest PRIO, then latest ADMIT, then highest number (R97). -/
def State.victimBefore (s : State) (a b : Nat) : Bool :=
  let pa := s.seqGet a 17 1
  let pb := s.seqGet b 17 1
  let ta := s.seqGet a 24 8
  let tb := s.seqGet b 24 8
  decide (pa < pb) || (pa == pb && (decide (tb < ta) || (ta == tb && decide (b < a))))

/-- Evaluation and serving sequences in RESIDENT or SWAPPING_IN, in victim order (R97). -/
def State.victims (s : State) : List Nat :=
  insertSort s.victimBefore ((s.seqsIn (fun st => st == 1 || st == 4)).filter (fun n => !s.seqTrain n))

/-- Sources in the near pool of swap-outs already posted, whatever has become of their sequences (R97). -/
def State.kvPosted (s : State) : Nat := (s.kv.moves.filter (fun m => m.srcPool == 0 && m.dstPool == 2)).length

/-- Near frames that swap-outs begun will free: those posted, and the pages of sequences in SWAPPING_OUT that still wait for a place in
the queue. -/
def State.kvOutgoing (s : State) : Nat :=
  s.kvPosted + ((s.seqsIn (fun st => st == 2)).map (fun n =>
    ((s.seqPages n).filter (fun x => (s.pte n x.1 x.2).tier == 1 && !(s.pte n x.1 x.2).moving)).length)).sum

/-- Near frames that grants and swap-ins begun still wait for. -/
def State.kvClaims (s : State) : Nat :=
  s.kv.owed.length + ((s.seqsIn (fun st => st == 4)).map (fun n =>
    ((s.seqPages n).filter (fun x => (s.pte n x.1 x.2).tier == 3 && !(s.pte n x.1 x.2).moving)).length)).sum

/-- Near frames that are or will become available, beside those already claimed. An allocation counts as met by frames that swap-outs
begun have not freed yet; its grant then waits for one (DESIGN CHOICE, log entry 51). -/
def State.kvSupply (s : State) : Nat := s.kvAvail 0 + s.kvOutgoing - s.kvClaims

/-- A swap-out begins: from RESIDENT, or from SWAPPING_IN with its untaken descriptors cancelled (R97, R99). -/
def State.kvSwapOut (s : State) (n : Nat) : State :=
  (((s.kvCancelUntaken n).kvDropGrants n).setSeqState n 2).kvSettle n

/-- A victim leaves the batch: its swap-out starts with the event PREEMPTED, or it is dropped (R97). -/
def State.kvVictim (s : State) (n : Nat) : State :=
  let s1 := s.kvSwapOut n
  if s1.seqState n = 0 ∨ s1.seqState n = 5 then s1 else s1.kvEvent n 6

/-! ### The commands (R80, R94 to R99) -/

/-- EN takes its written value; as it becomes 1, every frame of every pool is FREE (R80). -/
def State.kvEnable (s : State) (en : Bool) : State :=
  let was := s.isSet .ntKvCfg Fld.ntKvCfg_EN
  let s1 := s.put .ntKvCfg Fld.ntKvCfg_EN (b2n en)
  if en && !was then
    ([0, 1, 2] : List (Fin 3)).foldl (fun t i =>
      (t.set (.ntKvBook i) (fput 0 Fld.ntKvBook_FREE (t.fld (.ntKvPool i) Fld.ntKvPool_COUNT))).put (.ntKvResv i)
        Fld.ntKvResv_TRAIN_USED 0) (s1.setKv KvState.idle)
  else s1

/-- KV_ENABLE: a write of EN in NT_KV_CFG, with the value written (R80). -/
def execKvEnable (en : Bool) (s : State) : Host.Outcome State Fault Refusal :=
  .next (if s.doms.main && !s.locked .ntKvCfg then s.kvEnable en else s)

/-- NT_KV_STATUS after a command (R94). -/
def State.kvStatus (s : State) (n result : Nat) : State :=
  s.set .ntKvStatus (fput (fput 0 Fld.ntKvStatus_RESULT result) Fld.ntKvStatus_SEQ n)

/-- A command is refused with 5 while the manager is disabled and with 1 beyond the table (R94); otherwise it acts on
the sequence's STATE and answers a result; a refused one changes nothing else. -/
def State.kvCommand (s : State) (n : Nat) (act : Nat → Nat × State) : State :=
  if !s.doms.main then s
  else if !s.kvOn then s.kvStatus n 5
  else if s.fld .ntKvCfg Fld.ntKvCfg_SEQ_COUNT ≤ n then s.kvStatus n 1
  else
    let r := act (s.seqState n)
    if r.1 = 0 then r.2.kvProgress.kvStatus n 0 else s.kvStatus n r.1

/-- ADMIT, from EMPTY (R94). It posts no event: R94 names none for it, though R95 speaks of every change of STATE (DESIGN CHOICE, log
entry 51). -/
def State.kvAdmit (s : State) (n : Nat) : State :=
  s.kvCommand n (fun st => if st = 0 then (0, ((s.seqPut n 24 8 s.now).seqPut n 0 4 0).setSeqState n 1) else (2, s))

/-- CANCEL, from every state but EMPTY and CANCELLING (R94, R99). -/
def State.kvCancelCommand (s : State) (n : Nat) : State :=
  s.kvCommand n (fun st => if st = 0 ∨ 5 ≤ st then (2, s) else (0, s.kvCancel n 3))

/-- PREEMPT, from RESIDENT and SWAPPING_IN, not for training sequences (R94, R97, R99). -/
def State.kvPreempt (s : State) (n : Nat) : State :=
  s.kvCommand n (fun st => if st = 1 ∨ st = 4 then (if s.seqTrain n then (4, s) else (0, s.kvSwapOut n)) else (2, s))

/-- Pre-empt sequences that rank below `n` until the supply covers its need; `none` when it cannot (R98). -/
def State.kvMakeRoom (n need : Nat) : List Nat → State → Option State
  | [], s => if need ≤ s.kvSupply then some s else none
  | v :: vs, s => if need ≤ s.kvSupply then some s else if s.victimBefore v n then State.kvMakeRoom n need vs (s.kvVictim v) else none

/-- RESUME, from SWAPPED and SWAPPING_OUT: the near frames that the pages outside the near and moraine pools need must be
had, from supply or from lower-ranked sequences (R98, R99). -/
def State.kvResume (s : State) (n : Nat) : State :=
  s.kvCommand n (fun st =>
    if st = 3 ∨ st = 2 then
      let s1 := s.kvCancelUntaken n
      let need := ((s1.seqPages n).filter (fun x => (s1.pte n x.1 x.2).tier == 3 || (s1.pte n x.1 x.2).tier == 2 && (s1.pte n x.1 x.2).moving)).length
      match State.kvMakeRoom n need s1.victims (s1.setSeqState n (if st = 2 then 1 else 3)) with
      | none => (3, s)
      | some t => (0, (t.setSeqState n 4).kvSettle n)
    else (2, s))

/-- ADMIT: the command of NT_KV_CMD with OP 1 (R94). -/
def execAdmit (n : BitVec 16) (s : State) : Host.Outcome State Fault Refusal := .next (s.kvAdmit n.toNat)

/-- RESUME: the command of NT_KV_CMD with OP 2 (R94, R98). -/
def execResume (n : BitVec 16) (s : State) : Host.Outcome State Fault Refusal := .next (s.kvResume n.toNat)

/-- CANCEL: the command of NT_KV_CMD with OP 3 (R94, R99). -/
def execCancel (n : BitVec 16) (s : State) : Host.Outcome State Fault Refusal := .next (s.kvCancelCommand n.toNat)

/-- PREEMPT: the command of NT_KV_CMD with OP 4 (R94, R97). -/
def execPreempt (n : BitVec 16) (s : State) : Host.Outcome State Fault Refusal := .next (s.kvPreempt n.toNat)

/-- Pre-empt victims until the running sequences of a step that still need a frame can have one and FREE, with the sources of
swap-outs already posted, reaches REFILL (R97). The answer lists the sequences that stay in the batch. -/
def State.kvStepVictims (need : List Nat) : List Nat → State → List Nat × State
  | [], s => (need, s)
  | v :: vs, s =>
    if need.length ≤ s.kvSupply ∧ s.fld .ntKvCfg Fld.ntKvCfg_REFILL ≤ s.kvFreeCount 0 + s.kvPosted then (need, s)
    else State.kvStepVictims (need.filter (fun m => m != v)) vs (s.kvVictim v)

/-- The step-boundary allocation of R97 for the running sequences that enter a new page. -/
def State.kvStepAllocate (s : State) (entering : List Nat) : State :=
  let want := entering.filter (fun n => decide (n < s.fld .ntKvCfg Fld.ntKvCfg_SEQ_COUNT) && s.seqState n == 1 && !s.seqTrain n)
  let r := if want.length ≤ s.kvSupply then (want, s) else State.kvStepVictims want s.victims s
  (r.2.setKv { r.2.kv with owed := r.2.kv.owed ++ r.1 }).kvProgress

/-- KV_STEP_ALLOCATION: a generation-step boundary, with the running sequences that the step carries into a new page;
each gets one near frame before the step runs (R97). -/
def execKvStepAllocation (entering : List (BitVec 16)) (s : State) : Host.Outcome State Fault Refusal :=
  .next (if s.kvOn then s.kvStepAllocate (entering.map BitVec.toNat) else s)

/-- The sequence of a failed swap is cancelled with a UCC record and the event SWAP_FAILED (R99). -/
def State.kvSwapFailed (s : State) (m : KvMove) : State :=
  let s1 := s.ucc kvReq 0x0108 (s.kvAddr m.srcPool m.srcFrame) (pageDetail m.seq m.layer m.page)
  if s1.seqState m.seq = 5 then s1.setKv { s1.kv with ending := assocSet s1.kv.ending m.seq 4 }
  else if s1.seqState m.seq = 2 ∨ s1.seqState m.seq = 4 then s1.kvCancel m.seq 4
  else s1

/-- The trailer CRC of a page that a swap-in brought is right (R97). -/
def State.arrivedGood (s : State) (m : KvMove) : Bool :=
  let a := s.kvAddr m.dstPool m.dstFrame
  let body := kvBody ((s.pte m.seq m.layer m.page).fmt == 1) (s.seqHeads m.seq)
  ofLe (s.peek (a + body + 56) 8) == s.pageCrc a body

/-- A move ends with the STATUS of its descriptor (R81, R97, R99). -/
def State.kvMoveEnds (s : State) (m : KvMove) (status : Nat) : State :=
  let e := s.pte m.seq m.layer m.page
  if newer 32 e.gen m.gen then ((s.kvDropMove m).kvFree m.srcPool m.srcFrame).kvFree m.dstPool m.dstFrame
  else if status = 2 ∨ status = 3 ∨ status = 5 ∨ (m.queue = 1 ∧ !s.arrivedGood m) then
    ((((s.kvDropMove m).kvShift m.srcPool m.srcFrame false).kvFree m.dstPool m.dstFrame).kvSwapFailed m)
  else
    let s1 := s.kvDropMove m
    let s2 := s1.setPte m.seq m.layer m.page { s1.pte m.seq m.layer m.page with tier := m.dstPool + 1, frame := m.dstFrame }
    (s2.kvFree m.srcPool m.srcFrame).kvShift m.dstPool m.dstFrame false

/-- KV_MOVE_COMPLETE: the manager takes up the completion of the move whose record has this index, once its descriptor
has ended (R97, R99). -/
def execKvMoveComplete (tag : BitVec 32) (s : State) : Host.Outcome State Fault Refusal :=
  .next (if s.kvOn then
    match s.kv.moves.find? (fun m => m.tag == tag.toNat) with
    | none => s
    | some m =>
      let st := s.swapStatus (Fin.ofNat 8 m.queue) m.index
      if st = 0 ∨ st = 4 then s else (s.kvMoveEnds m st).kvProgress
  else s)

end Sys2Proof.Machine
end

