-- ==== Sys2Proof/Machine/Fusion.lean ====
section
/-! DEFINITION. Fusion buffers (R165 to R167, R175). -/

namespace Sys2Proof.Machine

/-- The newest of some counts against a reference, and the reference when none is newer (R166). -/
def newestOf (ref : Nat) : List Nat → Nat
  | [] => ref
  | v :: vs =>
    let n := newestOf ref vs
    if newer 32 v ref && (n == ref || newer 32 v n) then v else n

/-! ### Waiting descriptors (R150 to R152, R174) -/

/-- Position of an engine in the list. -/
def engineIx (d : Fin 4) (j : Fin 22) : Nat := 22 * d.val + j.val

/-- Descriptors that run on an engine, oldest first. -/
def State.trvRuns (s : State) (d : Fin 4) (j : Fin 22) : List TrvRun := s.trv.getD (engineIx d j) []

/-- TRV_PC with its lap bit. -/
def State.trvPcOf (s : State) (d : Fin 4) (j : Fin 22) : Nat := s.fld (.trvPc d j) Fld.trvPc_INDEX

/-- Word `w` of the descriptor at TRV_PC. -/
def State.trvWord (s : State) (d : Fin 4) (j : Fin 22) (w : Fin 16) : Nat :=
  (s.get (.trvRing d j (Fin.ofNat 256 (s.trvPcOf d j)) w)).toNat

/-- The engine starts descriptors: RUN set, no STOP, no stopping failure met, and the ring holds an unstarted one (R150, R172, R174). -/
def State.trvHasNext (s : State) (d : Fin 4) (j : Fin 22) : Bool :=
  s.doms.compute.testBit d.val && s.isSet (.trvCtrl d j) Fld.trvCtrl_RUN && !s.isSet (.trvCtrl d j) Fld.trvCtrl_STOP &&
  (s.trvRuns d j).all (fun r => r.fail.isNone) &&
  s.trvPcOf d j != s.fld (.trvLimit d j) Fld.trvLimit_INDEX

/-- The next descriptor waits on its fusion buffer (R152). -/
def State.trvWaits (s : State) (d : Fin 4) (j : Fin 22) : Bool :=
  let w0 := s.trvWord d j 0
  s.trvHasNext d j && bit w0 55 && !s.fbufReached d (bits w0 10 3) (bits (s.trvWord d j 3) 63 32)

/-- WAITING follows the state of the next descriptor (R174). -/
def State.trvSync (s : State) (d : Fin 4) (j : Fin 22) : State :=
  if s.isSet (.trvStatus d j) Fld.trvStatus_WAITING = s.trvWaits d j then s
  else s.put (.trvStatus d j) Fld.trvStatus_WAITING (b2n (s.trvWaits d j))

/-- The engines of a die, and the dies. -/
def trvEngines : List (Fin 22) := (List.range 22).map (Fin.ofNat 22)

/-- WAITING of every engine of a die. -/
def State.trvSyncDie (s : State) (d : Fin 4) : State := trvEngines.foldl (fun t j => t.trvSync d j) s

/-! ### Publications (R165, R166) -/

/-- Publications that reach a buffer in one cycle, each judged against the count at its start (R166). -/
def State.fbufPublish (s : State) (d : Fin 4) (b : Fin 256) (vs : List Nat) : State :=
  if s.doms.compute.testBit d.val then
    let ref := s.fld (.trvFbuf d b) Fld.trvFbuf_COUNT
    let s1 := s.put (.trvFbuf d b) Fld.trvFbuf_COUNT (newestOf ref vs)
    ((if vs.all (fun v => newer 32 v ref) then s1 else s1.put (.trvFbuf d b) Fld.trvFbuf_REGRESS 1).trvSyncDie d).optSync d
  else s

/-- FUSION_PUBLISH: counts that reach one buffer in the same H-clock cycle (R166). -/
def execFusionPublish (d : Fin 4) (b : Fin 256) (counts : List (BitVec 32)) (s : State) : Host.Outcome State Fault Refusal :=
  .next (s.fbufPublish d b (counts.map BitVec.toNat))

/-- FUSION_COUNT_WRITE: a software write of COUNT, with the publications of its cycle, which are judged against the
written value (R166, R175). -/
def execFusionCountWrite (d : Fin 4) (b : Fin 256) (count : BitVec 32) (counts : List (BitVec 32)) (s : State) :
    Host.Outcome State Fault Refusal :=
  .next (if s.doms.compute.testBit d.val then
    (s.put (.trvFbuf d b) Fld.trvFbuf_COUNT count.toNat).fbufPublish d b (counts.map BitVec.toNat)
  else s)

end Sys2Proof.Machine
end

