-- ==== Sys2Proof/Machine/Operands.lean ====
section
/-! DEFINITION. Operand forms: element formats in memory (R101, R485), tile and KV slots (R134 to R136), and the reads
and writes of tiles in the ledge (R135, R145, R182). -/

namespace Sys2Proof.Machine

/-! ### Formats (R101, R105, R135, R485) -/

/-- The element of a slot's FMT; `none` for U32 and the reserved values (R135). -/
def fmtElt : Nat → Option Elt
  | 0 => some .fp32 | 1 => some .bf16 | 2 => some .e4m3 | 3 => some .e5m2 | 4 => some .int8 | 5 => some .e2m1
  | 6 => some .e4m3 | 7 => some .e5m2 | 8 => some .mxint8 | 9 => some .e2m3 | 10 => some .e3m2 | 11 => some .e5m2
  | _ => none

/-- The FMT has block scales. -/
def fmtScaled (f : Nat) : Bool := decide (5 ≤ f ∧ f ≤ 11)

/-- Elements that share a scale (R105). -/
def fmtBlock (f : Nat) : Nat := if f = 11 then 256 else 32

/-- The element as a value: a format without an element reads as FP32. -/
def fmtOf (f : Nat) : Elt := (fmtElt f).getD .fp32

/-- Bytes of `n` elements along a row (R485). -/
def rowBytes (f n : Nat) : Nat := (fmtOf f).width * n / 8

/-- The rows of R127's table that formats of an array operand belong to; `none` when the array does not take the FMT. -/
def arrayClass : Nat → Option Nat
  | 1 => some 5 | 2 => some 1 | 3 => some 1 | 4 => some 3 | 5 => some 0 | 6 => some 2 | 7 => some 2 | 8 => some 4
  | _ => none

/-- Four 6-bit fields of three bytes, and two nibbles of a byte (R485): `k` fields of `w` bits of a number. -/
def splitBits (w : Nat) : Nat → Nat → List Nat
  | 0, _ => []
  | k + 1, n => n % 2 ^ w :: splitBits w k (n / 2 ^ w)

/-- Fields of `w` bits joined into one number, the first lowest. -/
def joinBits (w : Nat) : List Nat → Nat
  | [] => 0
  | x :: xs => x % 2 ^ w + 2 ^ w * joinBits w xs

/-- Element codes of a run of bytes (R485). -/
def unpackElems (f n : Nat) (bs : List Byte) : List Nat := splitBits (fmtOf f).width n (ofLe bs)

/-- Bytes of a run of element codes (R485). -/
def packElems (f : Nat) (cs : List Nat) : List Byte := toLe (rowBytes f cs.length) (joinBits (fmtOf f).width cs)

/-- Values of a row of codes under its scales. -/
def rowValues (f : Nat) (scales codes : List Nat) : List Fp :=
  if fmtScaled f then codes.mapIdx (fun j c => blockValue (fmtOf f) (scales.getD (j / fmtBlock f) 0x7F) c)
  else codes.map (fmtOf f).decode

/-- Rows of values of a tile. -/
def Tile.values (t : Tile) : List (List Fp) := t.codes.mapIdx (fun r cs => rowValues t.fmt (t.scales.getD r []) cs)

/-- A tile holds an infinity, a NaN or a scale 0xFF (R120, cause 2). -/
def Tile.nonFinite (t : Tile) : Bool := t.values.any (fun r => r.any (fun v => !v.isFin))

/-- A list cut into runs of `k`; `fuel` bounds their number. -/
def chunksOf {α : Type} (k : Nat) : Nat → List α → List (List α)
  | 0, _ => []
  | n + 1, l => if l.isEmpty then [] else l.take k :: chunksOf k n (l.drop k)

/-- What a conversion of one row leaves: codes, scales and flags (R107 to R109). -/
structure RowOut where
  codes : List Nat
  scales : List Nat
  sat : Bool
  nf : Bool
deriving DecidableEq, Repr

/-- Conversion of a row of FP32 codes into a FMT; `rd j` is the rounding of column `j` (R107 to R111). -/
def convertRow (f : Nat) (nanp : Bool) (rd : Nat → Rounding) (xs : List Nat) : RowOut :=
  let e := fmtOf f
  if fmtScaled f then
    let k := fmtBlock f
    let blocks := chunksOf k xs.length xs
    let scales := blocks.map (blockScale e)
    let codes := blocks.mapIdx (fun b bl => bl.mapIdx (fun j x => blockElem e (scales.getD b 0x7F) (rd (b * k + j)) x))
    ⟨codes.flatten, scales, false, !xs.all ffinite⟩
  else
    let cs := xs.mapIdx (fun j x => convPlain e nanp (rd j) x)
    ⟨cs.map Converted.code, [], cs.any Converted.sat, cs.any Converted.nf⟩

/-! ### The exponent (R142) -/

/-- T[j]: FP32 nearest 2^(j/64) (R142). -/
def expTable : List Nat :=
  [0x3F800000, 0x3F8164D2, 0x3F82CD87, 0x3F843A29, 0x3F85AAC3, 0x3F871F62, 0x3F88980F, 0x3F8A14D5,
    0x3F8B95C2, 0x3F8D1ADF, 0x3F8EA43A, 0x3F9031DC, 0x3F91C3D3, 0x3F935A2B, 0x3F94F4F0, 0x3F96942D,
    0x3F9837F0, 0x3F99E046, 0x3F9B8D3A, 0x3F9D3EDA, 0x3F9EF532, 0x3FA0B051, 0x3FA27043, 0x3FA43516,
    0x3FA5FED7, 0x3FA7CD94, 0x3FA9A15B, 0x3FAB7A3A, 0x3FAD583F, 0x3FAF3B79, 0x3FB123F6, 0x3FB311C4,
    0x3FB504F3, 0x3FB6FD92, 0x3FB8FBAF, 0x3FBAFF5B, 0x3FBD08A4, 0x3FBF179A, 0x3FC12C4D, 0x3FC346CD,
    0x3FC5672A, 0x3FC78D75, 0x3FC9B9BE, 0x3FCBEC15, 0x3FCE248C, 0x3FD06334, 0x3FD2A81E, 0x3FD4F35B,
    0x3FD744FD, 0x3FD99D16, 0x3FDBFBB8, 0x3FDE60F5, 0x3FE0CCDF, 0x3FE33F89, 0x3FE5B907, 0x3FE8396A,
    0x3FEAC0C7, 0x3FED4F30, 0x3FEFE4BA, 0x3FF28177, 0x3FF5257D, 0x3FF7D0DF, 0x3FFA83B3, 0x3FFD3E0C]

/-- Fused multiply-add of the exponent: `a` and `c` are FP32 codes, `r` is exact (R142). -/
def expFma (a : Nat) (r : Fp) (c : Nat) : Nat := roundF32 (((f32 a).mul r).add (f32 c))

/-- `tc_exp` of R142, on FP32 codes: L2E, C3, C2 and C1 are 0x3FB8AA3B, 0x3D635847, 0x3E75FDF0 and 0x3F317218. The differences
that R142 calls exact are exact, also where FP32 cannot hold them (DEDUCED, log entry 30). -/
def tcExp (x : Nat) : Nat :=
  if (f32 x).isNan then 0x7FC00000
  else
    let y := fmul x 0x3FB8AA3B
    if !flt y 0x43000000 then 0x7F800000
    else if flt y 0xC3160000 then 0
    else
      let n := (f32 y).floor
      let fr := (f32 y).add (f32 (f32OfInt n)).neg
      let j := (fr.scale 6).floor.toNat
      let r := fr.add (Fp.fin false j (-6)).neg
      let p := roundF32 ((f32 (expFma (expFma 0x3D635847 r 0x3E75FDF0) r 0x3F317218)).mul r)
      let t := expTable.getD j 0x3F800000
      roundF32 ((f32 (ffma t p t)).scale n)

/-! ### Slots (R134 to R136) -/

/-- A tile slot (R135). -/
structure TileSlot where
  kind : Nat
  fmt : Nat
  rows : Nat
  cols : Nat
  base : Nat
  pitch : Nat
  scaleBase : Nat
deriving DecidableEq, Repr

/-- A KV parameter slot (R136); `reserved` is zero when every reserved bit is. -/
structure KvSlot where
  kind : Nat
  seq : Nat
  head : Nat
  layer : Nat
  nrows : Nat
  beta : Nat
  k : Nat
  w : Nat
  cScale : Nat
  pos : Nat
  first : Nat
  record : Nat
  reserved : Nat
deriving DecidableEq, Repr

/-- Word `w` of a slot of a core. -/
def State.slotWord (s : State) (d : Fin 4) (k : Fin 11) (n : Nat) (w : Fin 4) : Nat :=
  (s.get (.tcSlot d k (Fin.ofNat 1024 n) w)).toNat

/-- A slot read as a tile slot; a number above 1,023 reads as empty (R134). -/
def State.tileSlot (s : State) (d : Fin 4) (k : Fin 11) (n : Nat) : TileSlot :=
  let w0 := if n < 1024 then s.slotWord d k n 0 else 0
  let w1 := s.slotWord d k n 1
  ⟨bits w0 63 60, bits w0 59 56, 64 * bits w0 55 44, 64 * bits w0 43 36, bits w0 27 0, 64 * bits w1 63 48, bits w1 27 0⟩

/-- A slot read as a KV parameter slot. -/
def State.kvSlot (s : State) (d : Fin 4) (k : Fin 11) (n : Nat) : KvSlot :=
  let w0 := if n < 1024 then s.slotWord d k n 0 else 0
  let w1 := s.slotWord d k n 1
  let w2 := s.slotWord d k n 2
  let w3 := s.slotWord d k n 3
  ⟨bits w0 63 60, bits w0 55 40, bits w0 39 32, bits w0 31 16, bits w0 15 0, bits w1 63 32, bits w1 31 20, bits w1 19 8,
    bits w2 63 32, bits w2 31 0, bits w3 63 52, bits w3 47 0, bits w0 59 56 + bits w1 7 0 + bits w3 51 48⟩

/-- Bytes of block scales in one row: the run of one E8M0 byte for each block (R135). R135 speaks of blocks of 32 and R105 of blocks of
256 for E5M2/B256: a tile of FMT 11 has one byte for each 256 elements of a row, and a row shorter than a block is one block with one
scale (DESIGN CHOICE, log entry 51). -/
def TileSlot.scaleRow (t : TileSlot) : Nat := max 1 (t.cols / fmtBlock t.fmt)

/-- The ledge byte ranges of a tile, as `(offset, length)`: its rows, then its scales (R135). -/
def TileSlot.ranges (t : TileSlot) : List (Nat × Nat) :=
  if t.fmt = 12 then [(t.base, 4 * t.rows)]
  else
    (List.range t.rows).map (fun r => (t.base + r * t.pitch, rowBytes t.fmt t.cols)) ++
    (if fmtScaled t.fmt then [(t.scaleBase, t.rows * t.scaleRow)] else [])

/-- BASE and SCALE_BASE are aligned and no range passes the end of the die (R135). -/
def TileSlot.inLedge (t : TileSlot) : Bool :=
  t.base % 64 == 0 && (!fmtScaled t.fmt || t.scaleBase % 64 == 0) && t.ranges.all (fun r => decide (r.1 + r.2 ≤ ledgeSize))

/-- The ledge words, by offset, that a range touches; `fuel` bounds them. -/
def wordsOf (r : Nat × Nat) : List Nat :=
  if r.2 = 0 then [] else (List.range ((r.1 + r.2 - 1) / 64 - r.1 / 64 + 1)).map (fun i => 64 * (r.1 / 64 + i))

/-- The first ledge word among some ranges that a requester does not own. -/
def State.firstForeign (s : State) (d : Fin 4) (owner : Nat) (rs : List (Nat × Nat)) : Option Nat :=
  (rs.flatMap wordsOf).find? (fun o => s.ownerAt d o != owner)

/-! ### Tiles in the ledge -/

/-- A core's access met the non-owner response: LDG_VIOL takes it and nothing is written (R145, R182). -/
def State.foreignHit (s : State) (d : Fin 4) (owner : Nat) (rs : List (Nat × Nat)) : Option State :=
  match s.firstForeign d owner rs with
  | some o => some (s.ledgeViolation d owner (s.ownerAt d o) o)
  | none => none

/-- What operations in flight on a die were writing held before, as `(offset, bytes)`, oldest first (R140). -/
def State.unsettled (s : State) (d : Fin 4) : List (Nat × List Byte) :=
  (List.range 11).flatMap (fun k => (s.tensor.cores.getD (11 * d.val + k) TcCore.idle).ops.flatMap TcOp.wrote)

/-- The earlier contents of a byte among some ranges. -/
def olderBytes (l : List (Nat × List Byte)) (o : Nat) : List Byte :=
  l.filterMap (fun x => if x.1 ≤ o ∧ o < x.1 + x.2.length then some (x.2.getD (o - x.1) 0) else none)

/-- Some byte of a range has earlier contents. -/
def meetsOlder (l : List (Nat × List Byte)) (o n : Nat) : Bool := l.any (fun x => decide (x.1 < o + n ∧ o < x.1 + x.2.length))

/-- A read of a range that an operation in flight writes: each 64 B word is as it was or as it will be, which a free value decides
(R140; log entry 1). -/
def State.settle (s : State) (d : Fin 4) (o : Nat) (bs : List Byte) : List Byte × State :=
  let l := s.unsettled d
  if meetsOlder l o bs.length then
    (bs.mapIdx (fun i b =>
      let c := b :: olderBytes l (o + i)
      c.getD (Config.freeNat (s.freeCtr + ((o + i) / 64 - o / 64)) % c.length) b), s.tookFrees (bs.length / 64 + 2))
  else (bs, s)

/-- Read a list of ranges of a ledge die, all owned: the bytes of each, and whether a word was uncorrectable. -/
def State.readRanges (d : Fin 4) (owner : Nat) : State → List (Nat × Nat) → List (List Byte) × Bool × State
  | s, [] => ([], false, s)
  | s, r :: rs =>
    let p := s.readBytes ⟨d.val, 5, noInst⟩ owner (ledgeBase + d.val * 2 ^ 28 + r.1) r.2
    let x := p.2.2.settle d r.1 p.1
    let q := State.readRanges d owner x.2 rs
    (x.1 :: q.1, p.2.1 == .uncorrectable || q.2.1, q.2.2)

/-- What some runs of a ledge die hold before they are written. -/
def State.oldRuns (s : State) (d : Fin 4) (rs : List (Nat × List Byte)) : List (Nat × List Byte) :=
  rs.map (fun r => (r.1, s.peek (ledgeBase + d.val * 2 ^ 28 + r.1) r.2.length))

/-- Write a list of byte runs to a ledge die, all owned. -/
def State.writeRuns (d : Fin 4) (owner : Nat) : State → List (Nat × List Byte) → State
  | s, [] => s
  | s, r :: rs => State.writeRuns d owner (s.writeMem ⟨d.val, 5, noInst⟩ owner (ledgeBase + d.val * 2 ^ 28 + r.1) r.2) rs

/-- Read the tile of a slot, all of it owned (R135). -/
def State.readTile (s : State) (d : Fin 4) (owner : Nat) (t : TileSlot) : Tile × Bool × State :=
  let p := State.readRanges d owner s t.ranges
  let rows := (p.1.take t.rows).map (unpackElems t.fmt t.cols)
  let sc := if fmtScaled t.fmt then (chunksOf t.scaleRow t.rows ((p.1.getD t.rows []).map BitVec.toNat)) else []
  (⟨t.fmt, rows, sc⟩, p.2.1, p.2.2)

/-- The byte runs that write rows of converted elements into the tile of a slot. -/
def TileSlot.runs (t : TileSlot) (rows : List RowOut) : List (Nat × List Byte) :=
  rows.mapIdx (fun r x => (t.base + r * t.pitch, packElems t.fmt x.codes)) ++
  (if fmtScaled t.fmt then [(t.scaleBase, (rows.flatMap RowOut.scales).map (BitVec.ofNat 8))] else [])

/-- U32 values of an FMT 12 slot. -/
def State.readU32s (s : State) (d : Fin 4) (owner : Nat) (t : TileSlot) : List Nat × Bool × State :=
  let p := State.readRanges d owner s t.ranges
  (splitBits 32 t.rows (ofLe (p.1.headD [])), p.2.1, p.2.2)

end Sys2Proof.Machine
end

