-- ==== Sys2Proof/Machine/Tensor.lean ====
section
/-! DEFINITION. Tensor cores: issue, checks, array, drain and softmax operations, run and stop (R123 to R148). The KV
operations stand in TensorKv, LEND with the optimizer engine. -/

namespace Sys2Proof.Machine

/-! ### A core and its program (R133, R137, R138, R146) -/

/-- Position of a core in the list. -/
def coreIx (d : Fin 4) (k : Fin 11) : Nat := 11 * d.val + k.val

/-- A core's state beside its registers. -/
def State.tcCore (s : State) (d : Fin 4) (k : Fin 11) : TcCore := s.tensor.cores.getD (coreIx d k) TcCore.idle

/-- Replace it. -/
def State.setTcCore (s : State) (d : Fin 4) (k : Fin 11) (c : TcCore) : State :=
  { s with tensor := { s.tensor with cores := s.tensor.cores.set (coreIx d k) c } }

/-- The core issues operations: RUN set, no STOP, not lent, and it holds a logical number (R146, R148). -/
def State.tcRunning (s : State) (d : Fin 4) (k : Fin 11) : Bool :=
  s.doms.compute.testBit d.val && s.isSet (.tcCtrl d k) Fld.tcCtrl_RUN && !s.isSet (.tcCtrl d k) Fld.tcCtrl_STOP &&
  !s.isSet (.tcStatus d k) Fld.tcStatus_LENT && decide (s.logicalOf d k < 10)

/-- TC_PC with its lap bit. -/
def State.tcPcOf (s : State) (d : Fin 4) (k : Fin 11) : Nat := s.fld (.tcPc d k) Fld.tcPc_INDEX

/-- A tile operation (R137). -/
structure TcInstr where
  opcode : Nat
  flags : Nat
  a : Nat
  b : Nat
  c : Nat
deriving DecidableEq, Repr

/-- The fields of an operation word (R137). -/
def TcInstr.ofNat (w : Nat) : TcInstr := ⟨bits w 63 56, bits w 55 48, bits w 47 32, bits w 31 16, bits w 15 0⟩

/-- The flag fields of R137. -/
def TcInstr.sr (i : TcInstr) : Bool := bit i.flags 7
def TcInstr.nanp (i : TcInstr) : Bool := bit i.flags 6
def TcInstr.fresh (i : TcInstr) : Bool := bit i.flags 5
def TcInstr.bank (i : TcInstr) : Nat := bits i.flags 4 4
def TcInstr.pack (i : TcInstr) : Nat := bits i.flags 3 2
def TcInstr.trans (i : TcInstr) : Bool := bit i.flags 1
def TcInstr.kvfmt (i : TcInstr) : Bool := bit i.flags 0
def TcInstr.count (i : TcInstr) : Nat := i.b * 2 ^ 16 + i.c

/-- The flags that an opcode may carry; `none` for a reserved opcode (R137). -/
def opcodeFlags : Nat → Option Nat
  | 0x00 => some 0 | 0x01 => some 0 | 0x02 => some 0 | 0x03 => some 0 | 0x04 => some 0 | 0x05 => some 0 | 0x06 => some 0
  | 0x10 => some 0x0E | 0x11 => some 0 | 0x20 => some 0x3E | 0x28 => some 0xDC | 0x30 => some 0x50
  | 0x40 => some 0x01 | 0x41 => some 0 | 0x42 => some 0 | 0x43 => some 0x20 | 0x44 => some 0
  | _ => none

/-- The operation at TC_PC; `none` while the ring holds no unissued one (R133). -/
def State.tcNext (s : State) (d : Fin 4) (k : Fin 11) : Option TcInstr :=
  if s.tcPcOf d k = s.fld (.tcProgLimit d k) Fld.tcProgLimit_INDEX then none
  else some (TcInstr.ofNat (s.get (.tcProg d k (Fin.ofNat 32768 (s.tcPcOf d k)))).toNat)

/-! ### Errors and flags (R120, R144, R145) -/

/-- TC_ERR takes a record, or MORE is set (R144). -/
def State.tcRecord (s : State) (d : Fin 4) (k : Fin 11) (code pc slot : Nat) : State :=
  if s.isSet (.tcErr d k) Fld.tcErr_VALID then s.put (.tcErr d k) Fld.tcErr_MORE 1
  else
    (s.set (.tcErr d k) (fput (fput (fput (fput 0 Fld.tcErr_VALID 1) Fld.tcErr_CODE code) Fld.tcErr_PC pc) Fld.tcErr_SLOT slot)).put
      (.tcStatus d k) Fld.tcStatus_ERROR 1

/-- A stopping failure: the six steps of R144; `addr` and `detail` name a page where one is concerned (R92). -/
def State.tcStop (s : State) (d : Fin 4) (k : Fin 11) (code pc slot : Nat) (addr detail : Nat := 0) : State :=
  let s1 := ((s.tcRecord d k code pc slot).put (.tcCtrl d k) Fld.tcCtrl_RUN 0).put (.tcCtrl d k) Fld.tcCtrl_STOP 0
  (s1.ucc ⟨d.val, 1, k.val⟩ code addr detail).irq (ridgeSource d 1)

/-- The tile non-finite flag, with its first cause (R120). -/
def State.tcNf (s : State) (d : Fin 4) (k : Fin 11) (cause pc : Nat) : State :=
  if s.isSet (.tcFlags d k) Fld.tcFlags_NF then s
  else ((s.put (.tcFlags d k) Fld.tcFlags_NF 1).put (.tcFlags d k) Fld.tcFlags_NF_CAUSE cause).put (.tcFlags d k) Fld.tcFlags_NF_PC pc

/-- The flag under a condition. -/
def State.tcNfIf (s : State) (b : Bool) (d : Fin 4) (k : Fin 11) (cause pc : Nat) : State := if b then s.tcNf d k cause pc else s

/-- The saturation flag under a condition (R120). -/
def State.tcSatIf (s : State) (b : Bool) (d : Fin 4) (k : Fin 11) : State :=
  if b then s.put (.tcFlags d k) Fld.tcFlags_SAT 1 else s

/-- An uncorrectable ledge read: recorded with the first slot whose read met it, NF with cause 2, no stop (R144, R145). -/
def State.tcBadRead (s : State) (bad : Option Nat) (d : Fin 4) (k : Fin 11) (pc : Nat) : State :=
  match bad with
  | some slot => (s.tcRecord d k 0x0A pc slot).tcNf d k 2 pc
  | none => s

/-- The first slot of a list whose read met an uncorrectable word. -/
def firstBad (l : List (Nat × Bool)) : Option Nat := (l.find? Prod.snd).map Prod.fst

/-! ### Issue and completion (R138, R139) -/

/-- An operation goes in flight. -/
def State.tcStart (s : State) (d : Fin 4) (k : Fin 11) (op : TcOp) : State :=
  (s.setTcCore d k { s.tcCore d k with ops := (s.tcCore d k).ops ++ [op] }).put (.tcStatus d k) Fld.tcStatus_BUSY 1

/-- TC_PC and ISSUED after an issue (R133, R148). -/
def State.tcIssued (s : State) (d : Fin 4) (k : Fin 11) : State :=
  (s.put (.tcPc d k) Fld.tcPc_INDEX (s.tcPcOf d k + 1)).addf (.tcOps d k) Fld.tcOps_ISSUED 1

/-- Some opcode among `l` is in flight. -/
def State.tcBusyWith (s : State) (d : Fin 4) (k : Fin 11) (l : List Nat) : Bool :=
  (s.tcCore d k).ops.any (fun o => l.contains o.opcode)

/-- An MM, or a DRAIN or SMAX, of a bank is in flight. -/
def State.tcBankBusy (s : State) (d : Fin 4) (k : Fin 11) (l : List Nat) (bank : Nat) : Bool :=
  (s.tcCore d k).ops.any (fun o => l.contains o.opcode && o.bank == bank)

/-- The KV operations that hold the array, both banks and the softmax unit (R139). -/
def kvArrayOps : List Nat := [0x41, 0x42, 0x43]

/-- Operations that write the ledge (R140). -/
def ledgeWriters : List Nat := [0x28, 0x30, 0x42, 0x43]

/-- New pages that a run of positions starts (R86). -/
def newPages (pos n : Nat) : Nat := (pos + n + 255) / 256 - (pos + 255) / 256

/-- Opcodes that occupy a unit that an opcode needs: weight port, array, drain port, softmax unit, append path and frame manager
(R137). -/
def unitRivals : Nat → List Nat
  | 0x10 => [0x10]
  | 0x20 => 0x20 :: kvArrayOps
  | 0x28 => [0x28, 0x30]
  | 0x30 => [0x28, 0x30, 0x42, 0x43]
  | 0x40 => [0x40]
  | 0x41 => [0x20, 0x28, 0x30] ++ kvArrayOps
  | 0x42 => [0x20, 0x28, 0x30] ++ kvArrayOps
  | 0x43 => [0x20, 0x28, 0x30] ++ kvArrayOps
  | 0x44 => [0x44]
  | _ => []

/-- An opcode's unit is free, and no NOP holds the issue stage (R137, R138). -/
def State.unitFree (s : State) (d : Fin 4) (k : Fin 11) (opcode : Nat) : Bool :=
  (s.tcCore d k).hold == 0 && !(s.tcCore d k).ops.any (fun o => decide (0 < o.left) && (unitRivals opcode).contains o.opcode)

/-- What the checks at issue find: a code and the slot concerned (R144, R145). -/
abbrev TcFault := Option (Nat × Nat)

/-- The slot of R145's records that names none. -/
def noSlot : Nat := 0xFFFF

/-- A check: a code and a slot unless the condition holds. -/
def need (ok : Bool) (code slot : Nat) : TcFault := if ok then none else some (code, slot)

/-- The first fault of a list of checks, in order (R144). -/
def firstFault : List TcFault → TcFault
  | [] => none
  | f :: fs => match f with
    | some x => some x
    | none => firstFault fs

/-- The flags stand in the opcode's list, and PACK is not 3 (R129, R137). -/
def flagCheck (i : TcInstr) : TcFault :=
  need (clearBits i.flags ((opcodeFlags i.opcode).getD 0) == 0 && i.pack != 3) 0x02 noSlot

/-- A slot number within the table whose entry is a tile (R134). -/
def State.tileKind (s : State) (d : Fin 4) (k : Fin 11) (n : Nat) : TcFault :=
  need (decide (n < 1024) && (s.tileSlot d k n).kind == 1) 0x07 n

/-- The tile lies in the ledge (R135). -/
def State.tilePlace (s : State) (d : Fin 4) (k : Fin 11) (n : Nat) : TcFault := need (s.tileSlot d k n).inLedge 0x08 n

/-- The parameter slot is one (R134, R136). -/
def State.kvParams (s : State) (d : Fin 4) (k : Fin 11) (n : Nat) : TcFault :=
  need (decide (n < 1024) && (s.kvSlot d k n).kind == 2) 0x07 n

/-- Every parameter of a slot lies in its stated range, and its reserved bits are zero, whichever operation names it (R89, R136). -/
def KvSlot.inRange (p : KvSlot) (seqs layers heads : Nat) : Bool :=
  decide (p.seq < seqs ∧ p.layer < layers ∧ p.head < heads) && decide (2 ≤ p.k ∧ p.k ≤ 2048 ∧ p.w + 2 ≤ p.k) &&
  !(f32 p.beta).isNan && !flt p.beta 0 && p.record % 64 == 0 && p.reserved == 0

/-- Ranges that the parameters of an operation must lie in (R136). -/
def State.kvRanges (s : State) (p : KvSlot) (n : Nat) : TcFault :=
  need (p.inRange (s.fld .ntKvCfg Fld.ntKvCfg_SEQ_COUNT) (s.seqLayers p.seq) (s.seqHeads p.seq)) 0x06 n

/-- The checks of KV_APPEND at issue. -/
def State.appendCheck (s : State) (d : Fin 4) (k : Fin 11) (i : TcInstr) : TcFault :=
  let p := s.kvSlot d k i.a
  let cols := 128 * s.seqHeads p.seq
  let rows := fun n => need ((s.tileSlot d k n).cols == cols && decide (p.nrows ≤ (s.tileSlot d k n).rows)) 0x06 n
  firstFault [s.kvParams d k i.a, s.tileKind d k i.b, s.tileKind d k i.c,
    need ((s.tileSlot d k i.b).fmt == 0) 0x03 i.b, need ((s.tileSlot d k i.c).fmt == 0) 0x03 i.c,
    s.kvRanges p i.a, need (decide (p.pos + p.nrows ≤ 256 * 2 ^ s.seqStride p.seq)) 0x06 i.a,
    rows i.b, rows i.c, s.tilePlace d k i.b, s.tilePlace d k i.c]

/-- Device address of the frame that a page-table entry names. -/
def State.pageAddr (s : State) (e : Pte) : Nat := s.kvAddr (e.tier - 1) e.frame

/-- COUNT of a page's trailer (R77). -/
def State.pageCount (s : State) (e : Pte) (heads : Nat) : Nat :=
  ofLe (s.peek (s.pageAddr e + kvBody (e.fmt == 1) heads + 12) 2)

/-- The page that a position starts in does not continue where the append begins (R86). -/
def State.appendOrder (s : State) (p : KvSlot) : Bool :=
  let e := s.pte p.seq p.layer (p.pos / 256)
  if p.pos % 256 = 0 then e.tier == 0 else e.tier != 0 && p.pos % 256 == s.pageCount e (s.seqHeads p.seq)

/-- Later pages of the run must be absent (R86). -/
def State.appendRoom (s : State) (p : KvSlot) : Bool :=
  (List.range (newPages p.pos p.nrows)).all (fun j => (s.pte p.seq p.layer ((p.pos + 255) / 256 + j)).tier == 0)

/-- The format stands: that of the page, and no FP8 for an FP4-only sequence (R86). -/
def State.appendFormat (s : State) (p : KvSlot) (fp8 : Bool) : Bool :=
  !(fp8 && s.seqFp4Only p.seq) &&
  (p.pos % 256 == 0 || (s.pte p.seq p.layer (p.pos / 256)).fmt == b2n fp8)

/-- A near frame is there for every page that an append of a sequence that is not a training one starts: granted at the
step boundary, or available now (R96, R97). Without one the append waits (log entry 11). -/
def State.framesFor (s : State) (p : KvSlot) : Bool :=
  s.seqTrain p.seq ||
  decide (newPages p.pos p.nrows ≤ (s.kv.grants.filter (fun g => g.1 == p.seq)).length + s.kvAvail 0)

/-- An append need not wait for a frame: it has its frames, or it is rejected before it takes any (R86, R144). -/
def State.appendFrames (s : State) (d : Fin 4) (k : Fin 11) (i : TcInstr) : Bool :=
  let p := s.kvSlot d k i.a
  (firstFault [flagCheck i, s.appendCheck d k i]).isSome || !(s.appendOrder p && s.appendRoom p) || !s.appendFormat p i.kvfmt ||
  s.framesFor p

/-- Page numbers and recorded generations of a backward record (R93). -/
def State.recordPages (s : State) (a : Nat) : List (Nat × Nat) :=
  (List.range (ofLe (s.peek a 2))).map (fun j => (ofLe (s.peek (a + 16 + 8 * j) 4), ofLe (s.peek (a + 20 + 8 * j) 4)))

/-- Device address of a cairn entry (R88). -/
def State.cairnAddr (s : State) (n l h p : Nat) : Nat :=
  s.seqGet n 32 8 + ((l * s.seqHeads n + h) * 2 ^ s.seqStride n + p) * 144

/-- A page as a range `(address, bytes)`. -/
def State.pageRange (s : State) (e : Pte) (heads : Nat) : Nat × Nat := (s.pageAddr e, kvBody (e.fmt == 1) heads + 64)

/-- U32 values of an FMT 12 slot as they stand. -/
def State.peekU32s (s : State) (d : Fin 4) (t : TileSlot) : List Nat :=
  splitBits 32 t.rows (ofLe (s.peek (ledgeBase + d.val * 2 ^ 28 + t.base) (4 * t.rows)))

/-- What a KV operation touches outside the ledge, as `(address, bytes)`: record, cairn entries, pages. -/
def State.kvTouched (s : State) (d : Fin 4) (k : Fin 11) (i : TcInstr) : List (Nat × Nat) :=
  let p := s.kvSlot d k i.a
  let heads := s.seqHeads p.seq
  let list := fun (_ : Unit) => (p.record, 1040) :: (s.recordPages p.record).map (fun x => s.pageRange (s.pte p.seq p.layer x.1) heads)
  match i.opcode with
  | 0x40 => if p.pos % 256 = 0 then [] else [s.pageRange (s.pte p.seq p.layer (p.pos / 256)) heads]
  | 0x41 => [(p.record, 16), (s.cairnAddr p.seq p.layer p.head 0, 144 * ((s.peekU32s d (s.tileSlot d k (i.b + 1))).foldl max 0 / 256 + 1))]
  | 0x42 => list ()
  | 0x43 => list ()
  | _ => []

/-- A KV operation waits for a tier: a retirement copy, a calibration that takes a channel, or self-refresh (R55, R59, R65, R143). -/
def State.kvWaits (s : State) (d : Fin 4) (k : Fin 11) (i : TcInstr) : Bool := !s.tiersFree && s.mustWaitAny (s.kvTouched d k i)

/-- The interlocks of R139, the waits of WAIT_SEQ and WAIT_OWN, and the fences (R137, R139). -/
def State.tcInterlock (s : State) (d : Fin 4) (k : Fin 11) (i : TcInstr) : Bool :=
  match i.opcode with
  | 0x01 => (s.tcCore d k).ops.isEmpty
  | 0x02 => (s.tcCore d k).ops.isEmpty
  | 0x03 => s.fbufReached d i.a i.count
  | 0x04 => !s.tcBusyWith d k ledgeWriters
  | 0x05 => !(decide (i.a < 1024) && (s.tileSlot d k i.a).kind == 1 && (s.tileSlot d k i.a).inLedge) ||
      (s.firstForeign d (s.logicalOf d k) (s.tileSlot d k i.a).ranges).isNone
  | 0x06 => (s.tcCore d k).ops.isEmpty
  | 0x10 => !s.tcBusyWith d k [0x10]
  | 0x11 => !s.tcBusyWith d k [0x10] && !(s.tcCore d k).ops.any (fun o => o.opcode == 0x20 && decide (1 < o.left))
  | 0x20 => (s.tcCore d k).active.loaded && !s.tcBusyWith d k kvArrayOps &&
      !(i.fresh && (s.tcCore d k).ops.any (fun o => (o.opcode == 0x28 || o.opcode == 0x30) && o.bank == i.bank && decide (0 < o.left)))
  | 0x28 => !s.tcBankBusy d k [0x20] i.bank && !s.tcBusyWith d k kvArrayOps
  | 0x30 => !s.tcBankBusy d k [0x20] i.bank && !s.tcBusyWith d k kvArrayOps
  | 0x40 => s.appendFrames d k i
  | 0x41 => !s.tcBusyWith d k ([0x20, 0x28, 0x30, 0x40] ++ kvArrayOps)
  | 0x42 => !s.tcBusyWith d k ([0x20, 0x28, 0x30, 0x40] ++ kvArrayOps)
  | 0x43 => !s.tcBusyWith d k ([0x20, 0x28, 0x30, 0x40] ++ kvArrayOps)
  | _ => true

/-- An operation may issue: its unit is free, its interlocks are met, and no tier makes it wait (R138, R139, R143). -/
def State.tcReady (s : State) (d : Fin 4) (k : Fin 11) (i : TcInstr) : Bool :=
  s.unitFree d k i.opcode && s.tcInterlock d k i && !s.kvWaits d k i

/-- Issue of the operation that a command names: a ring that holds another one leaves the core as it is; a reserved opcode
and a failed check stop it; an operation whose interlocks are not met waits (R133, R137 to R139, R144). -/
def State.tcIssue (s : State) (d : Fin 4) (k : Fin 11) (opcode : Nat) (check : TcInstr → TcFault)
    (run : TcInstr → Nat → State → State) : State :=
  if s.tcRunning d k then
    match s.tcNext d k with
    | none => s
    | some i =>
      let pc := s.tcPcOf d k
      if (opcodeFlags i.opcode).isNone then s.tcStop d k 0x01 pc noSlot
      else if i.opcode ≠ opcode then s
      else if s.tcReady d k i then
        match firstFault [flagCheck i, check i] with
        | some f => s.tcStop d k f.1 pc f.2
        | none => run i pc (s.tcIssued d k)
      else s
  else s

/-- No check beyond the flags. -/
def noCheck (_ : TcInstr) : TcFault := none

/-- The slots of an operand: one, 4 or 16 from the one named (R130). -/
def groupSlots (first pack : Nat) : List Nat := (List.range (4 ^ pack)).map (fun q => first + q)

/-- The problem size (R129). -/
def packU (pack : Nat) : Nat := 256 / 2 ^ pack

/-- The first failed check over the slots of a group. -/
def slotFault (slots : List Nat) (f : Nat → TcFault) : TcFault := firstFault (slots.map f)

/-- Shape and place of a tile slot (R130, R135). -/
def State.tileShape (s : State) (d : Fin 4) (k : Fin 11) (rows cols n : Nat) : TcFault :=
  need ((s.tileSlot d k n).rows == rows && (s.tileSlot d k n).cols == cols) 0x06 n

/-- Ranges of a group of slots. -/
def State.groupRanges (s : State) (d : Fin 4) (k : Fin 11) (slots : List Nat) : List (Nat × Nat) :=
  slots.flatMap (fun n => (s.tileSlot d k n).ranges)

/-- Read every tile of a group; the slot is the first whose read met an uncorrectable word. -/
def State.readGroup (d : Fin 4) (k : Fin 11) : State → List Nat → List Tile × Option Nat × State
  | s, [] => ([], none, s)
  | s, n :: ns =>
    let p := s.readTile d (s.logicalOf d k) (s.tileSlot d k n)
    let q := State.readGroup d k p.2.2 ns
    (p.1 :: q.1, if p.2.1 then some n else q.2.1, q.2.2)

/-- The first slot of a list that touches a word of another owner (R144). -/
def State.foreignSlot (s : State) (d : Fin 4) (k : Fin 11) (slots : List Nat) : Nat :=
  (slots.find? (fun n => (s.firstForeign d (s.logicalOf d k) (s.tileSlot d k n).ranges).isSome)).getD noSlot

/-! ### NOP, FENCE, WAIT_SEQ, POST_SEQ, WAIT_OWN, SWPW and HALT (R137) -/

/-- NOP: tile operation 0x00 holds the issue stage for C cycles more (R137). -/
def execTcNop (d : Fin 4) (k : Fin 11) (s : State) : Host.Outcome State Fault Refusal :=
  .next (s.tcIssue d k 0x00 noCheck (fun i _ t => t.setTcCore d k { t.tcCore d k with hold := i.c }))

/-- HALT: once every earlier operation has completed RUN clears and DONE sets (R137, R148). -/
def execHalt (d : Fin 4) (k : Fin 11) (s : State) : Host.Outcome State Fault Refusal :=
  .next (s.tcIssue d k 0x01 noCheck (fun _ _ t =>
    ((t.put (.tcCtrl d k) Fld.tcCtrl_RUN 0).put (.tcStatus d k) Fld.tcStatus_DONE 1).irq (ridgeSource d 0)))

/-- FENCE: issues once every earlier operation has completed (R137). -/
def execFence (d : Fin 4) (k : Fin 11) (s : State) : Host.Outcome State Fault Refusal :=
  .next (s.tcIssue d k 0x02 noCheck (fun _ _ t => t))

/-- WAIT_SEQ: issues once the fusion buffer's count is not older than the value (R137, R165). -/
def execWaitSeq (d : Fin 4) (k : Fin 11) (s : State) : Host.Outcome State Fault Refusal :=
  .next (s.tcIssue d k 0x03 noCheck (fun _ _ t => t))

/-- POST_SEQ: once every earlier ledge write is complete, the count is published (R137, R165). -/
def execPostSeq (d : Fin 4) (k : Fin 11) (s : State) : Host.Outcome State Fault Refusal :=
  .next (s.tcIssue d k 0x04 noCheck (fun i _ t => t.fbufPublish d (Fin.ofNat 256 i.a) [i.count]))

/-- WAIT_OWN: issues once the core owns every bank that the tile touches (R137). -/
def execWaitOwn (d : Fin 4) (k : Fin 11) (s : State) : Host.Outcome State Fault Refusal :=
  .next (s.tcIssue d k 0x05 (fun i => firstFault [s.tileKind d k i.a, s.tilePlace d k i.a]) (fun _ _ t => t))

/-- SWPW: exchanges the two weight planes, after the last LDW has completed (R124, R139). -/
def execSwpw (d : Fin 4) (k : Fin 11) (s : State) : Host.Outcome State Fault Refusal :=
  .next (s.tcIssue d k 0x11 noCheck (fun _ _ t =>
    t.setTcCore d k { t.tcCore d k with active := (t.tcCore d k).shadow, shadow := (t.tcCore d k).active }))

/-! ### LDW and MM (R123 to R131) -/

/-- Format checks of an array operand: TRANS, the formats of R127, and one row of its table for a whole group. -/
def State.arrayFormats (s : State) (d : Fin 4) (k : Fin 11) (i : TcInstr) (slots : List Nat) (plane : Option Nat) : TcFault :=
  let fmt := fun n => (s.tileSlot d k n).fmt
  let cls := plane.or ((slots.head?).bind (fun n => arrayClass (fmt n)))
  firstFault [
    slotFault slots (fun n => need (!(i.trans && fmtScaled (fmt n))) 0x02 n),
    slotFault slots (fun n => need (arrayClass (fmt n)).isSome 0x03 n),
    slotFault slots (fun n => need (arrayClass (fmt n) == cls) 0x04 n)]

/-- Rows and columns of a transposed tile; `k` columns. -/
def transposeRows {α : Type} (dflt : α) (k : Nat) (rows : List (List α)) : List (List α) :=
  (List.range k).map (fun c => rows.map (fun r => r.getD c dflt))

/-- The checks of LDW at issue (R127 to R130, R134, R135). -/
def State.ldwCheck (s : State) (d : Fin 4) (k : Fin 11) (i : TcInstr) : TcFault :=
  let slots := groupSlots i.a i.pack
  let u := packU i.pack
  firstFault [slotFault slots (s.tileKind d k), s.arrayFormats d k i slots none,
    slotFault slots (fun n => s.tileShape d k (if (s.tileSlot d k n).fmt = 5 then 2 * u else u) u n),
    slotFault slots (s.tilePlace d k)]

/-- A tile transposed under TRANS, which only formats without scales carry (R128). -/
def Tile.oriented (trans : Bool) (t : Tile) : Tile :=
  if trans then { t with codes := transposeRows 0 t.codes.length t.codes } else t

/-- LDW: the tiles of the group fill the shadow plane, one for each problem (R124, R128, R137). -/
def execLdw (d : Fin 4) (k : Fin 11) (s : State) : Host.Outcome State Fault Refusal :=
  .next (s.tcIssue d k 0x10 (s.ldwCheck d k) (fun i pc t =>
    let slots := groupSlots i.a i.pack
    match t.foreignHit d (t.logicalOf d k) (t.groupRanges d k slots) with
    | some t1 => t1.tcStop d k 0x09 pc (t.foreignSlot d k slots)
    | none =>
      let r := State.readGroup d k t slots
      let t1 := (r.2.2.tcBadRead r.2.1 d k pc).tcNfIf (r.1.any Tile.nonFinite) d k 2 pc
      let t2 := t1.setTcCore d k { t1.tcCore d k with shadow := ⟨true, i.pack, r.1.map (Tile.oriented i.trans)⟩ }
      t2.tcStart d k ⟨pc, 0x10, 0, 256, [], []⟩))

/-- Exact products of one row and one column, added in pairs where a cell holds two elements (R116). -/
def products (paired : Bool) : List Fp → List Fp → List Fp
  | a :: a' :: as, w :: w' :: ws =>
    if paired then ((a.mul w).add (a'.mul w')) :: products paired as ws
    else a.mul w :: a'.mul w' :: products paired as ws
  | [a], [w] => [a.mul w]
  | _, _ => []

/-- One add32, with whether finite operands gave an infinity (R117, R120 cause 1). -/
def addFlag (s : Nat) (p : Fp) : Nat × Bool :=
  let r := add32 s p
  (r, ffinite s && p.isFin && !ffinite r)

/-- A column's sum from +0 in ascending row order (R117). -/
def columnSum : List Fp → Nat → Bool → Nat × Bool
  | [], s, o => (s, o)
  | p :: ps, s, o => columnSum ps (addFlag s p).1 (o || (addFlag s p).2)

/-- Results of one problem: activation rows against weight columns, each with its overflow flag. -/
def problemSums (paired : Bool) (acts cols : List (List Fp)) : List (List (Nat × Bool)) :=
  acts.map (fun a => cols.map (fun w => columnSum (products paired a w) 0 false))

/-- Tiles of the problems laid out as the 256 rows of a bank (R129): entry `i` of column `c` belongs to the problem with
row block `i / u` and column block `c / u`. -/
def bankLayout {α : Type} (dflt : α) (u : Nat) (tiles : List (List (List α))) : List (List α) :=
  (List.range 256).map (fun i => (List.range 256).map (fun c =>
    (((tiles.getD (i / u * (256 / u) + c / u) []).getD (i % u) []).getD (c % u) dflt)))

/-- The tile of problem `q` in a bank. -/
def bankTile (u q : Nat) (rows : List (List Nat)) : List (List Nat) :=
  ((rows.drop (q / (256 / u) * u)).take u).map (fun r => (r.drop (q % (256 / u) * u)).take u)

/-- A bank of a core. -/
def TcCore.bank (c : TcCore) (b : Nat) : Bank := if b = 0 then c.bank0 else c.bank1

/-- A core with one bank replaced. -/
def TcCore.setBank (c : TcCore) (b : Nat) (x : Bank) : TcCore := if b = 0 then { c with bank0 := x } else { c with bank1 := x }

/-- The contents of a bank; while they are undefined, free values (R125, log entry 1). -/
def State.bankRows (s : State) (b : Bank) : List (List Nat) × State :=
  if b.rows.isEmpty then (chunksOf 256 256 ((s.freeVals 65536).map (fun n => n % 2 ^ 32)), s.tookFrees 65536) else (b.rows, s)

/-- The checks of MM at issue (R127 to R131, R134, R135). -/
def State.mmCheck (s : State) (d : Fin 4) (k : Fin 11) (i : TcInstr) : TcFault :=
  let slots := groupSlots i.a i.pack
  let u := packU i.pack
  let plane := (s.tcCore d k).active
  firstFault [slotFault slots (s.tileKind d k),
    s.arrayFormats d k i slots ((plane.tiles.head?).bind (fun t => arrayClass t.fmt)),
    need (i.pack == plane.pack) 0x05 i.a,
    slotFault slots (fun n => s.tileShape d k u (if (s.tileSlot d k n).fmt = 5 then 2 * u else u) n),
    slotFault slots (s.tilePlace d k)]

/-- Weight columns of a plane's tile. -/
def Tile.columns (t : Tile) (u : Nat) : List (List Fp) := transposeRows Fp.nan u t.values

/-- MM: every problem's activation rows stream through the active plane into a bank (R116 to R120, R129, R137). -/
def execMm (d : Fin 4) (k : Fin 11) (s : State) : Host.Outcome State Fault Refusal :=
  .next (s.tcIssue d k 0x20 (s.mmCheck d k) (fun i pc t =>
    let slots := groupSlots i.a i.pack
    match t.foreignHit d (t.logicalOf d k) (t.groupRanges d k slots) with
    | some t1 => t1.tcStop d k 0x09 pc (t.foreignSlot d k slots)
    | none =>
      let r := State.readGroup d k t slots
      let u := packU i.pack
      let core := r.2.2.tcCore d k
      let sums := bankLayout (0, false) u (r.1.mapIdx (fun q a =>
        problemSums (a.fmt == 5) ((a.oriented i.trans).values) ((core.active.tiles.getD q ⟨0, [], []⟩).columns u)))
      let old := core.bank i.bank
      let base := if i.fresh then ([], r.2.2) else r.2.2.bankRows old
      let res := if i.fresh then sums else
        sums.mapIdx (fun y row => row.mapIdx (fun x p =>
          let a := addFlag ((base.1.getD y []).getD x 0) (f32 p.1)
          (a.1, p.2 || a.2)))
      let t1 := base.2.tcBadRead r.2.1 d k pc
      let t2 := (t1.tcNfIf (r.1.any Tile.nonFinite) d k 2 pc).tcNfIf (res.any (fun row => row.any Prod.snd)) d k 1 pc
      let nb : Bank := ⟨res.map (fun row => row.map Prod.fst), i.pack,
        !i.fresh && !old.rows.isEmpty && (old.mixed || old.pack != i.pack)⟩
      (t2.setTcCore d k ((t2.tcCore d k).setBank i.bank nb)).tcStart d k
        ⟨pc, 0x20, i.bank, if r.1.any (fun a => a.fmt == 1) then 2 * u else u, [], []⟩))

/-! ### DRAIN and SMAX (R107 to R114, R131, R141) -/

/-- Output formats of the drain port: every format with an element that the array or the gradients use (R106, R108). -/
def drainFormat (f : Nat) : Bool := (fmtElt f).isSome && f != 9 && f != 10

/-- State of a lane's generator before its first draw: seeded at the last marker, or the constant of R114. -/
def State.laneState (s : State) (d : Fin 4) (lane : Nat) : Nat :=
  match s.tensor.gens.getD d.val none with
  | some g => seedState g.seed g.step g.node lane
  | none => genIdle

/-- Cycles of successive conversions: each a gap later than the one before. -/
def spread : Nat → List Nat → List Nat
  | _, [] => []
  | c, g :: gs => (c + 1 + g) :: spread (c + 1 + g) gs

/-- Duty limiting skips cycles of the arrays of a die (R132). -/
def State.dutyLimited (s : State) (d : Fin 4) : Bool := s.fld (.pwrDomain ⟨d.val, by omega⟩) Fld.pwrDomain_DUTY != 63

/-- The T-clock cycles, counted from the marker, in which a unit of a die makes `n` successive conversions on its lanes, the last one
before them in cycle `last`: they are later than the cycles that have passed, and a free value says where they begin and, where
`loose` says that they may pause, for how long (R113, R114, R132; log entry 1). -/
def State.drawCycles (s : State) (d : Fin 4) (last n : Nat) (loose : Bool) : List Nat :=
  spread (max (s.tensor.elapsed.getD d.val 0) last) ((s.freeVals n).mapIdx (fun i g => if i = 0 || loose then g else 0))

/-- The draw of a lane in a T-clock cycle, counted from the marker (R114). -/
def State.laneDraw (s : State) (d : Fin 4) (lane cycle : Nat) : Nat := genDraw (genAfter cycle (s.laneState d lane))

/-- Packing check against the bank that is read (R131). -/
def bankPack (b : Bank) (pack slot : Nat) : TcFault := need (b.rows.isEmpty || (!b.mixed && b.pack == pack)) 0x05 slot

/-- The checks of DRAIN at issue. -/
def State.drainCheck (s : State) (d : Fin 4) (k : Fin 11) (i : TcInstr) : TcFault :=
  let slots := groupSlots i.a i.pack
  let u := packU i.pack
  firstFault [slotFault slots (s.tileKind d k),
    slotFault slots (fun n => need (!(i.sr && (s.tileSlot d k n).fmt == 0)) 0x02 n),
    slotFault slots (fun n => need (drainFormat (s.tileSlot d k n).fmt) 0x03 n),
    bankPack ((s.tcCore d k).bank i.bank) i.pack i.a,
    slotFault slots (s.tileShape d k u u), slotFault slots (s.tilePlace d k)]

/-- DRAIN: each problem's tile of the bank is converted row by row and written, row `r` of the bank in the `r`-th of the cycles of
`drawCycles` (R111, R113, R137). -/
def execDrain (d : Fin 4) (k : Fin 11) (s : State) : Host.Outcome State Fault Refusal :=
  .next (s.tcIssue d k 0x28 (s.drainCheck d k) (fun i pc t =>
    let slots := groupSlots i.a i.pack
    match t.foreignHit d (t.logicalOf d k) (t.groupRanges d k slots) with
    | some t1 => t1.tcStop d k 0x09 pc (t.foreignSlot d k slots)
    | none =>
      let u := packU i.pack
      let b := t.bankRows ((t.tcCore d k).bank i.bank)
      let cycles := b.2.drawCycles d (b.2.tcCore d k).drawn 256 (b.2.dutyLimited d)
      let t0 := b.2.tookFrees 256
      let t1 := t0.setTcCore d k { t0.tcCore d k with drawn := cycles.getLastD 0 }
      let g := 256 / u
      let outs := slots.mapIdx (fun q n => (n, (bankTile u q b.1).mapIdx (fun r row =>
        convertRow (t1.tileSlot d k n).fmt i.nanp (fun c =>
          if i.sr then .stochastic (t1.laneDraw d (laneColumn d.val (t1.logicalOf d k) (q % g * u + c)) (cycles.getD (q / g * u + r) 0))
          else .nearest) row)))
      let rows := outs.flatMap Prod.snd
      let runs := outs.flatMap (fun o => (t1.tileSlot d k o.1).runs o.2)
      let t2 := State.writeRuns d (t1.logicalOf d k) t1 runs
      let t3 := (t2.tcNfIf (rows.any RowOut.nf) d k 3 pc).tcSatIf (rows.any RowOut.sat) d k
      t3.tcStart d k ⟨pc, 0x28, i.bank, 256, t1.oldRuns d runs, []⟩))

/-- `fmaxf`: ignores a NaN operand. -/
def fmaxf (a b : Nat) : Nat := if (f32 a).isNan then b else if (f32 b).isNan then a else fmax a b

/-- What SMAX forms from one row: m, l, the row of p, and whether every value was −∞ or NaN (R141). -/
structure SoftRow where
  m : Nat
  l : Nat
  p : List Nat
  empty : Bool
deriving DecidableEq, Repr

/-- SMAX over one row (R141). -/
def softRow (c : Nat) (acc : List Nat) : SoftRow :=
  let xs := acc.map (fmul c)
  let m := xs.foldl fmaxf 0x7FC00000
  let es := xs.map (fun x => tcExp (fsub x m))
  let l := es.foldl (fun a e => add32 a (f32 e)) 0
  let inv := fdiv 0x3F800000 l
  ⟨m, l, es.map (fun e => fmul e inv), xs.all (fun x => (f32 x).isNan || x == 0xFF800000)⟩

/-- The checks of SMAX at issue (R141). -/
def State.smaxCheck (s : State) (d : Fin 4) (k : Fin 11) (i : TcInstr) : TcFault :=
  firstFault [s.tileKind d k i.a, s.tileKind d k i.c,
    need (drainFormat (s.tileSlot d k i.a).fmt) 0x03 i.a, need ((s.tileSlot d k i.c).fmt == 0) 0x03 i.c,
    bankPack ((s.tcCore d k).bank i.bank) 0 i.a,
    s.tileShape d k 256 256 i.a, s.tileShape d k 256 64 i.c, s.tilePlace d k i.a, s.tilePlace d k i.c]

/-- SMAX: the softmax of each row of a bank, and the two statistics of each row (R141). -/
def execSmax (d : Fin 4) (k : Fin 11) (s : State) : Host.Outcome State Fault Refusal :=
  .next (s.tcIssue d k 0x30 (s.smaxCheck d k) (fun i pc t =>
    let out := t.tileSlot d k i.a
    let st := t.tileSlot d k i.c
    let stat := (List.range 256).map (fun r => (st.base + r * st.pitch, 8))
    match t.foreignHit d (t.logicalOf d k) (out.ranges ++ stat) with
    | some t1 => t1.tcStop d k 0x09 pc (if (t.firstForeign d (t.logicalOf d k) out.ranges).isSome then i.a else i.c)
    | none =>
      let b := t.bankRows ((t.tcCore d k).bank i.bank)
      let rs := b.1.map (softRow (i.b * 2 ^ 16))
      let rows := rs.map (fun r => convertRow out.fmt i.nanp (fun _ => .nearest) r.p)
      let runs := out.runs rows ++ rs.mapIdx (fun r x => (st.base + r * st.pitch, toLe 4 x.m ++ toLe 4 x.l))
      let t1 := State.writeRuns d (b.2.logicalOf d k) b.2 runs
      let t2 := (t1.tcNfIf (rs.any SoftRow.empty || rows.any RowOut.nf) d k 3 pc).tcSatIf (rows.any RowOut.sat) d k
      t2.tcStart d k ⟨pc, 0x30, i.bank, 512, b.2.oldRuns d runs, []⟩))

/-! ### Run, stop, limits, waits and remap (R133, R144, R146, R148) -/

/-- TC_RUN: a write of 1 to RUN starts issue at TC_PC; a core without a logical number ignores it (R146, R148). -/
def execTcRun (d : Fin 4) (k : Fin 11) (s : State) : Host.Outcome State Fault Refusal :=
  .next (if s.doms.compute.testBit d.val && decide (s.logicalOf d k < 10) then s.put (.tcCtrl d k) Fld.tcCtrl_RUN 1 else s)

/-- A write of 1 to STOP, or of 0 to RUN, of a core that runs (R148). -/
def State.tcStopWrite (s : State) (d : Fin 4) (k : Fin 11) : State :=
  if s.doms.compute.testBit d.val && s.isSet (.tcCtrl d k) Fld.tcCtrl_RUN then s.put (.tcCtrl d k) Fld.tcCtrl_STOP 1 else s

/-- TC_STOP: issue stops at the next operation boundary (R148). -/
def execTcStop (d : Fin 4) (k : Fin 11) (s : State) : Host.Outcome State Fault Refusal := .next (s.tcStopWrite d k)

/-- TC_STOP_DONE: the operations in flight have completed; RUN and STOP clear together (R148). -/
def execTcStopDone (d : Fin 4) (k : Fin 11) (s : State) : Host.Outcome State Fault Refusal :=
  .next (if s.isSet (.tcCtrl d k) Fld.tcCtrl_STOP && (s.tcCore d k).ops.isEmpty then
    (s.put (.tcCtrl d k) Fld.tcCtrl_RUN 0).put (.tcCtrl d k) Fld.tcCtrl_STOP 0
  else s)

/-- A write of TC_PROG_LIMIT (R133). -/
def State.tcLimit (s : State) (d : Fin 4) (k : Fin 11) (v : Nat) : State :=
  if s.doms.compute.testBit d.val then s.put (.tcProgLimit d k) Fld.tcProgLimit_INDEX v else s

/-- TC_PROG_LIMIT_ADVANCE: a write of TC_PROG_LIMIT by software or a traverse engine (R133, R487). -/
def execTcProgLimitAdvance (d : Fin 4) (k : Fin 11) (index : BitVec 16) (s : State) : Host.Outcome State Fault Refusal :=
  .next (s.tcLimit d k index.toNat)

/-- TC_WAIT_TIMEOUT: the oldest operation has waited longer than TC_WAIT_LIMIT (R145, R148). -/
def execTcWaitTimeout (d : Fin 4) (k : Fin 11) (s : State) : Host.Outcome State Fault Refusal :=
  .next (if s.tcRunning d k && s.fld (.tcWaitLimit d k) Fld.tcWaitLimit_LIMIT != 0 then
    match s.tcNext d k with
    | none => s
    | some i => if s.tcReady d k i then s else s.tcStop d k 0x0B (s.tcPcOf d k) (if i.opcode = 0x05 then i.a else noSlot)
  else s)

/-- A map gives each of 0 to 9 at most once and uses no value from 0xA to 0xE (R146). -/
def remapValid (m : Nat) : Bool :=
  let v := (List.range 11).map (fun k => bits m (4 * k + 3) (4 * k))
  v.all (fun x => decide (x < 10) || x == 15) && (List.range 10).all (fun l => decide ((v.filter (· == l)).length ≤ 1))

/-- TC_REMAP_WRITE: a write of MAP, accepted only in Hold with every core of the die stopped (R146). TC_ACTIVE and FULL_SHAPE follow the
map; SVC_LEVEL does not fall with them, which the spec does not state (DESIGN CHOICE, log entry 51). -/
def execTcRemapWrite (d : Fin 4) (map : BitVec 44) (s : State) : Host.Outcome State Fault Refusal :=
  let stopped := ([0, 1, 2, 3, 4, 5, 6, 7, 8, 9, 10] : List (Fin 11)).all (fun k => !s.isSet (.tcCtrl d k) Fld.tcCtrl_RUN)
  .next (if s.domainUp (Reg.tcRemap d).domain then
    if s.inHold && stopped && remapValid map.toNat then
      let s1 := (s.put (.tcRemap d) Fld.tcRemap_MAP map.toNat).remapIds d
      s1.setShape (fput (s1.get .hkShape) Fld.hkShape_TC_ACTIVE (s1.coresOf 15))
    else s.put (.tcRemap d) Fld.tcRemap_REFUSED 1
  else s)

end Sys2Proof.Machine
end

