-- ==== Sys2Proof/Machine/ElemProg.lean ====
section
/-! DEFINITION. Element programs of the optimizer engine (R214, R215). -/

namespace Sys2Proof.Machine

/-- Expansion of the codes of an MX-FP6 block, FMT 9 or 10, to E4M3 codes under the same scale, which is exact (R106). No command of the
table has the vector lanes do it. -/
def expandFp6 (fmt : Nat) (codes : List Nat) : List Nat :=
  codes.map (fun c => (convPlain .e4m3 false .nearest (toF32 ((fmtOf fmt).decode c))).code)

/-- A program instruction (R214). -/
structure ElemInstr where
  op : Nat
  d : Nat
  a : Nat
  b : Nat
  c : Nat
  sr : Bool
  nanp : Bool
deriving DecidableEq, Repr

/-- The fields of an instruction word (R214). -/
def ElemInstr.ofNat (w : Nat) : ElemInstr :=
  ⟨bits w 31 26, bits w 25 21, bits w 20 16, bits w 15 11, bits w 10 6, bit w 5, bit w 4⟩

/-- Instruction `j` of program `p` (R232). -/
def State.elemWord (s : State) (d : Fin 4) (p j : Nat) : Nat :=
  let r : Reg := .optEprog d (Fin.ofNat 256 (16 * p + j / 2))
  if j % 2 = 0 then s.fld r Fld.optEprog_EVEN else s.fld r Fld.optEprog_ODD

/-- The instructions of a program up to its END (R214); `fuel` counts the words left. -/
def elemUntilEnd : List ElemInstr → List ElemInstr
  | [] => []
  | i :: l => if i.op = 0 then [] else i :: elemUntilEnd l

/-- A program's instructions. -/
def State.elemProgram (s : State) (d : Fin 4) (p : Nat) : List ElemInstr :=
  elemUntilEnd ((List.range 32).map (fun j => ElemInstr.ofNat (s.elemWord d p j)))

/-- One block of 32 lanes (R214): FP32 registers by lane, the streams 0 to 3 by lane, which of W, M1 and M2 were stored, the
converted COPY, and the flags. -/
structure LaneBlock where
  regs : List (List Nat)
  streams : List (List Nat)
  stored : List Nat
  copy : Option RowOut
  nf : Bool
  sat : Bool
deriving DecidableEq, Repr

/-- What a program needs beside its block: constants, the formats of the streams as FMT codes, the exponent of PSTEP, and the
rounding of lane `i` in instruction `j` when SR is set. -/
structure ElemEnv where
  consts : List Nat
  formats : List Nat
  step : Nat
  draw : Nat → Nat → Nat
  nanp : Bool

/-- pstep of R215: the exponent's bits from 40 down. -/
def pstepGo (a t : Nat) : Nat → Nat → Nat
  | 0, y => y
  | k + 1, y =>
    let y1 := fmul y y
    pstepGo a t k (if t.testBit k then fmul y1 a else y1)

/-- pstep of R215. -/
def pstep (a t : Nat) : Nat := pstepGo a t 41 0x3F800000

/-- MAX of R215: the fixed NaN when either is NaN. -/
def maxNan (a b : Nat) : Nat := if (f32 a).isNan || (f32 b).isNan then 0x7FC00000 else fmax a b

/-- MIN of R215. -/
def minNan (a b : Nat) : Nat := if (f32 a).isNan || (f32 b).isNan then 0x7FC00000 else fmin a b

/-- Negation of an FP32 code. -/
def fneg (a : Nat) : Nat := if a < 2 ^ 31 then a + 2 ^ 31 else a - 2 ^ 31

/-- An operand by lane: a register or a constant (R214). -/
def LaneBlock.operand (b : LaneBlock) (e : ElemEnv) (n : Nat) : List Nat :=
  if n < 24 then b.regs.getD n [] else List.replicate 32 (e.consts.getD (n - 24) 0)

/-- A result in a register. -/
def LaneBlock.setReg (b : LaneBlock) (n : Nat) (v : List Nat) : LaneBlock := { b with regs := b.regs.set n v }

/-- Three operands combined lane by lane. -/
def lanes3 (f : Nat → Nat → Nat → Nat) : List Nat → List Nat → List Nat → List Nat
  | x :: xs, y :: ys, z :: zs => f x y z :: lanes3 f xs ys zs
  | _, _, _ => []

/-- Fold of a block in ascending lane order (R215). -/
def foldLanes (f : Nat → Nat → Nat) : List Nat → Nat
  | [] => 0
  | x :: xs => xs.foldl f x

/-- ST: the value converted into the stream's format; a value that is not finite sets NF whatever the format (R215). -/
def LaneBlock.store (b : LaneBlock) (e : ElemEnv) (j : Nat) (i : ElemInstr) (v : List Nat) : LaneBlock :=
  let f := e.formats.getD i.d 4
  let rd : Nat → Rounding := fun l => if i.sr then .stochastic (e.draw j l) else .nearest
  let r := convertRow f (i.nanp || e.nanp) rd v
  let b1 := { b with nf := b.nf || r.nf || !v.all ffinite, sat := b.sat || r.sat }
  if i.d = 4 then { b1 with copy := some r }
  else
    { b1 with streams := b1.streams.set i.d (r.codes.map (fun c => toF32 ((fmtOf f).decode c)))
              stored := if b1.stored.contains i.d then b1.stored else b1.stored ++ [i.d] }

/-- One instruction over a block (R215); `j` is its number in the program. -/
def LaneBlock.exec (b : LaneBlock) (e : ElemEnv) (j : Nat) (i : ElemInstr) : LaneBlock :=
  let x := b.operand e i.a
  let y := b.operand e i.b
  let z := b.operand e i.c
  let put := fun (f : Nat → Nat → Nat → Nat) => b.setReg i.d (lanes3 f x y z)
  match i.op with
  | 0x01 => b.setReg i.d (b.streams.getD i.a [])
  | 0x02 => b.store e j i x
  | 0x03 => b.setReg i.d x
  | 0x04 => put (fun p q _ => fadd p q)
  | 0x05 => put (fun p q _ => fsub p q)
  | 0x06 => put (fun p q _ => fmul p q)
  | 0x07 => put (fun p q r => ffma p q r)
  | 0x08 => put (fun p q r => ffma (fneg p) q r)
  | 0x09 => put (fun p q _ => fdiv p q)
  | 0x0A => put (fun p _ _ => fsqrt p)
  | 0x0B => put (fun p q _ => maxNan p q)
  | 0x0C => put (fun p q _ => minNan p q)
  | 0x0D => put (fun p _ _ => fabs32 p)
  | 0x0E => put (fun p q r => if !(f32 r).isNan && !flt r 0 then p else q)
  | 0x0F => put (fun p _ _ => tcExp p)
  | 0x10 => put (fun p _ _ => pstep p e.step)
  | 0x11 => b.setReg i.d (List.replicate 32 (foldLanes fadd x))
  | 0x12 => b.setReg i.d (List.replicate 32 (foldLanes maxNan x))
  | _ => b

/-- A whole program over a block. -/
def elemRun (e : ElemEnv) : Nat → List ElemInstr → LaneBlock → LaneBlock
  | _, [], b => b
  | j, i :: l, b => elemRun e (j + 1) l (b.exec e j i)

/-- A block before its program: registers at +0 (R214). -/
def LaneBlock.start (streams : List (List Nat)) : LaneBlock :=
  ⟨List.replicate 24 (List.replicate 32 0), streams, [], none, false, false⟩

end Sys2Proof.Machine
end

