-- ==== Sys2Proof/Machine/Optim.lean ====
section
/-! DEFINITION. The optimizer engine: quantisation, norm check, retreat log, update, loans (R204 to R224, R231). -/

namespace Sys2Proof.Machine

/-! ### Engine, flags, errors (R120, R204, R231) -/

/-- The optimizer engine of a die as a requester, and its owner code (R179, R407). -/
def optReq (d : Fin 4) : Requester := ⟨d.val, 3, noInst⟩
def optOwner : Nat := 0x30

/-- The engine is enabled. -/
def State.optRunning (s : State) (d : Fin 4) : Bool := s.doms.compute.testBit d.val && s.isSet (.optCtrl d) Fld.optCtrl_RUN

/-- NF of the vector lanes, with its first cause (R120). -/
def State.laneNf (s : State) (d : Fin 4) (b : Bool) (cause : Nat) : State :=
  let o := s.optDie d
  if b && !o.nf then s.setOptDie d { o with nf := true, nfCause := cause } else s

/-- SAT of the vector lanes. -/
def State.laneSat (s : State) (d : Fin 4) (b : Bool) : State := if b then s.setOptDie d { s.optDie d with sat := true } else s

/-- OPT_ERR takes a record, or MORE is set (R231). -/
def State.optRecord (s : State) (d : Fin 4) (code entry : Nat) : State :=
  if s.isSet (.optErr d) Fld.optErr_VALID then s.put (.optErr d) Fld.optErr_MORE 1
  else s.set (.optErr d) (fput (fput (fput 0 Fld.optErr_VALID 1) Fld.optErr_CODE code) Fld.optErr_ENTRY entry)

/-- A stopping failure (R231). -/
def State.optStop (s : State) (d : Fin 4) (code entry : Nat) : State :=
  let s1 := (s.optRecord d code entry).put (.optCtrl d) Fld.optCtrl_RUN 0
  let s2 := (s1.setOptDie d { s1.optDie d with run := none }).put (.optStatus d) Fld.optStatus_BUSY 0
  (s2.ucc (optReq d) code 0 entry).irq (ridgeSource d 5)

/-- An uncorrectable read of gradient data: recorded, NF with cause 2, no stop (R231). -/
def State.optBadRead (s : State) (d : Fin 4) (b : Bool) (entry : Nat) : State :=
  if b then (s.optRecord d 0x05 entry).laneNf d true 2 else s

/-- The loss-scale exponent (R232). -/
def State.lossExp (s : State) (d : Fin 4) : Int := signed 8 (s.fld (.optLscale d) Fld.optLscale_EXP)

/-! ### Tensors in memory (R207) -/

/-- FP32 codes of BF16 bytes. -/
def bf16List : List Byte → List Nat
  | a :: b :: l => ofLe [a, b] * 2 ^ 16 :: bf16List l
  | _ => []

/-- FP32 codes of FP32 bytes. -/
def words32 : List Byte → List Nat
  | a :: b :: c :: e :: l => ofLe [a, b, c, e] :: words32 l
  | _ => []

/-- Read `n` elements of FMT 0 or 1 as FP32 codes, and whether a block was uncorrectable. -/
def State.readReals (s : State) (d : Fin 4) (fmt addr n : Nat) : List Nat × Bool × State :=
  let p := s.readBytes (optReq d) optOwner addr (rowBytes fmt n)
  (if fmt = 1 then bf16List p.1 else words32 p.1, p.2.1 == .uncorrectable, p.2.2)

/-- Conversion of some FP32 codes into BF16 sets NF (R108). -/
def bf16Flag (xs : List Nat) : Bool := xs.any (fun x => (convPlain .bf16 false .nearest x).nf)

/-- Write FP32 codes as FMT 0 or 1; a conversion that is not finite sets NF with cause 3 (R108, R120). -/
def State.writeReals (s : State) (d : Fin 4) (fmt addr : Nat) (xs : List Nat) : State :=
  (s.writeMem (optReq d) optOwner addr
    (if fmt = 1 then xs.flatMap (fun x => toLe 2 (convPlain .bf16 false .nearest x).code) else xs.flatMap (toLe 4))).laneNf d
    (fmt == 1 && bf16Flag xs) 3

/-- The cycle of the last draw of a die's vector lanes (R113). -/
def State.setLaneDrawn (s : State) (d : Fin 4) (cycle : Nat) : State :=
  { s with tensor := { s.tensor with laneDrawn := s.tensor.laneDrawn.set d.val cycle } }

/-- Cycles of the next `n` conversions of each vector lane of a die, which waits between them for memory or for an entry that the pass
pre-empts (R113, R204, R210). -/
def State.laneCycles (s : State) (d : Fin 4) (n : Nat) : List Nat := s.drawCycles d (s.tensor.laneDrawn.getD d.val 0) n true

/-- FMT of M1 and M2 (R207). -/
def momentFmt (x : LayerEntry) : Nat := b2n (leFlag x 3)

/-- Elements rounded up to whole blocks of 256 (R209). -/
def padded (n : Nat) : Nat := (n + 255) / 256 * 256

/-- Bytes of COPY: its elements, then its block scales (R207; log entry 12). -/
def copyBytes (x : LayerEntry) : Nat :=
  rowBytes (leCfmt x) (leElems x) + (if fmtScaled (leCfmt x) then leElems x / fmtBlock (leCfmt x) else 0)

/-- COPY as bytes from the converted runs of the shard in order. -/
def copyImage (cfmt : Nat) (rows : List RowOut) : List Byte :=
  rows.flatMap (fun r => packElems cfmt r.codes) ++ rows.flatMap (fun r => r.scales.map (BitVec.ofNat 8))

/-! ### Quantisation (R209 to R211) -/

/-- ldexpf: an FP32 code scaled by a power of two, rounded where the result is subnormal. -/
def ldexp32 (x : Nat) (k : Int) : Nat := roundF32 ((f32 x).scale k)

/-- One quantised block: codes, scale, pending residuals as BF16 codes (R209). -/
structure QuantBlock where
  codes : List Nat
  scale : Nat
  pend : List Nat
deriving DecidableEq, Repr

/-- Quantise one block of 256 positions, of which `m` hold elements (R209). -/
def quantBlock (m : Nat) (rd : Nat → Rounding) (xs : List Nat) : QuantBlock :=
  let sc := blockScale .e5m2 xs
  let q := xs.mapIdx (fun i x => if i < m then blockElem .e5m2 sc (rd i) x else 0)
  let pend := (List.zipWith Prod.mk xs q).mapIdx (fun i p =>
    if m ≤ i then 0
    else if sc = 0xFF then 0x7FC0
    else (convPlain .bf16 false .nearest (fsub p.1 (toF32 (blockValue .e5m2 sc p.2)))).code)
  ⟨q, sc, pend⟩

/-- The memory of an entry, as `(address, bytes)`: its gradients, its quantised output and its state (R207). -/
def leRanges (x : LayerEntry) : List (Nat × Nat) :=
  let n := leElems x
  [(leLocal x, 4 * n), (leGrad x, 4 * n), (leQout x, padded n + padded n / 256), (lePend x, 2 * padded n), (leW x, 4 * n),
    (leM1 x, 4 * max n (leRows x * leRows x)), (leM2 x, 4 * max n (leCols x * leCols x)), (leResid x, 2 * padded n), (leCopy x, copyBytes x),
    (leAux1 x, 4 * (leRows x * leRows x)), (leAux2 x, 4 * (leCols x * leCols x))].filter (fun r => r.1 != 0)

/-- The engine's work on an entry must wait for a tier (R55, R59, R66; log entry 50). -/
def State.entryWaits (s : State) (d : Fin 4) (i : Nat) : Bool := !s.tiersFree && s.mustWaitAny (leRanges (s.layer d i))

/-- Whether an entry of the table may be quantised or published now: it belongs to the die, the attempt is open, LOCAL_BUF has
reached its count, it was not taken yet, and no tier makes it wait. -/
def State.localReady (s : State) (d : Fin 4) (i : Nat) : Bool :=
  s.optRunning d && s.job.attemptOpen && decide (i < s.fld (.optLtab d) Fld.optLtab_COUNT) && leDie (s.layer d i) == d.val &&
  !(s.optDie d).quantised.contains i && s.fbufReached d (leLocalBuf (s.layer d i)) (s.attemptCount d 0) && !s.entryWaits d i

/-- The entry counts as quantised. -/
def State.markQuantised (s : State) (d : Fin 4) (i : Nat) : State :=
  s.setOptDie d { s.optDie d with quantised := (s.optDie d).quantised ++ [i] }

/-- The engine publishes one of an entry's buffers on its die (R225). -/
def State.optPublish (s : State) (d : Fin 4) (buf k : Nat) : State := s.fbufPublish d (Fin.ofNat 256 buf) [s.attemptCount d k]

/-- GRAD_QUANTISE: the quantisation pass of an entry (R209, R210). The lanes convert four blocks in a cycle; in which T-clock cycles they
do the model does not fix (R113; log entry 1). -/
def execGradQuantise (d : Fin 4) (entry : BitVec 16) (s : State) : Host.Outcome State Fault Refusal :=
  let x := s.layer d entry.toNat
  .next (if s.localReady d entry.toNat && leMode x != 3 && !leFallback x then
    let n := leElems x
    let l := s.readReals d 0 (leLocal x) n
    let r := l.2.2.readReals d 1 (leResid x) (padded n)
    let e := s.lossExp d
    let blocks := chunksOf 256 (n / 256 + 1) (List.zipWith (fun a b => fadd (ldexp32 a (-e)) b) l.1 r.1)
    let groups := (blocks.length + 3) / 4
    let cycles := r.2.2.laneCycles d groups
    let rd := fun (b i : Nat) => if leFlag x 1 then
        Rounding.stochastic (s.laneDraw d (laneVector d.val ((256 * b + i) % 1024)) (cycles.getD (b / 4) 0)) else .nearest
    let qs := blocks.mapIdx (fun b xs => quantBlock xs.length (rd b) (xs ++ List.replicate (256 - xs.length) 0))
    let s1 := ((r.2.2.tookFrees groups).setLaneDrawn d (cycles.getLastD 0)).optBadRead d (l.2.1 || r.2.1) entry.toNat
    let s2 := s1.writeMem (optReq d) optOwner (leQout x)
      (qs.flatMap (fun q => q.codes.map (BitVec.ofNat 8)) ++ qs.map (fun q => BitVec.ofNat 8 q.scale))
    let s3 := s2.writeMem (optReq d) optOwner (lePend x) (qs.flatMap (fun q => q.pend.flatMap (toLe 2)))
    let s4 := s3.laneNf d (qs.any (fun q => q.scale == 0xFF)) 3
    (s4.markQuantised d entry.toNat).optPublish d (leQpostBuf x) 0
  else s)

/-- FALLBACK_PUBLISH: on the fallback path QPOST_BUF is published at once (R211). -/
def execFallbackPublish (d : Fin 4) (entry : BitVec 16) (s : State) : Host.Outcome State Fault Refusal :=
  let x := s.layer d entry.toNat
  .next (if s.localReady d entry.toNat && leMode x != 3 && leFallback x then
    (s.markQuantised d entry.toNat).optPublish d (leQpostBuf x) 0
  else s)

/-! ### The step end (R225) -/

/-- The dies whose engines can act. -/
def State.upDies (s : State) : List (Fin 4) := diesOf s.doms.compute

/-- The leader (R206). -/
def State.leader (s : State) : Option (Fin 4) := s.upDies.find? (fun d => s.isSet (.optCtrl d) Fld.optCtrl_LEADER)

/-- A field of every copy of a step-level register (R206). -/
def State.putAll (s : State) (r : Fin 4 → Reg) (f : Fld) (v : Nat) : State := s.upDies.foldl (fun t d => t.put (r d) f v) s

/-- PHASE of every engine. -/
def State.optPhase (s : State) (p : Nat) : State := s.putAll .optStatus Fld.optStatus_PHASE p

/-- Every entry of every die has published DONE_BUF. -/
def State.entriesDone (s : State) : Bool :=
  s.upDies.all (fun d => (s.layersOf d).all (fun i => (s.optDie d).done.contains i))

/-- The OR of R122: NF of an active core outside the evaluation slice, or of the vector lanes of a die. -/
def State.anyNf (s : State) : Bool :=
  s.upDies.any (fun d => (s.optDie d).nf ||
    ((List.range 11).map (Fin.ofNat 11)).any (fun (k : Fin 11) => decide (s.logicalOf d k < 10) &&
      !s.isSet (.tcCtrl d k) Fld.tcCtrl_EVAL && s.isSet (.tcFlags d k) Fld.tcFlags_NF))

/-- The device verdict: fail (R225). -/
def State.deviceVerdict (s : State) : Bool := s.upDies.any (fun d => s.isSet (.optStatus d) Fld.optStatus_FAILED) || s.anyNf

/-- The step of the job. -/
def State.setStep (s : State) (t : StepState) : State := { s with opt := { s.opt with step := t } }

/-- The vote begins once STEP_END was written and every entry is done (R225). -/
def State.tryVote (s : State) : State :=
  if s.opt.step.endWaits && s.job.attemptOpen && s.entriesDone then
    let t := s.setStep { s.opt.step with endWaits := false, voting := true, verdict := s.deviceVerdict }
    (t.putAll .optCtrl Fld.optCtrl_STEP_END 0).optPhase 2
  else s

/-- An entry publishes DONE_BUF (R212). -/
def State.entryDone (s : State) (d : Fin 4) (i : Nat) : State :=
  let o := s.optDie d
  let s1 := s.setOptDie d { o with run := none, done := o.done ++ [i] }
  ((s1.put (.optStatus d) Fld.optStatus_BUSY 0).optPublish d (leDoneBuf (s.layer d i)) 0).tryVote

/-! ### Norm check (R213) -/

/-- The norm partial of R213. -/
def normPartial (g : List Nat) : Nat :=
  (chunksOf 256 (g.length / 256 + 1) g).foldl (fun part b => fadd part (b.foldl (fun t v => ffma v v t) 0)) 0

/-- The reduced gradient, unscaled (R211, R213). -/
def State.readGrad (s : State) (d : Fin 4) (x : LayerEntry) : List Nat × Bool × State :=
  let g := s.readReals d 0 (leGrad x) (leElems x)
  (if leFallback x then g.1.map (fun v => ldexp32 v (-(s.lossExp d))) else g.1, g.2.1, g.2.2)

/-- The team's total once every partial of the group is there: a sum in ascending rank with add32 (R267). -/
def State.normGather (s : State) (d : Fin 4) : State :=
  match (s.optDie d).run with
  | none => s
  | some r =>
    match s.normGroup d r.entry with
    | none => s.setOptDie d { s.optDie d with run := some { r with total := some r.part } }
    | some g =>
      let have_ := fun (k : Nat) => if k = leAt g 16 4 then some r.part
        else ((s.colDie d).norms.find? (fun e => e.1 == r.entry && e.2.1 == k)).map (fun e => e.2.2)
      let vs := (List.range (leAt g 0 4)).map have_
      if vs.contains none then s
      else
        let total := vs.foldl (fun t v => add32 t (f32 (v.getD 0))) 0
        let s1 := s.setOptDie d { s.optDie d with run := some { r with total := some total } }
        s1.setColDie d { s1.colDie d with norms := (s1.colDie d).norms.filter (fun e => e.1 != r.entry) }

/-- The engine takes an entry: its norm partial goes to the collective engine (R212, R213, R267). -/
def State.takeEntry (s : State) (d : Fin 4) (i : Nat) : State :=
  let g := s.readGrad d (s.layer d i)
  let part := normPartial g.1
  let s1 := g.2.2.optBadRead d g.2.1 i
  let s2 := s1.setOptDie d { s1.optDie d with run := some ⟨i, 0, part, none, 0, [], []⟩ }
  let s3 := ((s2.put (.optStatus d) Fld.optStatus_BUSY 1).put (.optStatus d) Fld.optStatus_ENTRY i)
  ((if (s3.normGroup d i).isSome then s3.emit (.normPartial d.val i part) else s3)).normGather d

/-- The norm check on the team's total (R213). -/
def normPasses (norm lim : Nat) : Bool := ffinite norm && !(f32 lim).isNan && !flt lim norm

/-! ### Retreat log (R222 to R224, R227) -/

/-- Whether a step recomputes the preconditioners of an entry (R219). -/
def State.recomputes (s : State) (d : Fin 4) (x : LayerEntry) : Bool :=
  leMode x == 2 && s.fld (.optStep d) Fld.optStep_STEP % max 1 (lePeriod x) == 0

/-- The tensors that the log holds of an entry, as bit, address and length; on the fallback path RESID is not read (R211, R222). -/
def State.logTensors (s : State) (d : Fin 4) (x : LayerEntry) : List (Nat × Nat × Nat) :=
  let m := rowBytes (momentFmt x) 1
  let m1 := if leMode x = 2 then leRows x * leRows x else leElems x
  let m2 := if leMode x = 2 then leCols x * leCols x else leElems x
  let all := [(0, leW x, 4 * leElems x), (1, leM1 x, m * m1), (2, leM2 x, m * m2), (3, leResid x, 2 * padded (leElems x)),
    (4, leCopy x, copyBytes x)]
  (all.filter (fun (t : Nat × Nat × Nat) => t.1 != 3 || !leFallback x) ++ (if s.recomputes d x then [(5, leAux1 x, 4 * (leRows x * leRows x)), (6, leAux2 x, 4 * (leCols x * leCols x))] else [])).filter
    (fun t => t.2.1 != 0)

/-- Bytes rounded up to 4 KiB. -/
def to4k (n : Nat) : Nat := (n + 4095) / 4096 * 4096

/-- Start of a die's quarter of the log (R222). -/
def State.logBase (s : State) (d : Fin 4) : Nat :=
  s.fld (.optRlog d) Fld.optRlog_BASE * 2 ^ 16 + d.val * (s.fld (.optRlog d) Fld.optRlog_SIZE * 2 ^ 16 / 4)

/-- Read tensors in order: their bytes, and whether every read was good. -/
def State.readTensors (d : Fin 4) : State → List (Nat × Nat × Nat) → List (List Byte) × Bool × State
  | s, [] => ([], true, s)
  | s, t :: ts =>
    let p := s.readBytes (optReq d) optOwner t.2.1 t.2.2
    let q := State.readTensors d p.2.2 ts
    (p.1 :: q.1, p.2.1 == .ok && q.2.1, q.2.2)

/-- Write blocks of bytes, each starting on a 4 KiB boundary. -/
def State.writeSpaced (d : Fin 4) : State → Nat → List (List Byte) → State
  | s, _, [] => s
  | s, a, b :: bs => State.writeSpaced d (s.writeMem (optReq d) optOwner a b) (a + to4k b.length) bs

/-- Bytes 0 to 55 of a log header (R222). -/
def State.logHead (s : State) (d : Fin 4) (i mask len norm : Nat) : List Byte :=
  toLe 8 (s.fld (.optStep d) Fld.optStep_STEP) ++ toLe 4 (s.fld (.optAttempt d) Fld.optAttempt_ATTEMPT) ++ toLe 2 i ++ toLe 1 mask ++
  toLe 1 0 ++ toLe 8 len ++ toLe 4 norm ++ zeros 28

/-- The log copy of an entry: tensors first, the header last; false on an uncorrectable read of committed state (R222,
R223). -/
def State.logCopy (s : State) (d : Fin 4) (i norm : Nat) : Bool × State :=
  let ts := s.logTensors d (s.layer d i)
  let p := State.readTensors d s ts
  if p.2.1 then
    let at_ := s.logBase d + (s.optDie d).logPos
    let s1 := State.writeSpaced d p.2.2 (at_ + 4096) p.1
    let len := (p.1.map (fun b => to4k b.length)).sum
    let h := s.logHead d i ((ts.map (fun t => 2 ^ t.1)).sum) len norm
    let s2 := s1.writeMem (optReq d) optOwner at_ (h ++ toLe 8 (crc64 (h ++ p.1.flatten)))
    let o := s2.optDie d
    (true, s2.setOptDie d { o with logs := o.logs ++ [at_], logPos := o.logPos + 4096 + len })
  else (false, p.2.2)

/-- Read spaced tensors back from the log. -/
def State.readSpaced (d : Fin 4) : State → Nat → List (Nat × Nat × Nat) → List (List Byte) × Bool × State
  | s, _, [] => ([], true, s)
  | s, a, t :: ts =>
    let p := s.readBytes (optReq d) optOwner a t.2.2
    let q := State.readSpaced d p.2.2 (a + to4k t.2.2) ts
    (p.1 :: q.1, p.2.1 == .ok && q.2.1, q.2.2)

/-- Copy tensors back to where they were. -/
def State.writeBack (d : Fin 4) : State → List ((Nat × Nat × Nat) × List Byte) → State
  | s, [] => s
  | s, t :: ts => State.writeBack d (s.writeMem (optReq d) optOwner t.1.2.1 t.2) ts

/-- Restore one log entry: done, dead, or failed (R222, R227). -/
def State.restoreEntry (s : State) (d : Fin 4) (at_ : Nat) : Bool × State :=
  let h := s.readBytes (optReq d) optOwner at_ 64
  if leAt h.1 8 4 ≠ s.fld (.optAttempt d) Fld.optAttempt_ATTEMPT then (true, h.2.2)
  else
    let x := s.layer d (leAt h.1 12 2)
    let mask := leAt h.1 14 1
    let m := rowBytes (momentFmt x) 1
    let m1 := if leMode x = 2 then leRows x * leRows x else leElems x
    let m2 := if leMode x = 2 then leCols x * leCols x else leElems x
    let ts := ([(0, leW x, 4 * leElems x), (1, leM1 x, m * m1), (2, leM2 x, m * m2), (3, leResid x, 2 * padded (leElems x)),
      (4, leCopy x, copyBytes x), (5, leAux1 x, 4 * (leRows x * leRows x)), (6, leAux2 x, 4 * (leCols x * leCols x))] :
      List (Nat × Nat × Nat)).filter (fun t => mask.testBit t.1 && (t.1 != 3 || !leFallback x))
    let p := State.readSpaced d h.2.2 (at_ + 4096) ts
    if h.2.1 = .ok ∧ p.2.1 ∧ leAt h.1 56 8 = crc64 (h.1.take 56 ++ p.1.flatten) then
      (true, State.writeBack d p.2.2 (List.zipWith Prod.mk ts p.1))
    else (false, p.2.2)

/-- Restore the log entries of a die; a bad one stops its engine with RLOG_CRC (R227). -/
def State.restoreDie (d : Fin 4) : State → List Nat → Bool × State
  | s, [] => (true, s)
  | s, a :: as =>
    let p := s.restoreEntry d a
    if p.1 then State.restoreDie d p.2 as else (false, p.2.optStop d 0x03 (leAt (s.peek a 64) 12 2))

/-- Restore the attempt on every die (R227, R230); the answer says whether every entry was good. -/
def State.restoreAll (s : State) : List (Fin 4) → Bool × State
  | [] => (true, s)
  | d :: ds =>
    let p := State.restoreDie d s (s.optDie d).logs
    let q := State.restoreAll p.2 ds
    (p.1 && q.1, q.2)

/-! ### Element mode (R214, R215) -/

/-- The environment of an entry's program for block `b` of 32 lanes; a group of 1,024 lanes issues one instruction in a cycle (R214,
R215). -/
def State.elemEnv (s : State) (d : Fin 4) (x : LayerEntry) (cycles : List Nat) (b : Nat) : ElemEnv :=
  { consts := (List.range 8).map (fun i => s.fld (.optConst d (Fin.ofNat 256 (leCbase x + i))) Fld.optConst_VALUE)
    formats := [0, 0, momentFmt x, momentFmt x, leCfmt x]
    step := s.fld (.optStep d) Fld.optStep_STEP + 1
    draw := fun j l => s.laneDraw d (laneVector d.val ((32 * b + l) % 1024)) (cycles.getD (b / 32 * 32 + j) 0)
    nanp := leFlag x 2 }

/-- The element program of an entry over its shard: `g` is stream 0; a tensor that no instruction loads is not read (R212, R214,
R215). -/
def State.runElement (s : State) (d : Fin 4) (i : Nat) (g : List Nat) : State :=
  let x := s.layer d i
  let n := leElems x
  let prog := s.elemProgram d (leEprog x)
  let loads := fun (k : Nat) => prog.any (fun j => j.op == 1 && j.a == k)
  let w := if loads 1 then s.readReals d 0 (leW x) n else ([], false, s)
  let m1 := if loads 2 then w.2.2.readReals d (momentFmt x) (leM1 x) n else ([], false, w.2.2)
  let m2 := if loads 3 then m1.2.2.readReals d (momentFmt x) (leM2 x) n else ([], false, m1.2.2)
  let t := m2.2.2
  let slots := 32 * ((n + 1023) / 1024)
  let cycles := t.laneCycles d slots
  let block := fun (b : Nat) =>
    let cut := fun (l : List Nat) => (l.drop (32 * b)).take 32
    elemRun (t.elemEnv d x cycles b) 0 prog (LaneBlock.start [cut g, cut w.1, cut m1.1, cut m2.1])
  let bs := (List.range (n / 32)).map block
  let stored := fun (k : Nat) => bs.any (fun b => b.stored.contains k)
  let all := fun (k : Nat) => bs.flatMap (fun b => b.streams.getD k [])
  let s1 := ((t.tookFrees slots).setLaneDrawn d (cycles.getLastD 0)).optBadRead d (w.2.1 || m1.2.1 || m2.2.1) i
  let s2 := if stored 1 then s1.writeReals d 0 (leW x) (all 1) else s1
  let s3 := if stored 2 then s2.writeReals d (momentFmt x) (leM1 x) (all 2) else s2
  let s4 := if stored 3 then s3.writeReals d (momentFmt x) (leM2 x) (all 3) else s3
  let copies := bs.filterMap (fun b => b.copy)
  let s5 := if copies.isEmpty then s4 else s4.writeMem (optReq d) optOwner (leCopy x) (copyImage (leCfmt x) copies)
  (s5.laneNf d (bs.any (fun b => b.nf)) 3).laneSat d (bs.any (fun b => b.sat))

/-! ### The end of an entry (R212, R221) -/

/-- Step 4: PEND becomes RESID on the main path (R212). -/
def State.keepResidual (s : State) (d : Fin 4) (i : Nat) : State :=
  let x := s.layer d i
  if leFallback x then s
  else
    let p := s.readBytes (optReq d) optOwner (lePend x) (2 * padded (leElems x))
    (p.2.2.optBadRead d (p.2.1 == .uncorrectable) i).writeMem (optReq d) optOwner (leResid x) p.1

/-- Step 5 of the matrix modes: COPY from W, to nearest even (R221). -/
def State.copyWeights (s : State) (d : Fin 4) (i : Nat) (w : List Nat) : State :=
  let x := s.layer d i
  let r := convertRow (leCfmt x) (leFlag x 2) (fun _ => .nearest) w
  ((s.writeMem (optReq d) optOwner (leCopy x) (copyImage (leCfmt x) [r])).laneNf d (r.nf || !w.all ffinite) 3).laneSat d r.sat

end Sys2Proof.Machine
end

