-- ==== Sys2Proof/Machine/Traverse.lean ====
section
/-! DEFINITION. Traverse engines: descriptors, their checks, what they move and publish (R149 to R174, R487). -/

namespace Sys2Proof.Machine

/-! ### Engines and descriptors (R150, R152) -/

/-- An engine as the source of its accesses (R407). -/
def trvReq (d : Fin 4) (j : Fin 22) : Requester := ⟨d.val, 2, j.val⟩

/-- Owner code of an engine (R179). -/
def trvOwner (j : Fin 22) : Nat := 0x10 + j.val

/-- A descriptor's words. -/
abbrev TrvDesc := List Nat

/-- Word `i` of a descriptor. -/
def dw (w : TrvDesc) (i : Nat) : Nat := w.getD i 0

/-- The fields of R152. -/
def dOp (w : TrvDesc) : Nat := bits (dw w 0) 63 60
def dLevels (w : TrvDesc) : Nat := bits (dw w 0) 59 57
def dMcast (w : TrvDesc) : Bool := bit (dw w 0) 56
def dWait (w : TrvDesc) : Bool := bit (dw w 0) 55
def dPost (w : TrvDesc) : Bool := bit (dw w 0) 54
def dIrq (w : TrvDesc) : Bool := bit (dw w 0) 53
def dMsel (w : TrvDesc) : Nat := bits (dw w 0) 52 49
def dSrcOrder (w : TrvDesc) (p : Nat) : Nat := bits (bits (dw w 0) 48 31) (3 * p + 2) (3 * p)
def dDstOrder (w : TrvDesc) (p : Nat) : Nat := bits (bits (dw w 0) 30 13) (3 * p + 2) (3 * p)
def dPostDie (w : TrvDesc) : Nat := bits (dw w 0) 12 11
def dClass (w : TrvDesc) : Nat := bits (dw w 0) 2 0
def dPostBuf (w : TrvDesc) : Nat := bits (dw w 1) 63 56
def dSrc (w : TrvDesc) : Nat := bits (dw w 1) 47 0
def dRun (w : TrvDesc) : Nat := bits (dw w 2) 63 48
def dDst (w : TrvDesc) : Nat := bits (dw w 2) 47 0
def dPostCount (w : TrvDesc) : Nat := bits (dw w 3) 31 0
def dBound (w : TrvDesc) (l : Nat) : Nat := bits (dw w (4 + 2 * l)) 63 48
def dSrcStride (w : TrvDesc) (l : Nat) : Int := signed 48 (bits (dw w (4 + 2 * l)) 47 0)
def dDstStride (w : TrvDesc) (l : Nat) : Int := signed 48 (bits (dw w (5 + 2 * l)) 47 0)

/-- The words of the descriptor at TRV_PC. -/
def State.trvDesc (s : State) (d : Fin 4) (j : Fin 22) : TrvDesc :=
  (List.range 16).map (fun w => s.trvWord d j (Fin.ofNat 16 w))

/-! ### Footprints (R153, R157, R487) -/

/-- Lowest and highest addressed byte of a side (R157). -/
def footprint (base : Nat) (w : TrvDesc) (stride : Nat → Int) : Int × Int :=
  (List.range (dLevels w)).foldl (fun (a : Int × Int) l =>
    let span := ((dBound w l : Int) - 1) * stride l
    (a.1 + min 0 span, a.2 + max 0 span)) ((base : Int), (base : Int) + dRun w - 1)

/-- A register target of R487, by the address of one of its 64-bit words. -/
inductive TrvTarget where
  | give (d : Fin 4)
  | prog (d : Fin 4) (k : Fin 11)
  | slots (d : Fin 4) (k : Fin 11)
  | progLimit (d : Fin 4) (k : Fin 11)
  | ring (d : Fin 4) (j : Fin 22)
  | limit (d : Fin 4) (j : Fin 22)
deriving DecidableEq, Repr

/-- The target that a register belongs to. -/
def targetOf : Reg → Option TrvTarget
  | .ldgGive d _ => some (.give d)
  | .tcProg d k _ => some (.prog d k)
  | .tcSlot d k _ _ => some (.slots d k)
  | .tcProgLimit d k => some (.progLimit d k)
  | .trvRing d j _ _ => some (.ring d j)
  | .trvLimit d j => some (.limit d j)
  | _ => none

/-- The ridge die of a target. -/
def TrvTarget.die : TrvTarget → Fin 4
  | .give d => d | .prog d _ => d | .slots d _ => d | .progLimit d _ => d | .ring d _ => d | .limit d _ => d

/-- The target that holds the whole of a destination footprint, if one does. -/
def targetAt (lo hi : Nat) : Option TrvTarget :=
  let a := (Reg.ofAddr (lo / 8 * 8)).bind targetOf
  let b := (Reg.ofAddr (hi / 8 * 8)).bind targetOf
  if a = b then a else none

/-- The conditions of R487 on a copy into a target. -/
def targetFits (w : TrvDesc) (lo hi : Nat) (t : TrvTarget) : Bool :=
  lo % 8 == 0 && !dMcast w && match t with
  | .give _ => hi + 1 - lo == 64
  | .progLimit _ _ => dLevels w == 0 && dRun w == 8 && dSrc w % 8 == 0
  | .limit _ _ => dLevels w == 0 && dRun w == 8 && dSrc w % 8 == 0
  | _ => dRun w % 64 == 0 && (List.range (dLevels w)).all (fun l => dDstStride w l % 8 == 0)

/-- RIDGE_MASK bit of a die. -/
def State.ridgeUp (s : State) (d : Nat) : Bool := (s.fld .hkShape Fld.hkShape_RIDGE_MASK).testBit d

/-- A die is fenced (R486). -/
def State.fenced (s : State) (d : Nat) : Bool := (s.fld .fltFence Fld.fltFence_FENCED).testBit d

/-- A footprint lies wholly in one memory range of R157. -/
def State.memRange (s : State) (lo hi : Int) : Bool :=
  decide (0 ≤ lo) && (
    decide (hi < 2 ^ 39) ||
    decide ((morBase : Int) ≤ lo ∧ hi < morEnd ∧ lo / 2 ^ 40 = hi / 2 ^ 40) ||
    ([0, 1, 2, 3] : List Nat).any (fun n => s.ridgeUp n &&
      decide ((ledgeBase + n * 2 ^ 28 : Int) ≤ lo ∧ hi < (ledgeBase + n * 2 ^ 28 + ledgeSize : Int))) ||
    decide ((hostBase : Int) ≤ lo ∧ hi < hostEnd ∧ (lo - hostBase) / 2 ^ 42 = (hi - hostBase) / 2 ^ 42))

/-- The register target of a COPY, when its destination is one of a die in the shape (R487). -/
def State.copyTarget (s : State) (w : TrvDesc) : Option TrvTarget :=
  let f := footprint (dDst w) w (dDstStride w)
  if dOp w ≠ 1 ∨ f.1 < regBase then none
  else match targetAt f.1.toNat f.2.toNat with
    | some t => if s.ridgeUp t.die.val && targetFits w f.1.toNat f.2.toNat t then some t else none
    | none => none

/-! ### Checks (R172, R173) -/

/-- A failed check: the code and the level concerned, 0xF for none. -/
abbrev TrvFault := Option (Nat × Nat)

/-- A check of the whole descriptor. -/
def dNeed (ok : Bool) (code : Nat) : TrvFault := if ok then none else some (code, 0xF)

/-- The first level in use that meets a condition. -/
def levelFault (w : TrvDesc) (bad : Nat → Bool) (code : Nat) : TrvFault :=
  ((List.range (dLevels w)).find? bad).map (fun l => (code, l))

/-- An order is a permutation of the levels in use, with zero in the reserved positions (R154). -/
def orderGood (w : TrvDesc) (o : Nat → Nat) : Bool :=
  (List.range 6).all (fun p => if p < dLevels w then decide (o p < dLevels w) else o p == 0) &&
  (List.range (dLevels w)).all (fun l => (List.range (dLevels w)).any (fun p => o p == l))

/-- The lowest position at and above which both orders name the same level (R155). -/
def commonPos (w : TrvDesc) : Nat :=
  (List.range (dLevels w + 1)).find? (fun q =>
    (List.range (dLevels w)).all (fun p => decide (p < q) || dSrcOrder w p == dDstOrder w p)) |>.getD (dLevels w)

/-- Bytes of the reorder block (R155). -/
def reorderBytes (w : TrvDesc) : Nat :=
  ((List.range (commonPos w)).map (fun p => dBound w (dSrcOrder w p))).foldl (· * ·) (dRun w)

/-- A COPY with RUN 8 goes into TC_PROG_LIMIT or TRV_LIMIT, whether R487 lets it or not. -/
def intoLimit (w : TrvDesc) : Bool :=
  let f := footprint (dDst w) w (dDstStride w)
  dOp w == 1 && dRun w == 8 && decide (regBase ≤ f.1) && (match targetAt f.1.toNat f.2.toNat with
    | some (.progLimit _ _) => true
    | some (.limit _ _) => true
    | _ => false)

/-- RUN is long enough (R160, R168, R487). -/
def runGood (w : TrvDesc) : Bool :=
  if dOp w = 2 then decide (64 ≤ dRun w) && dRun w % 2 == 0 else decide (64 ≤ dRun w) || intoLimit w

/-- Both footprints lie where R157 and R487 allow. -/
def State.rangeGood (s : State) (w : TrvDesc) : Bool :=
  let f := footprint (dDst w) w (dDstStride w)
  let g := footprint (dSrc w) w (dSrcStride w)
  (s.memRange f.1 f.2 || (s.copyTarget w).isSome) && (dOp w == 2 || s.memRange g.1 g.2)

/-- Members of a descriptor's multicast set as `(die, core)` (R163). -/
def State.mcastMembers (s : State) (d : Fin 4) (j : Fin 22) (w : TrvDesc) : List (Fin 4 × Nat) :=
  (bitList 40 (s.fld (.trvMset d j (Fin.ofNat 16 (dMsel w))) Fld.trvMset_SET)).map (fun b => (Fin.ofNat 4 (b / 10), b % 10))

/-- Offset that the copy of a member adds (R163). -/
def State.mcastOffset (s : State) (d : Fin 4) (j : Fin 22) (m : Fin 4 × Nat) : Nat :=
  s.fld (.trvMofs d j (Fin.ofNat 40 (10 * m.1.val + m.2))) Fld.trvMofs_OFFSET

/-- The set and the copies of a multicast are valid (R163). -/
def State.mcastGood (s : State) (d : Fin 4) (j : Fin 22) (w : TrvDesc) : Bool :=
  let f := footprint (dDst w) w (dDstStride w)
  let base : Int := ledgeBase + d.val * 2 ^ 28
  let ms := s.mcastMembers d j w
  decide (base ≤ f.1 ∧ f.2 < base + ledgeSize) && !ms.isEmpty &&
  ms.all (fun m => (s.coreOf m.1 m.2).isSome && decide (f.2 - base + s.mcastOffset d j m < ledgeSize))

/-- The edge of the ring from die `n` to its next, and the state of an edge (R350, R354). -/
def ringEdge (n : Nat) : Fin 8 := Fin.ofNat 8 (4 + n % 4)
def State.edgeDown (s : State) (e : Fin 8) : Bool := s.isSet (.hkBelayStatus e) Fld.hkBelayStatus_DOWN

/-- The ring edges with their directions that a stream from die `n` to die `t` crosses (R23, R350). -/
def ringPath (n t : Nat) : List (Fin 8 × Nat) :=
  if (n + 1) % 4 = t then [(ringEdge n, 0)]
  else if (t + 1) % 4 = n then [(ringEdge t, 1)]
  else if n = t then []
  else [(ringEdge n, 0), (ringEdge (n + 1), 0)]

/-- A multicast stream reaches a die: the die is not fenced, and its ring path is rerouted over the anchor die or has a
multicast group on every edge (R164, R355). -/
def State.routeGood (s : State) (n t : Nat) : Bool :=
  let path := ringPath n t
  let rerouted := path.any (fun e => s.edgeDown e.1) || (path.length == 2 && s.fenced ((n + 1) % 4))
  !s.fenced t && (rerouted || path.all (fun e => decide (0 < s.roleCount e.1 e.2 4)))

/-- Routes of a multicast, and the die of a publication (R164, R173). -/
def State.routesGood (s : State) (d : Fin 4) (j : Fin 22) (w : TrvDesc) : Bool :=
  if dMcast w then (s.mcastMembers d j w).all (fun m => s.routeGood d.val m.1.val)
  else !(dPost w && s.fenced (dPostDie w))

/-- Source and destination footprints intersect, each copy of a multicast compared (R169). -/
def State.overlaps (s : State) (d : Fin 4) (j : Fin 22) (w : TrvDesc) : Bool :=
  let f := footprint (dDst w) w (dDstStride w)
  let g := footprint (dSrc w) w (dSrcStride w)
  let meets := fun (o : Int) => decide (f.1 + o ≤ g.2 ∧ g.1 ≤ f.2 + o)
  dOp w == 1 && (s.copyTarget w).isNone &&
  (if dMcast w then (s.mcastMembers d j w).any (fun m =>
      meets (s.mcastOffset d j m + ((m.1.val : Int) - d.val) * 2 ^ 28))
  else meets 0)

/-- The shape that overlap mode requires (R169). -/
def overlapShape (w : TrvDesc) : TrvFault :=
  let f := firstFault [
    dNeed (!dMcast w) 0x0B,
    dNeed ((List.range (dLevels w)).all (fun p => dSrcOrder w p == dDstOrder w p)) 0x0B,
    levelFault w (fun l => dSrcStride w l != dDstStride w l) 0x0B,
    levelFault w (fun l => decide (1 < dBound w l) && dSrcStride w l == 0) 0x0B]
  f

/-- The alignment that overlap mode requires (R169). -/
def overlapAlign (w : TrvDesc) : TrvFault :=
  firstFault [dNeed (dSrc w % 64 == 0 && dDst w % 64 == 0) 0x0C, (if dRun w % 64 = 0 then none else some (0x0C, 7)),
    levelFault w (fun l => dSrcStride w l % 64 != 0 || dDstStride w l % 64 != 0) 0x0C]

/-- An analysis level of R170: its number, the word level standing after the levels in use, bound, stride and reach of the levels
after it. -/
structure OvLevel where
  level : Nat
  bound : Nat
  stride : Int
  reach : Int
deriving DecidableEq, Repr

/-- The levels of the analysis, sorted by magnitude of the stride, the word level last among equals; a level of bound 1
is left out (R170). -/
def ovSorted (w : TrvDesc) : List (Nat × Nat × Int) :=
  let ls := ((List.range (dLevels w)).map (fun l => (l, dBound w l, dDstStride w l))) ++ [(dLevels w, dRun w / 64, (64 : Int))]
  insertSort (fun a b => decide (b.2.2.natAbs < a.2.2.natAbs)) (ls.filter (fun x => x.2.1 != 1))

/-- The levels with their reach. -/
def ovLevels : List (Nat × Nat × Int) → List OvLevel
  | [] => []
  | x :: xs => ⟨x.1, x.2.1, x.2.2, (xs.map (fun y => ((y.2.1 : Int) - 1) * y.2.2.natAbs)).foldl (· + ·) 0⟩ :: ovLevels xs

/-- Quotients rounded up and down. -/
def floorDiv (a b : Int) : Int := Int.fdiv a b
def ceilDiv (a b : Int) : Int := -(Int.fdiv (-a) b)

/-- The integers from `lo` to `hi`, at most `k` of them. -/
def intRange (k : Nat) (lo hi : Int) : List Int :=
  if hi < lo then [] else (List.range (min k (hi - lo + 1).toNat)).map (fun (i : Nat) => lo + (i : Int))

/-- The search of R170 so far: decompositions found, digits tried, and the first decomposition as `(level, digit)`. -/
structure OvFound where
  found : Nat
  tried : Nat
  digits : List (Nat × Int)
deriving DecidableEq, Repr

/-- The search of R170; `d` holds the digits chosen so far. -/
def ovSearch : List OvLevel → Int → List (Nat × Int) → OvFound → OvFound
  | [], rem, d, acc => if rem = 0 then ⟨acc.found + 1, acc.tried, if acc.found = 0 then d else acc.digits⟩ else acc
  | l :: ls, rem, d, acc =>
    let a := ceilDiv (rem - l.reach) l.stride
    let b := floorDiv (rem + l.reach) l.stride
    let lo := if l.stride < 0 then b else a
    let hi := if l.stride < 0 then a else b
    let m : Int := (l.bound : Int) - 1
    (intRange 66 (max lo (-m)) (min hi m)).foldl (fun (acc : OvFound) x =>
      if 64 < acc.tried + 1 ∨ 1 < acc.found then { acc with tried := acc.tried + 1 }
      else ovSearch ls (rem - x * l.stride) (d ++ [(l.level, x)]) { acc with tried := acc.tried + 1 }) acc

/-- The analysis of a descriptor in overlap mode (R170). -/
def overlapFound (w : TrvDesc) : OvFound := ovSearch (ovLevels (ovSorted w)) ((dDst w : Int) - dSrc w) [] ⟨0, 0, []⟩

/-- The analysis finds at most one decomposition within 64 digits (R170). -/
def overlapUnique (w : TrvDesc) : Bool := decide ((overlapFound w).found ≤ 1 ∧ (overlapFound w).tried ≤ 64)

/-- The checks of R173 for a COPY or a FILL, in ascending order of their codes (R172). -/
def State.moveFault (s : State) (d : Fin 4) (j : Fin 22) (w : TrvDesc) : TrvFault :=
  let ov := s.overlaps d j w
  firstFault [
    dNeed (decide (dLevels w ≤ 6)) 0x02,
    dNeed ((dOp w == 2 || orderGood w (dSrcOrder w)) && orderGood w (dDstOrder w)) 0x03,
    levelFault w (fun l => dBound w l == 0) 0x04,
    dNeed (runGood w) 0x05,
    dNeed (dOp w == 2 || decide (reorderBytes w ≤ 65536)) 0x06,
    dNeed (s.rangeGood w) 0x07,
    dNeed (decide (dClass w ≤ 4)) 0x08,
    dNeed (!dMcast w || s.mcastGood d j w) 0x09,
    dNeed (s.routesGood d j w) 0x0A,
    (if ov then overlapShape w else none),
    (if ov then overlapAlign w else none),
    dNeed (!ov || overlapUnique w) 0x0D]

/-! ### Start and stop (R151, R172, R174) -/

/-- TRV_ERR takes a record, or MORE is set (R172). -/
def State.trvRecord (s : State) (d : Fin 4) (j : Fin 22) (code pc level : Nat) : State :=
  if s.isSet (.trvErr d j) Fld.trvErr_VALID then s.put (.trvErr d j) Fld.trvErr_MORE 1
  else
    (s.set (.trvErr d j) (fput (fput (fput (fput 0 Fld.trvErr_VALID 1) Fld.trvErr_CODE code) Fld.trvErr_PC pc) Fld.trvErr_LEVEL
      level)).put (.trvStatus d j) Fld.trvStatus_ERROR 1

/-- A stopping failure once no other descriptor runs: steps 3 to 6 of R172. -/
def State.trvStop (s : State) (d : Fin 4) (j : Fin 22) (code pc level addr : Nat) : State :=
  let s1 := ((s.trvRecord d j code pc level).put (.trvCtrl d j) Fld.trvCtrl_RUN 0).put (.trvCtrl d j) Fld.trvCtrl_STOP 0
  ((s1.ucc (trvReq d j) code addr pc).irq (ridgeSource d 3)).trvSync d j

/-- BUSY and OVERLAP follow the descriptors that run (R174). -/
def State.setTrvRuns (s : State) (d : Fin 4) (j : Fin 22) (l : List TrvRun) : State :=
  let s1 := { s with trv := s.trv.set (engineIx d j) l }
  let moving := l.filter (fun r => r.fail.isNone && (dOp r.words == 1 || dOp r.words == 2))
  (s1.put (.trvStatus d j) Fld.trvStatus_BUSY (b2n !moving.isEmpty)).put (.trvStatus d j) Fld.trvStatus_OVERLAP
    (b2n (match l.getLast? with | some r => s1.overlaps d j r.words | none => false))

/-- A stopping failure is met: it is recorded at once when nothing else runs, else when the descriptors that run have completed;
meanwhile no further one starts (R172). -/
def State.trvFail (s : State) (d : Fin 4) (j : Fin 22) (code pc level addr : Nat) : State :=
  if (s.trvRuns d j).isEmpty then s.trvStop d j code pc level addr
  else s.setTrvRuns d j (s.trvRuns d j ++ [⟨pc, [], [], some (code, level, addr)⟩])

/-- Failures recorded in ring order. -/
def State.trvStops (d : Fin 4) (j : Fin 22) : List TrvRun → State → State
  | [], s => s
  | r :: rs, s => match r.fail with
    | some f => State.trvStops d j rs (s.trvStop d j f.1 r.pc f.2.1 f.2.2)
    | none => State.trvStops d j rs s

/-- Descriptors left after a completion; once only failures are left, they are recorded (R172). -/
def State.trvSettle (s : State) (d : Fin 4) (j : Fin 22) (l : List TrvRun) : State :=
  if l.all (fun r => r.fail.isSome) then State.trvStops d j l (s.setTrvRuns d j []) else s.setTrvRuns d j l

/-- TRV_PC after a start (R150). -/
def State.trvStarted (s : State) (d : Fin 4) (j : Fin 22) : State :=
  (s.put (.trvPc d j) Fld.trvPc_INDEX (s.trvPcOf d j + 1)).trvSync d j

/-- The start of the descriptor that a command names: another OP in the ring leaves the engine as it is, a reserved OP
stops it, and a wait that is not met holds it (R150 to R152, R173). -/
def State.trvIssue (s : State) (d : Fin 4) (j : Fin 22) (op : Nat) (run : TrvDesc → Nat → State → State) : State :=
  if s.trvHasNext d j && !s.trvWaits d j then
    let w := s.trvDesc d j
    let pc := s.trvPcOf d j
    if 4 < dOp w then s.trvFail d j 0x01 pc 0xF 0
    else if dOp w ≠ op then s
    else run w pc s
  else s

/-- Publications of a descriptor that has completed (R167). -/
def State.trvPublish (s : State) (d : Fin 4) (j : Fin 22) (w : TrvDesc) : State :=
  let dies : List (Fin 4) := if dMcast w && (dOp w == 1 || dOp w == 2) then
      ([0, 1, 2, 3] : List (Fin 4)).filter (fun t => (s.mcastMembers d j w).any (fun m => decide (m.1 = t)))
    else [Fin.ofNat 4 (dPostDie w)]
  if dPost w then dies.foldl (fun t n => t.fbufPublish n (Fin.ofNat 256 (dPostBuf w)) [dPostCount w]) s else s

/-- DONE and TRV_DONE (R174). -/
def State.trvDone (s : State) (d : Fin 4) (j : Fin 22) (b : Bool) : State :=
  if b then (s.put (.trvStatus d j) Fld.trvStatus_DONE 1).irq (ridgeSource d 2) else s

/-- A NOP, FENCE or HALT would publish to a fenced die, and is rejected (R152, R173). -/
def State.postBarred (s : State) (w : TrvDesc) : Bool := dPost w && s.fenced (dPostDie w)

/-- TRV_NOP: the descriptor OP 0; it completes in its turn (R152, R167). -/
def execTrvNop (d : Fin 4) (j : Fin 22) (s : State) : Host.Outcome State Fault Refusal :=
  .next (s.trvIssue d j 0 (fun w pc t =>
    if t.postBarred w then t.trvFail d j 0x0A pc 0xF 0
    else (t.trvStarted d j).setTrvRuns d j (t.trvRuns d j ++ [⟨pc, w, [], none⟩])))

/-- TRV_FENCE: the descriptor OP 3: it completes once every earlier descriptor has (R152). -/
def execTrvFence (d : Fin 4) (j : Fin 22) (s : State) : Host.Outcome State Fault Refusal :=
  .next (s.trvIssue d j 3 (fun w pc t =>
    if t.postBarred w then t.trvFail d j 0x0A pc 0xF 0
    else if (t.trvRuns d j).isEmpty then ((t.trvStarted d j).trvPublish d j w).trvDone d j (dIrq w) else t))

/-- TRV_HALT: the descriptor OP 4: as FENCE, and then RUN clears and DONE sets (R152, R174). -/
def execTrvHalt (d : Fin 4) (j : Fin 22) (s : State) : Host.Outcome State Fault Refusal :=
  .next (s.trvIssue d j 4 (fun w pc t =>
    if t.postBarred w then t.trvFail d j 0x0A pc 0xF 0
    else if (t.trvRuns d j).isEmpty then
      (((t.trvStarted d j).trvPublish d j w).put (.trvCtrl d j) Fld.trvCtrl_RUN 0 |>.trvDone d j true).trvSync d j
    else t))

/-! ### Bursts and contracts (R68, R158, R161) -/

/-- A level of a walk: its bound, whether its index descends (R171), and its strides. -/
structure WalkLevel where
  bound : Nat
  down : Bool
  src : Int
  dst : Int
deriving DecidableEq, Repr

/-- Indices of a level in the order of the walk. -/
def WalkLevel.indices (l : WalkLevel) : List Nat := if l.down then (List.range l.bound).reverse else List.range l.bound

/-- Offsets of the runs of one walk, the innermost level fastest: levels from the outermost inward (R153, R154). -/
def walk : List WalkLevel → List (Int × Int)
  | [] => [(0, 0)]
  | l :: ls => l.indices.flatMap (fun i => (walk ls).map (fun p => (p.1 + i * l.src, p.2 + i * l.dst)))

/-- The levels of a descriptor from the outermost inward, each descending where `down` says so. -/
def walkLevels (w : TrvDesc) (o : Nat → Nat) (down : Nat → Bool) : List WalkLevel :=
  ((List.range (dLevels w)).map (fun p => ⟨dBound w (o p), down (o p), dSrcStride w (o p), dDstStride w (o p)⟩)).reverse

/-- The walk of a descriptor in an order: pairs of source and destination offsets. -/
def descWalk (w : TrvDesc) (o : Nat → Nat) : List (Int × Int) := walk (walkLevels w o (fun _ => false))

/-- A level of the analysis is walked descending: its digit of the one decomposition is positive (R171). -/
def overlapDown (w : TrvDesc) (l : Nat) : Bool := (overlapFound w).digits.any (fun x => x.1 == l && decide (0 < x.2))

/-- The walk of overlap mode, word by word (R170, R171). -/
def overlapWalk (w : TrvDesc) : List (Int × Int) :=
  walk (walkLevels w (dSrcOrder w) (overlapDown w) ++ [⟨dRun w / 64, overlapDown w (dLevels w), 64, 64⟩])

/-- The steps of one side of a descriptor, and the bytes of each step: whole runs, or words in overlap mode (R154, R171). -/
def State.moveSteps (s : State) (d : Fin 4) (j : Fin 22) (w : TrvDesc) (o : Nat → Nat) : List (Int × Int) :=
  if s.overlaps d j w then overlapWalk w else descWalk w o
def State.stepBytes (s : State) (d : Fin 4) (j : Fin 22) (w : TrvDesc) : Nat := if s.overlaps d j w then 64 else dRun w

/-- Merged runs of a walk as `(start, length, runs)` (R158). -/
def mergedRuns (run : Nat) : List Int → List (Int × Nat × Nat)
  | [] => []
  | a :: rest => match mergedRuns run rest with
    | m :: ms => if m.1 = a + run then (a, m.2.1 + run, m.2.2 + 1) :: ms else (a, run, 1) :: m :: ms
    | [] => [(a, run, 1)]

/-- Bursts of one merged run at an address: a run of its own is split at 4 KiB boundaries, runs that merge go in bursts of up to
4 KiB (R158). -/
def burstsOf (a n runs : Nat) : List Nat :=
  let first := if runs = 1 then min n (4096 - a % 4096) else min n 4096
  let rest := n - first
  [first] ++ List.replicate (rest / 4096) 4096 ++ (if rest % 4096 = 0 then [] else [rest % 4096])

/-- The shortest burst that one side of a descriptor issues (R158). -/
def shortestBurst (base run : Nat) (offs : List Int) : Nat :=
  ((mergedRuns run offs).flatMap (fun m => burstsOf ((base : Int) + m.1).toNat m.2.1 m.2.2)).foldl min 4096

/-- The stalls of a requester that moves some ranges, as `(address, bytes)`, whole (R68). -/
def State.rangeStalls (s : State) (r : Requester) (isRead : Bool) (cls : Nat) (rs : List (Nat × Nat)) : List StalledBurst :=
  (rs.filter (fun x => x.2 != 0)).flatMap (fun x => s.shortBursts r x.1 isRead cls ((burstsOf x.1 x.2 1).foldl min 4096))

/-- The stalls that a descriptor meets as it starts. -/
def State.descStalls (s : State) (d : Fin 4) (j : Fin 22) (w : TrvDesc) : List StalledBurst :=
  let src := if intoLimit w then 64 else shortestBurst (dSrc w) (dRun w) ((descWalk w (dSrcOrder w)).map Prod.fst)
  (if dOp w = 1 then s.shortBursts (trvReq d j) (dSrc w) true (dClass w) src else []) ++
  s.shortBursts (trvReq d j) (dDst w) false (dClass w) (shortestBurst (dDst w) (dRun w) ((descWalk w (dDstOrder w)).map Prod.snd))

/-- Requests to the host that a descriptor makes (R60, R469). -/
def State.descHost (s : State) (d : Fin 4) (j : Fin 22) (w : TrvDesc) : List HostReq :=
  let f := footprint (dSrc w) w (dSrcStride w)
  let g := footprint (dDst w) w (dDstStride w)
  (if dOp w = 1 && inHostWindow (dSrc w) then [s.hostRequest (trvReq d j) true f.1.toNat (f.2 + 1 - f.1).toNat] else []) ++
  (if inHostWindow (dDst w) then [s.hostRequest (trvReq d j) false g.1.toNat (g.2 + 1 - g.1).toNat] else [])

/-- What the source of a descriptor holds as it starts, run by run, when an earlier descriptor that still runs writes there: without a
FENCE between them each 64 B word is then read old or new (R151). -/
def State.sourceBefore (s : State) (d : Fin 4) (j : Fin 22) (w : TrvDesc) : List (List Byte) :=
  let g := footprint (dSrc w) w (dSrcStride w)
  let meets := fun (r : TrvRun) =>
    let f := footprint (dDst r.words) r.words (dDstStride r.words)
    (dOp r.words == 1 || dOp r.words == 2) && decide (f.1 ≤ g.2 ∧ g.1 ≤ f.2)
  if dOp w == 1 && (s.trvRuns d j).any meets then
    (s.moveSteps d j w (dSrcOrder w)).map (fun p => s.peek ((dSrc w : Int) + p.1).toNat (s.stepBytes d j w))
  else []

/-- The start of a COPY or FILL: its checks, then it runs (R151, R172). -/
def State.startMove (d : Fin 4) (j : Fin 22) (w : TrvDesc) (pc : Nat) (t : State) : State :=
  match t.moveFault d j w with
  | some f => t.trvFail d j f.1 pc f.2 0
  | none =>
    let t1 := (t.trvStarted d j).setTrvRuns d j (t.trvRuns d j ++ [⟨pc, w, t.sourceBefore d j w, none⟩])
    { t1 with
      tiers := { t1.tiers with stalledBursts := t1.tiers.stalledBursts ++ t1.descStalls d j w }
      pcie := { t1.pcie with requests := t1.pcie.requests ++ t1.descHost d j w } }

/-- COPY: the descriptor OP 1 starts once its checks pass (R151 to R164, R169 to R173). -/
def execCopy (d : Fin 4) (j : Fin 22) (s : State) : Host.Outcome State Fault Refusal :=
  .next (s.trvIssue d j 1 (State.startMove d j))

/-- FILL: the descriptor OP 2 starts once its checks pass (R160, R163, R168, R172). -/
def execFill (d : Fin 4) (j : Fin 22) (s : State) : Host.Outcome State Fault Refusal :=
  .next (s.trvIssue d j 2 (State.startMove d j))

/-! ### What a descriptor moves (R153, R156, R163, R168, R487) -/

/-- How the reads or writes of a descriptor went so far. -/
structure MoveOut where
  foreign : Option Nat
  bad : Bool
  failed : Bool
deriving DecidableEq, Repr

/-- Nothing has gone wrong. -/
def MoveOut.fine : MoveOut := ⟨none, false, false⟩

/-- The outcome with one access's status. -/
def MoveOut.note (m : MoveOut) (a : Nat) : MemStatus → MoveOut
  | .ok => m
  | .uncorrectable => { m with bad := true }
  | .nonOwner => { m with foreign := m.foreign.or (some a) }
  | _ => { m with failed := true }

/-- Bytes of a run, word by word, with the status of every word; after a non-owner response no more are read (R162). -/
def State.runRead (d : Fin 4) (j : Fin 22) : Nat → State → Nat → Nat → MoveOut → List Byte × MoveOut × State
  | 0, s, _, _, m => ([], m, s)
  | fuel + 1, s, a, n, m =>
    if n = 0 || m.foreign.isSome then ([], m, s)
    else
      let l := min n (64 - a % 64)
      let p := s.readBlock (trvReq d j) (trvOwner j) a l
      let q := State.runRead d j fuel p.2.2 (a + l) (n - l) (m.note a p.2.1)
      (p.1 ++ q.1, q.2)

/-- Reads of `n` bytes at each step of a walk; after a non-owner response no more are made (R162). -/
def State.moveReads (d : Fin 4) (j : Fin 22) (w : TrvDesc) (n : Nat) :
    List (Int × Int) → State → MoveOut → List (List Byte) × MoveOut × State
  | [], s, m => ([], m, s)
  | p :: ps, s, m =>
    if m.foreign.isSome then ([], m, s)
    else
      let r := State.runRead d j (n / 64 + 2) s ((dSrc w : Int) + p.1).toNat n m
      let q := State.moveReads d j w n ps r.2.2 r.2.1
      (r.1 :: q.1, q.2.1, q.2.2)

/-- Each 64 B word read that an unfenced earlier descriptor was writing is the old one or the new one (R151; log entry 1). -/
def State.oldOrNew (s : State) (a : Nat) (old new : List Byte) : List Byte :=
  if old.length = new.length then
    new.mapIdx (fun i b => if Config.freeNat (s.freeCtr + ((a + i) / 64 - a / 64)) % 2 = 1 then old.getD i b else b)
  else new

/-- The data read at the steps of a walk, each word old or new where the start kept what was there. -/
def State.mixReads (w : TrvDesc) : List (Int × Int) → List (List Byte) → List (List Byte) → State → List (List Byte) × State
  | p :: ps, x :: xs, o :: os, s =>
    let a := ((dSrc w : Int) + p.1).toNat
    let q := State.mixReads w ps xs os (s.tookFrees (x.length / 64 + 2))
    (s.oldOrNew a o x :: q.1, q.2)
  | _, xs, _, s => (xs, s)

/-- The fill pattern over a run (R168). -/
def fillRun (w : TrvDesc) : List Byte := (List.replicate (dRun w / 2) (toLe 2 (bits (dw w 1) 15 0))).flatten

/-- Destination runs of a descriptor in the order of its writes, with their bytes: `data` holds what each source offset gave
(R153, R156, R168). -/
def moveWrites (w : TrvDesc) (steps : List (Int × Int)) (data : List (Int × List Byte)) : List (Nat × List Byte) :=
  steps.map (fun p => (((dDst w : Int) + p.2).toNat, if dOp w = 2 then fillRun w else (assocGet data p.1).getD []))

/-- One run for each copy: itself, or one for each member of the set (R163). -/
def State.memberRuns (s : State) (d : Fin 4) (j : Fin 22) (w : TrvDesc) (r : Nat × List Byte) : List (Nat × List Byte) :=
  if dMcast w then (s.mcastMembers d j w).map (fun m =>
    (r.1 - d.val * 2 ^ 28 + m.1.val * 2 ^ 28 + s.mcastOffset d j m, r.2))
  else [r]

/-- Writes of runs to memory; after a non-owner response no more are made, and a write that fails as unmapped is discarded (R157, R162). -/
def State.moveOut (d : Fin 4) (j : Fin 22) : List (Nat × List Byte) → State → State
  | [], s => s
  | r :: rs, s => State.moveOut d j rs (s.writeMem (trvReq d j) (trvOwner j) r.1 r.2)

/-- After BANK_OWNER each byte of the destination holds its old or its new contents: a free value decides; TRV_BYTES counts the
bytes written (R173, R174; log entry 1). -/
def State.scatter (d : Fin 4) (j : Fin 22) : List (Nat × Byte) → State → State
  | [], s => s
  | x :: xs, s =>
    let s1 := s.tookFree
    let mine := match s.decodeAddr x.1 with | .ledge n o => s.ownerAt n o == trvOwner j | _ => true
    State.scatter d j xs (if s.freeVal % 2 = 1 && mine then
      (s1.writeMem (trvReq d j) (trvOwner j) x.1 [x.2]).addf (.trvBytes d j) Fld.trvBytes_BYTES 1 else s1)

/-- Bytes of runs under their addresses. -/
def runBytes (rs : List (Nat × List Byte)) : List (Nat × Byte) :=
  rs.flatMap (fun r => r.2.mapIdx (fun i b => (r.1 + i, b)))

/-- A write of TRV_LIMIT (R150). -/
def State.trvLimitWrite (s : State) (d : Fin 4) (j : Fin 22) (v : Nat) : State :=
  if s.doms.compute.testBit d.val then (s.put (.trvLimit d j) Fld.trvLimit_INDEX v).trvSync d j else s

/-- A 64-bit write into a register target that is no LDG_GIVE (R487). -/
def State.targetWrite (s : State) (a : Nat) (v : Nat) : State :=
  match Reg.ofAddr a with
  | some (.tcProg d k i) => if s.doms.compute.testBit d.val then s.set (.tcProg d k i) (BitVec.ofNat 64 v) else s
  | some (.tcSlot d k i w) => if s.doms.compute.testBit d.val then s.set (.tcSlot d k i w) (BitVec.ofNat 64 v) else s
  | some (.trvRing d j i w) => if s.doms.compute.testBit d.val then s.set (.trvRing d j i w) (BitVec.ofNat 64 v) else s
  | some (.tcProgLimit d k) => s.tcLimit d k (v % 2 ^ 16)
  | some (.trvLimit d j) => s.trvLimitWrite d j (v % 2 ^ 9)
  | _ => s

/-- Writes of runs into a register target: 64-bit writes in ascending address, the eight LDG_GIVE together (R181, R487). -/
def State.targetRuns (s : State) (t : TrvTarget) (rs : List (Nat × List Byte)) : State :=
  match t with
  | .give n =>
    if s.ledgeUp n then rs.foldl (fun (u : State) (r : Nat × List Byte) =>
      u.writeGives n ((List.range 8).map (fun i => (Fin.ofNat 8 i, BitVec.ofNat 64 (leAt r.2 (8 * i) 8))))) s else s
  | _ => rs.foldl (fun (u : State) (r : Nat × List Byte) =>
      (List.range (r.2.length / 8)).foldl (fun (v : State) i => v.targetWrite (r.1 + 8 * i) (leAt r.2 (8 * i) 8)) u) s

/-- Bytes written count in TRV_BYTES (R174). -/
def State.countBytes (s : State) (d : Fin 4) (j : Fin 22) (rs : List (Nat × List Byte)) : State :=
  s.addf (.trvBytes d j) Fld.trvBytes_BYTES ((rs.map (fun r => r.2.length)).sum)

/-- The first word of some runs that lies in a bank which the engine does not own; a die that has been fenced meanwhile answers as
unmapped instead (R157, R162). -/
def State.foreignWord (s : State) (j : Fin 22) (rs : List (Nat × List Byte)) : Option Nat :=
  rs.findSome? (fun o => (wordsOf (o.1, o.2.length)).find? (fun a => match s.decodeAddr a with
    | .ledge n x => s.reachable n.val && s.ownerAt n x != trvOwner j
    | _ => false))

/-- LDG_VIOL of the die that holds a word takes the engine's access to it (R182). -/
def State.foreignWrite (s : State) (j : Fin 22) (a : Nat) : State :=
  match s.decodeAddr a with
  | .ledge n x => s.ledgeViolation n (trvOwner j) (s.ownerAt n x) x
  | _ => s

/-- The writes of a COPY or FILL whose reads are through: `outs` are its runs, `failed` says that a read failed. The answer is the
stopping failure, as code, level and address (R157, R162, R172, R173). -/
def State.finishWrites (s : State) (d : Fin 4) (j : Fin 22) (w : TrvDesc) (outs : List (Nat × List Byte)) (failed : Bool) :
    State × Option (Nat × Nat × Nat) :=
  let readFailed := if failed then some (0x12, 0xF, dSrc w) else none
  match s.copyTarget w with
  | some t => ((s.targetRuns t outs).countBytes d j outs, readFailed)
  | none =>
    match s.foreignWord j outs with
    | some a => (State.scatter d j (runBytes outs) (s.foreignWrite j a), some (0x10, 0xF, a))
    | none => ((State.moveOut d j outs s).countBytes d j outs, readFailed)

/-- The end of a COPY or FILL: what it moved, and the stopping failure it met (R151, R156, R162, R171 to R173). After a read that met
the non-owner response the destination holds bytes of what the descriptor would have written. -/
def State.finishMove (s : State) (d : Fin 4) (j : Fin 22) (r : TrvRun) : State × Option (Nat × Nat × Nat) :=
  let w := r.words
  let n := s.stepBytes d j w
  let reads := s.moveSteps d j w (dSrcOrder w)
  let writes := s.moveSteps d j w (dDstOrder w)
  if dOp w = 2 then s.finishWrites d j w ((moveWrites w writes []).flatMap (s.memberRuns d j w)) false
  else
    let rd := State.moveReads d j w n reads s .fine
    let mx := State.mixReads w reads rd.1 r.before rd.2.2
    let s2 := if rd.2.1.bad then mx.2.trvRecord d j 0x11 r.pc 0xF else mx.2
    match rd.2.1.foreign with
    | some a =>
      let whole := reads.map (fun p => (p.1, s.peek ((dSrc w : Int) + p.1).toNat n))
      (State.scatter d j (runBytes ((moveWrites w writes whole).flatMap (s.memberRuns d j w))) s2, some (0x10, 0xF, a))
    | none =>
      s2.finishWrites d j w ((moveWrites w writes ((reads.map Prod.fst).zip mx.1)).flatMap (s.memberRuns d j w)) rd.2.1.failed

/-- The memory ranges of a descriptor, run by run, as `(address, bytes)`. -/
def moveRanges (w : TrvDesc) : List (Nat × Nat) :=
  (if dOp w = 1 then (descWalk w (dSrcOrder w)).map (fun p => (((dSrc w : Int) + p.1).toNat, dRun w)) else []) ++
  (if dOp w = 1 || dOp w = 2 then (descWalk w (dDstOrder w)).map (fun p => (((dDst w : Int) + p.2).toNat, dRun w)) else [])

/-- The oldest descriptor of an engine may complete: no burst of it is stalled, and it waits neither for a tier nor for the host
link (R55, R59, R65, R68, R469). -/
def State.mayFinish (s : State) (d : Fin 4) (j : Fin 22) (r : TrvRun) : Bool :=
  let w := r.words
  let host := (dOp w == 1 && inHostWindow (dSrc w)) || ((dOp w == 1 || dOp w == 2) && inHostWindow (dDst w))
  !(s.tiers.stalledBursts.any (fun b => decide (b.req = trvReq d j))) && !s.mustWaitAny (moveRanges w) &&
  !(host && s.hostWaits && !s.pcie.expired.any (fun q => decide (q.req = trvReq d j)))

/-- TRV_DESC_COMPLETE: the oldest running descriptor of an engine completes: its data lies at the destination, its count is
published, and TRV_DONE is raised when asked (R151, R167, R172, R173). -/
def execTrvDescComplete (d : Fin 4) (j : Fin 22) (s : State) : Host.Outcome State Fault Refusal :=
  let failed := (s.trvRuns d j).takeWhile (fun r => r.fail.isSome)
  .next (match (s.trvRuns d j).dropWhile (fun r => r.fail.isSome) with
  | [] => s
  | r :: rest =>
    if s.mayFinish d j r then
      let m := if dOp r.words = 0 then (s, none) else s.finishMove d j r
      let f := footprint (dSrc r.words) r.words (dSrcStride r.words)
      let g := footprint (dDst r.words) r.words (dDstStride r.words)
      let s1 := m.1.hostSettled (trvReq d j) [(f.1.toNat, (f.2 + 1 - f.1).toNat), (g.1.toNat, (g.2 + 1 - g.1).toNat)]
      match m.2 with
      | some x => s1.trvSettle d j (failed ++ [⟨r.pc, [], [], some x⟩] ++ rest)
      | none => ((s1.trvSettle d j (failed ++ rest)).trvPublish d j r.words).trvDone d j (dIrq r.words)
    else s)

/-! ### Run, stop, limit and wait (R150, R167, R174) -/

/-- TRV_RUN: a write of 1 to RUN starts descriptors at TRV_PC (R174). -/
def execTrvRun (d : Fin 4) (j : Fin 22) (s : State) : Host.Outcome State Fault Refusal :=
  .next (if s.doms.compute.testBit d.val then (s.put (.trvCtrl d j) Fld.trvCtrl_RUN 1).trvSync d j else s)

/-- A write of 1 to STOP, or of 0 to RUN, of an engine that runs (R174). -/
def State.trvStopWrite (s : State) (d : Fin 4) (j : Fin 22) : State :=
  if s.doms.compute.testBit d.val && s.isSet (.trvCtrl d j) Fld.trvCtrl_RUN then
    (s.put (.trvCtrl d j) Fld.trvCtrl_STOP 1).trvSync d j
  else s

/-- TRV_STOP: the engine stops at the next descriptor boundary; a waiting descriptor is abandoned (R174). -/
def execTrvStop (d : Fin 4) (j : Fin 22) (s : State) : Host.Outcome State Fault Refusal := .next (s.trvStopWrite d j)

/-- TRV_STOP_DONE: no descriptor runs any more; RUN and STOP clear together (R174). -/
def execTrvStopDone (d : Fin 4) (j : Fin 22) (s : State) : Host.Outcome State Fault Refusal :=
  .next (if s.isSet (.trvCtrl d j) Fld.trvCtrl_STOP && (s.trvRuns d j).isEmpty then
    (s.put (.trvCtrl d j) Fld.trvCtrl_RUN 0).put (.trvCtrl d j) Fld.trvCtrl_STOP 0
  else s)

/-- TRV_LIMIT_ADVANCE: a write of TRV_LIMIT (R150). -/
def execTrvLimitAdvance (d : Fin 4) (j : Fin 22) (index : BitVec 9) (s : State) : Host.Outcome State Fault Refusal :=
  .next (s.trvLimitWrite d j index.toNat)

/-- The device advances TRV_LIMIT by one entry, when a unit's request names an engine (R312). -/
def State.trvAdvance (s : State) (d : Fin 4) (j : Fin 22) : State :=
  s.trvLimitWrite d j ((s.fld (.trvLimit d j) Fld.trvLimit_INDEX + 1) % 512)

/-- TRV_WAIT_TIMEOUT: the waiting descriptor has waited longer than TRV_WAIT_LIMIT (R167, R172). -/
def execTrvWaitTimeout (d : Fin 4) (j : Fin 22) (s : State) : Host.Outcome State Fault Refusal :=
  .next (if s.trvWaits d j && s.fld (.trvWaitLimit d j) Fld.trvWaitLimit_LIMIT != 0 then
    s.trvFail d j 0x13 (s.trvPcOf d j) 0xF 0
  else s)

end Sys2Proof.Machine
end

