-- ==== Sys2Proof/Machine/OptStep.lean ====
section
/-! DEFINITION. Matrix-rule entries and loans of tensor cores, the application of an entry, and the step: marker, vote, commit
and retract (R212, R217 to R221, R225 to R231). -/

namespace Sys2Proof.Machine

/-! ### Matrices of FP32 codes (R117, R218, R219) -/

/-- A matrix, row by row. -/
abbrev Mat := List (List Nat)

/-- A flat tensor as rows of `cols`. -/
def toMat (cols : Nat) (l : List Nat) : Mat := chunksOf cols (l.length / max 1 cols) l

/-- An FP32 code rounded to BF16, as FP32 code (R110). -/
def toBf16 (x : Nat) : Nat := (convPlain .bf16 false .nearest x).code * 2 ^ 16

/-- Element by element. -/
def matMap (f : Nat → Nat) (a : Mat) : Mat := a.map (fun r => r.map f)
def matZip (f : Nat → Nat → Nat) (a b : Mat) : Mat := List.zipWith (List.zipWith f) a b

/-- Product on the arrays of operands taken to BF16, columns summed in ascending order with add32 (R116, R117). -/
def matMul (a b : Mat) : Mat :=
  let a1 := matMap toBf16 a
  let bt := transposeRows 0 (b.headD []).length (matMap toBf16 b)
  a1.map (fun r => bt.map (fun c => (List.zipWith Prod.mk r c).foldl (fun t p => add32 t ((f32 p.1).mul (f32 p.2))) 0))

/-- The transpose. -/
def matT (a : Mat) : Mat := transposeRows 0 (a.headD []).length a

/-- Operands of a product that are not finite as BF16 (R108). -/
def matFlag (l : List Mat) : Bool := l.any (fun a => bf16Flag a.flatten)

/-- Whether every entry is finite. -/
def matFinite (a : Mat) : Bool := a.all (fun r => r.all ffinite)

/-- The identity times `d`. -/
def diagMat (n d : Nat) : Mat := (List.range n).map (fun i => (List.range n).map (fun j => if i = j then d else 0))

/-- One coupled iteration of iroot4 (R219). -/
def irootStep (n : Nat) (xy : Mat × Mat) : Mat × Mat :=
  let z := matMap (fun v => fmul v 0x3E800000) (matZip fsub (diagMat n 0x40A00000) xy.2)
  let zz := matMul z z
  (matMul xy.1 z, matMul (matMul zz zz) xy.2)

/-- iroot4 of R219; c^(-1/4) is a value whose rounding the manual does not state (log entry 9). -/
def iroot4 (iters : Nat) (a : Mat) : Mat :=
  let n := a.length
  let c := fsqrt (normPartial a.flatten)
  ((List.range iters).foldl (fun xy _ => irootStep n xy)
    (diagMat n (Config.fourthRootInv c), matMap (fun v => fdiv v c) a)).1

/-! ### Lent cores (R217) -/

/-- The cores of a die. -/
def coreNums : List (Fin 11) := (List.range 11).map (Fin.ofNat 11)

/-- The cores that the engine holds. -/
def State.lentCores (s : State) (d : Fin 4) : List (Fin 11) := coreNums.filter (fun k => s.isSet (.tcStatus d k) Fld.tcStatus_LENT)

/-- Some matrix entry of the die has work ready (R217). -/
def State.matrixReady (s : State) (d : Fin 4) : Bool :=
  s.optRunning d && s.job.attemptOpen && !s.isSet (.optStatus d) Fld.optStatus_FAILED &&
  (s.optDie d).arrived.any (fun i => !(s.optDie d).done.contains i && leMatrix (s.layer d i))

/-- The die has matrix work left in the attempt (R217). -/
def State.matrixLeft (s : State) (d : Fin 4) : Bool :=
  s.optRunning d && s.job.attemptOpen && !s.isSet (.optStatus d) Fld.optStatus_FAILED &&
  (s.layersOf d).any (fun i => !(s.optDie d).done.contains i && leMatrix (s.layer d i))

/-- The LEND operation of a core that the engine holds. -/
def State.loanOf (s : State) (d : Fin 4) (k : Fin 11) : Option TcOp := (s.tcCore d k).ops.find? (fun o => o.opcode == 0x06)

/-- The engine has run a sub-product on the core in this loan (R217). -/
def State.loanSpent (s : State) (d : Fin 4) (k : Fin 11) : Bool :=
  match s.loanOf d k with
  | some o => !o.aux.isEmpty
  | none => false

/-- The engine still runs a sub-product on the core. -/
def State.loanBusy (s : State) (d : Fin 4) (k : Fin 11) : Bool :=
  match s.loanOf d k with
  | some o => decide (0 < o.left)
  | none => false

/-- The loan is one that ends the core's program of the step: no operation, or HALT, follows it (R217; log entry 51). -/
def State.loanFinal (s : State) (d : Fin 4) (k : Fin 11) : Bool :=
  match s.tcNext d k with
  | some i => i.opcode == 0x01
  | none => true

/-- Cores that a sub-product may use: a loan serves one, a final loan as many as there are (R217). -/
def State.usableCores (s : State) (d : Fin 4) : List (Fin 11) :=
  (s.lentCores d).filter (fun k => s.loanFinal d k || !s.loanSpent d k)

/-- No lent core still runs a sub-product. -/
def State.coresQuiet (s : State) (d : Fin 4) : Bool := (s.lentCores d).all (fun k => !s.loanBusy d k)

/-- The engine may return a core: a final loan once no matrix work is left, another at the end of its sub-product or when no work is
ready for it (R217). -/
def State.loanOver (s : State) (d : Fin 4) (k : Fin 11) : Bool :=
  !s.loanBusy d k && (if s.loanFinal d k then !s.matrixLeft d else s.loanSpent d k || !s.matrixReady d)

/-- Work area of a lent core (R217, R232). -/
def State.workArea (s : State) (d : Fin 4) (k : Fin 11) : Nat × Nat :=
  let w := s.get (.optWork d (Fin.ofNat 10 (s.logicalOf d k)))
  (fget w Fld.optWork_OFFSET, fget w Fld.optWork_SIZE)

/-- What an earlier sub-product of the loan left in a work area is read (R217, R231). -/
def State.readArea (s : State) (d : Fin 4) (k : Fin 11) (entry : Nat) : State :=
  let a := s.workArea d k
  let r := s.readBytes (optReq d) (s.logicalOf d k) (ledgeBase + d.val * 2 ^ 28 + a.1) a.2
  if s.loanSpent d k then r.2.2.optBadRead d (r.2.1 == .uncorrectable) entry else s

/-- What a work area holds after a sub-product, which is not stated (R217). -/
def State.fillArea (s : State) (d : Fin 4) (k : Fin 11) : State :=
  let a := s.workArea d k
  (s.tookFrees a.2).writeMem (optReq d) (s.logicalOf d k) (ledgeBase + d.val * 2 ^ 28 + a.1) (s.freeBytes a.2)

/-- Cycles of a core for its share of a sub-product, at 32,768 multiply-accumulates in each (R218). -/
def shareCycles (macs cores : Nat) : Nat := (macs + 32768 * cores - 1) / (32768 * cores)

/-- The core runs a sub-product for some cycles (R217, R253). -/
def State.chargeLoan (s : State) (d : Fin 4) (k : Fin 11) (cycles : Nat) : State :=
  let c := s.tcCore d k
  s.setTcCore d k { c with ops := c.ops.map (fun o => if o.opcode = 0x06 then { o with left := o.left + cycles, aux := [1] } else o) }

/-- A sub-product on lent cores, `cycles` on each: every work area must be the core's own; what it holds afterwards is not stated
(R217, R231). -/
def State.useCores (s : State) (d : Fin 4) (entry nf cycles : Nat) (ks : List (Fin 11)) : Bool × State :=
  match ks with
  | [] => (true, s)
  | k :: rest =>
    match s.foreignHit d (s.logicalOf d k) [s.workArea d k] with
    | some t => (false, t.optStop d 0x06 entry)
    | none =>
      State.useCores ((((s.readArea d k entry).fillArea d k).tcNfIf (nf != 0) d k nf (s.tcPcOf d k)).chargeLoan d k cycles) d entry nf
        cycles rest

/-- A sub-product of some multiply-accumulates over the cores that may be used. -/
def State.subProduct (s : State) (d : Fin 4) (entry nf macs : Nat) : Bool × State :=
  s.useCores d entry nf (shareCycles macs (s.usableCores d).length) (s.usableCores d)

/-- The tile of values that the manual does not state. -/
def State.freePlane (s : State) : Plane :=
  ⟨true, 0, [⟨1, (List.range 256).map (fun r => (List.range 256).map (fun c => Config.freeNat (s.freeCtr + 256 * r + c) % 2 ^ 16)), []⟩]⟩

/-- A loan ends: slots 960 to 1,023, the planes and the banks hold values that the manual does not state (R134, R217). -/
def State.lendReturn (s : State) (d : Fin 4) (k : Fin 11) : State :=
  let c := s.tcCore d k
  let c1 : TcCore := { c with ops := c.ops.filter (fun o => o.opcode != 0x06), shadow := s.freePlane, active := s.freePlane,
                              bank0 := ⟨[], 0, false⟩, bank1 := ⟨[], 0, false⟩ }
  let s1 := (s.setTcCore d k c1).tookFrees 65536
  let s2 := ((List.range 256).foldl (fun (t : State) i =>
    t.tookFree.set (.tcSlot d k (Fin.ofNat 1024 (960 + i / 4)) (Fin.ofNat 4 (i % 4))) (BitVec.ofNat 64 t.freeVal)) s1)
  let s3 := s2.put (.tcStatus d k) Fld.tcStatus_LENT 0
  if c1.ops.isEmpty then s3.put (.tcStatus d k) Fld.tcStatus_BUSY 0 else s3

/-- LEND: the core is offered to the optimizer engine, which holds it, or returns it at once (R137, R217). -/
def execLend (d : Fin 4) (k : Fin 11) (s : State) : Host.Outcome State Fault Refusal :=
  .next (s.tcIssue d k 0x06 noCheck (fun _ pc t =>
    if t.isSet (.tcCtrl d k) Fld.tcCtrl_EVAL || !t.matrixReady d then t
    else (t.tcStart d k ⟨pc, 0x06, 0, 0, [], []⟩).put (.tcStatus d k) Fld.tcStatus_LENT 1))

/-- LEND_RETURN: the engine returns a core that it holds and has done with (R217). -/
def execLendReturn (d : Fin 4) (k : Fin 11) (s : State) : Host.Outcome State Fault Refusal :=
  .next (if s.doms.compute.testBit d.val && s.isSet (.tcStatus d k) Fld.tcStatus_LENT && s.loanOver d k then s.lendReturn d k else s)

/-- At an entry boundary the engine returns every core that it has used, but for final loans (R217). -/
def State.boundaryReturn (s : State) (d : Fin 4) : State :=
  ((s.lentCores d).filter (fun k => !s.loanFinal d k && s.loanSpent d k)).foldl (fun (t : State) k => t.lendReturn d k) s

/-! ### Matrix entries (R218 to R220) -/

/-- A constant of an entry. -/
def State.layerConst (s : State) (d : Fin 4) (x : LayerEntry) (i : Nat) : Nat :=
  s.fld (.optConst d (Fin.ofNat 256 (leCbase x + i))) Fld.optConst_VALUE

/-- A coefficient of OPT_NSC as FP32: a, b or c as 0, 1 or 2. -/
def State.nscCoef (s : State) (d : Fin 4) (x : LayerEntry) (i : Nat) : Nat :=
  bits (s.fld (.optNsc d (Fin.ofNat 16 (leNsc x))) Fld.optNsc_ABC) (47 - 16 * i) (32 - 16 * i) * 2 ^ 16

/-- What the team sums of a matrix give: the device's own product without a team; with one, the sum that a REDUCE left where the
engine reads it, a place that the manual does not state (R266; log entry 13). -/
def State.teamSum (s : State) (d : Fin 4) (r : OptRun) : Mat × State :=
  if (s.nodeId d).isNone then (r.product, s)
  else
    let c := (r.product.headD []).length
    let p := s.readReals d 0 (Config.sumAt d.val r.entry) (r.product.length * c)
    (toMat c p.1, p.2.2)

/-- The product of a member of a team stands where a REDUCE takes it (R266; log entry 13). -/
def State.leaveProduct (s : State) (d : Fin 4) (entry : Nat) (p : Mat) : State :=
  if (s.nodeId d).isNone then s else s.writeReals d 0 (Config.productAt d.val entry) p.flatten

/-- The product is ready for team summing: GPOST_BUF is published with the count of product `k` (R225, R266). -/
def State.postProduct (s : State) (d : Fin 4) (r : OptRun) (k : Nat) (mat p : Mat) : State :=
  let s1 := s.leaveProduct d r.entry p
  (s1.setOptDie d { s1.optDie d with run := some { r with phase := 3 + k, mat := mat, product := p } }).optPublish d
    (leGpostBuf (s.layer d r.entry)) k

/-- Cause of NF that operands and result of a product give a lent core: 2, 1 or none (R120). -/
def productNf (ops : List Mat) (out : Mat) : Nat := if !ops.all matFinite then 2 else if !matFinite out then 1 else 0

/-- The last steps of a matrix entry: W, COPY, RESID and DONE_BUF (R212, R218 to R221). -/
def State.finishMatrix (s : State) (d : Fin 4) (r : OptRun) (w : List Nat) : State :=
  let s1 := s.writeReals d 0 (leW (s.layer d r.entry)) w
  ((s1.keepResidual d r.entry).copyWeights d r.entry w).entryDone d r.entry

/-- The momentum of mode 1 as it is stored: FP32, or BF16 with FLAGS[3] (R207, R218). -/
def storedMoment (x : LayerEntry) (m : List Nat) : List Nat := if momentFmt x = 1 then m.map toBf16 else m

/-- The update of a matrix entry begins: the momentum of mode 1 and its norm, the first product of mode 2 (R218, R219). -/
def State.startMatrix (s : State) (d : Fin 4) (r : OptRun) : State :=
  let x := s.layer d r.entry
  let g := s.readGrad d x
  let s0 := g.2.2.optBadRead d g.2.1 r.entry
  if leMode x = 1 then
    let m := s0.readReals d (momentFmt x) (leM1 x) (leElems x)
    let k1 := s.layerConst d x 1
    let m1 := List.zipWith (fun a b => fadd (fmul k1 a) b) m.1 g.1
    let s1 := (m.2.2.writeReals d (momentFmt x) (leM1 x) m1).laneNf d (!m1.all ffinite) 3
    s1.postProduct d r 0 [] [[normPartial (storedMoment x m1)]]
  else
    let gm := toMat (leCols x) g.1
    let p := matMul gm (matT gm)
    let u := (s0.laneNf d (matFlag [gm]) 3).subProduct d r.entry (productNf [gm] p) (leRows x * leRows x * leCols x)
    if u.1 then u.2.postProduct d r 1 gm p else u.2

/-- A team product of mode 1 has come back: the next iterate, and its product, or the update (R218). -/
def State.newtonSchulz (s : State) (d : Fin 4) (r : OptRun) : State :=
  let x := s.layer d r.entry
  let k := r.phase - 3
  let sum := s.teamSum d r
  let a := sum.1
  let m := sum.2.readReals d (momentFmt x) (leM1 x) (if k = 0 then leElems x else 0)
  let norm := fsqrt ((a.headD []).headD 0)
  let first := toMat (leCols x) (m.1.map (fun v => if (f32 norm).isZero then 0 else fmul v (fdiv 0x3F800000 norm)))
  let poly := matZip fadd (matMap (fmul (s.nscCoef d x 1)) a) (matMap (fmul (s.nscCoef d x 2)) (matMul a a))
  let later := matZip fadd (matMap (fmul (s.nscCoef d x 0)) r.mat) (matMul (matMap toBf16 poly) r.mat)
  let next := matMap toBf16 (if k = 0 then first else later)
  let t := m.2.2.laneNf d (if k = 0 then matFlag [first] else matFlag [a, poly, later]) 3
  let cube := if k = 0 then 0 else leRows x * leRows x * leRows x + leRows x * leRows x * leCols x
  if k = leIter x then
    let w := t.readReals d 0 (leW x) (leElems x)
    let decay := fsub 0x3F800000 (fmul (s.layerConst d x 0) (s.layerConst d x 2))
    let rate := fmul (s.layerConst d x 0) (s.layerConst d x 3)
    let u := w.2.2.subProduct d r.entry (productNf [r.mat] next) cube
    if u.1 then u.2.finishMatrix d r (List.zipWith (fun a b => fsub (fmul a decay) (fmul rate b)) w.1 next.flatten) else u.2
  else
    let p := matMul next (matT next)
    let u := t.subProduct d r.entry (productNf [next] p) (cube + leRows x * leRows x * leCols x)
    if u.1 then u.2.postProduct d r (k + 1) next p else u.2

/-- Multiply-accumulates of the preconditioned update of mode 2: its statistic, the two roots in a recomputing step, the two products
of the update (R219). -/
def preconditionMacs (x : LayerEntry) (roots : Bool) : Nat :=
  let r := leRows x
  let c := leCols x
  c * c * r + (if roots then 4 * leIter x * (r * r * r + c * c * c) else 0) + r * r * c + r * c * c

/-- The preconditioners of a recomputing step (R219). -/
def State.writeRoots (s : State) (d : Fin 4) (x : LayerEntry) (left right : Mat) : State :=
  if s.recomputes d x then
    (s.writeReals d 0 (leAux1 x) (iroot4 (leIter x) left).flatten).writeReals d 0 (leAux2 x) (iroot4 (leIter x) right).flatten
  else s

/-- The team statistic of mode 2 has come back: both statistics, the preconditioners in a recomputing step, the update
(R219). -/
def State.precondition (s : State) (d : Fin 4) (r : OptRun) : State :=
  let x := s.layer d r.entry
  let sum := s.teamSum d r
  let f := momentFmt x
  let k1 := s.layerConst d x 1
  let eps := s.layerConst d x 4
  let m1o := sum.2.readReals d f (leM1 x) (leRows x * leRows x)
  let m2o := m1o.2.2.readReals d f (leM2 x) (leCols x * leCols x)
  let m1 := matZip (fun a b => fadd (fmul k1 a) b) (toMat (leRows x) m1o.1) sum.1
  let m2 := matZip (fun a b => fadd (fmul k1 a) b) (toMat (leCols x) m2o.1) (matMul (matT r.mat) r.mat)
  let s1 := (m2o.2.2.writeReals d f (leM1 x) m1.flatten).writeReals d f (leM2 x) m2.flatten
  let reg := fun (m : Mat) => matZip fadd m (diagMat m.length eps)
  let s2 := s1.writeRoots d x (reg m1) (reg m2)
  let a1 := s2.readReals d 0 (leAux1 x) (leRows x * leRows x)
  let a2 := a1.2.2.readReals d 0 (leAux2 x) (leCols x * leCols x)
  let w := a2.2.2.readReals d 0 (leW x) (leElems x)
  let left := matMul (toMat (leRows x) a1.1) r.mat
  let u := matMul left (toMat (leCols x) a2.1)
  let decay := fsub 0x3F800000 (fmul (s.layerConst d x 0) (s.layerConst d x 2))
  let t := w.2.2.laneNf d (matFlag [r.mat, [a1.1], left, [a2.1]]) 3
  let c := t.subProduct d r.entry (productNf [r.mat, m1, m2] u) (preconditionMacs x (s.recomputes d x))
  if c.1 then
    c.2.finishMatrix d r (List.zipWith (fun a b => fsub (fmul a decay) (fmul (s.layerConst d x 0) b)) w.1 u.flatten)
  else c.2

/-! ### Applying an entry (R212) -/

/-- The stalls of the copy port, which moves an entry's tensors under the class "compute streams" (R68, R204). -/
def State.copyStalls (s : State) (d : Fin 4) (x : LayerEntry) : List StalledBurst :=
  s.rangeStalls (optReq d) true 0 ((s.logTensors d x).map (fun t => (t.2.1, t.2.2)))

/-- The norm check on the team's total, then the log copy; a failed check skips to DONE_BUF and sets FAILED, and after it an
entry computes its norm only (R212, R213). -/
def State.checkEntry (s : State) (d : Fin 4) (r : OptRun) (total : Nat) : State :=
  let x := s.layer d r.entry
  let norm := fsqrt total
  let s1 := s.put (.optStatus d) Fld.optStatus_NORM norm
  if !normPasses norm (leNormMax x) then (s1.put (.optStatus d) Fld.optStatus_FAILED 1).entryDone d r.entry
  else if s1.isSet (.optStatus d) Fld.optStatus_FAILED then s1.entryDone d r.entry
  else
    let l := s1.logCopy d r.entry norm
    if l.1 then (l.2.stallBursts (l.2.copyStalls d x)).setOptDie d { l.2.optDie d with run := some { r with phase := 2, norm := norm } }
    else l.2.optStop d 0x02 r.entry

/-- The mirror of the previous committed step may still read the entry's state (R212, R421): it does while a generation is
being written. -/
def State.mirrorReads (s : State) : Bool := s.restart.mirrorSlot.isSome

/-- The update of an entry whose log header stands; it waits for the mirror, and for a stalled burst of the copy port (R68, R212). -/
def State.updateEntry (s : State) (d : Fin 4) (r : OptRun) : State :=
  let x := s.layer d r.entry
  if s.mirrorReads || s.burstStalled (optReq d) then s
  else if leMatrix x then (if leMode x = 2 && (s.usableCores d).isEmpty then s else s.startMatrix d r)
  else
    let g := s.readGrad d x
    (((g.2.2.optBadRead d g.2.1 r.entry).runElement d r.entry g.1).keepResidual d r.entry).entryDone d r.entry

/-- ENTRY_APPLY: the engine takes the entry whose GRAD_BUF count arrived first, or carries the one in hand on to its next wait:
for a tier, for the team's norm, for the mirror, for lent cores or their sub-product, or for a team product (R212 to R223). -/
def execEntryApply (d : Fin 4) (s : State) : Host.Outcome State Fault Refusal :=
  .next (if s.optRunning d && s.job.attemptOpen then
    let o := s.optDie d
    match o.run with
    | none =>
      match o.arrived.find? (fun i => !o.done.contains i) with
      | none => s
      | some i => if s.coresQuiet d && !s.entryWaits d i then (s.boundaryReturn d).takeEntry d i else s
    | some r =>
      if s.entryWaits d r.entry then s
      else if r.phase = 0 then (match r.total with | none => s | some t => s.checkEntry d r t)
      else if r.phase = 2 then s.updateEntry d r
      else
        let x := s.layer d r.entry
        if (s.usableCores d).isEmpty || !s.coresQuiet d || !s.fbufReached d (leGramBuf x) (s.attemptCount d (r.phase - 3)) then s
        else if leMode x = 1 then s.newtonSchulz d r else s.precondition d r
  else s)

/-- The program of a mode 3 entry runs, unless an entry of the attempt has failed: then nothing more is updated (R212). -/
def State.passRun (s : State) (d : Fin 4) (i : Nat) : State :=
  let x := s.layer d i
  if s.isSet (.optStatus d) Fld.optStatus_FAILED then s
  else
    let l := s.readReals d 0 (leLocal x) (leElems x)
    (l.2.2.optBadRead d l.2.1 i).runElement d i (l.1.map (fun v => ldexp32 v (-(s.lossExp d))))

/-- PASS_ENTRY: a mode 3 entry runs its program once, on LOCAL without the loss scale, and publishes DONE_BUF; it waits for the
mirror of the previous committed step (R212, R214). -/
def execPassEntry (d : Fin 4) (entry : BitVec 16) (s : State) : Host.Outcome State Fault Refusal :=
  let i := entry.toNat
  let x := s.layer d i
  .next (if s.localReady d i && leMode x == 3 && (s.optDie d).run.isNone && (!s.mirrorReads || s.isSet (.optStatus d) Fld.optStatus_FAILED) then
    (((s.put (.optStatus d) Fld.optStatus_ENTRY i).passRun d i).markQuantised d i).entryDone d i
  else s)

/-! ### The marker (R114, R121, R225) -/

/-- The collective engines run a reshard (R275). -/
def State.resharding (s : State) : Bool := s.col.any (fun c => c.runs.any (fun r => leAt r.bytes 0 1 == 8))

/-- The marker on one die: flags, generators, FAILED and the attempt's books. -/
def State.markDie (node : Nat) (s : State) (d : Fin 4) : State :=
  let s1 := coreNums.foldl (fun (t : State) k => (t.set (.tcFlags d k) 0).setTcCore d k { t.tcCore d k with drawn := 0 }) s
  let s2 := ((s1.addf (.optAttempt d) Fld.optAttempt_ATTEMPT 1).put (.optStatus d) Fld.optStatus_FAILED 0).setOptDie d OptDie.idle
  let seed : GenSeed := ⟨(s.get (.optSrSeed d)).toNat, s.fld (.optStep d) Fld.optStep_STEP, node⟩
  { s2 with tensor := { s2.tensor with
      gens := s2.tensor.gens.set d.val (some seed)
      elapsed := s2.tensor.elapsed.set d.val 0
      laneDrawn := s2.tensor.laneDrawn.set d.val 0 } }

/-- The step-start marker runs on the leader when the previous outcome is final and no reshard runs (R225, R275). A device
without a logical node seeds from a value that the manual does not state (log entry 1). -/
def State.tryMark (s : State) : State :=
  match s.leader with
  | none => s
  | some l =>
    if s.opt.step.markWaits && s.optRunning l && !s.job.attemptOpen && !s.resharding && s.fld .bcJobStatus Fld.bcJobStatus_STATE == 2 then
      let node := (s.nodeId l).getD (s.freeVal % 2 ^ 20)
      let s1 := if (s.nodeId l).isNone then s.tookFree else s
      let s2 := s1.writeMem (optReq l) optOwner (s1.fld (.optLsAddr l) Fld.optLsAddr_ADDR)
        (toLe 4 ((s1.lossExp l + 127).toNat % 256 * 2 ^ 23))
      let s3 := s2.upDies.foldl (State.markDie node) s2
      let s4 := (s3.putAll .optCtrl Fld.optCtrl_MARK 0).optPhase 1
      let s5 := { s4.setStep { s4.opt.step with markWaits := false, endWaits := false, voting := false, jobVerdict := none, restoring := false } with
        job := { s4.job with attemptOpen := true } }
      s5.upDies.foldl (fun t d => t.optSync d) s5
    else s

/-- MARK: a write of MARK on a die whose RIDGE_MASK bit is set (R206, R225). -/
def execMark (d : Fin 4) (s : State) : Host.Outcome State Fault Refusal :=
  .next (if s.doms.compute.testBit d.val && s.ridgeUp d.val && s.leader.isSome then
    ((s.setStep { s.opt.step with markWaits := true }).putAll .optCtrl Fld.optCtrl_MARK 1).tryMark
  else s)

/-- STEP_END: a write of STEP_END ends the attempt; the vote follows once every entry is done (R206, R225). -/
def execStepEnd (d : Fin 4) (s : State) : Host.Outcome State Fault Refusal :=
  .next (if s.doms.compute.testBit d.val && s.ridgeUp d.val && s.leader.isSome && s.job.attemptOpen && !s.opt.step.voting &&
      !s.opt.step.restoring then
    ((s.setStep { s.opt.step with endWaits := true }).putAll .optCtrl Fld.optCtrl_STEP_END 1).tryVote
  else s)

/-! ### Outcome (R225 to R229) -/

/-- A commit record's slot (R228): the order of its fields is the model's (log entry 12). -/
def State.commitImage (s : State) (l : Fin 4) : List Byte :=
  let b := toLe 8 (s.fld (.optStep l) Fld.optStep_STEP) ++ toLe 4 (s.fld (.optAttempt l) Fld.optAttempt_ATTEMPT) ++
    toLe 4 (s.fld (.optLscale l) Fld.optLscale_EXP) ++ toLe 8 (s.fld (.optCursor l) Fld.optCursor_CURSOR) ++
    toLe 4 (s.fld (.optLscale l) Fld.optLscale_CLEAN) ++ toLe 4 (s.fld (.optAttempt l) Fld.optAttempt_SKIP) ++ zeros 24
  b ++ toLe 8 (crc64 b)

/-- The leader writes the commit record, into the two slots in turn (R228). -/
def State.writeCommit (s : State) (l : Fin 4) : State :=
  let at_ := s.fld (.optCommitBase l) Fld.optCommitBase_ADDR + 64 * s.opt.step.commitSlot
  (s.writeMem (optReq l) optOwner at_ (s.commitImage l)).setStep { s.opt.step with commitSlot := 1 - s.opt.step.commitSlot }

/-- The regions of the mirror set as address and length (R420, R429). -/
def State.mirrorSet (s : State) : List (Nat × Nat) :=
  (List.range (s.fld .fltMset Fld.fltMset_COUNT)).map (fun i =>
    let r := s.peek (s.fld .fltMset Fld.fltMset_BASE + 16 * i) 16
    (leAt r 0 8, leAt r 8 8))

/-- The slot that does not hold the newer complete generation (R421). -/
def State.mirrorTarget (s : State) : Fin 2 :=
  let c := fun (g : Fin 2) => s.isSet (.fltMgen g) Fld.fltMgen_COMPLETE
  let st := fun (g : Fin 2) => s.fld (.fltMgen g) Fld.fltMgen_STEP
  if c 0 && (!c 1 || newer 40 (st 0) (st 1)) then 1 else 0

/-- The generation record (R421): the order of its fields and its place at the end of the slot are the model's (log entry 12). -/
def genRecord (step attempt : Nat) (data : List Byte) : List Byte :=
  let b := toLe 8 step ++ toLe 4 attempt ++ zeros 4 ++ toLe 8 data.length ++ toLe 8 (crc64 data) ++ zeros 24
  b ++ toLe 8 (crc64 b)

/-- Bytes of a slot of the mirror area. -/
def State.mirrorSize (s : State) : Nat := s.fld .fltMarea Fld.fltMarea_SIZE * 2 ^ 29

/-- Address of slot `g` of the mirror area; both devices place the area alike (R420, R429). -/
def State.mirrorBase (s : State) (g : Nat) : Nat := s.fld .fltMarea Fld.fltMarea_BASE + g * s.mirrorSize

/-- Address of the generation record, the last 64 B of its slot. -/
def State.genRecordAddr (s : State) (g : Nat) : Nat := s.mirrorBase g + s.mirrorSize - 64

/-- The collective engine of the leader as the requester of mirroring (R421). -/
def State.mirrorReq (s : State) : Requester := ⟨(s.leader.getD 0).val, 4, noInst⟩

/-- The collective engine of the leader sends the mirror set and its record to the partner (R421). -/
def State.mirrorSend (s : State) (g step : Nat) : State :=
  let d := s.leader.getD 0
  let data := s.mirrorSet.flatMap (fun x => s.peek x.1 x.2)
  let partner := s.fld .fltMirror Fld.fltMirror_PARTNER
  (s.stallBursts (s.rangeStalls s.mirrorReq true 3 s.mirrorSet)).submit d (s.writeReqs d .mirror partner (s.mirrorBase g) data ++
    s.writeReqs d .mirror partner (s.genRecordAddr g) (genRecord step (s.fld (.optAttempt d) Fld.optAttempt_ATTEMPT) data))

/-- A generation of the mirror begins; a mirror set longer than a slot is abandoned (R421, R422). -/
def State.mirrorBegin (s : State) (step : Nat) : State :=
  let g := s.mirrorTarget
  let s1 := ((s.put (.fltMgen g) Fld.fltMgen_WRITING 1).put (.fltMgen g) Fld.fltMgen_COMPLETE 0).put (.fltMgen g) Fld.fltMgen_STEP step
  let s2 := { s1 with restart := { s1.restart with mirrorSlot := some g.val } }
  if s.mirrorSize < ((s.mirrorSet).map Prod.snd).sum + 64 then s2.abandonMirror else s2.mirrorSend g.val step

/-- Mirroring of a committed step begins when the step is divisible by EVERY as degradation lengthens it (R421, R422). -/
def State.mirrorStart (s : State) (step : Nat) : State :=
  match s.mirrorEvery with
  | none => s
  | some every =>
    if s.isSet .fltMirror Fld.fltMirror_EN && !s.mirrorReads && step % max 1 every == 0 then s.mirrorBegin step else s

/-- Mirroring of a new layout begins when the last reshard has been applied; a generation of the old layout is abandoned (R277). -/
def State.mirrorRenew (s : State) (d : Fin 4) : State :=
  if s.isSet .fltMirror Fld.fltMirror_EN && s.mirrorEvery.isSome && !s.resharding then
    s.abandonMirror.mirrorBegin (s.fld (.optStep d) Fld.optStep_STEP)
  else s

/-- BUSY of every engine, which restores of an attempt keep working (R232). -/
def State.optBusy (s : State) (on : Bool) : State := s.putAll .optStatus Fld.optStatus_BUSY (b2n on)

/-- The outcome is final: DONE and OPT_STEP_DONE on every die, an END that waited may run, a marker that waited runs (R225,
R236). -/
def State.outcome (s : State) (retracted : Bool) : State :=
  let s1 := s.upDies.foldl (fun (t : State) d =>
    (((t.put (.optStatus d) Fld.optStatus_DONE 1).put (.optStatus d) Fld.optStatus_RETRACTED (b2n retracted)).put (.optStatus d)
      Fld.optStatus_PHASE 0).irq (ridgeSource d 4)) (s.optBusy false)
  let s2 := { s1.setStep { s1.opt.step with voting := false, verdict := false, jobVerdict := none, restoring := false } with
    job := { s1.job with attemptOpen := false } }
  let s3 := if s2.job.endWaits then
      { (s2.put .bcJobStatus Fld.bcJobStatus_STATE 3) with job := { s2.job with endWaits := false } }
    else s2
  s3.tryMark

/-- An outcome would carry OPT_CURSOR past 2^64 - 1 (R482). -/
def State.cursorEnds (s : State) (l : Fin 4) : Bool :=
  decide (2 ^ 64 ≤ s.fld (.optCursor l) Fld.optCursor_CURSOR + s.fld (.optBatch l) Fld.optBatch_BATCH)

/-- OPT_CURSOR after an outcome: the batch is consumed, unless the cursor cannot pass its limit (R226, R227, R482). -/
def State.nextCursor (s : State) (l : Fin 4) : Nat :=
  s.fld (.optCursor l) Fld.optCursor_CURSOR + if s.cursorEnds l then 0 else s.fld (.optBatch l) Fld.optBatch_BATCH

/-- The job ends with STEP_LIMIT at an outcome that met the limit (R482). -/
def State.limitEnd (s : State) (ends : Bool) : State := if ends then s.beginEnd 0x22 else s

/-- The counters of a commit (R226). -/
def State.commitCounters (s : State) (l : Fin 4) : State :=
  let clean := s.fld (.optLscale l) Fld.optLscale_CLEAN + 1
  let e := s.lossExp l
  let e1 := if clean = 2000 then min (e + 1) (max e (signed 8 (s.fld (.optLscale l) Fld.optLscale_EXP_MAX))) else e
  let s1 := (s.putAll .optStep Fld.optStep_STEP (s.fld (.optStep l) Fld.optStep_STEP + 1)).putAll .optCursor
    Fld.optCursor_CURSOR (s.nextCursor l)
  ((s1.putAll .optLscale Fld.optLscale_CLEAN (if clean = 2000 then 0 else clean)).putAll .optLscale Fld.optLscale_EXP (unsign 8 e1)).putAll
    .optLscale Fld.optLscale_RUN 0

/-- The counters of a retract (R227). -/
def State.retractCounters (s : State) (l : Fin 4) : State :=
  let e := s.lossExp l
  let lo := signed 8 (s.fld (.optLscale l) Fld.optLscale_EXP_MIN)
  let s1 := (s.putAll .optCursor Fld.optCursor_CURSOR (s.nextCursor l)).putAll .optAttempt Fld.optAttempt_SKIP
    (satInc 32 (s.fld (.optAttempt l) Fld.optAttempt_SKIP))
  ((s1.putAll .optLscale Fld.optLscale_CLEAN 0).putAll .optLscale Fld.optLscale_EXP (unsign 8 (if lo < e then e - 1 else e))).putAll
    .optLscale Fld.optLscale_RUN (satInc 8 (s.fld (.optLscale l) Fld.optLscale_RUN))

/-- JOB_VERDICT: the verdict that the vote returned: a pass commits, a fail begins the restores (R225 to R228, R482). -/
def execJobVerdict (s : State) : Host.Outcome State Fault Refusal :=
  .next (match s.leader, s.opt.step.jobVerdict with
  | some l, some fail =>
    if s.opt.step.voting && s.optRunning l then
      if fail then
        ((s.setStep { s.opt.step with voting := false, restoring := true }).optPhase 4).optBusy true
      else if s.fld (.optStep l) Fld.optStep_STEP = 2 ^ 40 - 1 then (s.beginEnd 0x22).outcome false
      else
        let s1 := ((s.optPhase 3).commitCounters l).writeCommit l
        ((s1.mirrorStart (s1.fld (.optStep l) Fld.optStep_STEP)).limitEnd (s.cursorEnds l)).outcome false
    else s
  | _, _ => s)

/-- RETRACT_RESTORE_DONE: the log entries of the attempt are restored on every die, then the counters change; the loss-scale
floor is reported, and RETRACT_LIMIT stops the engine (R227, R228). -/
def execRetractRestoreDone (s : State) : Host.Outcome State Fault Refusal :=
  .next (match s.leader with
  | some l =>
    if s.opt.step.restoring then
      let r := State.restoreAll s s.upDies
      if r.1 then
        let floor := s.lossExp l ≤ signed 8 (s.fld (.optLscale l) Fld.optLscale_EXP_MIN)
        let s1 := (r.2.retractCounters l).writeCommit l
        let s2 := (if floor then s1.correctedEvent (optReq l) 0x0130 0 0 else s1).limitEnd (r.2.cursorEnds l)
        let lim := s2.fld (.optLscale l) Fld.optLscale_RETRACT_LIMIT
        if lim ≠ 0 ∧ s2.fld (.optLscale l) Fld.optLscale_RUN = lim then (s2.optStop l 0x04 0xFFFF).outcome true else s2.outcome true
      else (r.2.setStep { r.2.opt.step with restoring := false }).optBusy false
    else s
  | none => s)

/-- OPT_WAIT_TIMEOUT: a fusion wait, the team's norm sum or the vote exceeds OPT_WAIT_LIMIT (R213, R231, R268). -/
def execOptWaitTimeout (d : Fin 4) (s : State) : Host.Outcome State Fault Refusal :=
  let o := s.optDie d
  let entry := match o.run with
    | some r => r.entry
    | none => ((s.layersOf d).find? (fun i => !o.done.contains i)).getD 0xFFFF
  .next (if s.optRunning d && s.job.attemptOpen && s.fld (.optWaitLimit d) Fld.optWaitLimit_LIMIT != 0 &&
      (entry != 0xFFFF || (s.opt.step.voting && s.isSet (.optCtrl d) Fld.optCtrl_LEADER)) then
    s.optStop d 0x01 entry
  else s)

end Sys2Proof.Machine
end

