-- ==== Sys2Proof/Machine/Collect.lean ====
section
/-! DEFINITION. The collective engine: descriptors, reductions, gathers, votes, barriers, team admission, errors (R257 to
R281). -/

namespace Sys2Proof.Machine

/-! ### Engine, errors (R280, R281) -/

/-- The collective engine of a die as a requester, and its owner code (R179, R407). -/
def colReq (d : Fin 4) : Requester := ⟨d.val, 4, noInst⟩
def colOwner : Nat := 0x31

/-- The engine is enabled. -/
def State.colRunning (s : State) (d : Fin 4) : Bool := s.doms.compute.testBit d.val && s.isSet (.colCtrl d) Fld.colCtrl_RUN

/-- Fields of a descriptor (R261). -/
def cdOp (b : List Byte) : Nat := leAt b 0 1
def cdFlags (b : List Byte) : Nat := leAt b 1 1
def cdInFmt (b : List Byte) : Nat := leAt b 2 1
def cdOutFmt (b : List Byte) : Nat := leAt b 3 1
def cdClass (b : List Byte) : Nat := leAt b 4 1
def cdWaitBuf (b : List Byte) : Nat := leAt b 5 1
def cdPostBuf (b : List Byte) : Nat := leAt b 6 1
def cdPostDie (b : List Byte) : Nat := leAt b 7 1
def cdGroup (b : List Byte) : Nat := leAt b 8 2
def cdArg (b : List Byte) : Nat := leAt b 10 2
def cdWaitCount (b : List Byte) : Nat := leAt b 12 4
def cdPostCount (b : List Byte) : Nat := leAt b 16 4
def cdSrc (b : List Byte) : Nat := leAt b 24 8
def cdDst (b : List Byte) : Nat := leAt b 32 8
def cdN (b : List Byte) : Nat := leAt b 40 8
def cdScratch (b : List Byte) : Nat := leAt b 48 8

/-- The registers that report on the engine follow it; STOP takes effect at a descriptor boundary (R281). -/
def State.colSync (s : State) (d : Fin 4) : State :=
  let c := s.colDie d
  let n := c.runs.length
  let oldest := (c.runs.map ColRun.index).foldl min c.next
  let s1 := ((s.put (.colStatus d) Fld.colStatus_BUSY (b2n (n != 0))).put (.colStatus d) Fld.colStatus_INFLIGHT n).put
    (.colStatus d) Fld.colStatus_DESC oldest
  if n == 0 && s.isSet (.colCtrl d) Fld.colCtrl_STOP then
    (s1.put (.colCtrl d) Fld.colCtrl_STOP 0).put (.colCtrl d) Fld.colCtrl_RUN 0
  else s1

/-- COL_ERR takes a record, or MORE is set (R280). -/
def State.colRecord (s : State) (d : Fin 4) (code desc group : Nat) : State :=
  if s.isSet (.colErr d) Fld.colErr_VALID then s.put (.colErr d) Fld.colErr_MORE 1
  else (s.set (.colErr d) (fput (fput (fput (fput 0 Fld.colErr_VALID 1) Fld.colErr_CODE code) Fld.colErr_DESC desc)
    Fld.colErr_GROUP group)).put (.colStatus d) Fld.colStatus_ERROR 1

/-- Withheld receive units are freed (R263). -/
def State.colUnhold (s : State) (d : Fin 4) : State :=
  (s.colDie d).withheld.foldl (fun t w => t.releaseUnits (Fin.ofNat 16 w.1) 1 w.2) (s.setColDie d { s.colDie d with withheld := [] })

/-- Descriptors in flight are abandoned without publishing, and what peers have written for them counts no more (R277, R278, R280). -/
def State.colAbandon (s : State) (d : Fin 4) : State :=
  let s1 := (s.setColDie d { s.colDie d with runs := [], units := [], arrived := [] }).forget d RopeUse.isCol
  ((s1.put (.colStatus d) Fld.colStatus_SWITCHING 0).put (.colPhase d) Fld.colPhase_PENDING 0).colUnhold d |>.colSync d

/-- A stopping failure (R280). -/
def State.colStop (s : State) (d : Fin 4) (code desc group : Nat) : State :=
  let s1 := ((s.colRecord d code desc group).colAbandon d).put (.colCtrl d) Fld.colCtrl_RUN 0
  ((s1.ucc (colReq d) code 0 desc).irq (ridgeSource d 7)).tryMark

/-- An uncorrectable source read: recorded, NF with cause 2, no stop (R280). -/
def State.colBadRead (s : State) (d : Fin 4) (run : ColRun) : State :=
  (s.colRecord d 0x0B run.index (cdGroup run.bytes)).laneNf d true 2

/-- Norm partials of an attempt that is cut off, or of a job that has ended, are gone (R230, R267). -/
def State.dropNorms (s : State) (d : Fin 4) : State := s.setColDie d { s.colDie d with norms := [] }

/-! ### Groups (R262, R273) -/

/-- A group of the current map. -/
structure Group where
  size : Nat
  levels : Nat
  fans : List Nat
  rank : Nat
  members : Nat
deriving DecidableEq, Repr

/-- From the bytes of its entry. -/
def Group.ofBytes (b : List Byte) : Group :=
  ⟨leAt b 0 4, leAt b 4 1, [leAt b 8 2, leAt b 10 2, leAt b 12 2], leAt b 16 4, leAt b 24 8⟩

/-- Fan-in of level `l`, counted from 1, the distance of its digits, and a rank's digit there (R262). -/
def Group.fan (g : Group) (l : Nat) : Nat := if l ≤ g.levels then g.fans.getD (l - 1) 1 else 1
def Group.stride (g : Group) (l : Nat) : Nat := ((List.range (l - 1)).map (fun i => g.fan (i + 1))).prod
def Group.digit (g : Group) (l : Nat) : Nat := g.rank / g.stride l % max 1 (g.fan l)

/-- Rank of the member that differs from this one at level `l` only, with digit `j` there. -/
def Group.peer (g : Group) (l j : Nat) : Nat := g.rank + j * g.stride l - g.digit l * g.stride l

/-- Digits of the other members at a level. -/
def Group.others (g : Group) (l : Nat) : List Nat := (List.range (g.fan l)).filter (fun j => j != g.digit l)

/-- Logical node of a rank. -/
def State.memberNode (s : State) (g : Group) (r : Nat) : Nat := leAt (s.peek (g.members + 4 * r) 4) 0 4

/-- A group that R273 accepts on this device. -/
def State.groupValid (s : State) (d : Fin 4) (g : Group) : Bool :=
  decide (1 ≤ g.levels ∧ g.levels ≤ 3) && g.fans.all (fun f => decide (1 ≤ f ∧ f ≤ 64)) && g.fans.prod == g.size &&
  decide (g.rank < g.size) && decide (some (s.memberNode g g.rank) = s.nodeId d)

/-- The group that a descriptor names. -/
def State.groupOf (s : State) (d : Fin 4) (b : List Byte) : Option Group := (s.groupEntry d (cdGroup b)).map Group.ofBytes

/-- Part `j` of a range of blocks, `(first, count)` (R262). -/
def partOf (r : Nat × Nat) (f j : Nat) : Nat × Nat :=
  (r.1 + j * (r.2 / f) + min j (r.2 % f), r.2 / f + b2n (decide (j < r.2 % f)))

/-- The range of blocks in hand after `l` levels of a reduction of `n` blocks. -/
def Group.inHand (g : Group) (n : Nat) : Nat → Nat × Nat
  | 0 => (0, n)
  | l + 1 => partOf (g.inHand n l) (g.fan (l + 1)) (g.digit (l + 1))

/-! ### Formats (R264) -/

/-- Bytes of one block of 256 elements in an output format. -/
def outBlock (fmt : Nat) : Nat := if fmt = 1 then 512 else 1024

/-- Bytes of a source tensor of `n` elements. -/
def srcBytes (fmt n : Nat) : Nat := if fmt = 0 then 4 * n else if fmt = 1 then 2 * n else n + n / 256

/-- Bytes of `c` blocks as a contribution; E5M2 blocks travel as their codes, then their scales filled up to 64 B (log entry
12). -/
def wireBytes (fmt c : Nat) : Nat := if fmt = 0 then 1024 * c else if fmt = 1 then 512 * c else 256 * c + (c + 63) / 64 * 64

/-- A part of a source of `n` blocks as a contribution. -/
def wirePart (fmt n : Nat) (src : List Byte) (r : Nat × Nat) : List Byte :=
  if fmt = 2 then
    let sc := slice src (256 * n + r.1) r.2
    slice src (256 * r.1) (256 * r.2) ++ sc ++ zeros ((r.2 + 63) / 64 * 64 - r.2)
  else slice src (wireBytes fmt r.1) (wireBytes fmt r.2)

/-- FP32 codes of a contribution of `c` blocks. -/
def wireCodes (fmt c : Nat) (bs : List Byte) : List Nat :=
  if fmt = 0 then words32 bs
  else if fmt = 1 then bf16List bs
  else
    (List.range c).flatMap (fun b =>
      (slice bs (256 * b) 256).map (fun x => roundF32 (blockValue .e5m2 (leAt bs (256 * c + b) 1) x.toNat)))

/-- FP32 codes as bytes of an output format. -/
def outBytes (fmt : Nat) (xs : List Nat) : List Byte := if fmt = 1 then xs.flatMap (fun x => toLe 2 (x / 2 ^ 16)) else xs.flatMap (toLe 4)

/-- Contributions summed in ascending digit, with whether an add32 of finite values overflowed (R263). -/
def sumCodes (n : Nat) (cs : List (List Nat)) : List Nat × Bool :=
  cs.foldl (fun acc c =>
    let out := List.zipWith (fun a b => add32 a (f32 b)) acc.1 c
    (out, acc.2 || ((List.zip (List.zip acc.1 c) out).any (fun x => ffinite x.1.1 && ffinite x.1.2 && !ffinite x.2))))
    (List.replicate n 0, false)

/-! ### Reading and writing memory -/

/-- Read for a descriptor: `none` after a stop with BANK_OWNER (R280). -/
def State.colRead (s : State) (d : Fin 4) (run : ColRun) (a n : Nat) : Option (List Byte) × State :=
  let p := s.readBytes (colReq d) colOwner a n
  match p.2.1 with
  | .nonOwner => (none, p.2.2.colStop d 0x0D run.index (cdGroup run.bytes))
  | .uncorrectable => (some p.1, p.2.2.colBadRead d run)
  | _ => (some p.1, p.2.2)

/-- Write for a descriptor: false after a stop with BANK_OWNER. What is written counts as arrived. -/
def State.colWrite (s : State) (d : Fin 4) (run : ColRun) (a : Nat) (bs : List Byte) : Bool × State :=
  let p := s.writeBytes (colReq d) colOwner a bs
  if p.1 == .nonOwner then (false, p.2.colStop d 0x0D run.index (cdGroup run.bytes))
  else (true, p.2.setColDie d { p.2.colDie d with arrived := (p.2.colDie d).arrived ++ [((p.2.nodeId d).getD noNode, a, bs.length)] })

/-- Every 64 B of a range has been written, by a node that a test admits. -/
def coveredBy (ws : List (Nat × Nat × Nat)) (who : Nat → Bool) (a n : Nat) : Bool :=
  (List.range ((n + 63) / 64)).all (fun i =>
    ws.any (fun w => who w.1 && decide (w.2.1 ≤ a + 64 * i ∧ min (a + n) (a + 64 * i + 64) ≤ w.2.1 + w.2.2)))

/-- A range has been written by peers and by the engine itself. -/
def State.covered (s : State) (d : Fin 4) (a n : Nat) : Bool := coveredBy (s.colDie d).arrived (fun _ => true) a n

/-- Written ranges without one copy of each that lies within a range and was written by a node that a test admits. -/
def dropArrived (who : Nat → Bool) (a n : Nat) : List (Nat × Nat × Nat) → List (Nat × Nat × Nat) → List (Nat × Nat × Nat)
  | [], _ => []
  | w :: ws, seen =>
    if who w.1 ∧ a ≤ w.2.1 ∧ w.2.1 + w.2.2 ≤ a + n ∧ !seen.contains w then dropArrived who a n ws (w :: seen)
    else w :: dropArrived who a n ws seen

/-- Replace a descriptor in flight. -/
def State.setRun (s : State) (d : Fin 4) (r : ColRun) : State :=
  let c := s.colDie d
  s.setColDie d { c with runs := c.runs.map (fun x => if x.index = r.index then r else x) }

/-- The descriptor in flight with an index. -/
def State.runOf (s : State) (d : Fin 4) (index : Nat) : Option ColRun := (s.colDie d).runs.find? (fun r => r.index == index)

/-- The group that a descriptor in flight names; 0xFFFF for none. -/
def State.runGroup (s : State) (d : Fin 4) (index : Nat) : Nat := ((s.runOf d index).map (fun r => cdGroup r.bytes)).getD 0xFFFF

/-! ### Contributions (R263, R279) -/

/-- The 64 B units of a contribution from an offset of its part. -/
def unitsOf (phase desc level digit off : Nat) (bs : List Byte) : List ColUnit :=
  (mtuPieces 64 bs).map (fun x => ⟨phase, desc, level, digit, off + x.1, x.2⟩)

/-- Two units are the same contribution. -/
def ColUnit.same (a b : ColUnit) : Bool :=
  a.phase == b.phase && a.desc == b.desc && a.level == b.level && a.digit == b.digit && a.off == b.off

/-- A unit was there before: it is held, or its descriptor is past its level or complete. -/
def State.unitKnown (s : State) (d : Fin 4) (u : ColUnit) : Bool :=
  let c := s.colDie d
  c.units.any (fun x => x.same u) ||
  match c.runs.find? (fun r => r.index == u.desc) with
  | some r => u.level != 0 && (r.back || decide (u.level < r.level))
  | none => decide (u.desc < c.next)

/-- A unit arrives; a second one for the same digit and place is discarded and recorded (R279). -/
def State.takeUnit (s : State) (d : Fin 4) (u : ColUnit) : State :=
  if s.unitKnown d u then
    s.colRecord d 0x0C u.desc (s.runGroup d u.desc)
  else s.setColDie d { s.colDie d with units := (s.colDie d).units ++ [u] }

/-- Units of a descriptor at a level and digit, as bytes in order of offset; `none` while some of `n` bytes are missing. -/
def State.unitBytes (s : State) (d : Fin 4) (desc level digit n : Nat) : Option (List Byte) :=
  let us := (s.colDie d).units.filter (fun u => u.phase == s.colPhaseOf d && u.desc == desc && u.level == level && u.digit == digit)
  let ps := (List.range (n / 64)).map (fun i => us.find? (fun u => u.off == 64 * i))
  if ps.contains none then none else some (ps.flatMap (fun p => (p.map ColUnit.data).getD []))

/-- Units of a descriptor and level are used up. -/
def State.dropUnits (s : State) (d : Fin 4) (desc level : Nat) : State :=
  let c := s.colDie d
  s.setColDie d { c with units := c.units.filter (fun u => !(u.desc == desc && u.level == level && u.phase == s.colPhaseOf d)) }

/-- A unit waits in the receive area: it is not this member's own, and it or a lower digit cannot be added yet (R263). -/
def State.unitWaits (s : State) (d : Fin 4) (u : ColUnit) : Bool :=
  match s.runOf d u.desc with
  | none => true
  | some r =>
    match s.groupOf d r.bytes with
    | none => true
    | some g =>
      u.digit != g.digit u.level &&
      (r.level != u.level || (List.range u.digit).any (fun j => !(s.colDie d).units.any (fun x => x.same { u with digit := j })))

/-- Bytes that wait in the receive area. -/
def State.rxHeld (s : State) (d : Fin 4) : Nat := 64 * ((s.colDie d).units.filter (s.unitWaits d)).length

/-- Withheld units are freed once the receive area has room again (R263). -/
def State.rxSettle (s : State) (d : Fin 4) : State :=
  if s.rxHeld d ≤ s.fld (.colRx d) Fld.colRx_SIZE then s.colUnhold d else s

/-- A contribution to a level of a peer: REDUCE requests (R287, R288). -/
def State.reduceReqs (s : State) (d : Fin 4) (node desc level digit : Nat) (bs : List Byte) : List RopeReq :=
  (mtuPieces s.ropeMtu bs).map (fun x =>
    s.newReq d (.col desc) 3 node x.1 x.2 (desc % 2 ^ 16 * 2 ^ 16 + level * 2 ^ 14 + digit * 2 ^ 8))

/-- Submit requests in order of the peers. -/
def State.submitAll (s : State) (d : Fin 4) (rs : List (List RopeReq)) : State := s.submit d rs.flatten

/-! ### Reductions (R262 to R264) -/

/-- Contribution format of a level. -/
def levelFmt (run : ColRun) (l : Nat) : Nat := if l = 1 then cdInFmt run.bytes else 0

/-- Units of 64 B in the contributions of all members of a level to this member's part (R279). -/
def levelUnits (run : ColRun) (g : Group) (l : Nat) : Nat :=
  g.fan l * (wireBytes (levelFmt run l) (g.inHand (cdN run.bytes / 256) l).2 / 64)

/-- The descriptor at a level, whose contributions it then expects (R279). -/
def ColRun.atLevel (run : ColRun) (g : Group) (l : Nat) : ColRun :=
  { run with level := l, expected := run.expected + levelUnits run g l }

/-- Enter level `l` with the bytes of every part of the range in hand: the others' parts go out, the own one is kept. -/
def State.enterLevel (s : State) (d : Fin 4) (run : ColRun) (g : Group) (l : Nat) (part : Nat → List Byte) : State :=
  let own := unitsOf (s.colPhaseOf d) run.index l (g.digit l) 0 (part (g.digit l))
  let s1 := s.setRun d (run.atLevel g l)
  let s2 := s1.setColDie d { s1.colDie d with units := (s1.colDie d).units ++ own }
  s2.submitAll d ((g.others l).map (fun j => s2.reduceReqs d (s2.memberNode g (g.peer l j)) run.index l (g.digit l) (part j)))

/-- Send the finished part of level `l` to the other members of that level (R262). -/
def State.sendReturn (s : State) (d : Fin 4) (run : ColRun) (g : Group) (l : Nat) : Bool × State :=
  let r := g.inHand (cdN run.bytes / 256) l
  let w := outBlock (cdOutFmt run.bytes)
  let a := cdDst run.bytes + w * r.1
  let p := s.colRead d run a (w * r.2)
  match p.1 with
  | none => (false, p.2)
  | some bs => (true, p.2.submitAll d ((g.others l).map (fun j =>
      p.2.writeReqs d (.col run.index) (p.2.memberNode g (g.peer l j)) a bs)))

/-- Go back through the levels: send the return of a level, and go on while the others' parts are there. -/
def State.returnGo (d : Fin 4) (g : Group) : Nat → State → ColRun → State
  | 0, s, run => s.setRun d { run with level := 0, back := true }
  | l + 1, s, run =>
    let r := g.inHand (cdN run.bytes / 256) l
    let w := outBlock (cdOutFmt run.bytes)
    if s.covered d (cdDst run.bytes + w * r.1) (w * r.2) then
      if l = 0 then s.setRun d { run with level := 0, back := true }
      else
        let p := s.sendReturn d { run with level := l, back := true } g l
        if p.1 then State.returnGo d g l (p.2.setRun d { run with level := l, back := true }) { run with level := l, back := true } else p.2
    else s.setRun d { run with level := l + 1, back := true }

/-- The last level is summed: the final part is rounded, written to its place, and the return begins (R262, R264). -/
def State.reduceFinal (s : State) (d : Fin 4) (run : ColRun) (g : Group) (codes : List Nat) : State :=
  let fmt := cdOutFmt run.bytes
  let r := g.inHand (cdN run.bytes / 256) g.levels
  let fin := if fmt = 1 then codes.map toBf16 else codes
  let p := s.colWrite d run (cdDst run.bytes + outBlock fmt * r.1) (outBytes fmt fin)
  if p.1 then
    if cdOp run.bytes = 2 then p.2.setRun d { run with level := 0, back := true }
    else
      let q := p.2.sendReturn d run g g.levels
      if q.1 then State.returnGo d g g.levels (q.2.setRun d { run with level := g.levels, back := true })
          { run with level := g.levels, back := true }
      else q.2
  else p.2

/-- Add the contributions of a level when all of them are there, and carry the part on (R263); `fuel` bounds the levels. -/
def State.reduceGo (d : Fin 4) (g : Group) : Nat → State → ColRun → State
  | 0, s, _ => s
  | fuel + 1, s, run =>
    let l := run.level
    let r := g.inHand (cdN run.bytes / 256) l
    let fmt := levelFmt run l
    let parts := (List.range (g.fan l)).map (fun j => s.unitBytes d run.index l j (wireBytes fmt r.2))
    if parts.contains none then s
    else
      let cs := parts.map (fun p => wireCodes fmt r.2 (p.getD []))
      let sum := sumCodes (256 * r.2) cs
      let s1 := (((s.dropUnits d run.index l).laneNf d (cs.any (fun c => c.any (fun x => !ffinite x))) 2).laneNf d sum.2 1)
      let done : ColRun := { run with added := run.added + levelUnits run g l }
      if l < g.levels then
        State.reduceGo d g fuel (s1.enterLevel d done g (l + 1) (fun j =>
          let q := partOf r (g.fan (l + 1)) j
          outBytes 0 (slice1 sum.1 (256 * (q.1 - r.1)) (256 * q.2)))) (done.atLevel g (l + 1))
      else s1.reduceFinal d done g sum.1
where
  /-- A part of a list of codes. -/
  slice1 (xs : List Nat) (o n : Nat) : List Nat := (xs.drop o).take n

/-- A REDUCE or REDUCE_SCATTER starts: its source is read and level 1 begins (R262). -/
def State.reduceStart (s : State) (d : Fin 4) (run : ColRun) (g : Group) : State :=
  let b := run.bytes
  let p := s.colRead d run (cdSrc b) (srcBytes (cdInFmt b) (cdN b))
  match p.1 with
  | none => p.2
  | some src => p.2.enterLevel d run g 1 (fun j => wirePart (cdInFmt b) (cdN b / 256) src (partOf (0, cdN b / 256) (g.fan 1) j))

/-! ### Gathers and point to point (R269) -/

/-- First rank and number of ranks whose bytes are in hand before level `l` of a gather. -/
def Group.gathered (g : Group) (l : Nat) : Nat × Nat := (g.rank / max 1 (g.stride l) * g.stride l, g.stride l)

/-- Send what is in hand to the other members of level `l`. -/
def State.gatherSend (s : State) (d : Fin 4) (run : ColRun) (g : Group) (l : Nat) : Bool × State :=
  let r := g.gathered l
  let n := cdN run.bytes
  let a := cdDst run.bytes + r.1 * n
  let p := s.colRead d run a (r.2 * n)
  match p.1 with
  | none => (false, p.2)
  | some bs => (true, p.2.submitAll d ((g.others l).map (fun j =>
      p.2.writeReqs d (.col run.index) (p.2.memberNode g (g.peer l j)) a bs)))

/-- Go on through the levels of a gather while the others' bytes are there. -/
def State.gatherGo (d : Fin 4) (g : Group) : Nat → State → ColRun → State
  | 0, s, _ => s
  | fuel + 1, s, run =>
    let r := g.gathered (run.level + 1)
    let n := cdN run.bytes
    if s.covered d (cdDst run.bytes + r.1 * n) (r.2 * n) then
      if g.levels ≤ run.level then s.setRun d { run with level := 0, back := true }
      else
        let run1 := { run with level := run.level + 1 }
        let p := (s.setRun d run1).gatherSend d run1 g (run.level + 1)
        if p.1 then State.gatherGo d g fuel p.2 run1 else p.2
    else s

/-- A GATHER starts: the own bytes go to their place and level 1 begins. -/
def State.gatherStart (s : State) (d : Fin 4) (run : ColRun) (g : Group) : State :=
  let n := cdN run.bytes
  let p := s.colRead d run (cdSrc run.bytes) n
  match p.1 with
  | none => p.2
  | some bs =>
    let q := p.2.colWrite d run (cdDst run.bytes + g.rank * n) bs
    if q.1 then
      let run1 := { run with level := 1 }
      let t := (q.2.setRun d run1).gatherSend d run1 g 1
      t.2
    else q.2

/-- A SEND starts: its bytes go to the peer's DST (R269; log entry 15). -/
def State.sendStart (s : State) (d : Fin 4) (run : ColRun) (g : Group) : State :=
  let p := s.colRead d run (cdSrc run.bytes) (cdN run.bytes)
  match p.1 with
  | none => p.2
  | some bs => (p.2.setRun d { run with level := 0, back := true }).submit d
      (p.2.writeReqs d (.col run.index) (p.2.memberNode g (cdArg run.bytes)) (cdDst run.bytes) bs)

/-! ### Votes and barriers (R268, R274, R276) -/

/-- The payload of a vote or barrier: the verdict bit and OPT_ATTEMPT (R268; log entry 12). -/
def State.votePayload (s : State) (d : Fin 4) (v : Bool) : List Byte :=
  toLe 4 (b2n v) ++ toLe 4 (s.fld (.optAttempt d) Fld.optAttempt_ATTEMPT) ++ zeros 56

/-- Levels, counted from 1, before the first one at which this member's digit is not 0. -/
def Group.leading (g : Group) : Nat := ((List.range g.levels).takeWhile (fun i => g.digit (i + 1) == 0)).length

/-- A vote's contribution carries another ATTEMPT than this device's (R268). -/
def State.wrongAttempt (s : State) (d : Fin 4) (run : ColRun) (bs : List Byte) : Bool :=
  cdOp run.bytes == 6 && leAt bs 4 4 != s.fld (.optAttempt d) Fld.optAttempt_ATTEMPT

/-- The verdict is known: it goes to the members below, as REDUCE frames of level 0 (log entry 12); the leader takes a
vote's verdict (R268). -/
def State.voteKnown (s : State) (d : Fin 4) (run : ColRun) (g : Group) (v : Bool) : State :=
  let run1 := { run with level := 0, back := true, verdict := v }
  let below := ((List.range g.leading).map (· + 1)).reverse
  let s1 := (s.setRun d run1).dropUnits d run.index 0
  let s2 := s1.submitAll d (below.flatMap (fun l => (g.others l).map (fun j =>
    s1.reduceReqs d (s1.memberNode g (g.peer l j)) run.index 0 (g.digit l) (s1.votePayload d v))))
  if cdOp run.bytes == 6 && decide (s.leader = some d) then s2.setStep { s2.opt.step with jobVerdict := some v } else s2

/-- Go on with a vote or barrier as far as the contributions allow; `fuel` bounds the levels. -/
def State.voteGo (d : Fin 4) (g : Group) : Nat → State → ColRun → State
  | 0, s, _ => s
  | fuel + 1, s, run =>
    if run.back then
      match (List.range 64).findSome? (fun j => s.unitBytes d run.index 0 j 64) with
      | some bs =>
        if s.wrongAttempt d run bs then s.colStop d 0x08 run.index (cdGroup run.bytes) else s.voteKnown d run g (bit (leAt bs 0 1) 0)
      | none => s
    else if g.levels < run.level then s.voteKnown d run g run.verdict
    else if g.digit run.level ≠ 0 then
      let s1 := s.submit d (s.reduceReqs d (s.memberNode g (g.peer run.level 0)) run.index run.level (g.digit run.level)
        (s.votePayload d run.verdict))
      let run1 := { run with back := true }
      State.voteGo d g fuel (s1.setRun d run1) run1
    else
      let got := (g.others run.level).map (fun j => s.unitBytes d run.index run.level j 64)
      if got.contains none then s
      else
        let bs := got.map (fun x => x.getD [])
        if bs.any (s.wrongAttempt d run) then s.colStop d 0x08 run.index (cdGroup run.bytes)
        else
          let run1 := { run with level := run.level + 1, verdict := run.verdict || bs.any (fun x => bit (leAt x 0 1) 0) }
          State.voteGo d g fuel ((s.dropUnits d run.index run.level).setRun d run1) run1

/-- A vote or barrier begins at level 1. -/
def State.voteStart (s : State) (d : Fin 4) (run : ColRun) (g : Group) (v : Bool) : State :=
  let run1 := { run with level := 1, back := false, verdict := v }
  State.voteGo d g 5 (s.setRun d run1) run1

/-- The barrier of a SWITCH or RESHARD begins (R281: SWITCHING). -/
def State.barrierStart (s : State) (d : Fin 4) (run : ColRun) (g : Group) : State :=
  (s.put (.colStatus d) Fld.colStatus_SWITCHING 1).voteStart d run g false

/-! ### Progress -/

/-- Logical node at the other end of a SEND or RECV in flight. -/
def State.peerNode (s : State) (d : Fin 4) (run : ColRun) : Option Nat :=
  (s.groupOf d run.bytes).map (fun g => s.memberNode g (cdArg run.bytes))

/-- The bytes of a RECV are there: those of its peer, whose SENDs its RECVs take in order (R269). -/
def State.recvReady (s : State) (d : Fin 4) (run : ColRun) : Bool :=
  !(s.colDie d).runs.any (fun r => decide (r.index < run.index) && cdOp r.bytes == 5 && s.peerNode d r == s.peerNode d run) &&
  coveredBy (s.colDie d).arrived (fun n => s.peerNode d run == some n) (cdDst run.bytes) (cdN run.bytes)

/-- Go on with one descriptor as far as what has arrived allows. -/
def State.runAdvance (s : State) (d : Fin 4) (run : ColRun) : State :=
  match s.groupOf d run.bytes with
  | none => s
  | some g =>
    match cdOp run.bytes with
    | 1 | 2 => if run.back then State.returnGo d g run.level s run else State.reduceGo d g 4 s run
    | 3 => if run.back then s else State.gatherGo d g 5 s run
    | 5 => if !run.back && s.recvReady d run then s.setRun d { run with level := 0, back := true } else s
    | 6 => if run.back && run.level = 0 then s else State.voteGo d g 5 s run
    | 7 =>
      if run.back && run.level = 0 then s
      else if run.level = 0 then
        (if (s.colDie d).runs.all (fun r => decide (run.index ≤ r.index)) then s.barrierStart d run g else s)
      else State.voteGo d g 5 s run
    | 8 =>
      if run.back && run.level = 0 then s
      else if run.level = 0 then
        (if s.covered d (cdScratch run.bytes) (cdN run.bytes) && !s.busyWith d (fun u => u == .col run.index) then s.barrierStart d run g
         else s)
      else State.voteGo d g 5 s run
    | _ => s

/-- Go on with every descriptor in flight, oldest first. -/
def State.colAdvance (s : State) (d : Fin 4) : State :=
  ((((s.colDie d).runs.map ColRun.index).foldl (fun (t : State) i =>
    match t.runOf d i with
    | some r => t.runAdvance d r
    | none => t) s).rxSettle d).colSync d

/-! ### Starting a descriptor (R261, R271 to R276, R280) -/

/-- The map in force has a right CRC (R271). -/
def State.mapGood (s : State) (d : Fin 4) : Bool :=
  let h := s.mapHeader d
  let tables := s.peek (leAt h 24 8) (8 * leAt h 8 4) ++ s.peek (leAt h 32 8) (32 * leAt h 12 4) ++ s.peek (leAt h 40 8) (64 * leAt h 16 4) ++
    s.peek (leAt h 48 8) (4 * leAt h 20 4)
  crc64 (h.take 56 ++ tables) == leAt h 56 8

/-- A die activates the map of a phase: the first time in a job its CRC is verified, and a wrong one stops the engine (R271). -/
def State.verifyMap (s : State) (d : Fin 4) : State :=
  let ph := s.colPhaseOf d
  if (s.colDie d).verified.contains ph || (s.mapBase d ph).isNone then s
  else if s.mapGood d then s.setColDie d { s.colDie d with verified := ph :: (s.colDie d).verified }
  else s.colStop d 0x05 (s.colDie d).next 0xFFFF

/-- The next descriptor of the schedule. -/
def State.nextDesc (s : State) (d : Fin 4) : Option (List Byte) :=
  let h := s.mapHeader d
  let i := (s.colDie d).next
  if (s.mapBase d (s.colPhaseOf d)).isSome && decide (i < leAt h 16 4) then some (s.peek (leAt h 40 8 + 64 * i) 64) else none

/-- A count of a descriptor, attempt-based when ATT is set (R261). -/
def State.colCount (s : State) (d : Fin 4) (b : List Byte) (n : Nat) : Nat :=
  if bit (cdFlags b) 0 then (s.fld (.optAttempt d) Fld.optAttempt_ATTEMPT * 16 + n % 16) % 2 ^ 32 else n

/-- π of a RESHARD for a rank (R275). -/
def State.permOf (s : State) (b : List Byte) (r : Nat) : Nat := leAt (s.peek (cdSrc b + 4 * r) 4) 0 4

/-- Ranks that a descriptor sends to. -/
def State.peersOf (s : State) (b : List Byte) (g : Group) : List Nat :=
  let all := (List.range g.levels).flatMap (fun i => (g.others (i + 1)).map (fun j => g.peer (i + 1) j))
  match cdOp b with
  | 4 => [cdArg b]
  | 5 => []
  | 8 => s.permOf b g.rank :: all
  | _ => all

/-- The first broken rule of a descriptor as an error code; 0 for none (R280). -/
def State.descError (s : State) (d : Fin 4) (b : List Byte) : Nat :=
  let op := cdOp b
  let sums := op == 1 || op == 2
  if op == 0 || decide (8 < op) || decide (4 ≤ cdFlags b) || decide (2 < cdInFmt b) || decide (1 < cdOutFmt b) || decide (3 < cdPostDie b) ||
      (!sums && (cdInFmt b != 0 || cdOutFmt b != 0)) ||
      ((op == 7 || op == 8) && (decide (7 < cdArg b) || (s.mapBase d (cdArg b)).isNone)) || (op == 8 && s.job.attemptOpen) then 0x01
  else
    match s.groupOf d b with
    | none => 0x02
    | some g =>
      if !s.groupValid d g || ((op == 4 || op == 5) && decide (g.size ≤ cdArg b)) then 0x02
      else if (sums && cdN b % 256 != 0) || ((op == 3 || op == 4 || op == 5) && (cdN b % 64 != 0 || decide (cdN b < 64))) then 0x03
      else if (s.peersOf b g).any (fun r => r != g.rank && !s.reaches d (s.memberNode g r)) then 0x04
      else if op == 8 && decide (Config.scratchBytes (cdScratch b) < cdN b) then 0x09
      else if sums && decide (s.fld (.colRx d) Fld.colRx_SIZE < 2 ^ 21) then 0x0A
      else 0

/-- A descriptor may start now: the engine runs, the team is admitted, a slot is free and nothing holds it back (R259,
R261). -/
def State.colMayStart (s : State) (d : Fin 4) : Bool :=
  s.colRunning d && !s.isSet (.colCtrl d) Fld.colCtrl_STOP && s.fld (.colStatus d) Fld.colStatus_JOIN_RESULT == 1 &&
  decide ((s.colDie d).runs.length < 16) && !(s.colDie d).runs.any (fun r => cdOp r.bytes == 7 || cdOp r.bytes == 8)

/-- Bytes that a descriptor reads at its source, and writes at its destination. -/
def cdSrcBytes (b : List Byte) : Nat :=
  match cdOp b with
  | 1 | 2 => srcBytes (cdInFmt b) (cdN b)
  | 3 | 4 => cdN b
  | _ => 0
def cdDstBytes (b : List Byte) : Nat :=
  match cdOp b with
  | 1 | 2 => outBlock (cdOutFmt b) * (cdN b / 256)
  | 3 | 5 | 8 => cdN b
  | _ => 0

/-- The stalls that a descriptor meets as it starts: of its class, for bursts shorter than the class declared (R68, R261). -/
def State.colStalls (s : State) (d : Fin 4) (b : List Byte) : List StalledBurst :=
  s.rangeStalls (colReq d) true (cdClass b) [(cdSrc b, cdSrcBytes b)] ++
  s.rangeStalls (colReq d) false (cdClass b) [(cdDst b, cdDstBytes b)]

/-- What an accepted descriptor does first. -/
def State.colBegin (s : State) (d : Fin 4) (run : ColRun) : State :=
  match s.groupOf d run.bytes with
  | none => s
  | some g =>
    match cdOp run.bytes with
    | 1 | 2 => s.reduceStart d run g
    | 3 => s.gatherStart d run g
    | 4 => s.sendStart d run g
    | 5 => s.setRun d { run with level := 1 }
    | 6 => s.voteStart d run g s.opt.step.verdict
    | 7 => (s.put (.colPhase d) Fld.colPhase_NEXT (cdArg run.bytes)).put (.colPhase d) Fld.colPhase_PENDING 1
    | 8 =>
      let p := s.colRead d run (cdDst run.bytes) (cdN run.bytes)
      match p.1 with
      | none => p.2
      | some bs =>
        let r := p.2.permOf run.bytes g.rank
        if r = g.rank then (p.2.colWrite d run (cdScratch run.bytes) bs).2
        else p.2.submit d (p.2.writeReqs d (.col run.index) (p.2.memberNode g r) (cdScratch run.bytes) bs)
    | _ => s

/-- A descriptor does not start while a tier makes its source or destination wait (R55, R59, R66; log entry 50). -/
def State.colWaits (s : State) (b : List Byte) : Bool := s.mustWaitAny [(cdSrc b, cdSrcBytes b), (cdDst b, cdDstBytes b)]

/-- The next descriptor starts when its operation is the one commanded, or one that no command names (R280). -/
def State.colStart (s : State) (d : Fin 4) (op : Nat) : State :=
  if s.colMayStart d then
    match s.nextDesc d with
    | none => s
    | some b =>
      let i := (s.colDie d).next
      let ph := s.colPhaseOf d
      if cdOp b = op ∨ cdOp b = 0 ∨ 8 < cdOp b then
        let s1 := s.verifyMap d
        if !(s1.colDie d).verified.contains ph then s1
        else
          if s1.fbufReached d (cdWaitBuf b) (s1.colCount d b (cdWaitCount b)) && !s1.colWaits b then
            let e := s1.descError d b
            if e ≠ 0 then s1.colStop d e i (cdGroup b)
            else
              let run : ColRun := ⟨i, b, 0, false, false, 0, 0⟩
              let s2 := s1.setColDie d { s1.colDie d with runs := (s1.colDie d).runs ++ [run], next := i + 1 }
              ((s2.stallBursts (s2.colStalls d b)).colBegin d run).colAdvance d
          else s1
      else s
  else s

/-- REDUCE: the next descriptor, a REDUCE, starts (R261 to R264). -/
def execReduce (d : Fin 4) (s : State) : Host.Outcome State Fault Refusal := .next (s.colStart d 1)

/-- REDUCE_SCATTER: the next descriptor, a REDUCE_SCATTER, starts (R261 to R264). -/
def execReduceScatter (d : Fin 4) (s : State) : Host.Outcome State Fault Refusal := .next (s.colStart d 2)

/-- GATHER: the next descriptor, a GATHER, starts (R269). -/
def execGather (d : Fin 4) (s : State) : Host.Outcome State Fault Refusal := .next (s.colStart d 3)

/-- SEND: the next descriptor, a SEND, starts (R269). -/
def execSend (d : Fin 4) (s : State) : Host.Outcome State Fault Refusal := .next (s.colStart d 4)

/-- RECV: the next descriptor, a RECV, starts (R269). -/
def execRecv (d : Fin 4) (s : State) : Host.Outcome State Fault Refusal := .next (s.colStart d 5)

/-- VOTE: the next descriptor, a VOTE, starts; on the leader once the device's verdict is there (R268). -/
def execVote (d : Fin 4) (s : State) : Host.Outcome State Fault Refusal :=
  .next (if decide (s.leader = some d) && !s.opt.step.voting then s else s.colStart d 6)

/-- SWITCH: the next descriptor, a SWITCH, starts; its barrier waits for earlier descriptors (R274). -/
def execSwitch (d : Fin 4) (s : State) : Host.Outcome State Fault Refusal := .next (s.colStart d 7)

/-- RESHARD: the next descriptor, a RESHARD, starts; its barrier waits for the transfer (R275, R276). -/
def execReshard (d : Fin 4) (s : State) : Host.Outcome State Fault Refusal := .next (s.colStart d 8)

/-! ### Completion (R261, R274, R276) -/

/-- A descriptor ends: it publishes, raises COL_DONE when asked, and what it waited for is used up. -/
def State.colDone (s : State) (d : Fin 4) (run : ColRun) : State :=
  let b := run.bytes
  let n := match cdOp b with
    | 1 => outBlock (cdOutFmt b) * (cdN b / 256)
    | 2 => outBlock (cdOutFmt b) * (cdN b / 256)
    | 3 => cdN b * ((s.groupOf d b).map Group.size |>.getD 0)
    | 5 | 8 => cdN b
    | _ => 0
  let c := s.colDie d
  let left := dropArrived (fun w => cdOp b != 5 || s.peerNode d run == some w) (cdDst b) n c.arrived []
  let s1 := s.setColDie d { c with
    runs := c.runs.filter (fun r => r.index != run.index)
    arrived := if cdOp b = 8 then dropArrived (fun _ => true) (cdScratch b) (cdN b) left [] else left
    units := c.units.filter (fun u => !(u.desc == run.index && u.phase == s.colPhaseOf d)) }
  let s2 := s1.fbufPublish (Fin.ofNat 4 (cdPostDie b)) (Fin.ofNat 256 (cdPostBuf b)) [s1.colCount d b (cdPostCount b)]
  let s3 := if bit (cdFlags b) 1 then (s2.put (.colStatus d) Fld.colStatus_DONE 1).irq (ridgeSource d 6) else s2
  s3.colSync d

/-- A descriptor's levels are through with every contribution added, and its own requests are answered (R261, R279). -/
def State.colThrough (s : State) (d : Fin 4) (run : ColRun) : Bool :=
  run.back && run.level == 0 && run.added == run.expected && !s.busyWith d (fun u => u == .col run.index)

/-- Everything a descriptor waits for is there, and no burst of the engine is stalled by its contract (R68, R261). -/
def State.colReady (s : State) (d : Fin 4) (run : ColRun) : Bool := s.colThrough d run && !s.burstStalled (colReq d)

/-- Every earlier descriptor of the engine that writes memory has its writes complete (R167, R261). -/
def State.earlierWritten (s : State) (d : Fin 4) (run : ColRun) : Bool :=
  (s.colDie d).runs.all (fun r => decide (run.index ≤ r.index) || cdOp r.bytes == 6 || s.colReady d r)

/-- COL_DESC_COMPLETE: a descriptor whose parts are through, and the writes of every earlier one with them, completes (R167, R261). -/
def execColDescComplete (d : Fin 4) (index : BitVec 16) (s : State) : Host.Outcome State Fault Refusal :=
  .next (match s.runOf d index.toNat with
  | some run =>
    if s.colReady d run && s.earlierWritten d run && cdOp run.bytes != 7 && cdOp run.bytes != 8 then (s.colDone d run).colAdvance d else s
  | none => s)

/-- CURRENT becomes the next phase, whose map is verified, and its schedule starts from the first descriptor (R271, R274). -/
def State.enterPhase (s : State) (d : Fin 4) (ph : Nat) : State :=
  let s1 := ((s.put (.colPhase d) Fld.colPhase_CURRENT ph).put (.colPhase d) Fld.colPhase_PENDING 0).put
    (.colStatus d) Fld.colStatus_SWITCHING 0
  ((s1.setColDie d { s1.colDie d with next := 0 }).verifyMap d).colSync d

/-- The switch or reshard of a die whose barrier has returned. -/
def State.barrierBack (s : State) (d : Fin 4) (op : Nat) : Option ColRun :=
  (s.colDie d).runs.find? (fun r => cdOp r.bytes == op && s.colReady d r)

/-! ### Contributions and partials from outside frames (R263, R267) -/

/-- A contribution reaches the engine of a die. -/
def State.contribute (s : State) (d : Fin 4) (phase desc level digit off : Nat) (bs : List Byte) : State :=
  ((unitsOf phase desc level digit off bs).foldl (fun t u => t.takeUnit d u) s).colAdvance d

/-- REDUCE_CONTRIB: a contribution of the current phase arrives: it is added in ascending digit order, or waits (R263,
R279). -/
def execReduceContrib (d : Fin 4) (desc : BitVec 16) (level : Fin 4) (digit : Fin 64) (off : BitVec 48) (bytes : List Byte) (s : State) :
    Host.Outcome State Fault Refusal :=
  .next (if s.doms.compute.testBit d.val then s.contribute d (s.colPhaseOf d) desc.toNat level.val digit.val off.toNat bytes else s)

/-- NORM_PARTIAL: the partial of a member of the norm group arrives; with all eight the total is there (R267). -/
def execNormPartial (d : Fin 4) (entry : BitVec 16) (rank : Fin 8) (value : BitVec 32) (s : State) : Host.Outcome State Fault Refusal :=
  .next (if s.doms.compute.testBit d.val then
    let c := s.colDie d
    if c.norms.any (fun e => e.1 == entry.toNat && e.2.1 == rank.val) then s
    else (s.setColDie d { c with norms := c.norms ++ [(entry.toNat, rank.val, value.toNat)] }).normGather d
  else s)

/-! ### Team admission (R259) -/

/-- What the slot at the far end of its team port presents, once its HELLO is there. -/
def State.slotShape (s : State) (d : Fin 4) (t : Nat) : Option Nat :=
  match (s.port (Fin.ofNat 16 (portTo (s.slotOf d) t))).hello with
  | some h => if h.1 == s.teamOf d && h.2.1 == t then some h.2.2.2 else none
  | none => none

/-- TC_ACTIVE and every mask of a shape (R259). -/
def shapeKey (w : Nat) : Nat × Nat := (bits w 59 54, bits w 47 0)

/-- The other slots of the team. -/
def State.otherSlots (s : State) (d : Fin 4) : List Nat := (List.range 9).filter (fun t => t != s.slotOf d)

/-- JOIN_RESULT with JOIN_DIFF. -/
def State.joinResult (s : State) (d : Fin 4) (result diff : Nat) : State :=
  let s1 := ((s.put (.colStatus d) Fld.colStatus_JOIN_RESULT result).put (.colStatus d) Fld.colStatus_JOIN_DIFF diff).put
    (.colCtrl d) Fld.colCtrl_JOIN 0
  s1.setColDie d { s1.colDie d with joining := false }

/-- Mask of the slots that satisfy a test. -/
def slotMask (ts : List Nat) (p : Nat → Bool) : Nat := ts.foldl (fun m t => if p t then m + 2 ^ t else m) 0

/-- A slot presents another shape. -/
def State.slotDiffers (s : State) (d : Fin 4) (t : Nat) : Bool :=
  match s.slotShape d t with
  | some w => shapeKey w != shapeKey (s.get .hkShape).toNat
  | none => false

/-- A JOIN ends once every slot has answered. -/
def State.tryJoin (s : State) (d : Fin 4) : State :=
  if (s.colDie d).joining && (s.otherSlots d).all (fun t => (s.slotShape d t).isSome) then
    let diff := slotMask (s.otherSlots d) (s.slotDiffers d)
    s.joinResult d (if diff = 0 then 1 else 2) diff
  else s

/-- JOIN: a write of JOIN: a device without a team joins at once; otherwise HK_SHAPE goes to every other slot (R259). -/
def execJoin (d : Fin 4) (s : State) : Host.Outcome State Fault Refusal :=
  .next (if !s.doms.compute.testBit d.val || (s.colDie d).joining then s
  else if s.teamOf d = 0x3FFF then s.joinResult d 1 0
  else
    let s1 := (s.put (.colCtrl d) Fld.colCtrl_JOIN 1).setColDie d { s.colDie d with joining := true }
    ((teamPortList.filter s1.portIsUp).foldl State.sendHello s1).tryJoin d)

/-- JOIN_TIMEOUT: 100 ms after JOIN some slot has not answered (R259). -/
def execJoinTimeout (d : Fin 4) (s : State) : Host.Outcome State Fault Refusal :=
  .next (if (s.colDie d).joining then
    s.joinResult d 3 (slotMask (s.otherSlots d) (fun t => (s.slotShape d t).isNone || s.slotDiffers d t))
  else s)

/-! ### Waits and STOP (R278, R281) -/

/-- A descriptor in flight awaits a peer. -/
def State.awaitsPeer (s : State) (d : Fin 4) (run : ColRun) : Bool := !s.colThrough d run

/-- The descriptor whose wait is at issue: the oldest in flight that awaits a peer, else the next one that awaits its
buffer. -/
def State.waitingDesc (s : State) (d : Fin 4) : Option (Nat × Nat) :=
  match (s.colDie d).runs.find? (s.awaitsPeer d) with
  | some r => some (r.index, cdGroup r.bytes)
  | none =>
    match s.nextDesc d with
    | some b =>
      if s.colMayStart d && !s.fbufReached d (cdWaitBuf b) (s.colCount d b (cdWaitCount b)) then some ((s.colDie d).next, cdGroup b) else none
    | none => none

/-- COL_WAIT_TIMEOUT: a wait of a descriptor exceeds COL_WAIT_LIMIT (R278, R280). -/
def execColWaitTimeout (d : Fin 4) (s : State) : Host.Outcome State Fault Refusal :=
  .next (if s.colRunning d && s.fld (.colWaitLimit d) Fld.colWaitLimit_LIMIT != 0 then
    match s.waitingDesc d with
    | some (i, g) => s.colStop d 0x06 i g
    | none => s
  else s)

/-- COL_STOP: a write of STOP: the engine stops at the next descriptor boundary (R281). -/
def execColStop (d : Fin 4) (s : State) : Host.Outcome State Fault Refusal :=
  .next (if s.doms.compute.testBit d.val then (s.put (.colCtrl d) Fld.colCtrl_STOP 1).colSync d else s)

end Sys2Proof.Machine
end

