-- ==== Sys2Proof/Machine/Detect.lean ====
section
/-! DEFINITION. The detection service of Basecamp firmware (R200 to R203). -/

namespace Sys2Proof.Machine

/-! ### Descriptors (R200, R201) -/

def detDeltas (x : List Byte) : Nat := leAt x 0 8
def detScores (x : List Byte) : Nat := leAt x 8 8
def detAnchors (x : List Byte) : Nat := leAt x 16 8
def detOut (x : List Byte) : Nat := leAt x 24 8
def detN (x : List Byte) : Nat := leAt x 32 4
def detClasses (x : List Byte) : Nat := leAt x 36 2
def detMaxOut (x : List Byte) : Nat := leAt x 38 2
def detScoreMin (x : List Byte) : Nat := leAt x 40 4
def detIouMax (x : List Byte) : Nat := leAt x 44 4
def detPreTop (x : List Byte) : Nat := leAt x 48 4
def detVar (x : List Byte) (i : Nat) : Nat := leAt x (52 + 2 * i) 2 * 2 ^ 16
def detFlag (x : List Byte) (i : Nat) : Bool := bit (leAt x 60 1) i

/-- Every field lies in its range (R201). -/
def detGood (x : List Byte) : Bool :=
  decide (1 ≤ detN x ∧ detN x ≤ 1048576) && decide (1 ≤ detClasses x ∧ detClasses x ≤ 4096) &&
  decide (1 ≤ detMaxOut x ∧ detMaxOut x ≤ 4096) && decide (1 ≤ detPreTop x ∧ detPreTop x ≤ 65536) &&
  !(f32 (detIouMax x)).isNan && !flt (detIouMax x) 0 && !flt 0x3F800000 (detIouMax x) && leAt x 60 1 / 8 == 0

/-- Firmware as a requester, with owner code 0x32 (R179, R407). -/
def detReq : Requester := ⟨4, 17, noInst⟩

/-- FP32 codes of some bytes. -/
def f32List : List Byte → List Nat
  | a :: b :: c :: e :: l => ofLe [a, b, c, e] :: f32List l
  | _ => []

/-! ### Decoding and suppression (R202, R203) -/

/-- `fminf`: ignores a NaN operand. -/
def fminf (a b : Nat) : Nat := if (f32 a).isNan then b else if (f32 b).isNan then a else fmin a b

/-- One box (R202): centre and size from anchor, delta and variance; `none` for a candidate that is dropped. -/
def decodeBox (a d v : List Nat) (clip : Bool) : Option (List Nat) :=
  let at4 := fun (l : List Nat) (i : Nat) => l.getD i 0
  let cx := fadd (at4 a 0) (fmul (fmul (at4 d 0) (at4 v 0)) (at4 a 2))
  let cy := fadd (at4 a 1) (fmul (fmul (at4 d 1) (at4 v 1)) (at4 a 3))
  let w := fmul (at4 a 2) (tcExp (fminf (fmul (at4 d 2) (at4 v 2)) 0x40845349))
  let h := fmul (at4 a 3) (tcExp (fminf (fmul (at4 d 3) (at4 v 3)) 0x40845349))
  let half := 0x3F000000
  let raw := [fsub cx (fmul half w), fsub cy (fmul half h), fadd cx (fmul half w), fadd cy (fmul half h)]
  let box := if clip then raw.map (fun c => fminf (fmaxf c 0) 0x3F800000) else raw
  if (a.take 4).all ffinite && (d.take 4).all ffinite && box.all ffinite then some box else none

/-- Intersection over union (R203). -/
def iou (a b : List Nat) : Nat :=
  let p := fun (i : Nat) => a.getD i 0
  let q := fun (i : Nat) => b.getD i 0
  let inter := fmul (fmaxf (fsub (fminf (p 2) (q 2)) (fmaxf (p 0) (q 0))) 0) (fmaxf (fsub (fminf (p 3) (q 3)) (fmaxf (p 1) (q 1))) 0)
  let ua := fmul (fmaxf (fsub (p 2) (p 0)) 0) (fmaxf (fsub (p 3) (p 1)) 0)
  let ub := fmul (fmaxf (fsub (q 2) (q 0)) 0) (fmaxf (fsub (q 3) (q 1)) 0)
  let un := fsub (fadd ua ub) inter
  if flt 0 un then fdiv inter un else 0

/-- A candidate of a class: index, class, score and box. -/
structure Cand where
  index : Nat
  cls : Nat
  score : Nat
  box : List Nat
deriving DecidableEq, Repr

/-- Score descending, ties by index ascending. -/
def candBefore (a b : Cand) : Bool := flt b.score a.score || (!flt a.score b.score && decide (a.index < b.index))

/-- Score descending, then class, then index ascending. -/
def keptBefore (a b : Cand) : Bool :=
  flt b.score a.score || (!flt a.score b.score && (decide (a.cls < b.cls) || (a.cls == b.cls && decide (a.index < b.index))))

/-- A score reaches SCORE_MIN; a NaN fails. -/
def reaches (score lim : Nat) : Bool := !(f32 score).isNan && !(f32 lim).isNan && !flt score lim

/-- Suppression within one pass: `kept` holds the boxes kept so far, latest first (R203). -/
def suppress (iouMax : Nat) : List Cand → List Cand → List Cand
  | [], kept => kept.reverse
  | c :: cs, kept => if kept.all (fun j => !flt iouMax (iou c.box j.box)) then suppress iouMax cs (c :: kept) else suppress iouMax cs kept

/-- One pass over the candidates of a class, and whether PRE_TOP cut one (R203). -/
def detPass (x : List Byte) (cs : List Cand) : List Cand × Bool :=
  let l := insertSort candBefore (cs.filter (fun c => reaches c.score (detScoreMin x)))
  (suppress (detIouMax x) (l.take (detPreTop x)) [], decide (detPreTop x < l.length))

/-- The greatest score of a candidate over the classes, ignoring NaN, with the lowest class that attains it (R203). -/
def bestScore (scores : List Nat) : Nat × Nat :=
  (scores.mapIdx (fun c v => (v, c))).foldl (fun best e =>
    if (f32 best.1).isNan then e else if flt best.1 e.1 then e else best) (0x7FC00000, 0)

/-- The kept candidates of a request, in record order, and whether PRE_TOP cut one (R203). -/
def detKept (x : List Byte) (boxes : List (Option (List Nat))) (scores : List (List Nat)) : List Cand × Bool :=
  let passes := if detFlag x 0 then
      [detPass x (boxes.mapIdx (fun i b => b.map (fun bx => let e := bestScore (scores.getD i []); (⟨i, e.2, e.1, bx⟩ : Cand))) |>.filterMap id)]
    else (List.range (detClasses x)).map (fun c =>
      detPass x (boxes.mapIdx (fun i b => b.map (fun bx => (⟨i, c, (scores.getD i []).getD c 0x7FC00000, bx⟩ : Cand))) |>.filterMap id))
  (insertSort keptBefore (passes.flatMap Prod.fst), passes.any Prod.snd)

/-- An output record (R203). -/
def detRecord (c : Cand) : List Byte := c.box.flatMap (toLe 4) ++ toLe 4 c.score ++ toLe 4 c.cls ++ toLe 4 c.index ++ toLe 4 0

/-! ### The service (R200, R201) -/

/-- Device address of descriptor `i` of the detection ring. -/
def State.detDesc (s : State) (i : Nat) : Nat := s.fld .bcDetBase Fld.bcDetBase_BASE + 64 * i

/-- The service starts descriptors: from S1 on, enabled, none running, one submitted (R200). -/
def State.detReady (s : State) : Bool :=
  s.doms.main && decide (1 ≤ s.fld .hkShape Fld.hkShape_SVC_LEVEL) && s.isSet .bcDetBase Fld.bcDetBase_EN && s.det.isNone &&
  s.fld .bcDetPtr Fld.bcDetPtr_DONE != s.fld .bcDetPtr Fld.bcDetPtr_SUBMIT

/-- The work of a valid descriptor: its records are written, and STATUS and COUNT are known (R201 to R203). -/
def State.detRun (s : State) (x : List Byte) : Nat × Nat × State :=
  let a := s.readBytes detReq 0x32 (detAnchors x) (16 * detN x)
  let d := a.2.2.readBytes detReq 0x32 (detDeltas x) (16 * detN x)
  let sc := d.2.2.readBytes detReq 0x32 (detScores x) (4 * detN x * detClasses x)
  if a.2.1 ≠ .ok ∨ d.2.1 ≠ .ok ∨ sc.2.1 ≠ .ok then (4, 0, sc.2.2)
  else
    let anchors := chunksOf 4 (detN x) (f32List a.1)
    let deltas := chunksOf 4 (detN x) (f32List d.1)
    let scores := chunksOf (detClasses x) (detN x) (f32List sc.1)
    let boxes := List.zipWith (fun p q => decodeBox p q ([0, 1, 2, 3].map (detVar x)) (detFlag x 1)) anchors deltas
    let k := detKept x boxes scores
    let out := k.1.take (detMaxOut x)
    let t := sc.2.2.writeMem detReq 0x32 (detOut x) (out.flatMap detRecord)
    (if k.2 || decide (detMaxOut x < k.1.length) then 2 else 1, out.length, t)

/-- The ranges of a descriptor, as `(address, bytes)`; those of an invalid one are not touched. -/
def detRanges (x : List Byte) : List (Nat × Nat) :=
  if detGood x then [(detAnchors x, 16 * detN x), (detDeltas x, 16 * detN x), (detScores x, 4 * detN x * detClasses x), (detOut x, 32 * detMaxOut x)]
  else []

/-- A descriptor is read and run: STATUS 4 when it cannot be read, 3 when it is invalid (R201). -/
def State.detServe (s : State) (at_ : Nat) (x : List Byte) : Nat × Nat × State :=
  let rd := s.readBytes detReq 0x32 at_ 64
  if rd.2.1 ≠ .ok then (4, 0, rd.2.2) else if detGood x then rd.2.2.detRun x else (3, 0, rd.2.2)

/-- DET_REQUEST: the service starts the next descriptor, checks it, and decodes and suppresses its candidates (R200 to
R203). -/
def execDetRequest (s : State) : Host.Outcome State Fault Refusal :=
  .next (if s.detReady then
    let i := s.fld .bcDetPtr Fld.bcDetPtr_DONE
    let at_ := s.detDesc i
    let x := s.peek at_ 64
    s.awaitBasecamp detReq ((at_, 64) :: detRanges x) (fun (s : State) =>
      let r := s.detServe at_ x
      { r.2.2 with det := some ⟨at_, (i + 1) % 256, detFlag x 2, r.1, r.2.1⟩ })
  else s)

/-- DET_REQUEST_DONE: the request ends: STATUS and COUNT, then DONE, then DET_DONE to the host (R200). -/
def execDetRequestDone (s : State) : Host.Outcome State Fault Refusal :=
  .next (match s.det with
  | none => s
  | some r =>
    let s1 := ({ s with det := none }).writeMem detReq 0x32 (r.desc + 61) (toLe 1 r.status ++ toLe 2 r.count)
    let s2 := s1.put .bcDetPtr Fld.bcDetPtr_DONE r.next
    if r.irq then s2.msix 6 else s2)

/-- At a job's end, every descriptor that has not started receives STATUS 5; `fuel` bounds the ring (R200). The running one
finishes, and DONE reaches SUBMIT with it. -/
def State.detCancelGo : Nat → State → Nat → State
  | 0, s, _ => s
  | fuel + 1, s, i =>
    if i = s.fld .bcDetPtr Fld.bcDetPtr_SUBMIT then s
    else State.detCancelGo fuel (s.writeMem detReq 0x32 (s.detDesc i + 61) (toLe 1 5 ++ toLe 2 0)) ((i + 1) % 256)

/-- The detection ring at a job's end. -/
def State.detCancel (s : State) : State :=
  let submit := s.fld .bcDetPtr Fld.bcDetPtr_SUBMIT
  match s.det with
  | none => (State.detCancelGo 256 s (s.fld .bcDetPtr Fld.bcDetPtr_DONE)).put .bcDetPtr Fld.bcDetPtr_DONE submit
  | some r => { State.detCancelGo 256 s r.next with det := some { r with next := submit } }

end Sys2Proof.Machine
end

