-- ==== Sys2Proof/Machine/Media.lean ====
section
/-! DEFINITION. What the input units share, and the media units: decode requests, encode streams (R312 to R334). -/

namespace Sys2Proof.Machine

/-! ### Addresses, rings and ledge writes of the input units (R312, R313, R333) -/

/-- Tier that an address lies in: 1 near, 2 moraine, 3 to 6 the ledge windows, 8 the host window, 0 none. -/
def tierOf (a : Nat) : Nat :=
  if a < 2 ^ 39 then 1
  else if morBase ≤ a ∧ a < morEnd then 2
  else if ledgeBase ≤ a ∧ a < ledgeBase + 4 * 2 ^ 28 then
    (if (a - ledgeBase) % 2 ^ 28 < ledgeSize then 3 + (a - ledgeBase) / 2 ^ 28 else 0)
  else if hostBase ≤ a ∧ a < hostEnd then 8
  else 0

/-- `n` bytes from `a` lie in the tier `t`. -/
def inTier (t a n : Nat) : Bool := t != 0 && tierOf a == t && (n == 0 || tierOf (a + n - 1) == t)

/-- A TRV field: EN, ridge die and engine (R314). -/
def trvEn (t : Nat) : Bool := bit t 15
def trvDie (t : Nat) : Fin 4 := Fin.ofNat 4 (bits t 9 8)
def trvEngine (t : Nat) : Nat := bits t 4 0

/-- The TRV field names an engine that exists, on a die that is not fenced, with the reserved bits zero (R314, R333). -/
def State.trvFieldGood (s : State) (t : Nat) : Bool :=
  !trvEn t || (decide (trvEngine t < 22) && !s.fenced (trvDie t).val && bits t 14 10 == 0 && bits t 7 5 == 0)

/-- Owner code with which a unit writes the ledge (R312). -/
def trvFieldOwner (t : Nat) : Nat := 0x10 + trvEngine t

/-- A destination tier fits the TRV field: a ledge window must be that of the named engine's die (R312). -/
def ledgeFits (tier t : Nat) : Bool := tier < 3 || tier == 8 || (trvEn t && tier == 3 + (trvDie t).val)

/-- Output rows cut into pieces that lie in one 64 B word each. -/
def pieces (rows : List (Nat × List Byte)) : List (Nat × List Byte) :=
  rows.flatMap (fun r => (wordsOf (r.1, r.2.length)).map (fun w =>
    let lo := max w r.1
    (lo, (r.2.drop (lo - r.1)).take (w + 64 - lo))))

/-- A media unit as a requester: the video engines, then the eight image decoders, then the four audio decoders, by queue (R312, R313;
log entry 50). -/
def medReq (q unit : Nat) : Requester := ⟨4, 11, (if q = 0 then 0 else if q = 1 then 2 else 10) + unit⟩

/-- A piece lies in a ledge bank that the owner code does not own. -/
def State.pieceForeign (s : State) (owner : Nat) (p : Nat × List Byte) : Bool :=
  match s.decodeAddr p.1 with
  | .ledge d o => s.ownerAt d o != owner
  | _ => false

/-- Output of a request: written as a whole, or after a non-owner response partly written and undefined (R312, R328). -/
def State.unitWrite (s : State) (r : Requester) (owner : Nat) (rows : List (Nat × List Byte)) : Bool × State :=
  match (pieces rows).find? (s.pieceForeign owner) with
  | none => (true, rows.foldl (fun (t : State) x => t.writeMem r owner x.1 x.2) s)
  | some p =>
    let s1 := match s.decodeAddr p.1 with
      | .ledge d o => s.ledgeViolation d owner (s.ownerAt d o) o
      | _ => s
    (false, ((pieces rows).filter (fun x => !s.pieceForeign owner x)).foldl (fun (t : State) x =>
      (t.tookFrees x.2.length).writeMem r owner x.1 (t.freeBytes x.2.length)) s1)

/-- Rows of output left partly written and undefined after a failed read (R328). -/
def State.unitUndefined (s : State) (r : Requester) (owner : Nat) (rows : List (Nat × List Byte)) : State :=
  (s.unitWrite r owner (rows.map (fun x => (x.1, s.freeBytes x.2.length)))).2.tookFrees (((rows.map (fun x => x.2.length)).sum))

/-- A decode or tokenizer descriptor may be taken under the sample limit (R313, R338). -/
def State.sampleAllowed (s : State) (sample : Nat) : Bool :=
  let d := (diesOf s.doms.compute).headD 0
  let depth := s.fld .medStatus Fld.medStatus_EFF_DEPTH
  depth == 0 || decide (sample < s.fld (.optCursor d) Fld.optCursor_CURSOR + depth * s.fld (.optBatch d) Fld.optBatch_BATCH)

/-- The highest SAMPLE taken so far (R313). -/
def State.noteSample (s : State) (sample : Nat) : State :=
  { s with input := { s.input with highSample := some (max sample (s.input.highSample.getD 0)) } }

/-- A byte stream appears at a snoop point (R344). -/
def State.snoop (s : State) (point tag : Nat) (bytes : List Byte) : State :=
  if bytes.isEmpty then s
  else { s with input := { s.input with
    streams := s.input.streams ++ [⟨s.input.nextStream, point, tag % 2 ^ 16, bytes, false⟩], nextStream := s.input.nextStream + 1 } }

/-- Content bytes in ascending device address (R344). -/
def ascending (rows : List (Nat × List Byte)) : List Byte :=
  ((insertSort (fun (a b : Nat × List Byte) => decide (a.1 < b.1)) rows).map Prod.snd).flatten

/-- Steps 2 to 4 of a request's completion: its tag with the timestamp, the TRV advance, the event (R315). -/
def State.completeInput (s : State) (r : Requester) (x : InputJob) (src : Fin 64) (vec : Nat) : State :=
  let tag := if x.stampAt < 64 then x.tag.take x.stampAt ++ toLe 8 s.now ++ x.tag.drop (x.stampAt + 8) else x.tag
  let s1 := s.writeMem r 0 x.tagAddr tag
  let s2 := if trvEn x.trv && x.status != 6 && decide (trvEngine x.trv < 22) && !s1.fenced (trvDie x.trv).val then
    s1.trvAdvance (trvDie x.trv) (Fin.ofNat 22 (trvEngine x.trv)) else s1
  if x.irq then s2.notify src vec else s2

/-- BUSY of the media units (R334). -/
def State.mediaBusy (s : State) : State :=
  s.put .medStatus Fld.medStatus_BUSY (b2n (!s.input.media.isEmpty || s.input.enc.any (fun e => e.frame.isSome)))

/-- FREE of a frame-buffer pool: COUNT less the buffers that running requests hold (R320, R334). -/
def State.poolSync (s : State) (e : Fin 2) : State :=
  let held := ((s.input.media.filter (fun x => x.queue == 0 && x.unit == e.val)).map (fun x => x.buffers)).sum
  s.put (.medVpool e) Fld.medVpool_FREE (s.fld (.medVpool e) Fld.medVpool_COUNT - held)

/-! ### Decode requests (R314 to R328) -/

/-- A decode descriptor (R314). -/
abbrev DecDesc := List Byte

def ddSample (x : DecDesc) : Nat := leAt x 0 8
def ddSrc (x : DecDesc) : Nat := leAt x 8 8
def ddLen (x : DecDesc) : Nat := leAt x 16 4
def ddCodec (x : DecDesc) : Nat := leAt x 20 1
def ddFlag (x : DecDesc) (i : Nat) : Bool := bit (leAt x 21 1) i
def ddFmt (x : DecDesc) : Nat := leAt x 22 1
def ddLayout (x : DecDesc) : Nat := leAt x 23 1
def ddDst (x : DecDesc) : Nat := leAt x 24 8
def ddTag (x : DecDesc) : Nat := leAt x 32 8
def ddTrv (x : DecDesc) : Nat := leAt x 40 2
def ddPitch (x : DecDesc) : Nat := leAt x 44 4
def ddStats (x : DecDesc) : Nat := leAt x 48 8

/-- Bytes of an output element (R314). -/
def outSize (f : Nat) : Nat := match f with | 0 => 1 | 1 => 2 | 2 => 1 | _ => 4

/-- Device address of descriptor `i` of a media ring (R313). -/
def State.medDesc (s : State) (q : Fin 8) (i : Nat) : Nat := s.fld (.medQbase q) Fld.medQbase_BASE + 128 * i

/-- The next descriptor of a queue that the units take, if there is one (R313). -/
def State.medNext (s : State) (q : Fin 8) : Option (List Byte) :=
  let i := s.fld (.medQptr q) Fld.medQptr_TAKEN
  if s.doms.main && s.isSet .medCtrl Fld.medCtrl_EN && s.isSet (.medQbase q) Fld.medQbase_EN &&
      i != s.fld (.medQptr q) Fld.medQptr_SUBMIT then some (s.peek (s.medDesc q i) 128) else none

/-- TAKEN advances. -/
def State.medTaken (s : State) (q : Fin 8) : State :=
  s.put (.medQptr q) Fld.medQptr_TAKEN ((s.fld (.medQptr q) Fld.medQptr_TAKEN + 1) % 1024)

/-- A decode tag without its timestamp (R328). -/
def decodeTag (x : DecDesc) (status unit note damaged offset frames source conc : Nat) : List Byte :=
  toLe 8 (ddSample x) ++ toLe 1 status ++ toLe 1 unit ++ toLe 1 note ++ toLe 1 0 ++ toLe 4 (min damaged 0xFFFFFFFF) ++
  toLe 8 offset ++ toLe 4 frames ++ toLe 4 source ++ toLe 8 0 ++ toLe 8 conc ++ zeros 16

/-- The common part of a descriptor is valid (R314, R333). -/
def State.commonGood (s : State) (x : DecDesc) (lo hi : Nat) : Bool :=
  decide (lo ≤ ddCodec x ∧ ddCodec x ≤ hi) && ddLen x != 0 &&
  (inTier 1 (ddSrc x) (ddLen x) || inTier 2 (ddSrc x) (ddLen x) || inTier 8 (ddSrc x) (ddLen x)) &&
  decide (ddFmt x ≤ 3) && decide (ddLayout x ≤ 1) && ddDst x % 64 == 0 && tierOf (ddDst x) != 0 &&
  ledgeFits (tierOf (ddDst x)) (ddTrv x) && ddTag x % 64 == 0 && (inTier 1 (ddTag x) 64 || inTier 2 (ddTag x) 64) &&
  s.trvFieldGood (ddTrv x) && ddPitch x % 64 == 0 &&
  (!ddFlag x 1 || (ddStats x % 64 == 0 && tierOf (ddStats x) != 0 && ledgeFits (tierOf (ddStats x)) (ddTrv x)))

/-- The visual part (R322). -/
def dvW (x : DecDesc) : Nat := leAt x 64 2
def dvH (x : DecDesc) : Nat := leAt x 66 2
def dvCropX (x : DecDesc) : Nat := leAt x 68 2
def dvCropY (x : DecDesc) : Nat := leAt x 70 2
def dvCropW (x : DecDesc) : Nat := leAt x 72 2
def dvCropH (x : DecDesc) : Nat := leAt x 74 2
def dvMean (x : DecDesc) (c : Nat) : Nat := leAt x (76 + 4 * c) 2 * 2 ^ 16
def dvScale (x : DecDesc) (c : Nat) : Nat := leAt x (78 + 4 * c) 2 * 2 ^ 16
def dvFirst (x : DecDesc) : Nat := leAt x 92 4
def dvStride (x : DecDesc) : Nat := leAt x 96 2
def dvCount (x : DecDesc) : Nat := leAt x 98 2
def dvPlane (x : DecDesc) : Nat := leAt x 104 8
def dvFrame (x : DecDesc) : Nat := leAt x 112 8

/-- The visual part is valid before the sample is read (R318, R322). -/
def visualGood (x : DecDesc) (video : Bool) : Bool :=
  decide (1 ≤ dvW x ∧ dvW x ≤ 8192 ∧ 1 ≤ dvH x ∧ dvH x ≤ 8192) && ddFmt x != 3 &&
  (!video || decide (1 ≤ dvStride x ∧ 1 ≤ dvCount x ∧ dvCount x ≤ 64))

/-- The crop of a picture: the rectangle, or the whole picture when CROP_W is 0 (R322). -/
def cropOf (x : DecDesc) (i : Config.SampleInfo) : Nat × Nat × Nat × Nat :=
  if dvCropW x = 0 then (0, 0, i.width, i.height) else (dvCropX x, dvCropY x, dvCropW x, dvCropH x)

/-- The crop lies within the picture. -/
def cropGood (x : DecDesc) (i : Config.SampleInfo) : Bool :=
  let c := cropOf x i
  decide (c.1 + c.2.2.1 ≤ i.width ∧ c.2.1 + c.2.2.2 ≤ i.height ∧ 1 ≤ c.2.2.1 ∧ 1 ≤ c.2.2.2)

/-- One coordinate of the resampling: its two source positions and its weight (R322). -/
def samplePos (sx cw ow : Nat) : Nat × Nat × Nat :=
  let half := 0x3F000000
  let f := fsub (fmul (fadd (f32OfNat sx) half) (fdiv (f32OfNat cw) (f32OfNat ow))) half
  let f2 := fmin (fmax f 0) (f32OfNat (cw - 1))
  let x0 := (f32 f2).floor.toNat
  (x0, min (x0 + 1) (cw - 1), fsub f2 (f32OfNat x0))

/-- A source sample in FP32 (R322). -/
def sourceSample (codec : Nat) (bytes : List Byte) (i : Config.SampleInfo) (pic c x y : Nat) : Nat :=
  fdiv (f32OfNat (Config.pixel codec bytes pic c x y)) (f32OfNat (2 ^ i.depth - 1))

/-- One resampled value (R322). -/
def resampled (x : DecDesc) (bytes : List Byte) (i : Config.SampleInfo) (pic c sx sy : Nat) : Nat :=
  let cr := cropOf x i
  let px := samplePos sx cr.2.2.1 (dvW x)
  let py := samplePos sy cr.2.2.2 (dvH x)
  let p := fun (u v : Nat) => sourceSample (ddCodec x) bytes i pic c (cr.1 + u) (cr.2.1 + v)
  let t := fadd (p px.1 py.1) (fmul px.2.2 (fsub (p px.2.1 py.1) (p px.1 py.1)))
  let b := fadd (p px.1 py.2.1) (fmul px.2.2 (fsub (p px.2.1 py.2.1) (p px.1 py.2.1)))
  fadd t (fmul py.2.2 (fsub b t))

/-- An output element and whether it is non-finite (R322). -/
def outElem (x : DecDesc) (c v : Nat) : Nat × Bool :=
  if ddFmt x = 0 then (((f32 (fmul v 0x437F0000)).toIntNearest.toNat), false)
  else
    let r := convPlain (if ddFmt x = 1 then .bf16 else if ddFmt x = 2 then .e4m3 else .fp32) false .nearest
      (fmul (fsub v (dvMean x c)) (dvScale x c))
    (r.code, r.nf)

/-- The elements of one output row of a channel, with FLIP (R322). -/
def outRow (x : DecDesc) (bytes : List Byte) (i : Config.SampleInfo) (pic c sy : Nat) : List (Nat × Bool) :=
  let row := (List.range (dvW x)).map (fun sx => outElem x c (resampled x bytes i pic c sx sy))
  if ddFlag x 2 then row.reverse else row

/-- Content rows of one output picture at a base, with whether an element is non-finite (R314, R322). -/
def pictureRows (x : DecDesc) (bytes : List Byte) (i : Config.SampleInfo) (pic base : Nat) : List (Nat × List Byte) × Bool :=
  let e := outSize (ddFmt x)
  let rows := (List.range (dvH x)).flatMap (fun sy =>
    let chans := (List.range i.channels).map (fun c => outRow x bytes i pic c sy)
    if ddLayout x = 0 then chans.mapIdx (fun c r => (base + c * dvPlane x + sy * ddPitch x, r))
    else [(base + sy * ddPitch x, (List.range (dvW x)).flatMap (fun sx => chans.map (fun r => r.getD sx (0, false))))])
  (rows.map (fun r => (r.1, r.2.flatMap (fun v => toLe e v.1))), rows.any (fun r => r.2.any Prod.snd))

/-- Bytes of one picture's block statistics (R326). -/
def statsBytes (i : Config.SampleInfo) : Nat :=
  (((i.width + 15) / 16) * ((i.height + 15) / 16) * 8 + 63) / 64 * 64

/-- Block statistics of one picture (R326). -/
def statsRow (x : DecDesc) (bytes : List Byte) (i : Config.SampleInfo) (pic k : Nat) : Nat × List Byte :=
  (ddStats x + k * statsBytes i, (List.range (((i.width + 15) / 16) * ((i.height + 15) / 16))).flatMap (fun b =>
    toLe 8 (Config.blockRecord (ddCodec x) bytes pic b)))

/-- Every row lies in the tier of its base (R322, R333). -/
def rowsInTier (base : Nat) (rows : List (Nat × List Byte)) : Bool := rows.all (fun r => inTier (tierOf base) r.1 r.2.length)

/-- What a request leaves: tag, content, statistics, and the streams of its sample and content. -/
structure DecodeOut where
  tag : List Byte
  status : Nat
  content : List (Nat × List Byte)
  stats : List (Nat × List Byte)
  sample : List Byte
deriving DecidableEq, Repr

/-- A request that writes nothing but its tag. -/
def refusedOut (x : DecDesc) (status source : Nat) (sample : List Byte) : DecodeOut :=
  ⟨decodeTag x status 0 0 0 (2 ^ 64 - 1) 0 source 0, status, [], [], sample⟩

/-- SOURCE of a picture. -/
def sizeWord (i : Config.SampleInfo) : Nat := i.width % 2 ^ 16 * 2 ^ 16 + i.height % 2 ^ 16

/-- A visual request over the bytes of its sample (R318, R322, R323, R327, R328). -/
def visualOut (x : DecDesc) (video : Bool) (bytes : List Byte) (i : Config.SampleInfo) : DecodeOut :=
  let nums := if video then (List.range (dvCount x)).map (fun k => dvFirst x + k * dvStride x) else [0]
  let pics := if i.width = 0 then [] else nums.filter (fun n => decide (n < i.count))
  let out := pics.mapIdx (fun k n => pictureRows x bytes i n (ddDst x + (if video then k * dvFrame x else 0)))
  let content := out.flatMap Prod.fst
  let stats := if video && ddFlag x 1 then pics.mapIdx (fun k n => statsRow x bytes i n k) else []
  if !i.supported then refusedOut x 3 (sizeWord i) bytes
  else if (!(i.width == 0) && !cropGood x i) || !rowsInTier (ddDst x) content || !rowsInTier (ddStats x) stats then
    refusedOut x 4 (sizeWord i) bytes
  else
    let conc := (pics.mapIdx (fun k n => if i.concealed.testBit n then 2 ^ k else 0)).sum
    let status := if i.damaged = 0 ∧ conc = 0 then 1 else 2
    ⟨decodeTag x status (if i.damaged = 0 then 0 else i.damageUnit) (b2n (out.any Prod.snd)) i.damaged
      (if i.damaged = 0 then 2 ^ 64 - 1 else i.damageOffset) pics.length (sizeWord i) conc, status, content, stats, bytes⟩

/-- A request whose sample could not be read: its content region is partly written and undefined (R328). -/
def State.unreadable (s : State) (r : Requester) (x : DecDesc) (out : DecodeOut) : DecodeOut × State :=
  (⟨decodeTag x 5 0 0 0 (2 ^ 64 - 1) 0 0 0, 5, [], [], []⟩, s.unitUndefined r (trvFieldOwner (ddTrv x)) out.content)

/-- The bursts of a decode request that stall: its reads and writes are charged to input decode (R68, R312). -/
def State.decodeStalls (s : State) (q unit : Nat) (x : DecDesc) (o : DecodeOut) : List StalledBurst :=
  s.rangeStalls (medReq q unit) true 4 [(ddSrc x, ddLen x)] ++
  s.rangeStalls (medReq q unit) false 4 ((o.content ++ o.stats).map (fun r => (r.1, r.2.length)))

/-- The effect of a request on memory, and the job that waits for its completion. -/
def State.runDecode (s : State) (q : Fin 8) (unit buffers rows : Nat) (x : DecDesc) (out : DecodeOut) (good : Bool) : State :=
  let r := medReq q.val unit
  let p := if good then (out, s) else s.unreadable r x out
  let o := p.1
  let w := p.2.unitWrite r (trvFieldOwner (ddTrv x)) o.content
  let v := w.2.unitWrite r (trvFieldOwner (ddTrv x)) o.stats
  let foreign := !w.1 || !v.1
  let tag := if foreign then o.tag.take 8 ++ toLe 1 7 ++ o.tag.drop 9 else o.tag
  let s1 := (v.2.snoop 0 (ddSample x) o.sample).snoop 1 (ddSample x) (ascending o.content)
  let job : InputJob := ⟨q.val, unit, ddTag x, tag, 32, ddTrv x, ddFlag x 0, if foreign then 7 else o.status, buffers, rows⟩
  let s2 := ({ s1 with input := { s1.input with media := s1.input.media ++ [job] } }).stallBursts (s.decodeStalls q.val unit x o)
  (if q.val = 0 then s2.poolSync (Fin.ofNat 2 unit) else s2).mediaBusy

/-- A unit of a queue runs one of its requests. -/
def State.decodesOn (s : State) (q u : Nat) : Bool := s.input.media.any (fun x => x.queue == q && x.unit == u)

/-- A video engine codes a frame. -/
def State.encodesOn (s : State) (e : Nat) : Bool :=
  s.input.enc.any (fun x => match x.frame with | some f => f.engine == e | none => false)

/-- The video engine that takes a request of queue 0 or 3: VE0 or VE1, the first that runs no request at all; when both have work, the
first that only codes frames, whose pixel engine a decode shares row by row (R313, R332; log entry 50). -/
def State.freeEngine (s : State) : Option Nat :=
  match ([0, 1] : List Nat).find? (fun e => !s.decodesOn 0 e && !s.encodesOn e) with
  | some e => some e
  | none => ([0, 1] : List Nat).find? (fun e => !s.decodesOn 0 e)

/-- The unit of a queue's group that takes its next request: the lowest-numbered free one (R313). -/
def State.freeUnit (s : State) (q count : Nat) : Option Nat :=
  if q = 0 then s.freeEngine else (List.range count).find? (fun u => !s.decodesOn q u)

/-- Read the sample of a descriptor: its bytes, and whether the read succeeded (R328). -/
def State.readSample (s : State) (q unit : Nat) (x : DecDesc) : List Byte × Bool × State :=
  let p := s.readBytes (medReq q unit) 0 (ddSrc x) (ddLen x)
  (p.1, p.2.1 == .ok, p.2.2)

/-- VIDEO_DECODE: the next video request is taken by VE0 when it is free, else by VE1, under the sample limit, once the pool
has the buffers that the sequence needs; its rows wait for the pixel engine (R313, R317 to R322, R326, R327, R332). -/
def execVideoDecode (s : State) : Host.Outcome State Fault Refusal :=
  .next (match s.medNext 0, s.freeUnit 0 2 with
  | some x, some u =>
    if s.sampleAllowed (ddSample x) then s.awaitAccess (medReq 0 u) [(ddSrc x, ddLen x)] (fun (s : State) =>
      let e : Fin 2 := Fin.ofNat 2 u
      if s.commonGood x 0 2 && visualGood x true then
        let rd := s.readSample 0 u x
        let i := Config.sampleInfo (ddCodec x) rd.1 (dvFirst x + (dvCount x - 1) * dvStride x)
        let size := 2 ^ (24 + (match s.fld (.medVpool e) Fld.medVpool_SIZE with | 0 => 0 | 1 => 2 | _ => 3))
        let tooBig := decide (s.fld (.medVpool e) Fld.medVpool_COUNT < i.buffers + 1 ∨ size < i.bufferBytes)
        if rd.2.1 && i.supported && !tooBig && decide (s.fld (.medVpool e) Fld.medVpool_FREE < i.buffers + 1) then s
        else ((rd.2.2.medTaken 0).noteSample (ddSample x)).runDecode 0 u (if i.supported && !tooBig then i.buffers + 1 else 0)
          (if rd.2.1 && i.supported && !tooBig then i.rows else 0) x (if tooBig then refusedOut x 3 (sizeWord i) rd.1 else visualOut x true rd.1 i) rd.2.1
      else ((s.medTaken 0).noteSample (ddSample x)).runDecode 0 u 0 0 x (refusedOut x 4 0 []) true)
    else s
  | _, _ => s)

/-- IMAGE_DECODE: the next image request is taken by the first free image decoder (R313, R322, R323, R327). -/
def execImageDecode (s : State) : Host.Outcome State Fault Refusal :=
  .next (match s.medNext 1, s.freeUnit 1 8 with
  | some x, some u =>
    if s.sampleAllowed (ddSample x) then s.awaitAccess (medReq 1 u) [(ddSrc x, ddLen x)] (fun (s : State) =>
      let s0 := (s.medTaken 1).noteSample (ddSample x)
      if s.commonGood x 3 4 && visualGood x false then
        let rd := s0.readSample 1 u x
        rd.2.2.runDecode 1 u 0 0 x (visualOut x false rd.1 (Config.sampleInfo (ddCodec x) rd.1 0)) rd.2.1
      else s0.runDecode 1 u 0 0 x (refusedOut x 4 0 []) true)
    else s
  | _, _ => s)

/-! ### Audio (R324, R325) -/

def daRate (x : DecDesc) : Nat := leAt x 64 4
def daStart (x : DecDesc) : Nat := leAt x 68 4
def daLength (x : DecDesc) : Nat := leAt x 72 4
def daBands (x : DecDesc) : Nat := leAt x 76 2
def daWin (x : DecDesc) : Nat := leAt x 78 2
def daHop (x : DecDesc) : Nat := leAt x 80 2
def daNfft (x : DecDesc) : Nat := leAt x 82 2
def daFmin (x : DecDesc) : Nat := leAt x 84 4
def daFmax (x : DecDesc) : Nat := leAt x 88 4
def daFloor (x : DecDesc) : Nat := leAt x 92 4
def daMix (x : DecDesc) : Nat := leAt x 96 1

/-- The audio part is valid (R325). -/
def audioGood (x : DecDesc) : Bool :=
  ([16000, 22050, 24000, 44100, 48000] : List Nat).contains (daRate x) && decide (1 ≤ daLength x ∧ daLength x < 2 ^ 31) &&
  (ddFmt x == 1 || ddFmt x == 3) && decide (daMix x ≤ 1) &&
  (daBands x == 0 || (decide (64 ≤ daBands x ∧ daBands x ≤ 256) && decide (16 ≤ daWin x ∧ daWin x ≤ daNfft x) &&
    decide (1 ≤ daHop x ∧ daHop x ≤ daWin x) && decide (64 ≤ daNfft x ∧ daNfft x ≤ 4096) &&
    daNfft x == 2 ^ Nat.log2 (daNfft x) && !flt (daFmin x) 0 && flt (daFmin x) (daFmax x) &&
    !flt (fmul (f32OfNat (daRate x)) 0x3F000000) (daFmax x) && flt 0 (daFloor x)))

/-- A sample at the source rate: one channel, or the mixdown of all; zero past the end (R324, R325). -/
def sourceAt (x : DecDesc) (bytes : List Byte) (i : Config.SampleInfo) (ch n : Nat) : Nat :=
  if i.count ≤ n then 0
  else if daMix x = 0 then
    fmul ((List.range i.channels).foldl (fun a c => fadd a (Config.audioSample (ddCodec x) bytes c n)) 0)
      (fdiv 0x3F800000 (f32OfNat i.channels))
  else Config.audioSample (ddCodec x) bytes ch n

/-- A sample at RATE: 32 taps about the exact rational position, the phase truncated to 1/256 (R324). `i.width` holds the
source rate of an audio sample. -/
def rateAt (x : DecDesc) (bytes : List Byte) (i : Config.SampleInfo) (ch n : Nat) : Nat :=
  if i.width = daRate x then sourceAt x bytes i ch n
  else
    let p := n * i.width
    let base := p / daRate x
    let phase := p % daRate x * 256 / daRate x
    (List.range 32).foldl (fun a k =>
      let v := if base + k < 15 then 0 else sourceAt x bytes i ch (base + k - 15)
      fadd a (fmul (Config.resampleTap i.width (daRate x) phase k) v)) 0

/-- Complex FP32 values as pairs of codes. -/
abbrev Cplx := Nat × Nat

/-- The even and odd positions of a list. -/
def evens {α : Type} : List α → List α
  | [] => []
  | [a] => [a]
  | a :: _ :: l => a :: evens l

/-- Radix-2 decimation in time with FP32 twiddles (R325); the fuel is the logarithm of the length. -/
def fft : Nat → List Cplx → List Cplx
  | 0, l => l
  | f + 1, l =>
    let n := l.length
    let e := fft f (evens l)
    let o := fft f (evens (l.drop 1))
    let t := o.mapIdx (fun k v =>
      let c := Config.twiddle n k 0
      let sn := Config.twiddle n k 1
      (fadd (fmul c v.1) (fmul sn v.2), fsub (fmul c v.2) (fmul sn v.1)))
    List.zipWith (fun a b => (fadd a.1 b.1, fadd a.2 b.2)) e t ++ List.zipWith (fun a b => (fsub a.1 b.1, fsub a.2 b.2)) e t

/-- One log-mel frame of a channel (R325). -/
def melFrame (x : DecDesc) (at_ : Nat → Nat) (fr : Nat) : List Nat :=
  let b := (List.range (daNfft x)).map (fun n =>
    (if n < daWin x then fmul (at_ (fr * daHop x + n)) (Config.hann (daWin x) n) else 0, 0))
  let sp := fft (Nat.log2 (daNfft x)) b
  let p := (sp.take (daNfft x / 2 + 1)).map (fun v => fadd (fmul v.1 v.1) (fmul v.2 v.2))
  (List.range (daBands x)).map (fun m =>
    let e := (p.mapIdx (fun k v => (k, v))).foldl (fun acc kv =>
      ffma (Config.melWeight (daRate x, daNfft x) (daFmin x, daFmax x) (daBands x) m kv.1) kv.2 acc) 0
    Config.logf (fmaxf e (daFloor x)))

/-- Content rows of an audio request (R325): one row per channel, or one per frame and channel. -/
def audioRows (x : DecDesc) (bytes : List Byte) (i : Config.SampleInfo) : List (List Nat) :=
  let chans := if daMix x = 0 then 1 else i.channels
  if daBands x = 0 then
    (List.range chans).map (fun c => (List.range (daLength x)).map (fun n => rateAt x bytes i c (daStart x + n)))
  else
    let nfr := if daLength x < daWin x then 0 else 1 + (daLength x - daWin x) / daHop x
    (List.range chans).flatMap (fun c => (List.range nfr).map (melFrame x (fun n => rateAt x bytes i c (daStart x + n))))

/-- An audio request over the bytes of its sample (R324, R325, R327, R328). -/
def audioOut (x : DecDesc) (bytes : List Byte) (i : Config.SampleInfo) : DecodeOut :=
  let f : Elt := if ddFmt x = 1 then .bf16 else .fp32
  let rows := (audioRows x bytes i).map (fun r => r.map (convPlain f false .nearest))
  let content := rows.mapIdx (fun n r => (ddDst x + n * ddPitch x, r.flatMap (fun c => toLe (outSize (ddFmt x)) c.code)))
  if !i.supported then refusedOut x 3 i.width bytes
  else if !rowsInTier (ddDst x) content then refusedOut x 4 i.width bytes
  else
    let status := if i.damaged = 0 then 1 else 2
    let nonFinite := rows.any (fun r => r.any (fun c => c.nf || (ddFmt x == 3 && !ffinite c.code)))
    ⟨decodeTag x status (if i.damaged = 0 then 0 else i.damageUnit) (b2n nonFinite) i.damaged
      (if i.damaged = 0 then 2 ^ 64 - 1 else i.damageOffset) (if daBands x = 0 then daLength x else rows.length) i.width 0,
      status, content, [], bytes⟩

/-- AUDIO_DECODE: the next audio request is taken by the first free audio decoder (R313, R324, R325, R327). -/
def execAudioDecode (s : State) : Host.Outcome State Fault Refusal :=
  .next (match s.medNext 2, s.freeUnit 2 4 with
  | some x, some u =>
    if s.sampleAllowed (ddSample x) then s.awaitAccess (medReq 2 u) [(ddSrc x, ddLen x)] (fun (s : State) =>
      let s0 := (s.medTaken 2).noteSample (ddSample x)
      if s.commonGood x 5 7 && audioGood x then
        let rd := s0.readSample 2 u x
        rd.2.2.runDecode 2 u 0 0 x (audioOut x rd.1 (Config.sampleInfo (ddCodec x) rd.1 0)) rd.2.1
      else s0.runDecode 2 u 0 0 x (refusedOut x 4 0 []) true)
    else s
  | _, _ => s)

/-! ### Encode (R329 to R332) -/

/-- An encode descriptor (R329). -/
abbrev EncDesc := List Byte

def edFrame (x : EncDesc) : Nat := leAt x 0 8
def edLuma (x : EncDesc) : Nat := leAt x 8 8
def edChroma (x : EncDesc) : Nat := leAt x 16 8
def edWidth (x : EncDesc) : Nat := leAt x 24 2
def edHeight (x : EncDesc) : Nat := leAt x 26 2
def edPitch (x : EncDesc) : Nat := leAt x 28 4
def edCodec (x : EncDesc) : Nat := leAt x 32 1
def edFlags (x : EncDesc) : Nat := leAt x 33 1
def edQpMin (x : EncDesc) : Nat := leAt x 34 1
def edQpMax (x : EncDesc) : Nat := leAt x 35 1
def edBitrate (x : EncDesc) : Nat := leAt x 36 4
def edFps (x : EncDesc) : Nat := leAt x 40 2
def edGop (x : EncDesc) : Nat := leAt x 42 2
def edStats (x : EncDesc) : Nat := leAt x 48 8
def edTag (x : EncDesc) : Nat := leAt x 56 8

/-- An encode tag (R329): the order of its fields is the manual's, their offsets the model's (log entry 10). -/
def encodeTag (frame status : Nat) (key : Bool) (qp bytes first last : Nat) : List Byte :=
  toLe 8 frame ++ toLe 1 status ++ toLe 1 (b2n key) ++ toLe 1 qp ++ toLe 1 0 ++ toLe 4 bytes ++ toLe 8 first ++ toLe 8 last ++ zeros 32

/-- An encode stream (R329). -/
def State.encOf (s : State) (n : Nat) : EncStream := s.input.enc.getD n ⟨false, 0, 0, 0, 0, 0, 0, 0, 0, 0, 0, none⟩

/-- Replace it. -/
def State.setEnc (s : State) (n : Nat) (e : EncStream) : State := { s with input := { s.input with enc := s.input.enc.set n e } }

/-- The parameters that a key frame sets (R329, R331). -/
def EncStream.keyed (e : EncStream) (x : EncDesc) : EncStream :=
  { e with started := true, codec := edCodec x, width := edWidth x, height := edHeight x, qpMin := edQpMin x,
           qpMax := edQpMax x, bitrate := edBitrate x, fps := edFps x, gop := edGop x,
           qpBase := if e.started then e.qpBase else ((edQpMin x + edQpMax x) / 2 : Nat) }

/-- Bits that a P frame is given (R331). -/
def EncStream.frameBits (e : EncStream) : Nat := e.bitrate * 1000 / e.fps

/-- The parameters in force are legal (R329). -/
def EncStream.good (e : EncStream) : Bool :=
  (e.codec == 1 || e.codec == 2) && decide (1 ≤ e.width ∧ e.width ≤ 1920 ∧ 1 ≤ e.height ∧ e.height ≤ 1080) &&
  e.width % 8 == 0 && e.height % 8 == 0 && decide (e.qpMin ≤ e.qpMax ∧ e.qpMax ≤ (if e.codec = 1 then 51 else 63)) &&
  decide (1 ≤ e.fps ∧ e.fps ≤ 120 ∧ 1 ≤ e.gop) && e.frameBits != 0

/-- The planes and the tag of a descriptor lie where they must (R329, R333). -/
def encPlaces (x : EncDesc) (e : EncStream) : Bool :=
  let rows := fun (a n : Nat) => tierOf a != 0 && a % 64 == 0 && inTier (tierOf a) a ((n - 1) * edPitch x + e.width)
  rows (edLuma x) e.height && rows (edChroma x) (e.height / 2) && edPitch x % 64 == 0 && decide (e.width ≤ edPitch x) &&
  edTag x % 64 == 0 && (inTier 1 (edTag x) 64 || inTier 2 (edTag x) 64) &&
  (!bit (edFlags x) 2 || (edStats x % 64 == 0 && tierOf (edStats x) != 0))

/-- Limit an integer. -/
def clampInt (x lo hi : Int) : Int := max lo (min x hi)

/-- QP of the next row (R331). -/
def nextQp (e : EncStream) (budget : Nat) (spent row rows : Nat) : Nat :=
  let err : Int := (spent : Int) - Int.tdiv ((budget : Int) * (row + 1)) rows
  let dq := clampInt ((f32 (fdiv (fmul 0x40C00000 (f32OfInt err)) (f32OfNat budget))).floor) (-4) 4
  (clampInt (e.qpBase + dq) e.qpMin e.qpMax).toNat

/-- QP base after a P frame (R331). -/
def nextBase (e : EncStream) (bits : Nat) : Int :=
  let b : Int := e.frameBits
  clampInt (e.qpBase + clampInt (Int.fdiv (6 * ((bits : Int) - b)) b) (-2) 2) e.qpMin e.qpMax

/-- Bytes of a chunk in the ring: its header and payload, padded to 64 B (R330). -/
def chunkBytes (payload : Nat) : Nat := (16 + payload + 63) / 64 * 64

/-- A chunk header (R330). -/
def chunkHeader (f : EncFrame) (wrap : Bool) (payload : Nat) : List Byte :=
  toLe 4 (f.frame % 2 ^ 32) ++ toLe 2 f.row ++
  toLe 1 (if wrap then 8 else b2n (f.row == 0) + 2 * b2n (f.row + 1 == f.rows) + 4 * b2n f.key) ++ toLe 1 f.qp ++
  toLe 4 payload ++ zeros 4

/-- Ring offset at which a chunk of `n` bytes starts and whether a WRAP header comes first; `none` while the ring lacks
space, one byte of which always stays unused (R330). -/
def State.chunkPlace (s : State) (n : Nat) (len : Nat) : Option (Nat × Bool) :=
  let i : Fin 5 := Fin.ofNat 5 n
  let size := s.fld (.medEncOut i) Fld.medEncOut_SIZE * 2 ^ 16
  let wr := s.fld (.medEncPtr i) Fld.medEncPtr_WR
  let rd := s.fld (.medEncPtr i) Fld.medEncPtr_RD
  let used := (wr + size - rd) % size
  if wr + len ≤ size then (if used + len < size then some (wr, false) else none)
  else if used + (size - wr) + len < size then some (0, true) else none

/-- Write the chunk of a row at its place, charged to compute streams (R312), advance WR, and raise MED_SLICE when asked (R330). -/
def State.putChunk (s : State) (n : Nat) (f : EncFrame) (place : Nat × Bool) : State :=
  let i : Fin 5 := Fin.ofNat 5 n
  let base := s.fld (.medEncOut i) Fld.medEncOut_BASE
  let size := s.fld (.medEncOut i) Fld.medEncOut_SIZE * 2 ^ 16
  let len := chunkBytes f.payload.length
  let r := medReq 0 f.engine
  let s1 := if place.2 then s.writeMem r 0 (base + s.fld (.medEncPtr i) Fld.medEncPtr_WR) (chunkHeader f true 0) else s
  let s2 := s1.writeMem r 0 (base + place.1) (chunkHeader f false f.payload.length ++ f.payload ++ zeros (len - 16 - f.payload.length))
  let s3 := s2.put (.medEncPtr i) Fld.medEncPtr_WR ((place.1 + len) % size)
  let s4 := s3.stallBursts (s.rangeStalls r false 0 [(base + place.1, len)])
  if bit f.flags 0 then s4.notify 5 8 else s4

/-- The frame after its row's chunk was written. -/
def EncFrame.advanced (f : EncFrame) (now : Nat) : EncFrame :=
  { f with row := f.row + 1, qpSum := f.qpSum + f.qp, bits := f.bits + 8 * f.payload.length,
           bytes := f.bytes + f.payload.length, firstStamp := if f.row = 0 then now else f.firstStamp, payload := [], stalled := false }

/-- A frame ends: its tag, the stream's counters and its QP base (R329, R331, R334). -/
def State.encodeEnds (s : State) (n : Nat) (f : EncFrame) : State :=
  let e := s.encOf n
  let e1 : EncStream := { e with frame := none, sinceKey := if f.key then 1 else e.sinceKey + 1,
                                 qpBase := if f.key then e.qpBase else nextBase e f.bits }
  let s1 := (s.setEnc n e1).writeMem (medReq 0 f.engine) 0 f.tagAddr
    (encodeTag f.frame 1 f.key (f.qpSum / max 1 f.rows) f.bytes f.firstStamp s.now)
  (s1.addf (.medEncStat (Fin.ofNat 5 n)) Fld.medEncStat_FRAMES 1).mediaBusy

/-- The budget of a frame in bits (R331). -/
def EncStream.budget (e : EncStream) (key : Bool) : Nat := if key then 4 * e.frameBits else e.frameBits

/-- A coded row's chunk goes into its ring, and the frame goes on to its next row or ends; a full ring stalls the stream (R330, R331). -/
def State.placeRow (s : State) (n : Nat) (f : EncFrame) : State :=
  match s.chunkPlace n (chunkBytes f.payload.length) with
  | none => (s.bump (.medEncStat (Fin.ofNat 5 n)) Fld.medEncStat_STALLS).setEnc n { s.encOf n with frame := some { f with stalled := true } }
  | some pl =>
    let s1 := s.putChunk n f pl
    let g := f.advanced s.now
    if g.row = g.rows then s1.encodeEnds n g
    else
      let e := s1.encOf n
      s1.setEnc n { e with frame := some { g with qp := nextQp e (e.budget g.key) g.bits f.row g.rows } }

/-- The pixel engine codes the next row of a stream's frame (R330). -/
def State.codeRow (s : State) (n : Nat) : State :=
  match (s.encOf n).frame with
  | none => s
  | some f => s.tookFree.placeRow n { f with payload := Config.encodedRow s.freeCtr f.row f.qp }

/-- A stream has a row ready for an engine: a frame there that no full ring stalls. -/
def State.rowReady (s : State) (e n : Nat) : Bool :=
  match (s.encOf n).frame with
  | some f => f.engine == e && !f.stalled
  | none => false

/-- The live stream whose row comes first on an engine: the lowest-numbered ready one (R332). -/
def State.liveRow (s : State) (e : Nat) : Option Nat := ([0, 1, 2, 3] : List Nat).find? (s.rowReady e)

/-- The decode request whose rows an engine has still to take. -/
def State.decodeRow (s : State) (e : Nat) : Option InputJob :=
  s.input.media.find? (fun x => x.queue == 0 && x.unit == e && x.rows != 0)

/-- A row boundary of a pixel engine: it takes a ready live row, lowest stream first, else a decode row, else a row of stream 4; nothing
while a burst of the engine is stalled (R68, R332). -/
def State.takeRow (s : State) (e : Nat) : State :=
  if s.burstStalled (medReq 0 e) then s
  else match s.liveRow e with
  | some n => s.codeRow n
  | none => match s.decodeRow e with
    | some x => { s with input := { s.input with media := s.input.media.map (fun y => if y = x then { x with rows := x.rows - 1 } else y) } }
    | none => if s.rowReady e 4 then s.codeRow 4 else s

/-- Some row boundaries of an engine, one after the other. -/
def State.takeRows (e : Nat) : Nat → State → State
  | 0, s => s
  | k + 1, s => State.takeRows e k (s.takeRow e)

/-- An encode request that codes nothing: its tag at once (R329). -/
def State.encodeRefused (s : State) (e : Nat) (x : EncDesc) (status : Nat) : State :=
  s.writeMem (medReq 0 e) 0 (edTag x) (encodeTag (edFrame x) status false 0 0 s.now s.now)

/-- The stream of an encode queue (R330). -/
def encStream (q : Fin 8) : Nat := if q.val = 3 then 4 else q.val - 4

/-- The engine of an encode queue: VE0 for queues 4 and 5, VE1 for 6 and 7, whichever is free for queue 3 (R313). -/
def State.encEngine (s : State) (q : Fin 8) : Option Nat :=
  if q.val = 3 then s.freeEngine else some (if q.val < 6 then 0 else 1)

/-- The bytes of the two planes that a frame reads, as ranges (R329). -/
def encPlanes (x : EncDesc) (e : EncStream) : List (Nat × Nat) :=
  [(edLuma x, (e.height - 1) * edPitch x + e.width), (edChroma x, (e.height / 2 - 1) * edPitch x + e.width)]

/-- Block statistics of a frame's source, when asked (R326, R329). -/
def State.encStats (s : State) (eng : Nat) (x : EncDesc) (e : EncStream) (bytes : List Byte) : State :=
  if bit (edFlags x) 2 then
    (List.range (((e.width + 15) / 16) * ((e.height + 15) / 16))).foldl (fun (t : State) b =>
      t.writeMem (medReq 0 eng) 0 (edStats x + 8 * b) (toLe 8 (Config.blockRecord e.codec bytes 0 b))) s
  else s

/-- A frame begins on an engine: its planes are read and its first row is ready; its traffic is charged to compute streams (R312, R329,
R331). -/
def State.encodeBegins (s : State) (n eng : Nat) (x : EncDesc) (key : Bool) (e : EncStream) : State :=
  let l := s.readBytes (medReq 0 eng) 0 (edLuma x) ((e.height - 1) * edPitch x + e.width)
  let c := l.2.2.readBytes (medReq 0 eng) 0 (edChroma x) ((e.height / 2 - 1) * edPitch x + e.width)
  if l.2.1 ≠ .ok ∨ c.2.1 ≠ .ok then c.2.2.encodeRefused eng x 5
  else
    let f : EncFrame := ⟨edFrame x, edTag x, edFlags x, key, 0, (e.height + 63) / 64, (clampInt e.qpBase e.qpMin e.qpMax).toNat, 0, [],
      0, 0, 0, eng, false⟩
    (((c.2.2.encStats eng x e (l.1 ++ c.1)).setEnc n { e with frame := some f }).stallBursts
      (s.rangeStalls (medReq 0 eng) true 0 (encPlanes x e))).mediaBusy

/-- An encode queue's next descriptor is taken when its stream codes no frame (R313, R329). -/
def State.encodeTake (s : State) (q : Fin 8) : State :=
  let n := encStream q
  match s.medNext q, s.encEngine q with
  | some x, some eng =>
    if (s.encOf n).frame.isSome then s
    else
      let e0 := s.encOf n
      let key := !e0.started || bit (edFlags x) 1 || decide (e0.gop ≤ e0.sinceKey)
      let e := if key then e0.keyed x else e0
      if !(e.good && encPlaces x e) then (s.medTaken q).encodeRefused eng x 4 else (s.medTaken q).encodeBegins n eng x key e
  | _, _ => s

/-- VIDEO_ENCODE: an encode queue, 3 to 7, takes its next frame when its stream codes none, and then the pixel engine of that frame
passes the row boundaries of `q`, at each of which it takes the row that comes first (R313, R329 to R332). -/
def execVideoEncode (q : EncodePass) (s : State) : Host.Outcome State Fault Refusal :=
  .next (if q.queue.val < 3 then s
  else
    let s1 := s.encodeTake q.queue
    match (s1.encOf (encStream q.queue)).frame with
    | none => s1
    | some f => State.takeRows f.engine q.rows s1)

/-- ENC_STALL_RESUME: the reader has freed space in a stalled stream's ring, and the coded row's chunk goes into it (R330). -/
def execEncStallResume (n : Fin 5) (s : State) : Host.Outcome State Fault Refusal :=
  .next (match (s.encOf n.val).frame with
  | none => s
  | some f => if !f.stalled || (s.chunkPlace n.val (chunkBytes f.payload.length)).isNone then s else s.placeRow n.val f)

/-! ### A decode request completes (R315) -/

/-- MED_REQUEST_COMPLETE: the request that a unit of a decode queue runs completes: tag, counters, TRV advance and MED_DONE,
and its frame buffers are free (R315, R320, R328, R334). It waits while a burst of the unit is stalled (R68), and while a live row is
ready on its engine before the rows that it has left (R332). -/
def execMedRequestComplete (q : Fin 3) (unit : Fin 8) (s : State) : Host.Outcome State Fault Refusal :=
  .next (match s.input.media.find? (fun x => x.queue == q.val && x.unit == unit.val) with
  | none => s
  | some x =>
    if s.burstStalled (medReq q.val unit.val) || (x.rows != 0 && (s.liveRow unit.val).isSome) then s
    else
      let s1 := { s with input := { s.input with media := s.input.media.erase x } }
      let s2 := s1.completeInput (medReq q.val unit.val) x 4 7
      let s3 := if x.status = 2 then s2.bump .medCounts Fld.medCounts_CONCEALED
        else if x.status = 3 ∨ x.status = 4 then s2.bump .medCounts Fld.medCounts_REFUSED else s2
      (if q.val = 0 then s3.poolSync (Fin.ofNat 2 unit.val) else s3).mediaBusy)

/-! ### Disable (R333) -/

/-- Every descriptor of a queue not taken receives a tag with STATUS 6; `fuel` bounds the ring (R333). -/
def State.cancelQueue (q : Fin 8) : Nat → State → State
  | 0, s => s
  | fuel + 1, s =>
    let i := s.fld (.medQptr q) Fld.medQptr_TAKEN
    if i = s.fld (.medQptr q) Fld.medQptr_SUBMIT then s
    else
      let x := s.peek (s.medDesc q i) 128
      let tag := if q.val < 3 then
          (decodeTag x 6 0 0 0 (2 ^ 64 - 1) 0 0 0).take 32 ++ toLe 8 s.now ++ zeros 24
        else encodeTag (edFrame x) 6 false 0 0 s.now s.now
      State.cancelQueue q fuel ((s.writeMem ⟨4, 11, noInst⟩ 0 (if q.val < 3 then ddTag x else edTag x) tag).medTaken q)

/-- The media units stop taking descriptors (R333). -/
def State.mediaCancel (s : State) : State :=
  ([0, 1, 2, 3, 4, 5, 6, 7] : List (Fin 8)).foldl (fun t q =>
    if t.isSet (.medQbase q) Fld.medQbase_EN then State.cancelQueue q 1024 t else t) s

/-- MED_DISABLE: EN in MED_CTRL is cleared (R333). -/
def execMedDisable (s : State) : Host.Outcome State Fault Refusal :=
  .next (if s.doms.main && s.isSet .medCtrl Fld.medCtrl_EN then s.mediaCancel.put .medCtrl Fld.medCtrl_EN 0 else s)

end Sys2Proof.Machine
end

