-- ==== Sys2Proof/Machine/Text.lean ====
section
/-! DEFINITION. Tokenizers, augmentation generators and the check-value unit (R335 to R347). -/

namespace Sys2Proof.Machine

/-! ### Well-formed UTF-8 (R337) -/

/-- Ranges of the bytes that follow a lead byte of a well-formed sequence; `none` for a byte that leads nothing. -/
def utf8Tail (b : Nat) : Option (List (Nat × Nat)) :=
  if b < 0x80 then some []
  else if b < 0xC2 then none
  else if b < 0xE0 then some [(0x80, 0xBF)]
  else if b = 0xE0 then some [(0xA0, 0xBF), (0x80, 0xBF)]
  else if b = 0xED then some [(0x80, 0x9F), (0x80, 0xBF)]
  else if b < 0xF0 then some [(0x80, 0xBF), (0x80, 0xBF)]
  else if b = 0xF0 then some [(0x90, 0xBF), (0x80, 0xBF), (0x80, 0xBF)]
  else if b < 0xF4 then some [(0x80, 0xBF), (0x80, 0xBF), (0x80, 0xBF)]
  else if b = 0xF4 then some [(0x80, 0x8F), (0x80, 0xBF), (0x80, 0xBF)]
  else none

/-- How many bytes match the ranges in turn. -/
def matchTail : List (Nat × Nat) → List Byte → Nat
  | r :: rs, b :: bs => if r.1 ≤ b.toNat ∧ b.toNat ≤ r.2 then matchTail rs bs + 1 else 0
  | _, _ => 0

/-- The sequence at the head of some bytes: whether it is well-formed, and its length or that of its maximal subpart. -/
def utf8Head : List Byte → Bool × Nat
  | [] => (true, 0)
  | b :: bs =>
    match utf8Tail b.toNat with
    | none => (false, 1)
    | some rs => let m := matchTail rs bs; (m == rs.length, m + 1)

/-- Runs of well-formed UTF-8 and ill-formed pieces, in order; `fuel` bounds the bytes (R337). -/
def utf8Runs : Nat → List Byte → List (Bool × List Byte)
  | 0, _ => []
  | fuel + 1, bs =>
    if bs.isEmpty then []
    else
      let h := utf8Head bs
      let rest := utf8Runs fuel (bs.drop h.2)
      match h.1, rest with
      | true, (true, r) :: l => (true, bs.take h.2 ++ r) :: l
      | w, l => (w, bs.take h.2) :: l

/-! ### The trie (R336) -/

def nodeToken (x : List Byte) : Nat := leAt x 0 4
def nodeChild (x : List Byte) : Nat := leAt x 4 4
def nodeCount (x : List Byte) : Nat := leAt x 8 2
def nodeLabel (x : List Byte) : Nat := leAt x 10 1

/-- One node of the trie, and whether it could be read. -/
def State.tokNode (s : State) (u i : Nat) : List Byte × Bool × State :=
  let p := s.readBytes ⟨4, 12, u⟩ 0 (s.fld .tokDict Fld.tokDict_BASE * 2 ^ 16 + 16 * i) 16
  (p.1, p.2.1 == .ok, p.2.2)

/-- What a step of a walk answers: a status of R339, 1 while nothing went wrong, and a node. -/
abbrev WalkAnswer := Nat × Option (List Byte)

/-- Search of the sorted children from index `i` for a label; `fuel` counts the children left. -/
def State.findChild (u label : Nat) : Nat → State → Nat → WalkAnswer × State
  | 0, s, _ => ((1, none), s)
  | fuel + 1, s, i =>
    let p := s.tokNode u i
    if !p.2.1 then ((5, none), p.2.2)
    else if nodeLabel p.1 = label then ((1, some p.1), p.2.2)
    else if label < nodeLabel p.1 then ((1, none), p.2.2)
    else State.findChild u label fuel p.2.2 (i + 1)

/-- The child of a node under a label; a child index at or beyond NODES, or NCHILD above 256, is a dictionary error. -/
def State.childOf (s : State) (u : Nat) (node : List Byte) (label : Nat) : WalkAnswer × State :=
  if 256 < nodeCount node then ((8, none), s)
  else if nodeCount node ≠ 0 ∧ s.fld .tokDict Fld.tokDict_NODES < nodeChild node + nodeCount node then ((8, none), s)
  else State.findChild u label (nodeCount node) s (nodeChild node)

/-- The longest entry at the head of some bytes: status, length and token; `k` bytes have matched so far (R337). -/
def State.longest (u : Nat) : List Byte → State → List Byte → Nat → Nat × Nat → (Nat × Nat × Nat) × State
  | [], s, _, _, best => ((1, best.1, best.2), s)
  | b :: bs, s, node, k, best =>
    let p := s.childOf u node b.toNat
    match p.1 with
    | (1, some n) => State.longest u bs p.2 n (k + 1) (if bit (nodeToken n) 31 then best else (k + 1, nodeToken n % 2 ^ 20))
    | (1, none) => ((1, best.1, best.2), p.2)
    | (c, _) => ((c, 0, 0), p.2)

/-- The tokens of a sample so far, with what its tag will report. -/
structure TokRun where
  tokens : List Nat
  pos : Nat
  firstBad : Option Nat
  bad : Nat
  fallback : Nat
  status : Nat
deriving DecidableEq, Repr

/-- The tokens of a run of well-formed bytes; `fuel` bounds its bytes (R337). -/
def State.tokenRun (u maxTokens : Nat) : Nat → State → List Byte → TokRun → TokRun × State
  | 0, s, _, r => (r, s)
  | fuel + 1, s, bs, r =>
    match bs with
    | [] => (r, s)
    | b :: _ =>
      if maxTokens ≤ r.tokens.length ∨ r.status ≠ 1 then (r, s)
      else
        let root := s.tokNode u 0
        let p := if root.2.1 then State.longest u (bs.take 64) root.2.2 root.1 0 (0, 0) else ((5, 0, 0), root.2.2)
        let best := p.1.2.1
        if p.1.1 ≠ 1 then ({ r with status := p.1.1 }, p.2)
        else if best = 0 then
          State.tokenRun u maxTokens fuel p.2 (bs.drop 1)
            { r with tokens := r.tokens ++ [(s.fld .tokIds Fld.tokIds_BYTE_HI * 256 + b.toNat) % 2 ^ 20]
                     pos := r.pos + 1
                     fallback := r.fallback + 1 }
        else State.tokenRun u maxTokens fuel p.2 (bs.drop best) { r with tokens := r.tokens ++ [p.1.2.2], pos := r.pos + best }

/-- The tokens of runs and ill-formed pieces in turn (R337). -/
def State.tokenRuns (u maxTokens : Nat) : List (Bool × List Byte) → State → TokRun → TokRun × State
  | [], s, r => (r, s)
  | (w, bs) :: l, s, r =>
    if maxTokens ≤ r.tokens.length ∨ r.status ≠ 1 then (r, s)
    else if w then
      let p := State.tokenRun u maxTokens bs.length s bs r
      State.tokenRuns u maxTokens l p.2 p.1
    else
      State.tokenRuns u maxTokens l s
        { r with tokens := r.tokens ++ [s.fld .tokIds Fld.tokIds_REPL_ID]
                 pos := r.pos + bs.length
                 firstBad := some (r.firstBad.getD r.pos)
                 bad := r.bad + 1 }

/-! ### Requests of the tokenizers (R338, R339) -/

def tdSample (x : List Byte) : Nat := leAt x 0 8
def tdSrc (x : List Byte) : Nat := leAt x 8 8
def tdLen (x : List Byte) : Nat := leAt x 16 4
def tdFlags (x : List Byte) : Nat := leAt x 20 1
def tdDst (x : List Byte) : Nat := leAt x 24 8
def tdMax (x : List Byte) : Nat := leAt x 32 4
def tdTrv (x : List Byte) : Nat := leAt x 36 2
def tdTag (x : List Byte) : Nat := leAt x 40 8

/-- Device address of descriptor `i` of the tokenizer ring. -/
def State.tokDesc (s : State) (i : Nat) : Nat := s.fld .tokQbase Fld.tokQbase_BASE + 64 * i

/-- The next descriptor that a tokenizer may take. -/
def State.tokNext (s : State) : Option (List Byte) :=
  let i := s.fld .tokQptr Fld.tokQptr_TAKEN
  if s.doms.main && s.isSet .tokCtrl Fld.tokCtrl_EN && s.isSet .tokQbase Fld.tokQbase_EN &&
      i != s.fld .tokQptr Fld.tokQptr_SUBMIT then some (s.peek (s.tokDesc i) 64) else none

/-- TAKEN of the tokenizer ring advances. -/
def State.tokTaken (s : State) : State := s.put .tokQptr Fld.tokQptr_TAKEN ((s.fld .tokQptr Fld.tokQptr_TAKEN + 1) % 1024)

/-- A tokenizer descriptor is valid (R333, R338, R339). -/
def State.tokGood (s : State) (x : List Byte) : Bool :=
  tdLen x != 0 && tdMax x != 0 && bits (tdFlags x) 7 2 == 0 && leAt x 21 3 == 0 && leAt x 38 2 == 0 && leAt x 48 16 == 0 &&
  (inTier 1 (tdSrc x) (tdLen x) || inTier 2 (tdSrc x) (tdLen x) || inTier 8 (tdSrc x) (tdLen x)) &&
  tdDst x % 64 == 0 && inTier (tierOf (tdDst x)) (tdDst x) (4 * tdMax x) && ledgeFits (tierOf (tdDst x)) (tdTrv x) &&
  tdTag x % 64 == 0 && (inTier 1 (tdTag x) 64 || inTier 2 (tdTag x) 64) && s.trvFieldGood (tdTrv x)

/-- A tokenizer tag without its timestamp (R339). -/
def tokenTag (x : List Byte) (r : TokRun) (note : Nat) : List Byte :=
  toLe 8 (tdSample x) ++ toLe 1 r.status ++ toLe 1 note ++ zeros 2 ++ toLe 4 r.tokens.length ++ toLe 8 r.pos ++
  toLe 8 (r.firstBad.getD (2 ^ 64 - 1)) ++ toLe 4 (min r.bad 0xFFFFFFFF) ++ toLe 4 (min r.fallback 0xFFFFFFFF) ++
  toLe 8 0 ++ zeros 16

/-- A run that has emitted nothing. -/
def TokRun.empty (pos status : Nat) : TokRun := ⟨[], pos, none, 0, 0, status⟩

/-- The byte offset at which tokens start (R337). -/
def bomSkip (x bytes : List Byte) : Nat := if bit (tdFlags x) 1 && bytes.take 3 == [0xEF, 0xBB, 0xBF] then 3 else 0

/-- NOTE of a run over a sample of `n` bytes (R339). -/
def TokRun.note (r : TokRun) (n : Nat) : Nat :=
  b2n (r.bad != 0) + 2 * b2n (r.status == 1 && decide (r.pos < n)) + 4 * b2n (r.fallback != 0)

/-- The job that waits for its completion joins the tokenizers. -/
def State.tokJob (s : State) (u : Nat) (x : List Byte) (r : TokRun) (note : Nat) : State :=
  { s with input := { s.input with
      tok := s.input.tok ++ [⟨0, u, tdTag x, tokenTag x r note, 40, tdTrv x, bit (tdFlags x) 0, r.status, note, 0⟩] } }

/-- A request over the bytes of its sample: tokens written, or partly written and undefined (R339). -/
def State.tokenize (s : State) (u : Nat) (x bytes : List Byte) : State :=
  let start := bomSkip x bytes
  let body := bytes.drop start
  let p := State.tokenRuns u (tdMax x) (utf8Runs body.length body) (s.snoop 2 (tdSample x) bytes) (TokRun.empty start 1)
  let r := p.1
  let rq : Requester := ⟨4, 12, u⟩
  let data := r.tokens.flatMap (toLe 4)
  if r.status ≠ 1 then
    (p.2.unitUndefined rq (trvFieldOwner (tdTrv x)) [(tdDst x, data)]).tokJob u x r (r.note bytes.length)
  else
    let w := p.2.unitWrite rq (trvFieldOwner (tdTrv x)) [(tdDst x, data)]
    let r1 : TokRun := { r with status := if w.1 then 1 else 7 }
    (w.2.snoop 3 (tdSample x) data).tokJob u x r1 (r.note bytes.length)

/-- The lowest-numbered free unit of four. -/
def freeOfFour (l : List InputJob) : Option Nat := (List.range 4).find? (fun u => !l.any (fun x => x.unit == u))

/-- TOKENIZE: the first free tokenizer takes the next descriptor, under the sample limit (R336 to R339). -/
def execTokenize (s : State) : Host.Outcome State Fault Refusal :=
  .next (match s.tokNext, freeOfFour s.input.tok with
  | some x, some u =>
    if s.sampleAllowed (tdSample x) then s.awaitAccess ⟨4, 12, u⟩ [(tdSrc x, tdLen x)] (fun (s : State) =>
      let s0 := (s.tokTaken).noteSample (tdSample x)
      if s.tokGood x then
        let rd := s0.readBytes ⟨4, 12, u⟩ 0 (tdSrc x) (tdLen x)
        if rd.2.1 = .ok then rd.2.2.tokenize u x rd.1
        else (rd.2.2.unitUndefined ⟨4, 12, u⟩ (trvFieldOwner (tdTrv x)) [(tdDst x, zeros 4)]).tokJob u x (TokRun.empty 0 5) 0
      else s0.tokJob u x (TokRun.empty 0 4) 0)
    else s
  | _, _ => s)

/-- TOK_REQUEST_COMPLETE: a tokenizer's request completes: tag, counts, TRV advance and TOK_DONE (R315, R339). -/
def execTokRequestComplete (unit : Fin 4) (s : State) : Host.Outcome State Fault Refusal :=
  .next (match s.input.tok.find? (fun x => x.unit == unit.val) with
  | none => s
  | some x =>
    let s1 := ({ s with input := { s.input with tok := s.input.tok.erase x } }).completeInput ⟨4, 12, unit.val⟩ x 6 9
    let s2 := if bit x.buffers 0 then s1.bump .tokCounts Fld.tokCounts_REPLACED else s1
    if bit x.buffers 1 then s2.bump .tokCounts Fld.tokCounts_TRUNCATED else s2)

/-- Every descriptor of the tokenizer ring not taken receives a tag with STATUS 6; `fuel` bounds the ring (R333, R340). -/
def State.tokCancelGo : Nat → State → State
  | 0, s => s
  | fuel + 1, s =>
    let i := s.fld .tokQptr Fld.tokQptr_TAKEN
    if i = s.fld .tokQptr Fld.tokQptr_SUBMIT then s
    else
      let x := s.peek (s.tokDesc i) 64
      let tag := (tokenTag x (TokRun.empty 0 6) 0).take 40 ++ toLe 8 s.now ++ zeros 16
      State.tokCancelGo fuel ((s.writeMem ⟨4, 12, noInst⟩ 0 (tdTag x) tag).tokTaken)

/-- The tokenizers stop taking descriptors (R340). -/
def State.tokCancel (s : State) : State := if s.isSet .tokQbase Fld.tokQbase_EN then State.tokCancelGo 1024 s else s

/-- TOK_DISABLE: EN in TOK_CTRL is cleared (R340). -/
def execTokDisable (s : State) : Host.Outcome State Fault Refusal :=
  .next (if s.doms.main && s.isSet .tokCtrl Fld.tokCtrl_EN then s.tokCancel.put .tokCtrl Fld.tokCtrl_EN 0 else s)

/-! ### Augmentation generators (R341, R342) -/

/-- One round of the draw. -/
def augRound (k0 k1 i : Nat) (lr : Nat × Nat) : Nat × Nat :=
  (lr.2, lr.1 ^^^ mix (lr.2 ^^^ (if i % 2 = 1 then k1 else k0) ^^^ (i * 2 ^ 56)))

/-- aug_draw of R341. -/
def augDraw (k0 k1 sample draw : Nat) : Nat :=
  let p := (List.range 4).foldl (fun lr i => augRound k0 k1 i lr) (sample % 2 ^ 64, draw % 2 ^ 64)
  p.1 ^^^ p.2

def adSample (x : List Byte) : Nat := leAt x 0 8
def adDraw (x : List Byte) : Nat := leAt x 8 8
def adNsamp (x : List Byte) : Nat := leAt x 16 4
def adNdraw (x : List Byte) : Nat := leAt x 20 4
def adKey (x : List Byte) : Nat := leAt x 24 1
def adKind (x : List Byte) : Nat := leAt x 25 1
def adFlags (x : List Byte) : Nat := leAt x 26 1
def adP (x : List Byte) : Nat := leAt x 28 4
def adDst (x : List Byte) : Nat := leAt x 32 8
def adTrv (x : List Byte) : Nat := leAt x 40 2

/-- Bytes of an element of a KIND (R342). -/
def augSize (kind : Nat) : Nat := match kind with | 0 => 8 | 3 => 1 | _ => 4

/-- The uniform FP32 value of a draw: its 24 leading bits over 2^24, exact (R342). -/
def augUniform (v : Nat) : Nat := roundF32 (.fin false (v / 2 ^ 40) (-24))

/-- One element of a KIND, from its draw (R342). -/
def augElement (kind p v : Nat) : Nat :=
  match kind with
  | 0 => v
  | 1 => augUniform v
  | 2 => v / 2 ^ 32 * p / 2 ^ 32
  | _ => b2n (flt (augUniform v) p)

/-- The element words of a descriptor under a key (R342). -/
def augElements (k0 k1 : Nat) (x : List Byte) : List Byte :=
  (List.range (adNsamp x)).flatMap (fun i => (List.range (adNdraw x)).flatMap (fun j =>
    toLe (augSize (adKind x)) (augElement (adKind x) (adP x)
      (augDraw k0 k1 ((adSample x + i) % 2 ^ 64) ((adDraw x + j) % 2 ^ 64)))))

/-- A generator descriptor is valid (R342). -/
def State.augGood (s : State) (x : List Byte) : Bool :=
  decide (adKind x ≤ 3) && !(adKind x == 2 && adP x == 0) && !(adKind x == 3 && (f32 (adP x)).isNan) &&
  bits (adFlags x) 7 1 == 0 && leAt x 42 22 == 0 && decide (adKey x < 16) &&
  (s.fld .augCtrl Fld.augCtrl_EN).testBit (adKey x) && adNsamp x != 0 && adNdraw x != 0 && adDst x % 64 == 0 &&
  inTier (tierOf (adDst x)) (adDst x) (adNsamp x * adNdraw x * augSize (adKind x)) &&
  ledgeFits (tierOf (adDst x)) (adTrv x) && s.trvFieldGood (adTrv x)

/-- Device address of descriptor `i` of the generator ring. -/
def State.augDesc (s : State) (i : Nat) : Nat := s.fld .augQbase Fld.augQbase_BASE + 64 * i

/-- TAKEN of the generator ring advances. -/
def State.augTaken (s : State) : State := s.put .augQptr Fld.augQptr_TAKEN ((s.fld .augQptr Fld.augQptr_TAKEN + 1) % 1024)

/-- Whether the generator ring holds a descriptor that is not taken. -/
def State.augReady (s : State) : Bool :=
  s.doms.main && s.isSet .augQbase Fld.augQbase_EN && s.fld .augQptr Fld.augQptr_TAKEN != s.fld .augQptr Fld.augQptr_SUBMIT

/-- AUG_FILL: the first free generator takes the next descriptor and writes its elements (R341, R342). Its STATUS byte is
written when the request completes. -/
def execAugFill (s : State) : Host.Outcome State Fault Refusal :=
  .next (match s.augReady, freeOfFour s.input.aug with
  | true, some u =>
    let i := s.fld .augQptr Fld.augQptr_TAKEN
    let x := s.peek (s.augDesc i) 64
    let s0 := s.augTaken
    let job := fun (t : State) (st : Nat) => { t with input := { t.input with
      aug := t.input.aug ++ [⟨0, u, s.augDesc i + 27, toLe 1 st, 64, adTrv x, bit (adFlags x) 0, st, 0, 0⟩] } }
    if s.augGood x then
      let slot : Fin 16 := Fin.ofNat 16 (adKey x)
      let data := augElements (s.get (.augKey slot 0)).toNat (s.get (.augKey slot 1)).toNat x
      let w := s0.unitWrite ⟨4, 13, u⟩ (trvFieldOwner (adTrv x)) [(adDst x, data)]
      job (w.2.snoop 4 (adSample x) data) (if w.1 then 1 else 7)
    else job s0 4
  | _, _ => s)

/-- AUG_REQUEST_COMPLETE: a generator's request completes: STATUS, TRV advance and AUG_DONE (R315, R342). -/
def execAugRequestComplete (unit : Fin 4) (s : State) : Host.Outcome State Fault Refusal :=
  .next (match s.input.aug.find? (fun x => x.unit == unit.val) with
  | none => s
  | some x => ({ s with input := { s.input with aug := s.input.aug.erase x } }).completeInput ⟨4, 13, unit.val⟩ x 7 10)

/-- At the end of a job, descriptors not taken receive STATUS 6; `fuel` bounds the ring (R342). -/
def State.augCancelGo : Nat → State → State
  | 0, s => s
  | fuel + 1, s =>
    if s.augReady then
      State.augCancelGo fuel
        ((s.writeMem ⟨4, 13, noInst⟩ 0 (s.augDesc (s.fld .augQptr Fld.augQptr_TAKEN) + 27) (toLe 1 6)).augTaken)
    else s

/-- The generators at the end of a job. -/
def State.augCancel (s : State) : State := State.augCancelGo 1024 s

/-! ### Check values (R343 to R346) -/

/-- The registers of check engine `e`: point engines 0 to 4, then the 16 channels. -/
def chkCfg (e : Fin 21) : Reg := if e.val < 5 then .chkPointCfg (Fin.ofNat 5 e.val) else .chkChanCfg (Fin.ofNat 16 (e.val - 5))
def chkState (e : Fin 21) : Reg := if e.val < 5 then .chkPointState (Fin.ofNat 5 e.val) else .chkChanState (Fin.ofNat 16 (e.val - 5))
def chkResult (e : Fin 21) : Reg := if e.val < 5 then .chkPointResult (Fin.ofNat 5 e.val) else .chkChanResult (Fin.ofNat 16 (e.val - 5))
def chkBytes (e : Fin 21) : Reg := if e.val < 5 then .chkPointBytes (Fin.ofNat 5 e.val) else .chkChanBytes (Fin.ofNat 16 (e.val - 5))

/-- The two layouts have the same fields (R346). -/
def chkFld (s : State) (e : Fin 21) (f : Fld) : Nat := s.fld (chkCfg e) f

/-- The snoop point that an engine watches; `none` for the reserved values. -/
def State.chkPoint (s : State) (e : Fin 21) : Option Nat :=
  if e.val < 5 then some e.val
  else
    let p := chkFld s e Fld.chkPointCfg_POINT
    if p < 5 then some p else none

/-- An engine's width. -/
def State.chkWide (s : State) (e : Fin 21) : Bool := s.isSet (chkCfg e) Fld.chkPointCfg_CRC64

/-- Fold bytes into the running value of an engine, and count them (R343, R345). -/
def State.chkFold (s : State) (e : Fin 21) (bs : List Byte) : State :=
  let st := (s.get (chkState e)).toNat
  let v := if s.chkWide e then crcFold poly64 st bs else crcFold poly32 (st % 2 ^ 32) bs
  (s.set (chkState e) (BitVec.ofNat 64 v)).set (chkBytes e) (s.get (chkBytes e) + BitVec.ofNat 64 bs.length)

/-- The engines. -/
def chkEngines : List (Fin 21) := (List.range 21).map (Fin.ofNat 21)

/-- An engine meets the opening of a stream it matches (R345). -/
def State.chkTake (s : State) (e : Fin 21) (x : SnoopStream) : State :=
  if s.isSet (chkCfg e) Fld.chkPointCfg_EN && s.chkPoint e == some x.point && chkFld s e Fld.chkPointCfg_TAG == x.tag then
    if s.isSet (chkCfg e) Fld.chkPointCfg_HELD then s.put (chkCfg e) Fld.chkPointCfg_MISSED 1
    else
      let s1 := if s.isSet (chkCfg e) Fld.chkPointCfg_ACCUM then s
        else (s.set (chkState e) (BitVec.ofNat 64 (ones (if s.chkWide e then 64 else 32)))).set (chkBytes e) 0
      let s2 := s1.put (chkCfg e) Fld.chkPointCfg_HELD 1
      { s2 with input := { s2.input with held := s2.input.held ++ [⟨e.val, x.id, 0⟩] } }
  else s

/-- The first stream at a point under a tag that has opened, or not opened. -/
def State.streamAt (s : State) (point tag : Nat) (opened : Bool) : Option SnoopStream :=
  s.input.streams.find? (fun x => x.point == point && x.tag == tag && x.opened == opened)

/-- CHK_STREAM_OPEN: the next stream at a point under a tag opens (R344, R345). -/
def execChkStreamOpen (point : Fin 5) (tag : BitVec 16) (s : State) : Host.Outcome State Fault Refusal :=
  .next (match s.streamAt point.val tag.toNat false with
  | none => s
  | some x =>
    let s1 := { s with input := { s.input with
      streams := s.input.streams.map (fun y => if y.id = x.id then { y with opened := true } else y) } }
    if s.doms.main then chkEngines.foldl (fun (t : State) e => t.chkTake e x) s1 else s1)

/-- The bytes of a held stream that are not folded yet. -/
def State.chkRest (s : State) (h : SnoopHeld) : List Byte :=
  match s.input.streams.find? (fun x => x.id == h.id) with
  | none => []
  | some x => x.bytes.drop h.pos

/-- An engine's stream closes: RESULT, DONE or OVERRUN, idle (R345). -/
def State.chkClose (s : State) (h : SnoopHeld) : State :=
  let e : Fin 21 := Fin.ofNat 21 h.engine
  let s1 := s.chkFold e (s.chkRest h)
  let final := ones (if s1.chkWide e then 64 else 32)
  let s2 := s1.set (chkResult e) (BitVec.ofNat 64 ((s1.get (chkState e)).toNat ^^^ final))
  let s3 := if s2.isSet (chkCfg e) Fld.chkPointCfg_DONE then s2.put (chkCfg e) Fld.chkPointCfg_OVERRUN 1 else s2
  (s3.put (chkCfg e) Fld.chkPointCfg_DONE 1).put (chkCfg e) Fld.chkPointCfg_HELD 0

/-- CHK_STREAM_CLOSE: the oldest open stream at a point under a tag closes (R344, R345). -/
def execChkStreamClose (point : Fin 5) (tag : BitVec 16) (s : State) : Host.Outcome State Fault Refusal :=
  .next (match s.streamAt point.val tag.toNat true with
  | none => s
  | some x =>
    let s1 := (s.input.held.filter (fun h => h.id == x.id)).foldl State.chkClose s
    { s1 with input := { s1.input with
        streams := s1.input.streams.filter (fun y => y.id != x.id)
        held := s1.input.held.filter (fun h => h.id != x.id) } })

/-- CHK_STATE_WRITE: software writes STATE, or BYTES, of an engine when its stream has `upto` bytes before this cycle's, which
are folded onto the written value (R345, R346). -/
def execChkStateWrite (e : Fin 21) (isBytes : Bool) (v : Word) (upto : Nat) (s : State) : Host.Outcome State Fault Refusal :=
  .next (if s.doms.main then
    let s1 := match s.input.held.find? (fun h => h.engine == e.val) with
      | none => s
      | some h =>
        let bs := (s.chkRest h).take (upto - h.pos)
        let t := s.chkFold e bs
        { t with input := { t.input with
            held := t.input.held.map (fun (g : SnoopHeld) => if g.engine = e.val then { g with pos := g.pos + bs.length } else g) } }
    if isBytes then s1.set (chkBytes e) v
    else s1.set (chkState e) (if s1.chkWide e then v else (s1.get (chkState e) &&& 0xFFFFFFFF00000000) ||| (v &&& 0xFFFFFFFF))
  else s)

end Sys2Proof.Machine
end

