-- ==== Sys2Proof/Machine/Job.lean ====
section
/-! DEFINITION. The end of a job with its report (R236, R237, R256), and the evaluation slice (R246 to R252). -/

namespace Sys2Proof.Machine

/-! ### END and ABORT (R236, R237) -/

/-- STATE of BC_JOB_STATUS. -/
def State.jobState (s : State) : Nat := s.fld .bcJobStatus Fld.bcJobStatus_STATE

/-- A job RUNNING is to end at the next outcome, or at once when no attempt is open; while STATE is LOADING the bit waits for the
load; otherwise an END has no effect (R236, R237). -/
def State.endRequest (s : State) : State :=
  if !s.doms.main then s
  else if s.jobState = 1 then s.put .bcJobCtrl Fld.bcJobCtrl_END 1
  else if s.jobState = 2 ∧ s.job.endWaits = false then
    let s1 := s.put .bcJobCtrl Fld.bcJobCtrl_END 1
    if s.job.attemptOpen then { s1 with job := { s1.job with endCode := 0x20, endWaits := true } }
    else s1.beginEnd 0x20
  else s

/-- ABORT ends a RUNNING job at once, and takes the place of an END (R236, R237). -/
def State.abortRequest (s : State) : State :=
  if !s.doms.main then s
  else if s.jobState = 1 then s.put .bcJobCtrl Fld.bcJobCtrl_ABORT 1
  else if 2 ≤ s.jobState then (s.put .bcJobCtrl Fld.bcJobCtrl_ABORT 1).beginEnd 0x21
  else s

/-- END: a write of END to BC_JOB_CTRL (R236, R237). -/
def execJobEndRequest (s : State) : Host.Outcome State Fault Refusal := .next s.endRequest

/-- ABORT: a write of ABORT to BC_JOB_CTRL (R236, R237). -/
def execJobAbort (s : State) : Host.Outcome State Fault Refusal := .next s.abortRequest

/-! ### Requests of the evaluation slice (R248) -/

def evRequest (x : List Byte) : Nat := leAt x 0 8
def evSeq (x : List Byte) : Nat := leAt x 8 2
def evPrio (x : List Byte) : Nat := leAt x 10 1
def evPrompt (x : List Byte) : Nat := leAt x 12 4
def evMaxNew (x : List Byte) : Nat := leAt x 24 4
def evStop (x : List Byte) : Nat := leAt x 28 4
def evOut (x : List Byte) : Nat := leAt x 32 8

/-- Device address of descriptor `i` of the evaluation ring. -/
def State.evDesc (s : State) (i : Nat) : Nat := s.fld .bcEvalRing Fld.bcEvalRing_BASE + 64 * i

/-- The descriptor of a request. -/
def State.evBytes (s : State) (e : EvalReq) : List Byte := s.peek (s.evDesc e.index) 64

/-- COUNT, STATUS and NOTE of a descriptor. -/
def State.evWrite (s : State) (i count status note : Nat) : State :=
  s.writeMem detReq 0x32 (s.evDesc i + 48) (toLe 4 count ++ toLe 1 status ++ toLe 1 note)

/-- A request completes. -/
def State.evEnd (s : State) (e : EvalReq) (status : Nat) : State := s.evWrite e.index e.count status (b2n e.nf + 2 * b2n e.preempted)

/-- Replace the requests taken. -/
def State.setEvals (s : State) (l : List EvalReq) : State := { s with job := { s.job with evals := l } }

/-- A descriptor is valid (R248). A sequence number beyond the table names no EMPTY sequence, and a training sequence is none of the
slice's (R246; DESIGN CHOICE, log entry 51). -/
def State.evGood (s : State) (x : List Byte) : Bool :=
  decide (evSeq x < s.fld .ntKvCfg Fld.ntKvCfg_SEQ_COUNT) && s.seqState (evSeq x) == 0 && !s.seqTrain (evSeq x) &&
  decide (evPrompt x + evMaxNew x ≤ 16777216) && decide (evPrompt x + evMaxNew x ≤ 256 * 2 ^ s.seqStride (evSeq x)) &&
  leAt x 11 1 == 0 && leAt x 53 1 / 4 == 0 && leAt x 54 10 == 0

/-- The slice takes descriptors: a job RUNNING, the ring enabled, one submitted (R248). -/
def State.evReady (s : State) : Bool :=
  s.doms.main && s.jobState == 2 && s.isSet .bcEvalRing Fld.bcEvalRing_EN &&
  s.fld .bcEvalPtr Fld.bcEvalPtr_TAKEN != s.fld .bcEvalPtr Fld.bcEvalPtr_SUBMIT

/-- EVAL_TAKE: the next descriptor is taken and checked; an invalid one completes with STATUS 5 (R248). -/
def execEvalTake (s : State) : Host.Outcome State Fault Refusal :=
  .next (if s.evReady then
    let i := s.fld .bcEvalPtr Fld.bcEvalPtr_TAKEN
    let x := s.peek (s.evDesc i) 64
    let s1 := s.put .bcEvalPtr Fld.bcEvalPtr_TAKEN ((i + 1) % 1024)
    if s.evGood x then s1.setEvals (s1.job.evals ++ [⟨i, s.now, evSeq x, false, 0, 0, none, false, false, 0⟩])
    else s1.evWrite i 0 5 0
  else s)

/-! ### A generation step (R249 to R251) -/

/-- A sequence of the slice runs in the batch: admitted and RESIDENT. -/
def State.evRuns (s : State) (e : EvalReq) : Bool := e.admitted && s.seqState e.seq == 1

/-- A token of the step that ends is recorded; the first one takes the snapshot in force (R248, R251). -/
def State.evToken (s : State) (t : Nat × Nat) : State :=
  match s.job.evals.find? (fun e => e.index == t.1 && s.evRuns e && e.finish == 0) with
  | none => s
  | some e =>
    let x := s.evBytes e
    let s1 := s.writeMem detReq 0x32 (evOut x + 4 * e.count) (toLe 4 t.2)
    let s2 := if e.count = 0 then s1.writeMem detReq 0x32 (s1.evDesc e.index + 40) (toLe 8 s.job.snap) else s1
    let fin := if t.2 = evStop x then 1 else if evMaxNew x ≤ e.count + 1 then 2 else 0
    let e1 : EvalReq := { e with
      count := e.count + 1
      snap := some (e.snap.getD s.job.snap)
      finish := fin }
    s2.setEvals (s2.job.evals.map (fun y => if y = e then e1 else y))

/-- STATUS of a request whose sequence has ended: 3 where software cancelled it, 4 where the frame manager dropped it (R249). -/
def EvalReq.status (e : EvalReq) : Nat := if e.finish ≠ 0 then e.finish else if e.ended = 3 then 3 else if e.ended ≠ 0 then 4 else 0

/-- Finished requests leave; a sequence that wrote its last token is cancelled (R249). -/
def State.evRetire (s : State) (e : EvalReq) : State :=
  if e.status = 0 then s
  else
    let s1 := (s.evEnd e e.status).setEvals (s.job.evals.filter (fun y => decide (y ≠ e)))
    if e.finish ≠ 0 ∧ e.ended = 0 then s1.kvCancelCommand e.seq else s1

/-- Pages of a candidate: of its prompt, or those swapped out (R249). -/
def State.evPages (s : State) (e : EvalReq) : Nat :=
  if e.admitted then ((s.seqPages e.seq).filter (fun x => (s.pte e.seq x.1 x.2).tier == 3)).length
  else s.seqLayers e.seq * ((evPrompt (s.evBytes e) + 255) / 256)

/-- Time by which a candidate ranks: ADMIT, or when it was taken. -/
def State.evTime (s : State) (e : EvalReq) : Nat := if e.admitted then s.seqGet e.seq 24 8 else e.taken

/-- PRIO of a candidate. -/
def State.evRank (s : State) (e : EvalReq) : Nat := if e.admitted then s.seqGet e.seq 17 1 else evPrio (s.evBytes e)

/-- PRIO descending, then earliest time, then lowest sequence number (R249). -/
def State.evBefore (s : State) (a b : EvalReq) : Bool :=
  decide (s.evRank b < s.evRank a) || (s.evRank a == s.evRank b &&
    (decide (s.evTime a < s.evTime b) || (s.evTime a == s.evTime b && decide (a.seq < b.seq))))

/-- Candidates in rank order join while the batch has room and FREE, less REFILL, covers the candidate's pages. The first that does
not fit ends the joining (R249). -/
def State.evJoin : List EvalReq → State → State
  | [], s => s
  | e :: es, s =>
    let batch := (s.job.evals.filter (fun y => y.admitted && (s.seqState y.seq == 1 || s.seqState y.seq == 4))).length
    if batch < s.fld .bcEvalRing Fld.bcEvalRing_BATCH_MAX ∧
        s.evPages e + s.fld .ntKvCfg Fld.ntKvCfg_REFILL ≤ s.kvFreeCount 0 then
      if e.admitted then State.evJoin es (s.kvResume e.seq)
      else if s.seqState e.seq = 0 then
        let s1 := (s.seqPut e.seq 17 1 (evPrio (s.evBytes e))).kvAdmit e.seq
        let s2 := s1.setEvals (s1.job.evals.map (fun y => if y = e then ({ y with admitted := true } : EvalReq) else y))
        State.evJoin es s2
      else State.evJoin es s
    else s

/-- Draw of the next token of a request: its number as sample index, the token's position as draw number (R250). -/
def State.evDraw (s : State) (e : EvalReq) : State :=
  let x := s.evBytes e
  let key : Fin 16 := Fin.ofNat 16 ((s.job.plan.map Plan.evalKey).getD 0)
  let pos := evPrompt x + e.count
  s.emit (.evalDraw (evRequest x) pos (augDraw (s.get (.augKey key 0)).toNat (s.get (.augKey key 1)).toNat (evRequest x) pos))

/-- Cores of the slice (R246). -/
def State.sliceCores (s : State) : List (Fin 4 × Fin 11) :=
  (s.upDies.flatMap (fun d => coreNums.map (fun k => (d, k)))).filter (fun c => s.isSet (.tcCtrl c.1 c.2) Fld.tcCtrl_EVAL)

/-- NF stands on a core of the slice: every request that runs has seen it (R122, R248). -/
def State.evFlag (s : State) : State :=
  if s.sliceCores.any (fun c => s.isSet (.tcFlags c.1 c.2) Fld.tcFlags_NF) then
    s.setEvals (s.job.evals.map (fun (e : EvalReq) => if s.evRuns e then ({ e with nf := true } : EvalReq) else e))
  else s

/-- EVAL_STEP_BOUNDARY: the step that ends leaves its tokens, as ring index and identifier; with `refresh`, the refresh of the
snapshot `snap` takes effect now. Then the five actions of R249 (R249 to R251). -/
def execEvalStepBoundary (tokens : List (Fin 1024 × BitVec 20)) (refresh : Bool) (snap : BitVec 40) (s : State) :
    Host.Outcome State Fault Refusal :=
  .next (if s.doms.main && s.jobState == 2 && s.kvOn then
    let s2 := ((tokens.map (fun t => (t.1.val, t.2.toNat))).foldl State.evToken s).evFlag
    let s3 := if refresh then { s2 with job := { s2.job with snap := snap.toNat } } else s2
    let s4 := s3.job.evals.foldl State.evRetire s3
    let candidates := s4.job.evals.filter (fun e => !e.admitted || s4.seqState e.seq == 3)
    let s5 := State.evJoin (insertSort s4.evBefore candidates) s4
    let entering := ((s5.job.evals.filter s5.evRuns).map EvalReq.seq).filter (fun n => s5.seqGet n 0 4 % 256 == 0)
    let s6 := s5.kvStepAllocate entering
    (s6.job.evals.filter s6.evRuns).foldl State.evDraw s6
  else s)

/-- A core of the slice that has stopped on an error: one whose record, or a later failure beside it, is of a stopping kind (R144). -/
def State.sliceStopped (s : State) (c : Fin 4 × Fin 11) : Bool :=
  let w := s.get (.tcErr c.1 c.2)
  !s.isSet (.tcCtrl c.1 c.2) Fld.tcCtrl_RUN && fget w Fld.tcErr_VALID == 1 &&
  (fget w Fld.tcErr_MORE == 1 || (fget w Fld.tcErr_CODE != 0x0A && fget w Fld.tcErr_CODE != 0x16))

/-- EVAL_SLICE_ERROR: a core of the slice has stopped on an error: the others stop, running sequences are cancelled, and their
requests complete with STATUS 4 (R252). -/
def execEvalSliceError (s : State) : Host.Outcome State Fault Refusal :=
  .next (if s.doms.main && s.jobState == 2 && s.sliceCores.any s.sliceStopped then
    let s1 := s.sliceCores.foldl (fun (t : State) c => t.tcStopWrite c.1 c.2) s
    let hit := s1.job.evals.filter (fun e => e.admitted && (s1.seqState e.seq == 1 || s1.seqState e.seq == 4))
    let s2 := hit.foldl (fun (t : State) e =>
      (((t.evEnd e 4).setEvals (t.job.evals.filter (fun y => y.index != e.index))).kvCancel e.seq 3)) s1
    if s2.kvOn then s2.kvProgress else s2
  else s)

/-! ### The end of a job (R236, R256) -/

/-- Every core and engine of the dies whose compute domain is up. -/
def State.allCores (s : State) : List (Fin 4 × Fin 11) := s.upDies.flatMap (fun d => coreNums.map (fun k => (d, k)))
def State.allEngines (s : State) : List (Fin 4 × Fin 22) := s.upDies.flatMap (fun d => trvEngines.map (fun j => (d, j)))

/-- STOP in every tensor core and traverse engine that runs (R236). -/
def State.stopAll (s : State) : State :=
  let s1 := s.allCores.foldl (fun (t : State) c => t.tcStopWrite c.1 c.2) s
  s.allEngines.foldl (fun (t : State) e => t.trvStopWrite e.1 e.2) s1

/-- Operations and descriptors already issued have completed. -/
def State.allStopped (s : State) : Bool :=
  s.allCores.all (fun c => (s.tcCore c.1 c.2).ops.isEmpty) && s.allEngines.all (fun e => (s.trvRuns e.1 e.2).isEmpty)

/-- Stopped cores and engines clear RUN and STOP (R148, R174). -/
def State.runsOff (s : State) : State :=
  let s1 := s.allCores.foldl (fun (t : State) c => (t.put (.tcCtrl c.1 c.2) Fld.tcCtrl_RUN 0).put (.tcCtrl c.1 c.2) Fld.tcCtrl_STOP 0) s
  s.allEngines.foldl (fun (t : State) e => (t.put (.trvCtrl e.1 e.2) Fld.trvCtrl_RUN 0).put (.trvCtrl e.1 e.2) Fld.trvCtrl_STOP 0) s1

/-- An attempt cut off between marker and outcome is restored from the retreat log; no counter changes (R230, R236). -/
def State.cutAttempt (s : State) : State :=
  if s.job.attemptOpen then
    let r := (State.restoreAll s s.upDies).2
    let r1 := r.upDies.foldl (fun (t : State) d => (t.setOptDie d { t.optDie d with run := none }).dropNorms d) (r.optPhase 0)
    { r1.setStep StepState.idle with job := { r1.job with attemptOpen := false } }
  else s

/-- The frame manager cancels moves not taken and every evaluation and serving sequence (R99, R236). -/
def State.kvEndJob (s : State) : State :=
  if s.kvOn then
    let s1 := (s.kv.moves.filter s.kvUntaken).foldl State.kvCancelMove s
    let s2 := s1.setKv { s1.kv with planned := [] }
    let s3 := ((s2.seqsIn (fun st => st != 0 && st != 5)).filter (fun n => !s2.seqTrain n)).foldl (fun (t : State) n => t.kvCancel n 3) s2
    s3.kvProgress
  else s

/-- Ring descriptors that the slice has not taken receive STATUS 3; `fuel` bounds the ring. -/
def State.evCancelGo : Nat → State → Nat → State
  | 0, s, _ => s
  | fuel + 1, s, i =>
    if i = s.fld .bcEvalPtr Fld.bcEvalPtr_SUBMIT then s.put .bcEvalPtr Fld.bcEvalPtr_TAKEN i
    else State.evCancelGo fuel (s.evWrite i 0 3 0) ((i + 1) % 1024)

/-- Evaluation requests not yet finished receive STATUS 3 (R236). -/
def State.evCancel (s : State) : State :=
  let s1 := (s.job.evals.foldl (fun (t : State) e => t.evEnd e 3) s).setEvals []
  if s1.isSet .bcEvalRing Fld.bcEvalRing_EN then State.evCancelGo 1025 s1 (s1.fld .bcEvalPtr Fld.bcEvalPtr_TAKEN) else s1

/-- Core `k` of die `n` by record number. -/
def coreAt (i : Nat) : Fin 4 × Fin 11 := (Fin.ofNat 4 (i / 11), Fin.ofNat 11 (i % 11))

/-- The eight idle counters of core number `i`. -/
def State.idleOf (s : State) (i : Nat) : List Nat :=
  (List.range 8).map (fun c => (s.get (.tcIdle (coreAt i).1 (coreAt i).2 (Fin.ofNat 8 c))).toNat)

/-- TC_OPS of core number `i`. -/
def State.opsOf (s : State) (i : Nat) : Nat := (s.get (.tcOps (coreAt i).1 (coreAt i).2)).toNat

/-- A record of the job report (R256). -/
def State.reportRecord (s : State) (i : Nat) : List Byte :=
  let c := coreAt i
  let inc := fun (now was : Nat) => toLe 8 ((now + 2 ^ 64 - was) % 2 ^ 64)
  let idle := (List.zipWith inc (s.idleOf i) (s.job.idleAt.getD i [])).flatten
  let l := s.logicalOf c.1 c.2
  idle ++ inc (s.tcCore c.1 c.2).cycles (s.job.cyclesAt.getD i 0) ++ inc (s.opsOf i) (s.job.opsAt.getD i 0) ++
    toLe 1 (if l < 10 then l else 0xFF) ++ toLe 1 (s.fld (.tcCtrl c.1 c.2) Fld.tcCtrl_EVAL) ++ zeros 46

/-- The job report (R256). -/
def State.reportBytes (s : State) : List Byte :=
  let l := s.leader.getD 0
  let head := toLe 4 (s.fld .bcJobStatus Fld.bcJobStatus_JOB_ID) ++ toLe 1 s.job.endCode ++ zeros 3 ++ toLe 8 s.job.loadTime ++ toLe 8 s.now ++
    toLe 8 (s.fld (.optStep l) Fld.optStep_STEP) ++ toLe 8 (s.fld (.optAttempt l) Fld.optAttempt_SKIP) ++ zeros 16
  let body := (List.range 44).flatMap s.reportRecord
  head ++ toLe 8 (crc64 (head ++ body)) ++ body

/-- The report is written when BC_JOB_REPORT is nonzero (R256). -/
def State.writeReport (s : State) : State :=
  let a := s.fld .bcJobReport Fld.bcJobReport_ADDR
  if a = 0 then s else s.writeMem detReq 0x32 a s.reportBytes

/-- Where the report goes, as `(address, bytes)`. -/
def State.reportRange (s : State) : List (Nat × Nat) :=
  let a := s.fld .bcJobReport Fld.bcJobReport_ADDR
  if a = 0 then [] else [(a, s.reportBytes.length)]

/-- The lock bits that a job sets and its end clears (R14, R235, R236). -/
def lockBits : List (Reg × Fld) :=
  [(.pwrCtrl, Fld.pwrCtrl_LOCK), (.ntCtrl, Fld.ntCtrl_LOCK), (.medCtrl, Fld.medCtrl_LOCK), (.tokCtrl, Fld.tokCtrl_LOCK),
   (.augCtrl, Fld.augCtrl_LOCK), (.bcJobLock, Fld.bcJobLock_LOCK)] ++
  ([0, 1, 2, 3] : List (Fin 4)).flatMap (fun d =>
    coreNums.map (fun k => (Reg.tcCtrl d k, Fld.tcCtrl_LOCK)) ++ trvEngines.map (fun j => (Reg.trvCtrl d j, Fld.trvCtrl_LOCK)) ++
    [(Reg.trvFbCtrl d, Fld.trvFbCtrl_LOCK), (.optCtrl d, Fld.optCtrl_LOCK), (.ldgCtrl d, Fld.ldgCtrl_LOCK),
     (.colCtrl d, Fld.colCtrl_LOCK)] ++
    ([0, 1, 2, 3] : List (Fin 4)).map (fun p => (Reg.ropeCtrl d p, Fld.ropeCtrl_LOCK)) ++
    [(Reg.ropeCommonLock d, Fld.ropeCommonLock_LOCK)])

/-- Every lock bit outside reset takes a value. -/
def State.setLocks (s : State) (v : Nat) : State :=
  lockBits.foldl (fun (t : State) l => if t.domainUp l.1.domain then t.put l.1 l.2 v else t) s

/-- The role codes of the eight edges in order (R356). -/
def edgeGroups : List (Fin 8 × Nat) := belayEdges.flatMap (fun e => (List.range 128).map (fun g => (e, g)))

/-- The belay table in force as role codes. -/
def State.belayCodes (s : State) : List Nat := edgeGroups.map (fun x => s.belayRole x.1 x.2)

/-- A belay table comes into force; a failed group keeps its code 15 (R356). -/
def State.setBelay (s : State) (codes : List Nat) : State :=
  (List.zipWith Prod.mk edgeGroups codes).foldl (fun (t : State) x =>
    if t.belayRole x.1.1 x.1.2 = 15 then t else t.setRole x.1.1 x.1.2 x.2) s

/-- The outcome of a load or an end: CODE, DETAIL, DONE and JOB_EVENT (R234, R238). -/
def State.jobOutcome (s : State) (st code detail : Nat) : State :=
  let s1 := (s.put .bcJobStatus Fld.bcJobStatus_STATE st).put .bcJobStatus Fld.bcJobStatus_CODE code
  ((s1.put .bcJobStatus Fld.bcJobStatus_DETAIL detail).put .bcJobStatus Fld.bcJobStatus_DONE 1).notify 1 2

/-- The bits of BC_JOB_CTRL clear. -/
def State.jobCtrlClear (s : State) : State :=
  ((s.put .bcJobCtrl Fld.bcJobCtrl_LOAD 0).put .bcJobCtrl Fld.bcJobCtrl_END 0).put .bcJobCtrl Fld.bcJobCtrl_ABORT 0

/-- Parts 4 to 7 of a job's end (R236); a mode change to Hold that waited for it begins (R393). -/
def State.finishJob (s : State) : State :=
  let s1 := s.detCancel.evCancel.mediaCancel.tokCancel.augCancel.writeReport
  let s2 := ([0, 1, 2, 3] : List (Fin 4)).foldl (fun (t : State) d => if t.doms.fabric.testBit d.val then t.ownersToBasecamp d else t)
    (s1.setLocks 0)
  let s3 := (if s2.job.belayWas.isEmpty then s2 else (s2.setBelay s2.job.belayWas).put .hkBoot Fld.hkBoot_LANE_PLAN 0).set (.hkFw 7) 0
  let s4 := { s3 with
    tiers := { s3.tiers with contracts := [] }
    job := JobState.none }
  let s5 : State := (s4.recompute.jobCtrlClear).jobOutcome 0 s.job.endCode 0
  if s5.power.target = some 3 then s5.startMode 3 else s5

/-- JOB_END: the end of a job goes on: cores and engines stop, a cut-off attempt is restored, moves taken complete, and then the
rest of R236 in its order. While something issued or taken has not completed, STATE stays ENDING (R236, R256). -/
def execJobEnd (s : State) : Host.Outcome State Fault Refusal :=
  .next (if s.doms.main && s.jobState == 3 then
    let s1 := s.stopAll
    if !s1.allStopped then s1
    else
      let s2 := s1.runsOff.cutAttempt.kvEndJob
      if s2.kv.moves.isEmpty then s2.awaitBasecamp detReq s2.reportRange State.finishJob else s2
  else s)

end Sys2Proof.Machine
end

