-- ==== Sys2Proof/Machine/Rope.lean ====
section
/-! DEFINITION. Rope as frames arrive, and as ports come up, degrade and go down (R286, R289 to R309). -/

namespace Sys2Proof.Machine

/-! ### Ports up and down (R305, R308, R310) -/

/-- A team port's bit leaves TEAM_PORT_MASK, and the service level follows (R45, R305). -/
def State.dropTeamBit (s : State) (p : Fin 16) : State :=
  if isTeam p then
    let w := fput (s.get .hkShape) Fld.hkShape_TEAM_PORT_MASK (setBit (s.fld .hkShape Fld.hkShape_TEAM_PORT_MASK) p.val false)
    (s.setShape w).setLevel (min (s.fld .hkShape Fld.hkShape_SVC_LEVEL) (levelOf w s.expectPorts))
  else s

/-- Frames that are dropped leave the receive buffers that they occupied. -/
def State.discardFrames (s : State) (l : List TxFrame) : State := l.foldl State.leftBuffer s

/-- A port goes down with a STATE: what waited to be sent and what awaited acknowledgement is dropped (R296, R299). -/
def State.portDown (s : State) (p : Fin 16) (st : Nat) : State :=
  let q := s.port p
  let s1 := s.setPort p { q with waiting := [], replay := [], replays := 0, unacked := 0, moving := false, confirm := none, asked := false }
  (((s1.discardFrames q.waiting).put (pStatus p) Fld.ropeStatus_STATE st).put (pStatus p) Fld.ropeStatus_LANE_OK 0 |>.dropTeamBit p).drainAll

/-- Registers and counts of a port at their starting values (R292, R294). -/
def State.portFresh (s : State) (p : Fin 16) : State :=
  let s1 := (List.range 3).foldl (fun (t : State) v => (t.put (pCredit p v) Fld.ropeCredit_SENT 0).put (pCredit p v) Fld.ropeCredit_AVAIL
    (if isTeam p then creditUnits else 0)) s
  (s1.set (pSeq p) 0).setPort p { RopePort.idle with held := (s.port p).held, inUse := (s.port p).inUse }

/-- LANE registers of a port that has come up, with each lane's figure of merit (R306, R310). -/
def State.lanesFresh (s : State) (p : Fin 16) (foms : Nat) : State :=
  (List.range 4).foldl (fun (t : State) l =>
    t.set (.ropeLane (portDie p) (portLocal p) (Fin.ofNat 4 l)) (fput 0 Fld.ropeLane_FOM (bits foms (8 * l + 7) (8 * l)))) s

/-- A port comes up on four lanes: a team port says HELLO, and what waited for a port goes out (R299, R305). -/
def State.portUp (s : State) (p : Fin 16) (foms : Nat) : State :=
  let s1 := (((s.portFresh p).lanesFresh p foms).put (pStatus p) Fld.ropeStatus_STATE 2).put (pStatus p) Fld.ropeStatus_LANE_OK 15
  let s2 := s1.put (pCtrl p) Fld.ropeCtrl_RETRAIN 0
  ((if isTeam p then s2.sendHello p else s2).unpark).drainAll

/-- The die of a port is out of reset. -/
def State.portLive (s : State) (p : Fin 16) : Bool := s.doms.compute.testBit (portDie p).val

/-- PORT_UP: auto-negotiation and link training of an enabled port that trains end, with the figures of merit of its lanes, once its receive
buffers are empty: credits are at their starting values. A port that is held down, or that missed its time, trains no more (R294, R305,
R306; log entry 50). -/
def execPortUp (p : Fin 16) (foms : BitVec 32) (s : State) : Host.Outcome State Fault Refusal :=
  .next (if s.portLive p && s.isSet (pCtrl p) Fld.ropeCtrl_EN && s.portState p == 1 && !s.isSet (pCtrl p) Fld.ropeCtrl_RETRAIN &&
      (s.port p).inUse.all (· == 0) then
    s.portUp p foms.toNat
  else s)

/-- PORT_BRINGUP_TIMEOUT: 10 s have passed at stage 9: the port stays down (R305). -/
def execPortBringupTimeout (p : Fin 16) (s : State) : Host.Outcome State Fault Refusal :=
  .next (if s.inStage 9 && s.portLive p && !s.portIsUp p then (s.put (pStatus p) Fld.ropeStatus_STATE 0).dropTeamBit p else s)

/-- Take a port down and train it again. -/
def State.retrain (s : State) (p : Fin 16) : State := (s.portDown p 1).put (pCtrl p) Fld.ropeCtrl_RETRAIN 1

/-- RETRAIN: a write of RETRAIN takes the port down and retrains all four lanes (R310). -/
def execRetrain (p : Fin 16) (s : State) : Host.Outcome State Fault Refusal :=
  .next (if s.portLive p then s.retrain p else s)

/-- RETRAIN_DONE: a retrain ends, once the receive buffers are empty; credits are at their starting values (R294, R310). -/
def execRetrainDone (p : Fin 16) (foms : BitVec 32) (s : State) : Host.Outcome State Fault Refusal :=
  .next (if s.portLive p && s.isSet (pCtrl p) Fld.ropeCtrl_RETRAIN && s.isSet (pCtrl p) Fld.ropeCtrl_EN &&
      (s.port p).inUse.all (· == 0) then
    s.portUp p foms.toNat
  else s)

/-- A write of EN: 0 idles the transmitters, 1 begins training (R310). -/
def State.portEnable (s : State) (p : Fin 16) (old : Nat) : State :=
  let en := s.fld (pCtrl p) Fld.ropeCtrl_EN
  if old = 1 ∧ en = 0 then s.portDown p 0
  else if old = 0 ∧ en = 1 then s.put (pStatus p) Fld.ropeStatus_STATE 1
  else s

/-- Lanes of a direction: 0 and 1 transmit, 2 and 3 receive (R283). -/
def laneMate (l : Nat) : Nat := if l % 2 = 0 then l + 1 else l - 1

/-- A lane of a port is lost at this end: the port goes on while each direction keeps a lane, or goes down (R307, R308). The answer says
whether it goes on. -/
def State.laneLost (s : State) (p : Fin 16) (l : Fin 4) (partnerDrops : Bool) : Bool × State :=
  let ok := s.fld (pStatus p) Fld.ropeStatus_LANE_OK
  let s1 := s.put (.ropeLane (portDie p) (portLocal p) l) Fld.ropeLane_FAILED 1
  if s.a0 || !s.isSet (pCtrl p) Fld.ropeCtrl_LANEDROP || !partnerDrops || !ok.testBit (laneMate l.val) then (false, s1.portDown p 0)
  else
    (true, ((s1.put (pStatus p) Fld.ropeStatus_LANE_OK (setBit ok l.val false)).put (pStatus p) Fld.ropeStatus_STATE 3).correctedEvent
      ⟨(portDie p).val, 6, p.val⟩ 0x0111 0 l.val)

/-- A LANE frame of a kind that names a lane by its number at the far end (R288, R308; log entry 12). -/
def State.sendLane (s : State) (p : Fin 16) (kind lane value : Nat) : State :=
  s.send p (s.linkFrame p 0xC 0 (toLe 1 kind ++ toLe 1 ((lane + 2) % 4) ++ toLe 1 value ++ zeros 61) (s.farNode p))

/-- The transmit direction moves to its surviving lane: no traffic goes until the far end has confirmed (R308). -/
def State.moveLane (s : State) (p : Fin 16) : State := s.setPort p { s.port p with moving := true }

/-- LANE_FAIL: a lane fails at this end; `partnerDrops` says whether the far end permits three lanes. The end names the lane to the other.
When it is a transmit lane this end moves off it; when it is a receive lane this end will confirm, once it has aligned (R307, R308). -/
def execLaneFail (p : Fin 16) (l : Fin 4) (partnerDrops : Bool) (s : State) : Host.Outcome State Fault Refusal :=
  .next (if s.portLive p && s.portIsUp p && (s.fld (pStatus p) Fld.ropeStatus_LANE_OK).testBit l.val then
    let r := s.laneLost p l partnerDrops
    if r.1 then
      let t := r.2.sendLane p 1 l.val 0
      if l.val < 2 then t.moveLane p else t.setPort p { t.port p with confirm := some l.val }
    else r.2
  else s)

/-! ### Responses (R288, R290, R301) -/

/-- Status code of a response (R288). -/
def MemStatus.rope : MemStatus → Nat
  | .ok => 0
  | .unmapped => 1
  | .uncorrectable => 2
  | .nonOwner => 3
  | .hostError => 4

/-- A response to a request, sent on the port on which it arrived, through the same relay: on a fabric port the device `via` (R301). -/
def State.respond (s : State) (p : Fin 16) (via : Nat) (f : RopeFrame) (type status : Nat) (payload : List Byte) : State :=
  let d : Fin 4 := Fin.ofNat 4 f.dstDie
  s.send p ⟨2, RopeFrame.make ⟨1, type, 2, s.colPhaseOf d, false, f.relay, s.selfNode d, d.val, f.srcNode, f.srcDie, 0, 0, 0, f.tag, 0,
    s.fld (.ropeTimeout d) Fld.ropeTimeout_EPOCH, status, 0, payload⟩, if f.relay && !isTeam p then some via else none, none⟩

/-- The 64 B units of the payload with which a port answers a READ: what it asks, up to the port's MTU (R285, R288). -/
def State.readUnits (s : State) (p : Fin 16) (f : RopeFrame) : Nat :=
  min (16 * 2 ^ min 2 (s.fld (pCtrl p) Fld.ropeCtrl_MTU)) (f.arg % 2 ^ 16)

/-- Units of the response that a request needs credit for. -/
def State.answerUnits (s : State) (p : Fin 16) (f : RopeFrame) : Nat := if f.type = 1 then 1 + s.readUnits p f else 1

/-- Credit for a response is held (R290). -/
def State.canAnswer (s : State) (p : Fin 16) (f : RopeFrame) : Bool :=
  !isTeam p || decide (s.answerUnits p f ≤ s.fld (pCredit p 2) Fld.ropeCredit_AVAIL)

/-! ### Deduplication (R298) -/

/-- Milliseconds of idleness after which an entry may be taken, in ns. -/
def dedupIdle : Nat := 1000000

/-- Replace the entries of a die; IN_USE follows. -/
def State.setDedup (s : State) (d : Fin 4) (es : List DedupEntry) : State :=
  (s.setRopeDie d { s.ropeDie d with dedup := es }).put (.ropeDedup d) Fld.ropeDedup_IN_USE es.length

/-- What the table of R298 says of a request. -/
inductive Judgement where
  | execute (es : List DedupEntry)
  | recorded (status : Nat)
  | stale
  | full
deriving DecidableEq, Repr

/-- Judge a tag against the entries; what executes comes with the entries that follow, its status still to be recorded. -/
def judgeTag (now node die t : Nat) (es : List DedupEntry) : Judgement :=
  match es.find? (fun e => e.node == node && e.die == die) with
  | some e =>
    let rest := es.filter (fun x => !(x.node == node && x.die == die))
    let back := (e.high + 2 ^ 32 - t) % 2 ^ 32
    if newer 32 t e.high then
      .execute (rest ++ [{ e with high := t, used := now, tags := e.tags.filter (fun x => decide ((t + 2 ^ 32 - x.1) % 2 ^ 32 < 4096)) }])
    else if back < 4096 then
      match e.tags.find? (fun x => x.1 == t) with
      | some x => .recorded x.2
      | none => .execute (rest ++ [{ e with used := now }])
    else .stale
  | none =>
    let fresh : DedupEntry := ⟨node, die, t, [], now⟩
    if es.length < 1024 then .execute (es ++ [fresh])
    else
      let oldest := es.foldl (fun (m : Option DedupEntry) e => match m with
        | some x => if e.used < x.used then some e else some x
        | none => some e) none
      match oldest with
      | some x => if x.used + dedupIdle ≤ now then .execute (es.filter (fun e => e ≠ x) ++ [fresh]) else .full
      | none => .full

/-- Record the status with which a request has ended. -/
def recordTag (node die t status : Nat) (es : List DedupEntry) : List DedupEntry :=
  es.map (fun e => if e.node = node ∧ e.die = die then { e with tags := e.tags ++ [(t, status)] } else e)

/-! ### Serving requests (R274, R288, R290, R298) -/

/-- Execute a WRITE: the bytes go to their address, and the die's engines see them arrive (R182, R261). -/
def State.serveWrite (s : State) (p : Fin 16) (d : Fin 4) (f : RopeFrame) : Nat × State :=
  let w := s.writeBytes ⟨d.val, 6, p.val⟩ colOwner f.addr f.payload
  let mirror := decide (s.mirrorBase 0 ≤ f.addr ∧ f.addr < s.mirrorBase 2)
  let c := w.2.colDie d
  let s1 := if w.1 == .ok && !mirror then w.2.setColDie d { c with arrived := c.arrived ++ [(f.srcNode, f.addr, f.payload.length)] } else w.2
  (w.1.rope, s1.colAdvance d)

/-- Execute a REDUCE: one contribution part (R263, R287). -/
def State.serveReduce (s : State) (d : Fin 4) (f : RopeFrame) : Nat × State :=
  (0, s.contribute d f.phase (bits f.arg 31 16) (bits f.arg 15 14) (bits f.arg 13 8) f.addr f.payload)

/-- A frame leaves the receive buffer; the engine withholds the units of a contribution while its receive area is full
(R263, R292). -/
def State.leaveBuffer (s : State) (p : Fin 16) (f : RopeFrame) (n : Nat) : State :=
  let d : Fin 4 := Fin.ofNat 4 f.dstDie
  if f.type = 3 ∧ s.fld (.colRx d) Fld.colRx_SIZE < s.rxHeld d then
    s.setColDie d { s.colDie d with withheld := (s.colDie d).withheld ++ [(p.val, n)] }
  else s.releaseUnits p f.vc n

/-- Serve a READ, whatever its tag (R288, R298). -/
def State.serveRead (s : State) (p : Fin 16) (via : Nat) (d : Fin 4) (f : RopeFrame) : State :=
  let n := 64 * s.readUnits p f
  let r := s.readBytes ⟨d.val, 6, p.val⟩ colOwner f.addr n
  r.2.2.respond p via f 4 r.2.1.rope (if r.2.1 == .ok then r.1 else zeros n)

/-- Serve a WRITE or REDUCE against the deduplication entries (R298). -/
def State.serveOnce (s : State) (p : Fin 16) (via : Nat) (d : Fin 4) (f : RopeFrame) : State :=
  match judgeTag s.now f.srcNode f.srcDie f.tag (s.ropeDie d).dedup with
  | .recorded st => (s.bump (.ropeRetx d) Fld.ropeRetx_DUP_DISCARD).respond p via f 5 st []
  | .stale => s.respond p via f 6 3 []
  | .full => (s.bump (.ropeDedup d) Fld.ropeDedup_FULL_NACK).respond p via f 6 2 []
  | .execute es =>
    let s1 := s.setDedup d es
    let r := if f.type = 3 then s1.serveReduce d f else s1.serveWrite p d f
    (r.2.setDedup d (recordTag f.srcNode f.srcDie f.tag r.1 (r.2.ropeDie d).dedup)).respond p via f 5 r.1 []

/-- A READ or WRITE meets a location that must wait (R55, R59, R66). -/
def State.requestWaits (s : State) (p : Fin 16) (f : RopeFrame) : Bool :=
  decide (f.type ≤ 2) && s.mustWaitAny [(f.addr, if f.type = 1 then 64 * s.readUnits p f else f.payload.length)]

/-- Serve a request, or hold it: under another phase than CURRENT, without credit for its response, or while a tier makes it wait (R59,
R274, R290). -/
def State.serveRequest (s : State) (p : Fin 16) (via : Nat) (b : List Byte) : State :=
  let f := RopeFrame.parse b
  let d : Fin 4 := Fin.ofNat 4 f.dstDie
  if f.phase ≠ s.colPhaseOf d ∨ s.canAnswer p f = false ∨ s.requestWaits p f = true then s.setPort p { s.port p with held := (s.port p).held ++ [(via, b)] }
  else ((if f.type = 1 then s.serveRead p via d f else s.serveOnce p via d f).leaveBuffer p f (frameUnits b))

/-- Requests that a port holds are judged again, in order. -/
def State.serveHeld (s : State) (p : Fin 16) : State :=
  (s.port p).held.foldl (fun (t : State) b => t.serveRequest p b.1 b.2) (s.setPort p { s.port p with held := [] })

/-- Every port's held requests. -/
def State.serveAll (s : State) : State := allPorts.foldl State.serveHeld s

/-! ### Arrival (R289, R295, R296, R303) -/

/-- The frame passes the in-order check of a team port; otherwise it is discarded, and answered with a NAK when frames are
missing or an acknowledgement when it is a duplicate (R295, R296). -/
def State.seqCheck (s : State) (p : Fin 16) (b : List Byte) : Bool × State :=
  if !isTeam p || unnumbered b then (true, s)
  else
    let expect := s.fld (pSeq p) Fld.ropeSeq_RX_EXPECT
    let seq := beAt b 8 3
    if seq = expect then
      let q := s.port p
      let s1 := (s.put (pSeq p) Fld.ropeSeq_RX_EXPECT (expect + 1)).setPort p { q with unacked := q.unacked + 1 }
      (true, if 64 ≤ q.unacked + 1 then s1.sendLink p false else s1)
    else (false, s.sendLink p (newer 24 seq expect))

/-- A frame discarded by a check other than FCS and ECRC. -/
def State.dropOther (s : State) (p : Fin 16) : State := s.bump (pDisc p) Fld.ropeDisc_OTHER

/-- A port may originate frames of every channel: a spare originates only link control on its team ports (R286). -/
def State.originates (s : State) (p : Fin 16) : Bool := !isTeam p || s.selfNode (portDie p) != spareNode

/-- Corrected FEC symbols of the two receive lanes are counted (R283, R310). -/
def State.countFec (s : State) (p : Fin 16) (n : Nat × Nat) : State :=
  let lane := fun (l : Fin 4) => Reg.ropeLane (portDie p) (portLocal p) l
  let s1 := s.put (lane 2) Fld.ropeLane_FEC_CORR (min (s.fld (lane 2) Fld.ropeLane_FEC_CORR + n.1) (2 ^ 32 - 1))
  s1.put (lane 3) Fld.ropeLane_FEC_CORR (min (s1.fld (lane 3) Fld.ropeLane_FEC_CORR + n.2) (2 ^ 32 - 1))

/-- Checks 3 to 6 of R289, after the room of virtual channel 3 (R290); HELLO is judged by its contents alone, since it is what tells the far end (R305). -/
def State.headerCheck (s : State) (p : Fin 16) (b : List Byte) (misdirected : Bool) : State × Option (List Byte) :=
  let f := RopeFrame.parse b
  let hello := isTeam p && f.type == 0xD
  let own := s.fld (.ropeTimeout (portDie p)) Fld.ropeTimeout_EPOCH
  if misdirected && !hello then (s.dropOther p, none)
  else if f.vc = 3 ∧ s.linkRoom p b = false then (s, none)
  else
    let c := s.seqCheck p b
    if !c.1 then (c.2, none)
    else if f.ver ≠ 1 ∨ f.type = 0 ∨ f.type = 7 ∨ 0xD < f.type then (c.2.dropOther p, none)
    else if crc32c (ecrcBytes b) ≠ f.ecrc then (c.2.bump (pDisc p) Fld.ropeDisc_ECRC_ERR, none)
    else if f.type ≤ 6 ∧ newer 8 own f.epoch then (c.2.dropOther p, none)
    else if f.dstNode = s.selfNode (portDie p) ∨ hello = true ∨ f.relay then (if f.vc = 3 then c.2.takeLink p b else c.2, some b)
    else if f.type ≤ 3 ∧ s.originates p then ((c.2.respond p 0 f 6 1 []).dropOther p, none)
    else (c.2.dropOther p, none)

/-- A frame arrives on a port: what is left of it when a check discards it, and its bytes when none does (R289). -/
def State.arrive (s : State) (p : Fin 16) (x : RxFrame) : State × Option (List Byte) :=
  if !s.portLive p || !s.portIsUp p then (s, none)
  else
    let s0 := s.countFec p x.corrected
    if !x.fcsGood then
      let s1 := s0.bump (pErrs p) Fld.ropeErrs_FCS_ERR
      (if isTeam p then s1.sendLink p true else s1, none)
    else match s0.decapsulate p x.bytes with
      | .foreign => (s0, none)
      | .misdirected b => s0.headerCheck p b true
      | .rope b => s0.headerCheck p b false

/-- A frame is for another device and this one is to relay it (R289, R301). -/
def State.toRelay (s : State) (p : Fin 16) (b : List Byte) : Bool :=
  let f := RopeFrame.parse b
  f.relay && decide (f.dstNode ≠ s.selfNode (portDie p))

/-- What one frame command does: a discarded frame has its discard's effect; a frame of another type is not what the
command names. -/
def State.onFrame (s : State) (p : Fin 16) (x : RxFrame) (type : Nat) (k : State → List Byte → RopeFrame → State) : State :=
  match s.arrive p x with
  | (t, none) => t
  | (t, some b) => if (RopeFrame.parse b).type = type ∧ s.toRelay p b = false then k t b (RopeFrame.parse b) else s

/-- A request enters its channel's buffer and is served or held. -/
def State.onRequest (s : State) (p : Fin 16) (via : Nat) (b : List Byte) (f : RopeFrame) : State :=
  (s.takeUnits p f.vc (frameUnits b)).serveRequest p via b

/-- ROPE_READ: a READ frame arrives (R288, R290). -/
def execRopeRead (p : Fin 16) (x : RxFrame) (s : State) : Host.Outcome State Fault Refusal :=
  .next (s.onFrame p x 1 (fun t b f => t.onRequest p (t.hopSource p x.bytes) b f))

/-- ROPE_WRITE: a WRITE frame arrives (R288, R298). -/
def execRopeWrite (p : Fin 16) (x : RxFrame) (s : State) : Host.Outcome State Fault Refusal :=
  .next (s.onFrame p x 2 (fun t b f => t.onRequest p (t.hopSource p x.bytes) b f))

/-- ROPE_REDUCE: a REDUCE frame arrives (R263, R288, R298). -/
def execRopeReduce (p : Fin 16) (x : RxFrame) (s : State) : Host.Outcome State Fault Refusal :=
  .next (s.onFrame p x 3 (fun t b f => t.onRequest p (t.hopSource p x.bytes) b f))

/-! ### Responses that arrive (R297, R298, R302) -/

/-- A request fails: a UCC record names the destination and the tag, and its engine stops with PEER_LOST (R302, R422). -/
def State.requestFails (s : State) (d : Fin 4) (r : RopeReq) : State :=
  let s1 := (s.dropOpen d r.tag).raise .ucc ⟨d.val, 7, noInst⟩ 0x0112 0 r.tag r.node
  (match r.use with
  | .col i => s1.colStop d 0x07 i (s1.runGroup d i)
  | .mirror => s1.abandonMirror
  | _ => s1).drainAll

/-- What the engine does with the first response of its request. -/
def State.answered (s : State) (d : Fin 4) (r : RopeReq) (status : Nat) (data : List Byte) : State :=
  (match r.use with
  | .col i =>
    if status = 3 then s.colStop d 0x0D i (s.runGroup d i) else s.colAdvance d
  | .mirror => s
  | .restore a => if status = 0 then s.writeMem (colReq d) colOwner a data else s
  | .generation g =>
    if status = 0 then { s with restart := { s.restart with records := assocSet s.restart.records g data } } else s).drainAll

/-- A response is taken for an outstanding tag, or discarded as late (R297). -/
def State.onAnswer (s : State) (p : Fin 16) (b : List Byte) (f : RopeFrame) (k : State → Fin 4 → RopeReq → State) : State :=
  let d : Fin 4 := Fin.ofNat 4 f.dstDie
  let s1 := (s.takeUnits p f.vc (frameUnits b)).releaseUnits p f.vc (frameUnits b)
  match s1.openReq d f.tag with
  | none => s1.bump (.ropeDedup d) Fld.ropeDedup_LATE_RESP
  | some r => k s1 d r

/-- READ_RESP: a READ_RESP frame completes an outstanding read, or is late (R297). -/
def execReadResp (p : Fin 16) (x : RxFrame) (s : State) : Host.Outcome State Fault Refusal :=
  .next (s.onFrame p x 4 (fun t b f => t.onAnswer p b f (fun u d r => (u.dropOpen d r.tag).answered d r (f.arg % 256) f.payload)))

/-- ACK: an ACK frame completes an outstanding request, or is late (R297). -/
def execAck (p : Fin 16) (x : RxFrame) (s : State) : Host.Outcome State Fault Refusal :=
  .next (s.onFrame p x 5 (fun t b f => t.onAnswer p b f (fun u d r => (u.dropOpen d r.tag).answered d r (f.arg % 256) [])))

/-- NACK: WRONG_NODE resolves the slot and resends once, DEDUP_FULL waits for its resend, STALE ends the request (R298,
R299, R302). -/
def execNack (p : Fin 16) (x : RxFrame) (s : State) : Host.Outcome State Fault Refusal :=
  .next (s.onFrame p x 6 (fun t b f => t.onAnswer p b f (fun u d r =>
    match f.arg % 256 with
    | 1 => if r.resolved then u else u.resend d { r with resolved := true } (u.planeOf d r.node).1 false
    | 2 => u.putOpen d { r with refused := true }
    | 3 => u.requestFails d r
    | _ => u)))

/-- DEDUP_FULL_RESEND: 10 µs after a NACK DEDUP_FULL the request is sent again; that is no retransmission (R298). -/
def execDedupFullResend (d : Fin 4) (tag : BitVec 32) (s : State) : Host.Outcome State Fault Refusal :=
  .next (match s.openReq d tag.toNat with
  | some r => if r.refused then s.resend d r r.port false else s
  | none => s)

/-- REQ_TIMEOUT: no response REQ_TIMEOUT after the last transmission: the request goes out again with RETX on the next port
of its plane that is up (R299). -/
def execReqTimeout (d : Fin 4) (tag : BitVec 32) (s : State) : Host.Outcome State Fault Refusal :=
  .next (match s.openReq d tag.toNat with
  | some r => if r.refused then s else s.resend d r (r.port + 1) true
  | none => s)

/-- PATH_LIMIT: PATH_LIMIT has passed since a request's first transmission without a response (R302). -/
def execPathLimit (d : Fin 4) (tag : BitVec 32) (s : State) : Host.Outcome State Fault Refusal :=
  .next (match s.openReq d tag.toNat with
  | some r => s.requestFails d r
  | none => s)

/-! ### Link control (R292, R296, R305, R308, R309) -/

/-- The FREED counts of the far end; an older value is ignored, and AVAIL follows (R292). -/
def State.takeCredit (s : State) (p : Fin 16) (v : Nat) (freed : Nat) : State :=
  let q := s.port p
  if newer 32 freed (q.peerFreed.getD v 0) then
    let s1 := s.setPort p { q with peerFreed := q.peerFreed.set v freed }
    s1.put (pCredit p v) Fld.ropeCredit_AVAIL
      (creditUnits - (s.fld (pCredit p v) Fld.ropeCredit_SENT + 2 ^ 32 - freed) % 2 ^ 32)
  else s

/-- What waited for credit, space or a resume goes on. -/
def State.portGoesOn (s : State) (p : Fin 16) : State := ((s.pump p).serveHeld p).drainAll

/-- CREDIT: a CREDIT frame arrives on a team port (R292). -/
def execCredit (p : Fin 16) (x : RxFrame) (s : State) : Host.Outcome State Fault Refusal :=
  .next (s.onFrame p x 8 (fun t _ f =>
    if isTeam p then
      ((List.range 3).foldl (fun (u : State) v => u.takeCredit p v (leAt f.payload (4 * v) 4)) t).portGoesOn p
    else t))

/-- Frames up to an acknowledged SEQ leave the replay buffer (R296). -/
def State.ackReplay (s : State) (p : Fin 16) (seq : Nat) : State :=
  let q := s.port p
  let kept := q.replay.filter (fun e => newer 24 e.1 seq)
  if kept.length < q.replay.length then s.setPort p { q with replay := kept, replays := 0 } else s

/-- Replay, or retrain after four replays without progress (R296). -/
def State.replayOrRetrain (s : State) (p : Fin 16) : State :=
  if (s.port p).replay.isEmpty then s
  else if 4 ≤ (s.port p).replays then s.retrain p
  else s.replayAll p

/-- LINK: a LINK frame acknowledges frames of a team port, and a NAK has the rest replayed (R296). -/
def execLink (p : Fin 16) (x : RxFrame) (s : State) : Host.Outcome State Fault Refusal :=
  .next (s.onFrame p x 9 (fun t _ f =>
    if isTeam p then
      let t1 := t.ackReplay p f.seq
      (if bit f.arg 0 then t1.replayOrRetrain p else t1).portGoesOn p
    else t))

/-- REPLAY_TIMEOUT: 8 µs with frames unacknowledged and no acknowledgement (R296). -/
def execReplayTimeout (p : Fin 16) (s : State) : Host.Outcome State Fault Refusal :=
  .next (if isTeam p && s.portLive p && s.portIsUp p then s.replayOrRetrain p else s)

/-- CREDIT_REPORT_TIMER: units have stayed unreported for 50 ns, or 100 µs have passed since the last CREDIT frame (R292). -/
def execCreditReportTimer (p : Fin 16) (s : State) : Host.Outcome State Fault Refusal :=
  .next (if isTeam p && s.portLive p && s.portIsUp p then s.sendCredit p else s)

/-- LINK_ACK_TIMER: 1 µs after a frame the receiver acknowledges (R296). -/
def execLinkAckTimer (p : Fin 16) (s : State) : Host.Outcome State Fault Refusal :=
  .next (if isTeam p && s.portLive p && s.portIsUp p && decide (0 < (s.port p).unacked) then s.sendLink p false else s)

/-- A LANE frame names a lane that failed: the port loses it too; the end that transmits on it moves off it, the end that receives on it
aligns and confirms (R308). -/
def State.laneNamed (s : State) (p : Fin 16) (l : Fin 4) : State :=
  if (s.fld (pStatus p) Fld.ropeStatus_LANE_OK).testBit l.val then
    let r := s.laneLost p l true
    if !r.1 then r.2
    else if l.val < 2 then r.2.moveLane p
    else r.2.sendLane p 2 l.val 0
  else s

/-- The far end asks for another pre-emphasis of a transmit lane (R306). -/
def State.setPreEmphasis (s : State) (p : Fin 16) (l v : Nat) : State :=
  s.setPort p { s.port p with preEmphasis := (s.port p).preEmphasis.set l v }

/-- LANE: a LANE frame: 0 a pre-emphasis request, 1 a failed lane, 2 the confirmation of a lane's loss, each with a lane by its number
here; the layout is the model's (R306, R308; log entry 12). -/
def execLane (p : Fin 16) (x : RxFrame) (s : State) : Host.Outcome State Fault Refusal :=
  .next (s.onFrame p x 0xC (fun t _ f =>
    match leAt f.payload 0 1 with
    | 0 => t.setPreEmphasis p (leAt f.payload 1 1) (leAt f.payload 2 1)
    | 1 => t.laneNamed p (Fin.ofNat 4 (leAt f.payload 1 1))
    | 2 => (t.setPort p { t.port p with moving := false }).portGoesOn p
    | _ => t))

/-- The far end of a team port presents itself: another team or slot holds the port down as miscabled (R305). -/
def State.takeHello (s : State) (p : Fin 16) (f : RopeFrame) : State :=
  let d := portDie p
  let team := leAt f.payload 0 2
  let slot := leAt f.payload 2 1
  let node := leAt f.payload 4 4
  let s1 := (s.put (pStatus p) Fld.ropeStatus_PEER_SLOT slot).put (pStatus p) Fld.ropeStatus_PEER_NODE node
  if isTeam p && team != 0x3FFF && s.teamOf d != 0x3FFF && (team != s.teamOf d || slot != farSlot (s.slotOf d) p) then s1.portDown p 4
  else
    let s2 := s1.setPort p { s1.port p with hello := some (team, slot, node, leAt f.payload 8 8) }
    ([0, 1, 2, 3] : List (Fin 4)).foldl State.tryJoin s2

/-- HELLO: a HELLO frame arrives (R259, R305). -/
def execHello (p : Fin 16) (x : RxFrame) (s : State) : Host.Outcome State Fault Refusal :=
  .next (s.onFrame p x 0xD (fun t _ f => t.takeHello p f))

/-- HELLO_TIMER: 100 ms after the last HELLO of a team port (R305). -/
def execHelloTimer (p : Fin 16) (s : State) : Host.Outcome State Fault Refusal :=
  .next (if isTeam p && s.portLive p && s.portIsUp p then s.sendHello p else s)

/-! ### Relaying (R301) -/

/-- The port on which a relayed frame goes on. -/
def State.relayPort (s : State) (d : Fin 4) (node : Nat) : Option (Fin 16) :=
  match s.mateSlot d node with
  | some t =>
    let q : Fin 16 := Fin.ofNat 16 (portTo (s.slotOf d) t)
    if s.portIsUp q then some q else none
  | none =>
    match s.routeOf d node with
    | some r => (allPorts.filter (fun q => !isTeam q)).find? (fun q => r.2.testBit q.val && s.portIsUp q)
    | none => none

/-- The frame has made a team hop already: the hop's sender is not its originator (R301). -/
def State.secondHop (s : State) (p : Fin 16) (b : List Byte) : Bool :=
  isTeam p && decide (s.slotNode (portDie p) (bits (beAt b 11 1) 7 4) ≠ (RopeFrame.parse b).srcNode)

/-- ROPE_RELAY: a frame with RELAY for another node goes on towards it unchanged but for its hop's bytes, or is discarded
(R301). -/
def execRopeRelay (p : Fin 16) (x : RxFrame) (s : State) : Host.Outcome State Fault Refusal :=
  .next (match s.arrive p x with
  | (t, none) => t
  | (t, some b) =>
    if s.toRelay p b then
      if s.secondHop p b then t
      else
        let f := RopeFrame.parse b
        let n := frameUnits b
        match s.relayPort (portDie p) f.dstNode with
        | some q => (t.takeUnits p f.vc n).send q ⟨f.vc, b, none, some (p, n)⟩
        | none => (t.takeUnits p f.vc n).releaseUnits p f.vc n
    else s)

/-! ### IPv6 neighbours, pauses, time (R286, R293, R309) -/

/-- An ICMPv6 checksum. -/
def icmpSum (src dst body : List Byte) : Nat := 0xFFFF - fold16 (onesSum (src ++ dst ++ toBe 4 body.length ++ toBe 4 58 ++ body))

/-- A Neighbor Advertisement of a port (RFC 4861), with its FCS: to an address, from its own. -/
def State.advertise (s : State) (p : Fin 16) (mac : List Byte) (dst : List Byte) (flags : Nat) : State :=
  let own := toBe 16 (s.ropeIp p (s.selfNode (portDie p)) p.val)
  let me := toBe 6 (s.ropeMac p (s.selfNode (portDie p)) p.val)
  let body := fun (c : Nat) => toBe 1 136 ++ toBe 1 0 ++ toBe 2 c ++ toBe 4 flags ++ own ++ toBe 1 2 ++ toBe 1 1 ++ me
  let w := mac ++ me ++ toBe 2 0x86DD ++ toBe 4 (6 * 2 ^ 28) ++ toBe 2 32 ++ toBe 1 58 ++ toBe 1 255 ++ own ++ dst ++
    body (icmpSum own dst (body 0))
  s.emit (.frame p.val (w ++ frameFcs w))

/-- NEIGHBOR_SOLICITATION: a Neighbor Solicitation for the address of a fabric port in IPv6 mode is answered (R286). -/
def execNeighborSolicitation (p : Fin 16) (x : RxFrame) (s : State) : Host.Outcome State Fault Refusal :=
  let rest := x.bytes.drop 12
  let body := (if beAt rest 0 2 = 0x8100 then rest.drop 4 else rest).drop 2
  let src := slice body 8 16
  .next (if s.portLive p && s.portIsUp p && s.ipMode p && x.fcsGood && beAt body 6 1 == 58 && beAt body 7 1 == 255 &&
      beAt body 40 1 == 135 && ofBe (slice body 48 16) == s.ropeIp p (s.selfNode (portDie p)) p.val then
    let t := s.countFec p x.corrected
    if ofBe src = 0 then t.advertise p (toBe 6 0x333300000001) (toBe 16 (0xFF02 * 2 ^ 112 + 1)) (2 ^ 29)
    else t.advertise p (slice x.bytes 6 6) src (2 ^ 30 + 2 ^ 29)
  else s)

/-- Ports of a die. -/
def portsOf (d : Fin 4) : List (Fin 16) := allPorts.filter (fun p => portDie p == d)

/-- TEAM, SLOT and the node identifier of a die. -/
def State.dieName (s : State) (d : Fin 4) : Nat × Nat × Nat := (s.teamOf d, s.slotOf d, s.selfNode d)

/-- What a change of a die's COL_TEAM from an earlier name makes its ports say: HELLO on its team ports when TEAM or SLOT has changed; when the node identifier
has changed, one unsolicited advertisement on each fabric port in IPv6 mode, and job time is the own timestamp on logical node 0 (R286,
R305, R309). -/
def State.announceDie (s : State) (was : Nat × Nat × Nat) (d : Fin 4) : State :=
  let s1 := if s.teamOf d = was.1 ∧ s.slotOf d = was.2.1 then s
    else ((portsOf d).filter (fun p => isTeam p && s.portIsUp p)).foldl State.sendHello s
  if s.selfNode d = was.2.2 then s1
  else
    let s2 := ((portsOf d).filter (fun p => !isTeam p && s.portIsUp p && s.ipMode p)).foldl (fun (t : State) p =>
      t.advertise p (toBe 6 0x333300000001) (toBe 16 (0xFF02 * 2 ^ 112 + 1)) (2 ^ 29)) s1
    if s.selfNode d = 0 then s2.set (.ropeTimeOfs d) 0 else s2

/-- PRIORITY_PAUSE_FRAME: the switch pauses or resumes a priority of a fabric port (R293). -/
def execPriorityPauseFrame (p : Fin 16) (prio : Fin 8) (pause : Bool) (s : State) : Host.Outcome State Fault Refusal :=
  .next (if !isTeam p && s.portLive p && s.portIsUp p then
    let q := s.port p
    let m := ((List.range 3).filter (fun v => s.vcPcp p v == prio.val)).foldl (fun m v => setBit m v pause) q.paused
    (s.setPort p { q with paused := m }).portGoesOn p
  else s)

/-- Job time: timestamp plus OFFSET of the first die (R309). -/
def State.jobTime (s : State) (d : Fin 4) : Nat :=
  (((s.now : Nat) : Int) + signed 63 (s.fld (.ropeTimeOfs d) Fld.ropeTimeOfs_OFFSET)).toNat

/-- The port that leads to the source of job time, and the source's node; `none` for node 0 and without a team (R309). -/
def State.timeSource (s : State) (d : Fin 4) : Option (Fin 16 × Nat) :=
  match s.nodeId d with
  | some 0 => none
  | some n =>
    if n % 8 = 0 then some (8, 0)
    else (s.mateSlot d (n / 8 * 8)).map (fun t => (Fin.ofNat 16 (portTo (s.slotOf d) t), n / 8 * 8))
  | none =>
    if s.teamOf d = 0x3FFF then none
    else (s.mateSlot d (s.teamOf d * 8)).map (fun t => (Fin.ofNat 16 (portTo (s.slotOf d) t), s.teamOf d * 8))

/-- Set a field of ROPE_TIME_OFS on every die out of reset. -/
def State.setTimeOfs (s : State) (f : Fld) (v : Nat) : State := s.putAll .ropeTimeOfs f v

/-- TIME_EXCHANGE: every millisecond the device asks its source of job time. The source is unreachable when its port is down, or when the
question before has had no answer. Logical node 0 is job time itself (R309; log entry 50). -/
def execTimeExchange (s : State) : Host.Outcome State Fault Refusal :=
  let d := (s.upDies).headD 0
  .next (if s.upDies.isEmpty then s
  else match s.timeSource d with
    | none => if s.nodeId d = some 0 then (s.setTimeOfs Fld.ropeTimeOfs_OFFSET 0).setTimeOfs Fld.ropeTimeOfs_STALE 0 else s
    | some (p, node) =>
      if s.portIsUp p then
        let s1 := if (s.port p).asked then s.setTimeOfs Fld.ropeTimeOfs_STALE 1 else s
        (s1.setPort p { s1.port p with asked := true }).send p (s.linkFrame p 0xB 0 (toLe 8 s.now ++ zeros 56) node)
      else s.setTimeOfs Fld.ropeTimeOfs_STALE 1)

/-- TIME: a TIME frame: a question is answered with the receiver's job time, an answer of the source sets OFFSET; the four
timestamps are those of sending and receiving, both ways (R309). -/
def execTime (p : Fin 16) (x : RxFrame) (s : State) : Host.Outcome State Fault Refusal :=
  .next (s.onFrame p x 0xB (fun t _ f =>
    let d := portDie p
    let t1 := leAt f.payload 0 8
    let t2 := leAt f.payload 8 8
    let t3 := leAt f.payload 16 8
    if t3 = 0 then
      t.send p (t.linkFrame p 0xB 0 (toLe 8 t1 ++ toLe 8 (t.jobTime d) ++ toLe 8 (t.jobTime d) ++ zeros 40) f.srcNode)
    else if t.timeSource d = some (p, f.srcNode) then
      let ofs : Int := (((t2 : Int) - (t1 : Int)) + ((t3 : Int) - (t.now : Int))) / 2
      ((t.setPort p { t.port p with asked := false }).setTimeOfs Fld.ropeTimeOfs_OFFSET (unsign 63 ofs)).setTimeOfs Fld.ropeTimeOfs_STALE 0
    else t))

/-! ### Phases change (R274, R276) -/

/-- SWITCH_BARRIER_DONE: the barrier of a SWITCH has returned: CURRENT changes, and requests held for the new phase are
served (R274). -/
def execSwitchBarrierDone (d : Fin 4) (s : State) : Host.Outcome State Fault Refusal :=
  .next (match s.barrierBack d 7 with
  | some run => ((s.colDone d run).enterPhase d (cdArg run.bytes)).serveAll
  | none => s)

/-- RESHARD_BARRIER_DONE: the barrier of a RESHARD has returned: SCRATCH is copied over DST, the phase changes, the new layout is
mirrored, and a marker that waited runs (R275 to R277). -/
def execReshardBarrierDone (d : Fin 4) (s : State) : Host.Outcome State Fault Refusal :=
  .next (match s.barrierBack d 8 with
  | some run =>
    let p := s.colRead d run (cdScratch run.bytes) (cdN run.bytes)
    match p.1 with
    | none => p.2
    | some bs =>
      let q := p.2.colWrite d run (cdDst run.bytes) bs
      if q.1 then ((((q.2.colDone d run).enterPhase d (cdArg run.bytes)).serveAll).mirrorRenew d).tryMark else q.2
  | none => s)

end Sys2Proof.Machine
end

