-- ==== Sys2Proof/Machine/Restart.lean ====
section
/-! DEFINITION. Heartbeats, the restart sequence and fault injection (R303, R416 to R427). -/

namespace Sys2Proof.Machine

/-- Heartbeat and restart as the source of an event (R407; its DIE is the model's). -/
def hbReq : Requester := ⟨5, 20, noInst⟩

/-- STEP of a TARGET that ends a restart (R425). -/
def noTarget : Nat := 2 ^ 40 - 1

/-! ### The team (R257, R258, R418) -/

/-- Team, slot and rank of this device. -/
def State.ownTeam (s : State) : Nat := s.teamOf s.headDie
def State.ownSlot (s : State) : Nat := s.slotOf s.headDie
def State.ownRank (s : State) : Nat := s.rankAt s.headDie s.ownSlot

/-- The device belongs to a team. -/
def State.teamed (s : State) : Bool := s.ownTeam != 0x3FFF

/-- The device holds logical node 0, or is a job of its own. -/
def State.isNodeZero (s : State) : Bool := !s.teamed || s.nodeId s.headDie == some 0

/-- Replace what the device keeps of heartbeats and restarts. -/
def State.setRestart (s : State) (r : RestartState) : State := { s with restart := r }

/-- A slot is in SEEN at a time: a heartbeat within the last 3 ms (R417). -/
def State.slotSeen (s : State) (t : Nat) : Bool :=
  match s.restart.heard.getD t none with
  | some h => decide (s.now < h + 3000000)
  | none => false

/-- SEEN of this device now. -/
def State.seenNow (s : State) : Nat := slotMask (List.range 9) s.slotSeen

/-- Slots other than the own one that are watched: heard of and not left (R418). -/
def State.watched (s : State) : List Nat :=
  (List.range 9).filter (fun t => t != s.ownSlot && (s.restart.heard.getD t none).isSome && !s.restart.leaving.testBit t)

/-- A watched slot is failed by the rule of R419. -/
def State.slotDead (s : State) (t : Nat) : Bool :=
  !s.slotSeen t && s.watched.all (fun u => u == t || !s.slotSeen u || !(s.restart.seenOf.getD u 0).testBit t)

/-- This device is its team's lead: the live member with the lowest rank, never the spare (R418, R419). -/
def State.leads (s : State) : Bool :=
  s.teamed && decide (s.ownRank < 8) &&
  s.watched.all (fun t => s.slotDead t || decide (s.ownRank < s.rankAt s.headDie t))

/-- SEEN and LEAD of FLT_HB follow. -/
def State.hbSync (s : State) : State :=
  (s.put .fltHb Fld.fltHb_SEEN s.seenNow).put .fltHb Fld.fltHb_LEAD (b2n s.leads)

/-- PHASE of FLT_RESTART. -/
def State.restartPhase (s : State) : Nat := s.fld .fltRestart Fld.fltRestart_PHASE

/-- PHASE changes. -/
def State.setRestartPhase (s : State) (p : Nat) : State := s.put .fltRestart Fld.fltRestart_PHASE p

/-- The restart epoch. -/
def State.epoch (s : State) : Nat := s.fld (.ropeTimeout s.headDie) Fld.ropeTimeout_EPOCH

/-- A heartbeat from node 0 to the lead of every other team of the job, which is addressed by the node of its rank 0 (R423). -/
def State.floodLeads (s : State) (h : Heartbeat) : State :=
  if s.isNodeZero && s.teamed && s.portIsUp 8 then
    ((List.range (s.restart.jobSize / 8)).filter (fun t => t != s.ownTeam)).foldl
      (fun (u : State) t => u.send 8 (u.linkFrame 8 0xA 0 h.payload (8 * t))) s
  else s

/-- A heartbeat of the restart goes to the team, and from node 0 to the other teams. -/
def State.spread (s : State) (h : Heartbeat) : State := (s.sendHeartbeat h).floodLeads h

/-! ### The committed step (R228, R425) -/

/-- The fields of a commit record. -/
structure CommitRecord where
  step : Nat
  attempt : Nat
  exp : Nat
  cursor : Nat
  clean : Nat
  skip : Nat
  slot : Nat
deriving DecidableEq, Repr

/-- The commit record in a slot, when its CRC is right. -/
def State.commitAt (s : State) (slot : Nat) : Option CommitRecord :=
  let b := s.peek (s.fld (.optCommitBase s.headDie) Fld.optCommitBase_ADDR + 64 * slot) 64
  if crc64 (b.take 56) = leAt b 56 8 then
    some ⟨leAt b 0 8, leAt b 8 4, leAt b 12 4, leAt b 16 8, leAt b 24 4, leAt b 28 4, slot⟩
  else none

/-- The valid record with the higher ATTEMPT (R228). -/
def State.commitNewest (s : State) : Option CommitRecord :=
  match s.commitAt 0, s.commitAt 1 with
  | some a, some b => if newer 32 b.attempt a.attempt then some b else some a
  | some a, none => some a
  | none, x => x

/-- Step of a generation record whose own CRC is right. -/
def genStep (b : List Byte) : Option Nat := if crc64 (b.take 56) = leAt b 56 8 ∧ b.length = 64 then some (leAt b 0 8) else none

/-- The bits `k` with a step `c - k` among some steps. -/
def reachOf (c : Nat) (steps : List Nat) : Nat := slotMask (List.range 4) (fun k => decide (k ≤ c) && steps.contains (c - k))

/-- REACH: bit 0 from the own state, the others from complete generations at the partner; nothing when the restart cannot
succeed. A spare that has just taken a node has no state of its own: FOREIGN of the partner speaks for it (R425, R427). -/
def State.reachNow (s : State) : Nat :=
  if s.restart.lost then 0
  else if s.restart.promoted then 0xF
  else match s.commitNewest with
    | none => 0
    | some c =>
      let gens := ([0, 1] : List (Fin 2)).filter (fun g => s.isSet (.fltMgen g) Fld.fltMgen_COMPLETE)
      reachOf c.step (c.step :: gens.map (fun g => s.fld (.fltMgen g) Fld.fltMgen_STEP))

/-- FOREIGN: the reach of a failed partner's generations in the own area, or 0xF (R425). -/
def State.foreignNow (s : State) : Nat :=
  if s.isSet .fltMirror Fld.fltMirror_EN && s.restart.failedNodes.contains (s.fld .fltMirror Fld.fltMirror_PARTNER) then
    match s.commitNewest with
    | none => 0
    | some c => reachOf c.step ([0, 1].filterMap (fun g => genStep (s.peek (s.genRecordAddr g) 64)))
  else 0xF

/-! ### Agreeing on a step (R425) -/

/-- Every mask of the reports together. -/
def reachAll (rs : List ReachReport) : Nat := rs.foldl (fun m r => m &&& r.reach &&& r.foreign) 0xF

/-- STEP of this device's committed state, all ones without one. -/
def State.stepC (s : State) : Nat := (s.commitNewest.map CommitRecord.step).getD noTarget

/-- Read requests for both generation records at the partner. -/
def State.askRecords (s : State) : State :=
  let d := s.headDie
  let partner := s.fld .fltMirror Fld.fltMirror_PARTNER
  s.submit d ([0, 1].map (fun g => s.newReq d (.generation g) 1 partner (s.genRecordAddr g) [] 1))

/-- The device pulls a generation: it has taken a failed node, or T is older than C. -/
def State.mustPull (s : State) (t : Nat) : Bool := s.restart.promoted || s.stepC != t

/-- The engines work at the restores of a rollback, or no longer do (R230, R232). -/
def State.rollbackPhase (s : State) (on : Bool) : State := (s.optPhase (if on then 5 else 0)).optBusy on

/-- A TARGET is known (R424 to R426): without a step the restart has failed; otherwise survivors undo the attempt, or a generation
is pulled. -/
def State.takeTarget (s : State) (t : Nat) : State :=
  let s1 := s.put .fltRestart Fld.fltRestart_TARGET t
  if t = noTarget then s1.ucc hbReq 0x0115 0 0
  else
    let s2 := (s1.setRestartPhase 6).rollbackPhase true
    if s2.mustPull t then s2.askRecords else s2.cutAttempt

/-- A TARGET goes on from the lead to its team and from node 0 to every lead, and takes effect here. -/
def State.giveTarget (s : State) (t : Nat) : State :=
  let s1 := if s.fld .fltHb Fld.fltHb_LEAD = 1 ∨ s.isNodeZero = true then
      s.spread { s.heartbeatNow with target := true, step := t }
    else s
  s1.takeTarget t

/-- Node 0 decides once every device of the job is covered: the smallest k whose bit is set (R425). -/
def State.decide0 (s : State) : State :=
  let total := (s.restart.reports.map ReachReport.count).sum
  if s.isNodeZero && s.restartPhase == 5 && decide (s.restart.jobSize ≤ total) then
    match (List.range 4).find? (fun k => (reachAll s.restart.reports).testBit k) with
    | some k => s.giveTarget (s.stepC - k)
    | none => s.giveTarget noTarget
  else s

/-- A report is gathered: a lead passes its complete team's masks up to node 0, which decides (R425). -/
def State.gatherReport (s : State) (r : ReachReport) : State :=
  if s.restart.reports.any (fun x => x.team == r.team && x.slot == r.slot) then s
  else
    let s1 := s.setRestart { s.restart with reports := s.restart.reports ++ [r] }
    let mine := s1.restart.reports.filter (fun x => x.team == s1.ownTeam)
    if s1.isNodeZero then s1.decide0
    else if s1.fld .fltHb Fld.fltHb_LEAD = 1 ∧ r.team = s1.ownTeam ∧ mine.length = 8 then
      if s1.portIsUp 8 then
        s1.sendBeat 8 { s1.heartbeatNow with
          report := true
          reach := mine.foldl (fun m x => m &&& x.reach) 0xF
          foreign := mine.foldl (fun m x => m &&& x.foreign) 0xF
          step := s1.stepC
          count := 8 }
      else s1
    else s1

/-- Phase 5 begins: REACH and FOREIGN of this device are reported (R424, R425). -/
def State.enterAgree (s : State) : State :=
  let s1 := s.setRestart { s.restart with foreign := s.foreignNow }
  let s2 := (s1.put .fltRestart Fld.fltRestart_REACH s.reachNow).setRestartPhase 5
  if s2.teamed && decide (8 ≤ s2.ownRank) then s2
  else
    let own : ReachReport := ⟨s2.ownTeam, s2.ownSlot, s.reachNow, s2.restart.foreign, 1⟩
    let s3 := if s2.teamed then s2.sendHeartbeat { s2.heartbeatNow with report := true, step := s2.stepC, count := 1 } else s2
    s3.gatherReport own

/-! ### Notice and quiesce (R303, R423, R424) -/

/-- A request that a port holds is of an epoch older than its die's. -/
def State.heldStale (s : State) (p : Fin 16) (x : Nat × List Byte) : Bool :=
  newer 8 (s.fld (.ropeTimeout (portDie p)) Fld.ropeTimeout_EPOCH) (RopeFrame.parse x.2).epoch

/-- A frame that waits to be sent is a request of this device. -/
def TxFrame.isOwnRequest (x : TxFrame) : Bool := x.buffer.isNone && decide (1 ≤ (RopeFrame.parse x.bytes).type ∧ (RopeFrame.parse x.bytes).type ≤ 3)

/-- A port after EPOCH has changed: its own requests that still wait are gone, and held requests of an older epoch are discarded as on
arrival (R289, R303). -/
def State.portEpoch (s : State) (p : Fin 16) : State :=
  let q := s.port p
  let s1 := s.setPort p { q with waiting := q.waiting.filter (fun x => !x.isOwnRequest), held := q.held.filter (fun x => !s.heldStale p x) }
  (q.held.filter (s.heldStale p)).foldl (fun (t : State) x =>
    (t.dropOther p).releaseUnits p (RopeFrame.parse x.2).vc (frameUnits x.2)) s1

/-- EPOCH changes on every die; outstanding requests and deduplication entries go (R303, R311). -/
def State.raiseEpoch (s : State) (e : Nat) : State :=
  let s1 := s.putAll .ropeTimeout Fld.ropeTimeout_EPOCH e
  let s2 := { s1 with rope := s1.rope.map (fun r => { r with queue := [], open_ := [] }) }
  allPorts.foldl State.portEpoch ((diesOf 15).foldl (fun (t : State) d => t.setDedup d []) s2)

/-- A node of the own team is failed: its slot is marked, watched no more, and its team port disabled (R419, R424). -/
def State.dropMember (s : State) (node : Nat) : State :=
  match (List.range 9).find? (fun t => decide (s.rankAt s.headDie t < 8) && s.ownTeam * 8 + s.rankAt s.headDie t == node) with
  | none => s
  | some t =>
    if !s.teamed || t == s.ownSlot then s
    else
      let s1 := s.put .fltHb Fld.fltHb_FAILED (setBit (s.fld .fltHb Fld.fltHb_FAILED) t true)
      let s2 := s1.setRestart { s1.restart with heard := s1.restart.heard.set t none }
      let p : Fin 16 := Fin.ofNat 16 (portTo s.ownSlot t)
      let old := s2.fld (pCtrl p) Fld.ropeCtrl_EN
      if s2.portLive p then (s2.put (pCtrl p) Fld.ropeCtrl_EN 0).portEnable p old else s2

/-- Evaluation sequences are cancelled, their requests end with STATUS 4 (R424). -/
def State.evQuiesce (s : State) : State :=
  let hit := s.job.evals.filter EvalReq.admitted
  let s1 := hit.foldl (fun (t : State) e =>
    let t1 := (t.evEnd e 4).setEvals (t.job.evals.filter (fun y => y.index != e.index))
    if t1.seqState e.seq = 0 ∨ t1.seqState e.seq = 5 then t1 else t1.kvCancel e.seq 3) s
  if s1.kvOn then s1.kvProgress else s1

/-- Phase 3 (R424). -/
def State.quiesce (s : State) : State :=
  let s1 := s.stopAll.mediaCancel.tokCancel.augCancel.evQuiesce.abandonMirror
  s1.upDies.foldl (fun t d => t.colAbandon d) s1

/-- A restart begins, or begins again at phase 3 with the failed nodes taken together (R423, R427). -/
def State.beginRestart (s : State) (e node : Nat) : State :=
  let going := 1 ≤ s.restartPhase ∧ s.restartPhase < 8
  let before := if going then s.restart.failedNodes else []
  let nodes := if node = noNode ∨ before.contains node = true then before else before ++ [node]
  let s1 := (s.raiseEpoch e).put .fltHb Fld.fltHb_FAILED 0
  let s2 := s1.setRestart { s1.restart with
    notice := true
    failedNode := node
    failedNodes := nodes
    promote := false
    reports := []
    records := []
    pulling := none
    lost := if going then s1.restart.lost else false
    promoted := if going then s1.restart.promoted else false }
  let s3 := (nodes.foldl State.dropMember s2).setRestartPhase 3
  let s4 := s3.spread s3.heartbeatNow
  if s4.isNodeZero then s4.quiesce
  else if s4.fld .fltHb Fld.fltHb_LEAD = 1 ∧ s4.portIsUp 8 = true then (s4.sendBeat 8 s4.heartbeatNow).quiesce
  else s4.quiesce

/-- A notice is adopted when its epoch is newer; one of the same epoch joins its node to the restart (R423). -/
def State.takeNotice (s : State) (e node : Nat) : State :=
  if newer 8 e s.epoch then s.beginRestart e node
  else if e = s.epoch ∧ s.restart.notice = true ∧ node ≠ noNode ∧ s.restart.failedNodes.contains node = false ∧ s.restartPhase ≤ 4 then
    (s.setRestart { s.restart with failedNodes := s.restart.failedNodes ++ [node] }).dropMember node
  else s

/-- NOTICE: runtime software sends a notice, or one arrives beside the heartbeats: a new epoch with the failed node, all ones for
a restart without promotion (R423). -/
def execRestartNotice (epoch : BitVec 8) (failed : BitVec 32) (s : State) : Host.Outcome State Fault Refusal :=
  .next (if s.doms.main then s.takeNotice epoch.toNat failed.toNat else s)

/-- QUIESCE_COMPLETE: operations and descriptors issued have completed: a team that lost a member promotes its spare, the
others agree (R424). -/
def execQuiesceComplete (s : State) : Host.Outcome State Fault Refusal :=
  .next (if s.restartPhase == 3 && s.allStopped then
    let s1 := s.runsOff
    let mine := s1.restart.failedNodes.filter (fun n => s1.teamed && n / 8 == s1.ownTeam)
    match mine with
    | [] => s1.enterAgree
    | n :: more =>
      let rank := n % 8
      let slots := List.range 9
      let gone := slots.find? (fun t => s1.rankAt s1.headDie t == rank)
      let spare := slots.find? (fun t => s1.rankAt s1.headDie t == 15)
      let bad := s1.restart.spareGone || !more.isEmpty
      if bad then (s1.setRestart { s1.restart with lost := true }).enterAgree
      else
        match s1.leads, gone, spare with
        | true, some t, some u =>
          let old := s1.fld (.colTeam s1.headDie) Fld.colTeam_MAP
          let m := fput (fput (BitVec.ofNat 64 old) ⟨4 * t + 3, 4 * t⟩ 15) ⟨4 * u + 3, 4 * u⟩ rank
          let s2 := (s1.setRestart { s1.restart with promote := true, map := m.toNat }).setRestartPhase 4
          s2.sendHeartbeat s2.heartbeatNow
        | _, _, _ => s1.setRestartPhase 4
  else s)

/-- Every member writes MAP; descriptors of the attempt are abandoned; the spare takes the node and announces it (R258, R278,
R304, R424). -/
def State.takePromote (s : State) (m : Nat) : State :=
  let was := s.ownRank
  let s1 := s.putAll .colTeam Fld.colTeam_MAP m
  let mine := was == 15 && decide (s1.ownRank < 8)
  let s2 := s1.upDies.foldl (fun t d => t.colAbandon d) s1
  let s3 := s2.setRestart { s2.restart with
    spareGone := true
    promoted := mine || s2.restart.promoted }
  (s3.upDies.foldl (fun (t : State) d => t.announceDie (s.dieName d) d) s3).hbSync.enterAgree

/-- PROMOTE: a PROMOTE of the lead with the new MAP, in phase 4 (R424). -/
def execRestartPromote (map : BitVec 36) (s : State) : Host.Outcome State Fault Refusal :=
  .next (if s.restartPhase == 4 then s.takePromote map.toNat else s)

/-- A REPORT of the epoch in force: gathered up to phase 5; one without reach that comes later ends the restart (R425). -/
def State.takeReport (s : State) (r : ReachReport) : State :=
  if 3 ≤ s.restartPhase ∧ s.restartPhase ≤ 5 then s.gatherReport r
  else if s.restartPhase = 6 ∧ r.reach = 0 ∧ s.isNodeZero = true then s.giveTarget noTarget
  else s

/-- REPORT: masks REACH and FOREIGN of a member or of a whole team arrive (R425). -/
def execRestartReport (r : ReachReport) (s : State) : Host.Outcome State Fault Refusal := .next (s.takeReport r)

/-- A TARGET arrives in phase 5, or one that ends the restart later. -/
def State.onTarget (s : State) (t : Nat) : State :=
  if s.restartPhase = 5 ∨ (s.restartPhase = 6 ∧ t = noTarget) then s.giveTarget t else s

/-- TARGET: the step that node 0 chose, or all ones (R425). -/
def execRestartTarget (step : BitVec 40) (s : State) : Host.Outcome State Fault Refusal := .next (s.onTarget step.toNat)

/-- AGREE_BOUND_EXPIRY: COUNT did not reach the job's size within the bound of phase 5 (R425). -/
def execAgreeBoundExpiry (s : State) : Host.Outcome State Fault Refusal :=
  .next (if s.restartPhase == 5 && s.isNodeZero then s.giveTarget noTarget else s)

/-! ### Restore, refill, resume (R424, R426) -/

/-- The device cannot restore: it reports no reach, and node 0 ends the restart (R425). -/
def State.restoreFails (s : State) : State :=
  let s1 := (s.setRestart { s.restart with lost := true }).rollbackPhase false
  if s1.isNodeZero then s1.giveTarget noTarget
  else s1.sendHeartbeat { s1.heartbeatNow with report := true, reach := 0, step := s1.stepC, count := 1 }

/-- The step-level registers take the commit record's values (R426). -/
def State.loadCommit (s : State) (c : CommitRecord) : State :=
  let s1 := ((s.putAll .optStep Fld.optStep_STEP c.step).putAll .optCursor Fld.optCursor_CURSOR c.cursor).putAll .optAttempt
    Fld.optAttempt_SKIP c.skip
  ((s1.putAll .optAttempt Fld.optAttempt_ATTEMPT c.attempt).putAll .optLscale Fld.optLscale_EXP c.exp).putAll .optLscale
    Fld.optLscale_CLEAN c.clean

/-- Every fusion buffer's count becomes (ATTEMPT << 4) | 0xF (R426). -/
def State.setBuffers (s : State) (attempt : Nat) : State :=
  let v := (attempt * 16 + 15) % 2 ^ 32
  s.upDies.foldl (fun (t : State) d =>
    ((List.range 256).foldl (fun (u : State) b => u.put (.trvFbuf d (Fin.ofNat 256 b)) Fld.trvFbuf_COUNT v) t).trvSyncDie d) s

/-- One page of a training sequence is gone: its frame is FREE and its entry zero. -/
def State.clearPage (n : Nat) (s : State) (x : Nat × Nat) : State :=
  let e := s.pte n x.1 x.2
  (s.kvFree (e.tier - 1) e.frame).writeMem kvReq 0 (s.pteAddr n x.1 x.2) (zeros 8)

/-- The page tables of training sequences are zeroed (R424). -/
def State.clearTraining (s : State) : State :=
  if s.kvOn then
    let ns := (s.seqsIn (fun st => st != 0)).filter s.seqTrain
    ns.foldl (fun (t : State) n => ((t.seqPages n).foldl (State.clearPage n) t).seqPut n 0 4 0) s
  else s

/-- The engine forgets the attempt; NF and SAT of its lanes stand until the next marker (R121). -/
def State.forgetAttempt (s : State) (d : Fin 4) : State :=
  (s.setOptDie d { OptDie.idle with nf := (s.optDie d).nf, nfCause := (s.optDie d).nfCause, sat := (s.optDie d).sat }).dropNorms d

/-- Phase 7 begins (R424, R426). -/
def State.enterRefill (s : State) (c : CommitRecord) : State :=
  let s1 := (s.loadCommit c).setBuffers c.attempt
  let s2 := s1.upDies.foldl State.forgetAttempt (s1.rollbackPhase false)
  let s3 := { s2.setStep { StepState.idle with commitSlot := 1 - c.slot } with job := { s2.job with attemptOpen := false } }
  let s4 := s3.clearTraining
  let ph := (s4.job.plan.map Plan.phase).getD 0
  (s4.putAll .colPhase Fld.colPhase_CURRENT ph).setRestartPhase 7

/-- The commit record of the step T: of two, the one with the higher ATTEMPT (R228, R230). -/
def State.commitOf (s : State) (t : Nat) : Option CommitRecord :=
  ((s.commitNewest.toList ++ [0, 1].filterMap s.commitAt)).find? (fun c => c.step == t)

/-- The data of the generation that was pulled is right (R421, R425). -/
def State.pullGood (s : State) (g : Nat) : Bool :=
  crc64 (s.mirrorSet.flatMap (fun x => s.peek x.1 x.2)) == leAt ((assocGet s.restart.records g).getD []) 24 8

/-- Read requests for the regions of a generation, in ascending region order. -/
def State.pullRegions (s : State) (g : Nat) : State :=
  let d := s.headDie
  let partner := s.fld .fltMirror Fld.fltMirror_PARTNER
  s.submit d (((s.mirrorSet).foldl (fun (acc : List RopeReq × Nat) x =>
    (acc.1 ++ s.readReqs d partner (s.mirrorBase g + acc.2) x.2 x.1, acc.2 + x.2)) ([], 0)).1)

/-- A request of a pull. -/
def RopeUse.isPull : RopeUse → Bool
  | .restore _ => true
  | .generation _ => true
  | _ => false

/-- RESTORE_COMPLETE: the restore has come to its next end: generation records are there and the one of step T is chosen and
pulled; or the data are complete and right, or the attempt is undone, and phase 7 begins (R424 to R426). -/
def execRestoreComplete (s : State) : Host.Outcome State Fault Refusal :=
  let t := s.fld .fltRestart Fld.fltRestart_TARGET
  .next (if s.restartPhase == 6 && t != noTarget && !s.busyWith s.headDie RopeUse.isPull &&
      s.kv.moves.all (fun m => !s.seqTrain m.seq) then
    let finish := fun (u : State) => match u.commitOf t with
      | some c => u.enterRefill c
      | none => u.restoreFails
    match s.restart.pulling with
    | some g => if s.pullGood g then finish s else s.restoreFails
    | none =>
      if s.mustPull t then
        match s.restart.records.find? (fun r => genStep r.2 == some t) with
        | some r => (s.setRestart { s.restart with pulling := some r.1 }).pullRegions r.1
        | none => s.restoreFails
      else finish s
  else s)

/-- REFILL_COMPLETE: the barrier over the job group runs (R424). -/
def execRefillComplete (s : State) : Host.Outcome State Fault Refusal :=
  .next (if s.restartPhase == 7 then s.setRestartPhase 8 else s)

/-- RESUME_BARRIER_DONE: the restart is over; MARK is written on the leader (R424). -/
def execResumeBarrierDone (s : State) : Host.Outcome State Fault Refusal :=
  .next (if s.restartPhase == 8 then
    let s1 := (s.setRestart { s.restart with
      notice := false
      promote := false
      failedNode := noNode
      failedNodes := []
      reports := []
      records := []
      pulling := none
      foreign := 0xF
      lost := false
      promoted := false }).setRestartPhase 0
    if s1.leader.isSome then
      ((s1.setStep { s1.opt.step with markWaits := true }).putAll .optCtrl Fld.optCtrl_MARK 1).tryMark
    else s1
  else s)

/-- MIRROR_COMPLETE: every write of the generation, the record last, is acknowledged, and no burst of mirroring is stalled by its
contract: FLT_MGEN shows its step (R68, R421). -/
def execMirrorComplete (s : State) : Host.Outcome State Fault Refusal :=
  .next (match s.restart.mirrorSlot with
  | none => s
  | some g =>
    if (diesOf 15).any (fun d => s.busyWith d RopeUse.isMirror) || s.burstStalled s.mirrorReq then s
    else
      let r : Reg := .fltMgen (Fin.ofNat 2 g)
      ((s.put r Fld.fltMgen_WRITING 0).put r Fld.fltMgen_COMPLETE 1).setRestart { s.restart with mirrorSlot := none })

/-! ### Heartbeats (R417 to R419) -/

/-- The lead declares a slot failed (R419): the spare's loss is only recorded; a member's starts a restart with promotion. -/
def State.declareFailed (s : State) (t : Nat) : State :=
  if (s.fld .fltHb Fld.fltHb_FAILED).testBit t then s
  else
    let r := s.rankAt s.headDie t
    let s1 := s.put .fltHb Fld.fltHb_FAILED (setBit (s.fld .fltHb Fld.fltHb_FAILED) t true)
    let s2 := s1.setRestart { s1.restart with heard := s1.restart.heard.set t none }
    if 8 ≤ r then (s2.setRestart { s2.restart with spareGone := true }).correctedEvent hbReq 0x0116 0 0
    else
      let node := s.ownTeam * 8 + r
      let again := s2.restart.failedNodes.any (fun n => n / 8 == s.ownTeam) && 1 ≤ s2.restartPhase
      let s3 := s2.setRestart { s2.restart with lost := s2.restart.lost || again }
      (s3.raise .ucc hbReq 0x0114 0 0 node).beginRestart ((s3.epoch + 1) % 256) node

/-- HB_ENABLE: EN is set after a successful JOIN (R418). -/
def execHbEnable (s : State) : Host.Outcome State Fault Refusal :=
  .next (if s.doms.hk then (s.put .fltHb Fld.fltHb_EN 1).hbSync else s)

/-- HB_DISABLE: EN is cleared: one heartbeat with LEAVING (R418). -/
def execHbDisable (s : State) : Host.Outcome State Fault Refusal :=
  .next (if s.doms.hk && s.isSet .fltHb Fld.fltHb_EN then
    ((s.sendHeartbeat { s.heartbeatNow with leaving := true }).put .fltHb Fld.fltHb_EN 0).put .fltHb Fld.fltHb_LEAD 0
  else s)

/-- FAIL: one heartbeat with FAILING, and EN is cleared (R418). -/
def execHbFail (s : State) : Host.Outcome State Fault Refusal :=
  .next (if s.doms.hk then s.failHeartbeat else s)

/-- HEARTBEAT_TICK: a whole millisecond of job time: SEEN and LEAD, the lead's declarations, then the heartbeats (R418, R419). -/
def execHeartbeatTick (s : State) : Host.Outcome State Fault Refusal :=
  .next (if s.doms.hk && s.isSet .fltHb Fld.fltHb_EN then
    let s1 := s.hbSync
    let s2 := if s1.leads then (s1.watched.filter s1.slotDead).foldl State.declareFailed s1 else s1
    s2.sendHeartbeat s2.heartbeatNow
  else s)

/-- A heartbeat of a slot of the own team (R417 to R419). -/
def State.hearMember (s : State) (h : Heartbeat) : State :=
  let r := s.restart
  let s1 := s.setRestart { r with
    heard := r.heard.set h.slot (if h.failing then none else some s.now)
    seenOf := r.seenOf.set h.slot h.seen
    leaving := setBit r.leaving h.slot h.leaving }
  let s2 := s1.hbSync
  if h.failing && s2.leads && s2.isSet .fltHb Fld.fltHb_EN then s2.declareFailed h.slot else s2

/-- What a heartbeat carries beside the watch (R423 to R425). -/
def State.hearFlags (s : State) (h : Heartbeat) : State :=
  let s1 := if h.notice then s.takeNotice h.epoch h.failed else s
  if h.epoch ≠ s1.epoch then s1
  else
    let s2 := if h.promote && h.team == s1.ownTeam && s1.restartPhase == 4 then s1.takePromote h.map else s1
    let s3 := if h.report then s2.takeReport ⟨h.team, h.slot, h.reach, h.foreign, h.count⟩ else s2
    if h.target then s3.onTarget h.step else s3

/-- HEARTBEAT: a HEARTBEAT frame arrives: slots heard, FAILING, LEAVING, and the restart's flags (R417 to R425). -/
def execRopeHeartbeat (p : Fin 16) (x : RxFrame) (s : State) : Host.Outcome State Fault Refusal :=
  .next (s.onFrame p x 0xA (fun t b f =>
    let h := Heartbeat.parse f.payload
    let t1 := (t.takeUnits p f.vc (frameUnits b)).releaseUnits p f.vc (frameUnits b)
    let t2 := if t1.teamed && h.team == t1.ownTeam && decide (h.slot < 9) && h.slot != t1.ownSlot then t1.hearMember h else t1
    t2.hearFlags h))

/-! ### Fault injection (R416) -/

/-- The last event raised carries INJECTED and its class. -/
def State.markInjected (s : State) (cls : FaultClass) (die block inst code : Nat) : State :=
  match s.faults.queue.reverse with
  | [] => s
  | e :: es => { s with faults := { s.faults with queue := es.reverse ++ [{ e with
      cls := cls
      die := die
      block := block
      inst := inst
      code := code
      injected := true }] } }

/-- An event of a block with its own stop stops it as a real one would (R144, R172, R231, R280); every other event is only raised. -/
def State.injectAt (s : State) (cls : FaultClass) (die block inst code : Nat) : State :=
  let d : Fin 4 := Fin.ofNat 4 die
  let up := decide (die < 4) && s.doms.compute.testBit die && cls != .corrected
  let plain := s.raise cls ⟨die, block, inst⟩ code 0 0
  if up && block == 1 && decide (inst < 11) && code != 0x0A && code != 0x16 then
    let k : Fin 11 := Fin.ofNat 11 inst
    s.tcStop d k code (s.tcPcOf d k) noSlot
  else if up && block == 2 && decide (inst < 22) && code != 0x11 then
    let j : Fin 22 := Fin.ofNat 22 inst
    s.trvStop d j code (s.trvPcOf d j) 0xF 0
  else if up && block == 3 && code != 0x05 then s.optStop d code 0xFFFF
  else if up && block == 4 && code != 0x0B && code != 0x0C then s.colStop d code 0xFFFF 0xFFFF
  else plain

/-- FLT_INJECT: a write of FLT_INJECT: in factory test mode it raises the event it names, with its consequences; otherwise, or
with another CLASS, it is refused (R416). -/
def execFltInject (w : Word) (s : State) : Host.Outcome State Fault Refusal :=
  let code := fget w Fld.fltInject_CODE
  let die := fget w Fld.fltInject_DIE
  let block := fget w Fld.fltInject_BLOCK
  let inst := fget w Fld.fltInject_INSTANCE
  let cls : Option FaultClass := match fget w Fld.fltInject_CLASS with
    | 1 => some .corrected
    | 2 => some .ucc
    | 4 => some .fatal
    | _ => none
  .next (if !s.doms.hk then s
  else if !s.isSet .fltStatus Fld.fltStatus_FACTORY then s.fltRefused
  else if fget w Fld.fltInject_GO = 0 then s
  else match cls with
    | none => s.fltRefused
    | some c =>
      let s1 := (s.injectAt c die block inst code).markInjected c die block inst code
      if c = .fatal ∧ code = 0x0125 then s1.failHeartbeat.stopClocks 1
      else if c = .fatal ∧ code = 0x0124 then s1.failHeartbeat.stopClocks 2
      else s1)

end Sys2Proof.Machine
end

