-- ==== Sys2Proof/Machine/RegEffects.lean ====
section
/-! DEFINITION. What a software access to a register sets off: REGISTER_WRITE, which every requester that reaches the register
area shares (R12 to R16, R477), and the read of CLAIM. -/

namespace Sys2Proof.Machine

/-- The state that a command leaves. -/
def State.by (s : State) (f : State → Host.Outcome State Fault Refusal) : State :=
  match f s with
  | .next t => t
  | .fault _ => s
  | .refused _ => s

/-- A write touches a field. -/
def touched (wm : Word) (f : Fld) : Bool := wm &&& f.mask != 0

/-- LOAD in BC_JOB_CTRL: refused while a job owns the device; otherwise STATE is LOADING until JOB_LOAD resolves it (R233, R237). -/
def State.loadRequest (s : State) : State :=
  if s.noJob then (s.put .bcJobCtrl Fld.bcJobCtrl_LOAD 1).put .bcJobStatus Fld.bcJobStatus_STATE 1
  else s.jobOutcome s.jobState 1 0

/-- NT_KV_CMD (R94): the four operations; a reserved one answers 5. -/
def State.kvCommandWrite (s : State) (w : Word) : State :=
  let n := BitVec.ofNat 16 (fget w Fld.ntKvCmd_SEQ)
  if fget w Fld.ntKvCmd_GO = 1 then
    match fget w Fld.ntKvCmd_OP with
    | 1 => s.by (execAdmit n)
    | 2 => s.by (execResume n)
    | 3 => s.by (execCancel n)
    | 4 => s.by (execPreempt n)
    | _ => s.kvStatus n.toNat 5
  else s

/-- LDG_MARCH (R188 to R190). -/
def State.marchWrite (s : State) (d : Fin 4) (w : Word) : State :=
  let banks := BitVec.ofNat 48 (fget w Fld.ldgMarch_BANKS)
  if fget w Fld.ldgMarch_GO = 0 then s
  else if fget w Fld.ldgMarch_TRANSP = 1 then s.by (execMarchTransparent d banks) else s.by (execMarchDestructive d banks)

/-- LDG_REPAIR (R191, R192): the four operations; a reserved one answers 2. -/
def State.repairWrite (s : State) (d : Fin 4) (w : Word) : State :=
  let g := Fin.ofNat 256 (fget w Fld.ldgRepair_SUB)
  let row := Fin.ofNat 1024 (fget w Fld.ldgRepair_ROW)
  if fget w Fld.ldgRepair_GO = 1 then
    match fget w Fld.ldgRepair_OP with
    | 1 => s.by (execSoft d g row)
    | 2 => s.by (execSoftCopy d g row)
    | 3 => s.by (execFuse d g row)
    | 4 => s.by (execRelease d g row)
    | _ => if s.repairReady d then s.repairStatus d g.val 2 else s
  else s

/-- FLT_HB (R418): FAIL, or a change of EN. -/
def State.hbWrite (s : State) (wm w : Word) : State :=
  let en := fget w Fld.fltHb_EN == 1
  if fget w Fld.fltHb_FAIL = 1 then s.by execHbFail
  else if touched wm Fld.fltHb_EN && en != s.isSet .fltHb Fld.fltHb_EN then
    if en then s.by execHbEnable else s.by execHbDisable
  else s

/-- RUN and STOP of a tensor core (R148). -/
def State.tcCtrlWrite (s : State) (d : Fin 4) (k : Fin 11) (wm w : Word) : State :=
  let s1 := if touched wm Fld.tcCtrl_RUN then
      (if fget w Fld.tcCtrl_RUN = 1 then (if s.isSet (.tcCtrl d k) Fld.tcCtrl_RUN then s else s.by (execTcRun d k))
       else s.tcStopWrite d k)
    else s
  if fget w Fld.tcCtrl_STOP = 1 then s1.tcStopWrite d k else s1

/-- RUN and STOP of a traverse engine (R174). -/
def State.trvCtrlWrite (s : State) (d : Fin 4) (j : Fin 22) (wm w : Word) : State :=
  let s1 := if touched wm Fld.trvCtrl_RUN then
      (if fget w Fld.trvCtrl_RUN = 1 then (if s.isSet (.trvCtrl d j) Fld.trvCtrl_RUN then s else s.by (execTrvRun d j))
       else s.trvStopWrite d j)
    else s
  if fget w Fld.trvCtrl_STOP = 1 then s1.trvStopWrite d j else s1

/-- A write of BC_JOB_CTRL: LOAD, then ABORT, then END (R233, R236, R237). -/
def State.jobCtrlWrite (s : State) (w : Word) : State :=
  let s1 := if fget w Fld.bcJobCtrl_LOAD = 1 then s.loadRequest else s
  let s2 := if fget w Fld.bcJobCtrl_ABORT = 1 then s1.abortRequest else s1
  if fget w Fld.bcJobCtrl_END = 1 then s2.endRequest else s2

/-- The substitute bases are kept with the retirement tables in the repair record (R55, R359). -/
def State.keepSubst (s : State) (st : Fin 8) : State :=
  let base := s.fld (.ntSubstBase st) Fld.ntSubstBase_BASE
  if s.repair.record.subst.getD st.val 0 = base then s
  else s.setRecord { s.repair.record with subst := (List.range 8).map (fun i => if i = st.val then base else s.repair.record.subst.getD i 0) }

/-- What a software write sets off once its plain fields hold the new value: `old` is the word before it, `wm` the bits it covers
and `v` the value written. -/
def State.regEffect (s : State) (r : Reg) (old wm v : Word) : State :=
  let w := v &&& wm
  let m := (old &&& ~~~wm) ||| w
  match r with
  | .hkBootCtrl => if fget w Fld.hkBootCtrl_DIE_RESET = 0 then s else s.by (execDieReset (BitVec.ofNat 4 (fget w Fld.hkBootCtrl_DIE_RESET)))
  | .hkRepairMap n => if touched wm Fld.hkRepairMap_MAP then s.by (execHkRepairMapWrite n (BitVec.ofNat 44 (fget m Fld.hkRepairMap_MAP))) else s
  | .pwrCtrl => if fget m Fld.pwrCtrl_MODE = fget old Fld.pwrCtrl_MODE then s else s.by (execModeChange (Fin.ofNat 4 (fget m Fld.pwrCtrl_MODE)))
  | .fltAck => if touched wm Fld.fltAck_SEQ then s.by (execFltAck (BitVec.ofNat 32 (fget w Fld.fltAck_SEQ))) else s
  | .fltClear => if touched wm Fld.fltClear_SEQ then s.by (execFltClear (BitVec.ofNat 32 (fget w Fld.fltClear_SEQ))) else s
  | .fltInject => s.by (execFltInject w)
  | .ntSubstBase st => s.keepSubst st
  | .fltHb => s.hbWrite wm w
  | .ntRetire =>
    if fget w Fld.ntRetire_GO = 1 then s.by (execNtRetire (Fin.ofNat 8 (fget w Fld.ntRetire_STACK)) (fget w Fld.ntRetire_FRAME)) else s
  | .morRetire =>
    if fget w Fld.morRetire_GO = 1 then s.by (execMorRetire (Fin.ofNat 32 (fget w Fld.morRetire_CHANNEL)) (fget w Fld.morRetire_FRAME)) else s
  | .ntKvCfg =>
    let en := fget m Fld.ntKvCfg_EN == 1
    if en == (fget old Fld.ntKvCfg_EN == 1) then s else s.by (execKvEnable en)
  | .ntKvCmd => s.kvCommandWrite w
  | .medCtrl =>
    let s1 := if fget old Fld.medCtrl_EN = 1 ∧ s.fld .medCtrl Fld.medCtrl_EN = 0 then s.mediaCancel else s
    if touched wm Fld.medCtrl_DEPTH then s1.effectiveDepth else s1
  | .medVpool e => s.poolSync e
  | .tokCtrl => if fget old Fld.tokCtrl_EN = 1 ∧ s.fld .tokCtrl Fld.tokCtrl_EN = 0 then s.tokCancel else s
  | .chkPointState e => s.by (execChkStateWrite (Fin.ofNat 21 e.val) false m 0)
  | .chkPointBytes e => s.by (execChkStateWrite (Fin.ofNat 21 e.val) true m 0)
  | .chkChanState c => s.by (execChkStateWrite (Fin.ofNat 21 (5 + c.val)) false m 0)
  | .chkChanBytes c => s.by (execChkStateWrite (Fin.ofNat 21 (5 + c.val)) true m 0)
  | .bcHart => s.by (execHartRun (BitVec.ofNat 24 (fget m Fld.bcHart_RUN)))
  | .bcJobCtrl => s.jobCtrlWrite w
  | .bcIrqComplete h c => if touched wm Fld.bcIrqComplete_SOURCE then s.complete h c (Fin.ofNat 64 (fget w Fld.bcIrqComplete_SOURCE)) else s
  | .bcIrqTimecmp h => s.compareTimer h
  | .bcIrqMsip => s.setMsip (fget w Fld.bcIrqMsip_MSIP) 0
  | .bcIrqMsipSet => s.setMsip 0 (fget w Fld.bcIrqMsipSet_MSIP)
  | .tcCtrl d k => s.tcCtrlWrite d k wm w
  | .tcProgLimit d k => if touched wm Fld.tcProgLimit_INDEX then s.tcLimit d k (fget m Fld.tcProgLimit_INDEX) else s
  | .tcRemap d => if touched wm Fld.tcRemap_MAP then s.by (execTcRemapWrite d (BitVec.ofNat 44 (fget m Fld.tcRemap_MAP))) else s
  | .trvCtrl d j => s.trvCtrlWrite d j wm w
  | .trvLimit d j => if touched wm Fld.trvLimit_INDEX then s.trvLimitWrite d j (fget m Fld.trvLimit_INDEX) else s
  | .trvPc d j => s.trvSync d j
  | .trvRing d j _ _ => s.trvSync d j
  | .trvFbuf d b =>
    if touched wm Fld.trvFbuf_COUNT then s.by (execFusionCountWrite d b (BitVec.ofNat 32 (fget m Fld.trvFbuf_COUNT)) []) else s
  | .optCtrl d =>
    let s1 := if fget w Fld.optCtrl_MARK = 1 then s.by (execMark d) else s
    let s2 := if fget w Fld.optCtrl_STEP_END = 1 then s1.by (execStepEnd d) else s1
    if fget old Fld.optCtrl_RUN = 0 ∧ s2.isSet (.optCtrl d) Fld.optCtrl_RUN then s2.tryMark else s2
  | .ldgCtrl d => if touched wm Fld.ldgCtrl_POOLED then s.by (execLedgeModeChange d (fget m Fld.ldgCtrl_POOLED == 1)) else s
  | .ldgMarch d => s.marchWrite d w
  | .ldgRepair d => s.repairWrite d w
  | .ldgGive d i => s.by (execLdgGive d [(.basecamp, [(i, w)])])
  | .colCtrl d =>
    let s0 := if fget old Fld.colCtrl_RUN = 0 ∧ s.isSet (.colCtrl d) Fld.colCtrl_RUN then s.verifyMap d else s
    let s1 := if fget w Fld.colCtrl_STOP = 1 then s0.by (execColStop d) else s0
    if fget w Fld.colCtrl_JOIN = 1 then s1.by (execJoin d) else s1
  | .colTeam d => s.announceDie ((s.set (.colTeam d) old).dieName d) d
  | .ropeCtrl d p =>
    let q : Fin 16 := Fin.ofNat 16 (if p.val < 2 then 2 * d.val + p.val else 8 + 2 * d.val + (p.val - 2))
    let s1 := s.portEnable q (fget old Fld.ropeCtrl_EN)
    if fget w Fld.ropeCtrl_RETRAIN = 1 then s1.by (execRetrain q) else s1
  | _ => s

/-- A software write to a register (R12 to R16, R477): its plain fields, then what the write sets off. -/
def State.writeReg (s : State) (r : Reg) (h : Half) (v : Word) : State :=
  if s.domainUp r.domain then (s.writePlain r h v).regEffect r (s.get r) h.mask v else s

/-- REGISTER_WRITE: software writes a register, whole or one half (R12, R14 to R16). A W1C bit that the device sets in
the same cycle remains set (R15). -/
def execRegisterWrite (r : Reg) (h : Half) (v : WriteData) (s : State) : Host.Outcome State Fault Refusal :=
  .next (s.writeReg r h (v.value &&& ~~~(v.same &&& maskOf r.fields (· == .w1c))))

/-- The half of a register that an access of 4 or 8 bytes at an address covers (R12). -/
def halfAt (a size : Nat) : Half := if size = 8 then .whole else if a % 8 = 0 then .low else .high

/-- A value as an access of that half carries it in. -/
def halfIn (h : Half) (v : Nat) : Word := if h = .high then BitVec.ofNat 64 (v % 2 ^ 32 * 2 ^ 32) else BitVec.ofNat 64 v

/-- The value that an access of that half returns. -/
def halfOut (h : Half) (w : Word) : Nat :=
  match h with
  | .whole => w.toNat
  | .low => w.toNat % 2 ^ 32
  | .high => w.toNat / 2 ^ 32

/-- An aligned write to the register area (R12, R16). -/
def State.regAreaWrite (s : State) (a size v : Nat) : State :=
  match Reg.ofAddr (a / 8 * 8) with
  | none => s
  | some r => s.writeReg r (halfAt a size) (halfIn (halfAt a size) v)

/-- An aligned read of the register area (R12, R16). CLAIM shares the offset of THRESHOLD: a read there claims (R380, R382). -/
def State.regAreaRead (s : State) (a size : Nat) : Nat × State :=
  match Reg.ofAddr (a / 8 * 8) with
  | none => (0, s)
  | some (.bcIrqThreshold h c) =>
    if s.doms.main && halfAt a size != .high then s.claim h c false else (0, s)
  | some r => (halfOut (halfAt a size) (s.readReg r), s.afterRead r)

end Sys2Proof.Machine
end

