-- ==== Sys2Proof/Machine/JobLoad.lean ====
section
/-! DEFINITION. The load of a plan image: the ten checks of R233 in their order, and acceptance (R234, R235). -/

namespace Sys2Proof.Machine

/-- A check passes, or answers CODE and DETAIL (R233, R234). -/
abbrev Check := Option (Nat × Nat)

/-- The first check that fails. -/
def firstFail : List Check → Check
  | [] => none
  | some c :: _ => some c
  | none :: l => firstFail l

/-- A check that answers a code and detail when a condition fails. -/
def orCode (ok : Bool) (code detail : Nat) : Check := if ok then none else some (code, detail)

/-! ### Epochs and shape (checks 2 to 4) -/

/-- An allowance entry of the manifest covers an epoch of an interface (R364). -/
def epochAllowed (m : List ManifestEntry) (iface epoch : Nat) : Bool :=
  m.any (fun e => e.kind == 2 && e.versionA % 2 ^ 16 == iface && decide (e.versionB % 2 ^ 16 ≤ epoch) &&
    decide (epoch ≤ e.versionB / 2 ^ 16 % 2 ^ 16))

/-- The manifest allows a plan's epochs (R368). -/
def State.epochsAllowed (s : State) (p : Plan) : Bool :=
  match s.image 1 with
  | none => false
  | some fw =>
    p.ifs.all (fun x => pairListed s.manifest 1 (imageVersion fw) 7 p.version ||
      (epochAllowed s.manifest x.1 x.2 && (imageIfs fw).any (fun e => e.iface == x.1 && decide (e.lo ≤ x.2) && decide (x.2 ≤ e.hi))))


/-- An anchor edge carries no Rope group, a ring edge no host-and-moraine group (R353). -/
def State.edgeRoles (s : State) (e : Fin 8) : Bool :=
  [0, 1].all (fun dir => s.roleCount e dir (if e.val < 4 then 2 else 3) == 0)

/-- A plan's table with the groups that have failed here at code 15; `none` when it breaks R353 or uses a failed group (R356). -/
def State.mergeBelay (s : State) (codes : List Nat) : Option State :=
  let pairs := List.zipWith Prod.mk edgeGroups codes
  let fits := pairs.all (fun x =>
    if s.belayRole x.1.1 x.1.2 == 15 then x.2 == 0 || x.2 == 15 else decide (x.2 ≤ 4))
  let t := s.setBelay codes
  if codes.length == 1024 && fits && belayEdges.all (fun e => t.edgeMinimums e && t.edgeRoles e) then some t else none

/-- The plan's belay table, if it has one, is valid here (R356). -/
def State.belayFits (s : State) (p : Plan) : Bool :=
  match p.belay with
  | none => true
  | some codes => (s.mergeBelay codes).isSome

/-- The shape the plan requires is the device's (R46, R233). -/
def State.shapeFits (s : State) (p : Plan) : Bool :=
  s.isSet .hkShape Fld.hkShape_SHAPE_VALID && shapeKey p.shape == shapeKey (s.get .hkShape).toNat

/-! ### Evaluation slice and stage table (checks 5 and 6) -/

/-- A slice core is a logical core that some physical core of a die in use holds. -/
def State.sliceCoreOk (s : State) (c : Nat) : Bool :=
  decide (c < 40) && s.doms.compute.testBit (c / 10) && (s.coreOf (Fin.ofNat 4 (c / 10)) (c % 10)).isSome

/-- A logical core that a multicast set or an OPT_WORK area of the plan names (R247). -/
def State.trainsOn (s : State) (c : Nat) : Bool :=
  s.allEngines.any (fun e => (List.range 16).any (fun i => (s.fld (.trvMset e.1 e.2 (Fin.ofNat 16 i)) Fld.trvMset_SET).testBit c)) ||
  s.fld (.optWork (Fin.ofNat 4 (c / 10)) (Fin.ofNat 10 (c % 10))) Fld.optWork_SIZE != 0

/-- The evaluation slice is valid (R247). -/
def State.sliceFits (s : State) (p : Plan) : Bool :=
  p.slice.isEmpty ||
  (decide (p.slice.length ≤ 4) && p.slice.all s.sliceCoreOk && p.slice.all (fun c => !s.trainsOn c) &&
    s.isSet .bcEvalRing Fld.bcEvalRing_EN)

/-- Chunk `c` of a stage table. -/
def stageEntry (t : List Byte) (c : Nat) : List Byte := slice t (64 + 16 * c) 16

/-- Every byte is zero. -/
def allZero (bs : List Byte) : Bool := bs.all (· == 0)

/-- The header of a stage table is in range (R242 to R244). -/
def stageHeadOk (t : List Byte) : Bool :=
  let pp := leAt t 0 2
  let v := leAt t 2 1
  let m := leAt t 8 4
  decide (1 ≤ pp ∧ pp ≤ 64 ∧ 1 ≤ v ∧ v ≤ 8 ∧ pp ≤ m ∧ m ≤ 65536 ∧ m % pp = 0 ∧ leAt t 4 2 < pp) &&
  allZero (slice t 3 1) && allZero (slice t 6 2) && allZero (slice t 12 4) && allZero (slice t 24 40) &&
  decide (t.length = 64 + 16 * (pp * v))

/-- Chunk `c` fits its table (R244). -/
def stageChunkOk (t : List Byte) (c : Nat) : Bool :=
  let x := stageEntry t c
  let first := if c = 0 then 0 else leAt (stageEntry t (c - 1)) 0 2 + leAt (stageEntry t (c - 1)) 2 2
  leAt x 0 2 == first && leAt x 2 2 != 0 && leAt x 4 2 != 0 && decide (leAt x 4 2 ≤ leAt t 8 4) && allZero (slice x 6 2)

/-- Activation bytes that this device's position holds (R244). -/
def stageHeld (t : List Byte) : Nat :=
  let pp := leAt t 0 2
  (((List.range (pp * leAt t 2 1)).filter (fun c => c % max 1 pp == leAt t 4 2)).map (fun c =>
    leAt (stageEntry t c) 4 2 * leAt (stageEntry t c) 8 8)).sum

/-- Check 6 (R244). A failure of the header names chunk 0. -/
def stageCheck (t : List Byte) : Check :=
  if !stageHeadOk t then some (6, 0)
  else match (List.range (leAt t 0 2 * leAt t 2 1)).find? (fun c => !stageChunkOk t c) with
    | some c => some (6, c)
    | none => orCode (decide (stageHeld t ≤ leAt t 16 8)) 7 0

/-! ### Contracts and KV frames (checks 7 and 8) -/

/-- Check 7 for one tier: the scrub reservation is not below its floor, as one that is missing is, and the sum of charges is at most
85 % of peak (R67, R69). -/
def State.tierCheck (s : State) (p : Plan) (tier : Nat) : Check :=
  let peak := s.tierPeak tier
  let floorOk := decide (peak * chargeUnit * 5 ≤ classCharge p.contracts tier 5 * 1000)
  orCode (floorOk && decide (tierCharge p.contracts tier peak * 100 ≤ peak * 85 * chargeUnit)) 0x10 tier

/-- The largest page fits in one frame (R76, R78); a reserved FRAME_SIZE holds none. -/
def State.pageFits (s : State) (x : Nat × Bool) : Bool :=
  decide (s.fld .ntKvCfg Fld.ntKvCfg_FRAME_SIZE ≤ 4) && decide (kvBody (!x.2) x.1 + 64 ≤ s.kvFrameSize)

/-- Check 8 (R78, R96). -/
def State.kvCheck (s : State) (p : Plan) : Check :=
  firstFail (orCode (p.pages.all s.pageFits) 0x11 0 ::
    ([0, 1, 2] : List (Fin 3)).map (fun i =>
      orCode (decide (s.fld (.ntKvResv i) Fld.ntKvResv_TRAIN_RESV ≤ s.fld (.ntKvPool i) Fld.ntKvPool_COUNT)) 0x12 i.val))

/-! ### Layer table, programs, retreat log, loss scale (checks 9 and 10) -/

/-- The addresses of a layer-table entry. -/
def leAddrs (x : LayerEntry) : List Nat := (List.range 11).map (fun i => leAt x (16 + 8 * i) 8)

/-- The bits of an entry that are reserved are zero, and its fields lie in their ranges (R207, R208). -/
def leFieldsOk (x : LayerEntry) : Bool :=
  let nm := leNormMax x
  decide (leMode x ≤ 3 ∧ leAt x 3 1 < 16 ∧ leEprog x ≤ 15 ∧ leCbase x ≤ 248 ∧ leDie x ≤ 3) &&
  (leAddrs x).all (fun a => decide (a % 4096 = 0 ∧ a < 2 ^ 48)) && [1, 2, 3, 5, 6, 7].contains (leCfmt x) &&
  allZero (slice x 118 10) && !(f32 nm).isNan && (decide (nm < 2 ^ 31) || nm == 2 ^ 31) &&
  (!leMatrix x || decide (1 ≤ leIter x ∧ leIter x ≤ 8)) && (leMode x != 1 || decide (leNsc x ≤ 15)) &&
  (leMode x != 2 || lePeriod x != 0)

/-- The shape of an entry, and for a matrix entry the work areas of its die, suit its mode (R208). -/
def State.leShapeOk (s : State) (x : LayerEntry) : Bool :=
  if leMatrix x then
    decide (leRows x % 256 = 0 ∧ leCols x % 256 = 0) &&
    (List.range 10).all (fun k => decide (2 ^ 21 ≤ s.fld (.optWork (Fin.ofNat 4 (leDie x)) (Fin.ofNat 10 k)) Fld.optWork_SIZE))
  else decide (leElems x % 32 = 0 ∧ leCols x % 32 = 0)

/-- Entry `i` of a die's table passes R208. -/
def State.leOk (s : State) (d : Fin 4) (i : Nat) : Bool :=
  let x := s.layer d i
  leFieldsOk x && s.leShapeOk x && (List.range i).all (fun j => leW (s.layer d j) != leW x)

/-- One instruction word of a program that an entry names passes R216. A load from, or a store to, a stream that does not exist is
refused like one from stream 4 or to stream 0. -/
def elemWordOk (x : LayerEntry) (w : Nat) : Bool :=
  let i := ElemInstr.ofNat w
  let m2 := leM2 x != 0
  let base := decide (i.op ≤ 0x12) && bits w 3 0 == 0
  if i.op = 0 then base
  else if i.op = 1 then base && decide (i.d ≤ 23 ∧ i.a ≤ 3) && (i.a != 3 || m2)
  else if i.op = 2 then
    base && decide (1 ≤ i.d ∧ i.d ≤ 4) && (i.d != 3 || m2) && (!i.sr || i.d == 4 || (i.d != 1 && leFlag x 3))
  else base && decide (i.d ≤ 23)

/-- The words of a program up to and with its END. -/
def untilEnd : List Nat → List Nat
  | [] => []
  | w :: l => if (ElemInstr.ofNat w).op = 0 then [w] else w :: untilEnd l

/-- The program that an entry names passes R216. -/
def State.leProgOk (s : State) (d : Fin 4) (i : Nat) : Bool :=
  let x := s.layer d i
  (untilEnd ((List.range 32).map (fun j => s.elemWord (Fin.ofNat 4 (leDie x)) (leEprog x) j))).all (elemWordOk x)

/-- Check 9 over the table of one die: the table, then the programs. -/
def State.layerCheck (s : State) (d : Fin 4) : Check :=
  let n := s.fld (.optLtab d) Fld.optLtab_COUNT
  if 4096 < n then some (0x13, 4096)
  else match (List.range n).find? (fun i => !s.leOk d i) with
    | some i => some (0x13, i)
    | none => match (List.range n).find? (fun i => !s.leProgOk d i) with
      | some i => some (0x14, i)
      | none => none

/-- Bytes that an entry takes in the retreat log at most (R222, R224). -/
def leLogBytes (x : LayerEntry) : Nat :=
  let m := rowBytes (momentFmt x) 1
  let m1 := if leMode x = 2 then leRows x * leRows x else leElems x
  let m2 := if leMode x = 2 then leCols x * leCols x else leElems x
  let all := [(leW x, 4 * leElems x), (leM1 x, m * m1), (leM2 x, m * m2), (leResid x, 2 * padded (leElems x)), (leCopy x, copyBytes x),
    (leAux1 x, 4 * (leRows x * leRows x)), (leAux2 x, 4 * (leCols x * leCols x))]
  4096 + ((all.filter (fun t => t.1 != 0)).map (fun t => to4k t.2)).sum

/-- The retreat log of a die holds its entries; mode 3 entries are never logged (R212, R224). -/
def State.logFits (s : State) (d : Fin 4) : Bool :=
  let use := (((s.layersOf d).filter (fun i => leMode (s.layer d i) != 3)).map (fun i => leLogBytes (s.layer d i))).sum
  decide (use ≤ s.fld (.optRlog d) Fld.optRlog_SIZE * 2 ^ 16 / 4)

/-- The loss scale of a die is valid (R232). -/
def State.lscaleOk (s : State) (d : Fin 4) : Bool :=
  let x := s.lossExp d
  let lo := signed 8 (s.fld (.optLscale d) Fld.optLscale_EXP_MIN)
  let hi := signed 8 (s.fld (.optLscale d) Fld.optLscale_EXP_MAX)
  decide (lo ≤ x ∧ x ≤ hi ∧ -126 ≤ lo ∧ hi ≤ 127 ∧ lo ≤ 127 ∧ -126 ≤ hi)

/-! ### The load (R233, R235) -/

/-- The bits by which a register starts or stops a core, an engine, a step or a job: a plan does not write them, since none of these
begins at its load (R235). -/
def startFields : Reg → List Fld
  | .tcCtrl _ _ => [Fld.tcCtrl_RUN, Fld.tcCtrl_STOP]
  | .trvCtrl _ _ => [Fld.trvCtrl_RUN, Fld.trvCtrl_STOP]
  | .optCtrl _ => [Fld.optCtrl_RUN, Fld.optCtrl_MARK, Fld.optCtrl_STEP_END]
  | .colCtrl _ => [Fld.colCtrl_RUN, Fld.colCtrl_STOP, Fld.colCtrl_JOIN]
  | .bcJobCtrl => [Fld.bcJobCtrl_LOAD, Fld.bcJobCtrl_END, Fld.bcJobCtrl_ABORT]
  | _ => []

/-- The value that a plan gives a register. -/
def planWord (r : Reg) (v : Word) : Word := (startFields r).foldl (fun w f => w &&& ~~~f.mask) v

/-- The state with the plan's registers and tables loaded. A check reads the plan's values there; a refused plan leaves nothing. -/
def State.withPlan (s : State) (p : Plan) : State :=
  let s1 := p.tables.foldl (fun (t : State) x => t.writeMem detReq 0x32 x.1 x.2) s
  p.regs.foldl (fun (t : State) x => t.writeReg x.1 .whole (planWord x.1 x.2)) s1

/-- Checks 2 to 10 in order; `t` is the state with the plan loaded (R233). -/
def State.planChecks (s t : State) (p : Plan) : Check :=
  firstFail ([orCode (!s.inHold) 2 0, orCode (s.epochsAllowed p) 3 0, orCode (s.shapeFits p && s.belayFits p) 4 0,
      orCode (t.sliceFits p) 5 0, stageCheck p.stages] ++
    (List.range 4).map (s.tierCheck p) ++ [t.kvCheck p] ++ t.upDies.map t.layerCheck ++
    t.upDies.map (fun d => orCode (t.logFits d) 0x15 0) ++ t.upDies.map (fun d => orCode (t.lscaleOk d) 0x16 0))

/-- A refused load: no part of the plan stays; an END or ABORT that waited is discarded (R233, R237, R356). -/
def State.refuseLoad (s : State) (p : Plan) (c : Nat × Nat) : State :=
  let s1 := if c.1 == 4 && s.isSet .hkShape Fld.hkShape_SHAPE_VALID && !s.belayFits p then s.put .hkBoot Fld.hkBoot_PLAN_BAD 1 else s
  s1.jobCtrlClear.jobOutcome 0 c.1 c.2

/-- The leader of the job: the lowest ridge die of RIDGE_MASK (R206). -/
def State.electLeader (s : State) : State :=
  let l := lowestBit 4 (s.fld .hkShape Fld.hkShape_RIDGE_MASK)
  s.upDies.foldl (fun (t : State) d =>
    (t.put (.optCtrl d) Fld.optCtrl_LEADER (b2n (d.val == l))).put (.optAttempt d) Fld.optAttempt_ATTEMPT 0) s

/-- The EVAL bits: set on the physical cores of the slice (R235, R246). -/
def State.setEval (s : State) (p : Plan) : State :=
  s.allCores.foldl (fun (t : State) c =>
    t.put (.tcCtrl c.1 c.2) Fld.tcCtrl_EVAL (b2n (p.slice.contains (10 * c.1.val + t.logicalOf c.1 c.2) && decide (t.logicalOf c.1 c.2 < 10)))) s

/-- The one action of R235: ledge owners, locks, EVAL bits, fusion counts, and the belay table (R356). -/
def State.oneAction (s : State) (p : Plan) : State :=
  let s1 := p.owners.foldl (fun (t : State) x => if t.ledgeUp x.1 then t.setOwners x.1 x.2.1 x.2.2 else t) s
  let s2 := p.counts.foldl (fun (t : State) x =>
    if t.doms.compute.testBit x.1.val then (t.put (.trvFbuf x.1 x.2.1) Fld.trvFbuf_COUNT x.2.2).trvSyncDie x.1 else t) s1
  let s3 := ((s2.setEval p).electLeader).setLocks 1
  match p.belay with
  | none => s3
  | some codes => (s3.setBelay codes).put .hkBoot Fld.hkBoot_LANE_PLAN 1

/-- An accepted load: `t` is the state with the plan loaded (R235). -/
def State.acceptLoad (t : State) (p : Plan) : State :=
  let was := match p.belay with
    | none => []
    | some _ => t.belayCodes
  let s1 := t.oneAction p
  let s2 := { s1 with
    col := s1.col.map (fun (c : ColDie) => { c with verified := [], next := 0, norms := [] })
    tiers := { s1.tiers with contracts := p.contracts }
    restart := { s1.restart with jobSize := p.size }
    opt := { s1.opt with step := StepState.idle }
    power := { s1.power with firstOfJob := true }
    job := { JobState.none with
      loadTime := s1.now
      idleAt := (List.range 44).map s1.idleOf
      opsAt := (List.range 44).map s1.opsOf
      cyclesAt := (List.range 44).map (fun i => (s1.tcCore (coreAt i).1 (coreAt i).2).cycles)
      plan := some p
      belayWas := was } }
  let s3 := ((s2.putAll .colPhase Fld.colPhase_CURRENT p.phase).set (.hkFw 7) (fput (fput 0 Fld.hkFw_VERSION p.version) Fld.hkFw_VALID 1)).recompute
  let s4 := s3.addf .bcJobStatus Fld.bcJobStatus_JOB_ID 1
  let abort := s4.isSet .bcJobCtrl Fld.bcJobCtrl_ABORT
  let stop := s4.isSet .bcJobCtrl Fld.bcJobCtrl_END
  let s5 := s4.jobCtrlClear.jobOutcome 2 0 0
  if abort then s5.abortRequest else if stop then s5.endRequest else s5

/-- The plan is checked, then accepted or refused. -/
def State.loadPlan (s : State) (p : Plan) : State :=
  let t := s.withPlan p
  match s.planChecks t p with
  | some c => s.refuseLoad p c
  | none => t.acceptLoad p

/-- Where the tables of a plan go, as `(address, bytes)`. -/
def planRanges (p : Plan) : List (Nat × Nat) := p.tables.map (fun x => (x.1, x.2.length))

/-- JOB_LOAD: LOAD in BC_JOB_CTRL with the plan image at BC_JOB_PLAN: the checks of R233, then acceptance or refusal (R233 to
R237). -/
def execJobLoad (plan : Plan) (s : State) : Host.Outcome State Fault Refusal :=
  .next (if !s.doms.main then s
  else if 2 ≤ s.jobState then s.jobOutcome s.jobState 1 0
  else s.awaitBasecamp detReq (planRanges plan) (fun (u : State) => u.loadPlan plan))

end Sys2Proof.Machine
end

