-- ==== Sys2Proof/Machine/Basecamp.lean ====
section
/-! DEFINITION. What a Basecamp hart's access does (R371, R374 to R377), and the messages of the host mailbox (R367, R383, R384). -/

namespace Sys2Proof.Machine

/-! ### I/O ranges (R374, R376, R377, R382) -/

/-- A hart runs. -/
def State.hartRuns (s : State) (h : Fin 24) : Bool := s.doms.main && (s.fld .bcHart Fld.bcHart_RUN).testBit h.val

/-- A hart as a requester. -/
def hartReq (h : Fin 24) : Requester := ⟨4, 17, h.val⟩

/-- The exception of a load or a store. -/
def faultOf (isStore : Bool) : HartException := if isStore then .storeFault else .loadFault

/-- A hart's access within one word of a ledge window (R177, R179, R182, R187, R189). -/
def State.hartLedge (s : State) (h : Fin 24) (d : Fin 4) (o size : Nat) (data : Option Nat) : State :=
  let bs := toLe size (data.getD 0)
  let q : LedgeReq := ⟨hartReq h, 0x32, o, data.isSome, (2 ^ size - 1) * 2 ^ (o % 64), zeros (o % 64) ++ bs⟩
  if s.ownerAt d o == 0x32 && s.ledgeWaits d q then s.setLedge d { s.ledgeOf d with waits := (s.ledgeOf d).waits ++ [q] }
  else match data with
    | none =>
      let p := s.ledgeRead d 0x32 o size
      if p.2.1 = .ok then p.2.2.emit (.hartData h.val p.1) else p.2.2.emit (.exception h.val .loadFault (ledgeAddr d o))
    | some _ =>
      let p := s.ledgeWrite d 0x32 o bs
      if p.1 = .ok then p.2 else p.2.emit (.exception h.val .storeFault (ledgeAddr d o))

/-- HART_IO_ACCESS: a hart reads, or with `data` writes, 2^size bytes of an I/O range (R374, R376, R377). -/
def execHartIoAccess (h : Fin 24) (a : BitVec 48) (size : Fin 4) (data : Option Word) (s : State) :
    Host.Outcome State Fault Refusal :=
  let n := 2 ^ size.val
  .next (if s.hartRuns h then
    match s.decodeAddr a.toNat with
    | .ledge d o =>
      if a.toNat % n ≠ 0 then s.emit (.exception h.val (if data.isSome then .storeMisaligned else .loadMisaligned) a.toNat)
      else s.hartLedge h d o n (data.map BitVec.toNat)
    | .regs _ =>
      if a.toNat % n ≠ 0 then s.emit (.exception h.val (if data.isSome then .storeMisaligned else .loadMisaligned) a.toNat)
      else if n < 4 then s.emit (.exception h.val (faultOf data.isSome) a.toNat)
      else match data with
        | some v => s.regAreaWrite a.toNat n v.toNat
        | none =>
          let p := s.regAreaRead a.toNat n
          p.2.emit (.hartData h.val (toLe n p.1))
    | _ => s
  else s)

/-! ### Cacheable ranges (R371, R374, R375, R377) -/

/-- What a hart's address names: its local SRAM and the boot ROM, which no other requester reaches, or a device address. -/
inductive HartLoc where
  | sram (off : Nat)
  | rom (off : Nat)
  | device
  | io
  | none
deriving DecidableEq, Repr

/-- The physical address space of a hart (R374). -/
def State.hartDecode (s : State) (a : Nat) : HartLoc :=
  if sramBase ≤ a ∧ a < sramBase + sramSize then .sram (a - sramBase)
  else if romBase ≤ a ∧ a < romBase + romSize then .rom (a - romBase)
  else match s.decodeAddr a with
    | .near _ _ => .device
    | .moraine _ _ => .device
    | .host _ _ => .device
    | .ledge _ _ => .io
    | .regs _ => .io
    | .unmapped => .none

/-- Storage keys of a quarter or block that an access to a cacheable line meets an uncorrectable error in. -/
def State.lineKeys (s : State) (a : Nat) (bad : Nat) : List Nat :=
  match s.hartDecode a with
  | .sram o => (bitList 4 bad).map (fun q => 2 ^ 45 + o / 64 * 64 + 16 * q)
  | .device => if bad = 0 then [] else match s.decodeAddr a with
    | .near st o => [s.nearKey st (o / 64 * 64)]
    | .moraine c o => [s.moraineKey c (o / 64 * 64)]
    | _ => []
  | _ => []

/-- Fill of a line from what lies behind the caches: 64 bytes, a status, and the records of the tier (R377). -/
def State.lineFill (s : State) (h : Fin 24) (line : Nat) : List Byte × MemStatus × State :=
  match s.hartDecode line with
  | .sram o =>
    let bad := (List.range 4).any (fun q => s.isBad (2 ^ 45 + o + 16 * q))
    (s.mem.getN (2 ^ 45 + o) 64, if bad then .uncorrectable else .ok, if bad then s.ucc (hartReq h) 0x0101 line 0 else s)
  | .rom o => (s.mem.getN (2 ^ 46 + o) 64, .ok, s)
  | _ => s.readBlock (hartReq h) 0x32 line 64

/-- Bytes written behind the caches within one line: a write-back, or a store that the line cannot hold (R54, R187, R371). -/
def State.lineStore (s : State) (h : Fin 24) (a : Nat) (bs : List Byte) : MemStatus × State :=
  match s.hartDecode a with
  | .sram o =>
    let covered := (List.range 4).filter (fun q => decide (o % 64 ≤ 16 * q ∧ 16 * q + 16 ≤ o % 64 + bs.length))
    (.ok, (covered.foldl (fun (t : State) q => t.setBad (2 ^ 45 + o / 64 * 64 + 16 * q) false) s).store (2 ^ 45 + o) bs)
  | .rom _ => (.unmapped, s)
  | _ => s.writeBlock (hartReq h) 0x32 a bs

/-- What lies behind the caches under a line now, without a record. -/
def State.linePeek (s : State) (line : Nat) : List Byte :=
  match s.hartDecode line with
  | .sram o => s.mem.getN (2 ^ 45 + o) 64
  | .rom o => s.mem.getN (2 ^ 46 + o) 64
  | _ => s.peek line 64

/-- The cached copy of a line: the caches of the harts and clusters are coherent, so there is one (R371). -/
def State.cached (s : State) (line : Nat) : Option CacheLine := s.camp.cache.find? (fun l => l.addr == line)

/-- A cached line replaced, or entered. -/
def State.putLine (s : State) (l : CacheLine) : State :=
  { s with camp := { s.camp with cache := s.camp.cache.filter (fun x => x.addr != l.addr) ++ [l] } }

/-- A cached line dropped. -/
def State.dropLine (s : State) (line : Nat) : State :=
  { s with camp := { s.camp with cache := s.camp.cache.filter (fun x => x.addr != line) } }

/-- A line as a load sees it: the cached copy, or a fill that the caches keep. A clean copy of what an engine or the host has
since written may be read or not: its bytes are undefined (R375). -/
def State.loadLine (s : State) (h : Fin 24) (line : Nat) : List Byte × MemStatus × State :=
  match s.cached line with
  | some l =>
    if l.dirty || l.data == s.linePeek line then (l.data, .ok, s) else (s.freeBytes 64, .ok, s.tookFrees 64)
  | none =>
    let p := s.lineFill h line
    if p.2.1 = .ok then (p.1, .ok, p.2.2.putLine ⟨line, p.1, false, some h.val⟩) else p

/-- Read `n` bytes line by line; `fuel` bounds the lines. The first fault ends it. -/
def State.hartLoad (h : Fin 24) : Nat → State → Nat → Nat → List Byte × MemStatus × State
  | 0, s, _, _ => ([], .ok, s)
  | fuel + 1, s, a, n =>
    if n = 0 then ([], .ok, s)
    else
      let k := min n (64 - a % 64)
      let p := s.loadLine h (a / 64 * 64)
      if p.2.1 ≠ .ok then ([], p.2.1, p.2.2)
      else
        let q := State.hartLoad h fuel p.2.2 (a + k) (n - k)
        (slice p.1 (a % 64) k ++ q.1, q.2)

/-- Store bytes within one line: into the cached copy, filled first when there is none. A line whose fill is uncorrectable takes
the bytes as a partial write and is not cached (R54, R187). -/
def State.storeLine (s : State) (h : Fin 24) (a : Nat) (bs : List Byte) : MemStatus × State :=
  let line := a / 64 * 64
  if (match s.hartDecode a with | .rom _ => true | _ => false) then (.unmapped, s)
  else match s.cached line with
    | some l => (.ok, s.putLine ⟨line, writeAt l.data (a % 64) bs, true, some h.val⟩)
    | none =>
      let p := s.lineFill h line
      if p.2.1 = .ok then (.ok, p.2.2.putLine ⟨line, writeAt p.1 (a % 64) bs, true, some h.val⟩)
      else if p.2.1 = .uncorrectable then p.2.2.lineStore h a bs
      else (p.2.1, p.2.2)

/-- Store bytes line by line; `fuel` bounds the lines. The first fault ends it. -/
def State.hartStore (h : Fin 24) : Nat → State → Nat → List Byte → MemStatus × State
  | 0, s, _, _ => (.ok, s)
  | fuel + 1, s, a, bs =>
    if bs.isEmpty then (.ok, s)
    else
      let p := s.storeLine h a (bs.take (64 - a % 64))
      if p.1 ≠ .ok then p else State.hartStore h fuel p.2 (a + (64 - a % 64)) (bs.drop (64 - a % 64))

/-- A cache-block operation writes a dirty line to its tier (R371). -/
def State.cleanLine (s : State) (h : Fin 24) (line : Nat) : MemStatus × State :=
  match s.cached line with
  | some l =>
    if l.dirty then
      let p := s.lineStore h line l.data
      if p.1 = .ok then (.ok, p.2.putLine { l with dirty := false }) else p
    else (.ok, s)
  | none => (.ok, s)

/-- The outcome of a hart's store or cache-block operation. -/
def State.hartDone (p : MemStatus × State) (h : Fin 24) (a : Nat) : State :=
  if p.1 = .ok then p.2 else p.2.emit (.exception h.val .storeFault a)

/-- Bytes that an operation touches. -/
def HartOp.bytes : HartOp → Nat
  | .load n => n
  | .fetch n => n
  | .store bs => bs.length
  | _ => 1

/-- The lines of an operation, as `(address, bytes)`, that no valid copy holds: they are read from memory (R371). -/
def State.lineRanges (s : State) (a : Nat) (op : HartOp) : List (Nat × Nat) :=
  (List.range (op.bytes / 64 + 2)).filterMap (fun i =>
    let l := a / 64 * 64 + 64 * i
    if l < a + op.bytes ∧ s.cached l = none then some (l, 64) else none)

/-- HART_MEMORY_ACCESS: a hart's access or cache-block operation to a cacheable range; `bad` names the quarters of the line at the
address in which the fill meets an error that the code cannot correct (any of them, for the block of a tier) (R371, R374, R375,
R377). -/
def execHartMemoryAccess (h : Fin 24) (a : BitVec 48) (op : HartOp) (bad : BitVec 4) (s : State) :
    Host.Outcome State Fault Refusal :=
  let line := a.toNat / 64 * 64
  .next (if s.hartRuns h && s.hartDecode a.toNat != .io then
    s.awaitBasecamp (hartReq h) (s.lineRanges a.toNat op) (fun (s : State) =>
    let s1 := (s.lineKeys a.toNat bad.toNat).foldl (fun (t : State) k => t.setBad k true) s
    match op with
    | .load n =>
      let p := State.hartLoad h (n / 64 + 2) s1 a.toNat n
      if p.2.1 = .ok then p.2.2.emit (.hartData h.val p.1) else p.2.2.emit (.exception h.val .loadFault a.toNat)
    | .fetch n =>
      let p := State.hartLoad h (n / 64 + 2) s1 a.toNat n
      if p.2.1 = .ok then p.2.2.emit (.hartData h.val p.1) else p.2.2.emit (.exception h.val .fetchFault a.toNat)
    | .store bs => State.hartDone (State.hartStore h (bs.length / 64 + 2) s1 a.toNat bs) h a.toNat
    | .cboClean => State.hartDone (s1.cleanLine h line) h a.toNat
    | .cboFlush => State.hartDone (match s1.cleanLine h line with
      | (.ok, t) => (.ok, t.dropLine line)
      | p => p) h a.toNat
    | .cboInval => s1.dropLine line)
  else s)

/-! ### The mailbox (R366, R367, R383, R384) -/

/-- The request buffer as bytes. -/
def State.mboxRequest (s : State) : List Byte := (List.range 512).flatMap (fun i => toLe 8 (s.get (.bcMboxReq (Fin.ofNat 512 i))).toNat)

/-- OP, LEN and payload of the request. -/
def State.mboxOp (s : State) : Nat := leAt s.mboxRequest 0 2
def State.mboxLen (s : State) : Nat := leAt s.mboxRequest 8 4
def State.mboxPayload (s : State) : List Byte := slice s.mboxRequest 16 s.mboxLen

/-- Statuses of R384. -/
inductive MboxStatus where
  | ok | unknownOp | badLen | notOpen | driverUntested | access | noEntry | badImage | flashBusy | state | tokenInvalid
deriving DecidableEq, Repr

/-- Their codes. -/
def MboxStatus.code : MboxStatus → Nat
  | .ok => 0
  | .unknownOp => 1
  | .badLen => 2
  | .notOpen => 3
  | .driverUntested => 4
  | .access => 5
  | .noEntry => 6
  | .badImage => 7
  | .flashBusy => 8
  | .state => 9
  | .tokenInvalid => 10

/-- The mailbox status of a dictionary status (R438). -/
def DictStatus.mbox : DictStatus → MboxStatus
  | .ok => .ok
  | .noEntry => .noEntry
  | .access => .access
  | .type => .badLen
  | .range => .state
  | .state => .state
  | .busy => .state
  | .segment => .state

/-- Bytes into the response buffer, whole words at a time. -/
def State.mboxWrite : Nat → State → List Byte → State
  | _, s, [] => s
  | i, s, b :: bs =>
    if i % 8 = 0 then
      State.mboxWrite (i + 1) (s.set (.bcMboxResp (Fin.ofNat 512 (i / 8))) (BitVec.ofNat 64 (ofLe ((b :: bs).take 8)))) bs
    else State.mboxWrite (i + 1) s bs

/-- The response: its header with OP, EPOCH and SEQ of the request, LEN and STATUS, then its payload; DONE sets, GO clears, and DONE
raises the mailbox vector (R383, R384). -/
def State.mboxAnswer (s : State) (st : MboxStatus) (payload : List Byte) : State :=
  let q := s.mboxRequest
  let s1 := State.mboxWrite 0 s (slice q 0 8 ++ toLe 4 payload.length ++ toLe 2 st.code ++ zeros 2 ++ payload)
  ((s1.put .bcMboxCtrl Fld.bcMboxCtrl_GO 0).put .bcMboxCtrl Fld.bcMboxCtrl_DONE 1).msix 1

/-- Firmware serves the mailbox: from S1 on, with a request there (R383, R437). -/
def State.mboxServed (s : State) : Bool :=
  s.doms.main && decide (1 ≤ s.fld .hkShape Fld.hkShape_SVC_LEVEL) && s.isSet .bcMboxCtrl Fld.bcMboxCtrl_GO

/-- Firmware serves the request that waits: one with an OP of no message, or LEN beyond a buffer, is refused; one of another message
is left alone; otherwise `run` answers. -/
def State.mboxServe (s : State) (op : Nat) (run : State → List Byte → State) : State :=
  if !s.mboxServed then s
  else if s.mboxOp = 0 ∨ 8 < s.mboxOp then s.mboxAnswer .unknownOp []
  else if s.mboxOp ≠ op then s
  else if 4080 < s.mboxLen then s.mboxAnswer .badLen []
  else run s s.mboxPayload

/-- A message that needs an opening (R384). -/
def State.mboxOpened (s : State) (run : State) : State := if s.camp.mboxOpen then run else s.mboxAnswer .notOpen []

/-- The opening of the mailbox, with the driver's version and the chosen epoch in HK_FW(6) (R367, R369). -/
def State.setOpening (s : State) (x : Option (Nat × Nat)) : State :=
  let w := match x with
    | some (version, epoch) => fput (fput (fput 0 Fld.hkFw_VERSION version) Fld.hkFw_VALID 1) Fld.hkFw_EPOCH epoch
    | none => 0
  { s.set (.hkFw 6) w with camp := { s.camp with mboxOpen := x.isSome } }

/-- The range of epochs that the manifest allows a driver version, and the firmware's own range (R367). -/
def State.driverRange (s : State) (version : Nat) : Option (Nat × Nat) :=
  match s.image 1 with
  | none => none
  | some fw => match (imageIfs fw).find? (fun e => e.iface == 1) with
    | none => none
    | some e =>
      if pairListed s.manifest 1 (imageVersion fw) 6 version then some (max e.lo e.epoch, min e.hi e.epoch)
      else match s.manifest.find? (fun m => m.kind == 2 && m.versionA % 2 ^ 16 == 1) with
        | some m => some (max e.lo (m.versionB % 2 ^ 16), min e.hi (m.versionB / 2 ^ 16 % 2 ^ 16))
        | none => none

/-- The epoch that Basecamp chooses; `none` when it refuses the driver (R367). -/
def State.chooseEpoch (s : State) (version lo hi : Nat) : Option Nat :=
  match s.driverRange version with
  | some r => if max lo r.1 ≤ min hi r.2 then some (min hi r.2) else none
  | none => none

/-- OPEN: the OPEN message of the mailbox (R367, R384). -/
def execMboxOpen (s : State) : Host.Outcome State Fault Refusal :=
  .next (s.mboxServe 1 (fun t p =>
    if p.length ≠ 8 then t.mboxAnswer .badLen []
    else match t.chooseEpoch (leAt p 0 4) (leAt p 4 2) (leAt p 6 2) with
      | some e => (t.setOpening (some (leAt p 0 4, e))).mboxAnswer .ok (toLe 2 e)
      | none => (t.setOpening none).mboxAnswer .driverUntested []))

/-- DICT_READ: the DICT_READ message (R384, R437). -/
def execMboxDictRead (s : State) : Host.Outcome State Fault Refusal :=
  .next (s.mboxServe 2 (fun t p =>
    if p.length ≠ 3 then t.mboxAnswer .badLen []
    else
      let r := t.dictRead (leAt p 0 2) (leAt p 2 1)
      t.mboxAnswer r.1.mbox (if r.1 = .ok then toLe 1 r.2.1 ++ r.2.2 else [])))

/-- DICT_WRITE: the DICT_WRITE message, journalled with source 2 (R384, R437, R446). -/
def execMboxDictWrite (s : State) : Host.Outcome State Fault Refusal :=
  .next (s.mboxServe 3 (fun t p =>
    if p.length < 3 then t.mboxAnswer .badLen []
    else
      let r := t.dictWrite 2 0 (leAt p 0 2) (leAt p 2 1) none 0 (p.drop 3)
      r.2.mboxAnswer r.1.mbox []))

/-- FW_WRITE: the FW_WRITE message: data at an offset of the slot not in use (R363, R384). -/
def execMboxFwWrite (s : State) : Host.Outcome State Fault Refusal :=
  .next (s.mboxServe 4 (fun t p =>
    if p.length < 5 ∨ 5 + 4064 < p.length then t.mboxAnswer .badLen []
    else if leAt p 0 1 = 0 ∨ 5 < leAt p 0 1 then t.mboxAnswer .state []
    else (t.fwWrite (leAt p 0 1) (leAt p 1 4) (p.drop 5)).mboxAnswer .ok []))

/-- FW_COMMIT: the FW_COMMIT message: the written slot is checked and marked (R361, R384). -/
def execMboxFwCommit (s : State) : Host.Outcome State Fault Refusal :=
  .next (s.mboxServe 5 (fun t p =>
    if p.length ≠ 1 then t.mboxAnswer .badLen []
    else if leAt p 0 1 = 0 ∨ 5 < leAt p 0 1 then t.mboxAnswer .state []
    else
      let r := t.fwCommit (leAt p 0 1)
      r.2.mboxAnswer (if r.1 then .ok else .badImage) []))

/-- FACTORY_TOKEN: the FACTORY_TOKEN message (R366, R384, R416). -/
def execMboxFactoryToken (s : State) : Host.Outcome State Fault Refusal :=
  .next (s.mboxServe 6 (fun t p => t.mboxOpened (
    if p.length ≠ 128 then t.mboxAnswer .badLen []
    else if !t.boot.windowOpen then t.mboxAnswer .state []
    else if t.tokenValid p then t.acceptToken.mboxAnswer .ok []
    else t.mboxAnswer .tokenInvalid [])))

/-- DIAG: the DIAG message: while STATE is NONE it runs a test, whose result the manual does not state (R384). -/
def execMboxDiag (s : State) : Host.Outcome State Fault Refusal :=
  .next (s.mboxServe 7 (fun t p => t.mboxOpened (
    if p.length ≠ 2 then t.mboxAnswer .badLen []
    else if !t.noJob then t.mboxAnswer .state []
    else (t.tookFrees 8).mboxAnswer .ok (t.freeBytes 8))))

/-- CLOSE: the CLOSE message (R384). -/
def execMboxClose (s : State) : Host.Outcome State Fault Refusal :=
  .next (s.mboxServe 8 (fun t p => t.mboxOpened (
    if p.length ≠ 0 then t.mboxAnswer .badLen [] else (t.setOpening none).mboxAnswer .ok [])))

end Sys2Proof.Machine
end

