-- ==== Sys2Proof/Machine/HostLink.lean ====
section
/-! DEFINITION. The PCIe function (R464 to R472): configuration, the three BARs, the link, D3hot, and MSI-X messages. -/

namespace Sys2Proof.Machine

/-- The host's requests reach the function: the PCIe domain is out of reset and the link is up. -/
def State.linkUp (s : State) : Bool := s.doms.pcie && s.pcie.up

/-- The link comes back to a request that waits (R469, R470). -/
def State.wakeRequests (s : State) : State :=
  if s.hostWaits then s
  else s.setPcie { s.pcie with requests := s.pcie.requests.map (fun (q : HostReq) => { q with waiting := false }) }

/-! ### Configuration (R464, R465, R467) -/

/-- Stage 3 has ended (R465). -/
def State.pastStage3 (s : State) : Bool :=
  match s.boot.phase with
  | .stage i => decide (4 ≤ i)
  | .token | .hold | .done | .rerun _ => true
  | _ => false

/-- The bits of a BAR dword that address bits occupy, by the sizes of R466. -/
def barMask (i : Nat) : Nat :=
  match i with
  | 0 => 0xE0000000
  | 2 => 0
  | 3 => 0xFFFFFFF0
  | 4 => 0xFFFFE000
  | _ => 0xFFFFFFFF

/-- The type bits of a BAR dword: 64-bit memory, BAR2 prefetchable (R466). -/
def barFlags (i : Nat) : Nat :=
  match i with
  | 0 => 4
  | 2 => 12
  | 4 => 4
  | _ => 0

/-- Rate codes of the Link Status register, for rates in units of 0.1 GT/s. -/
def rateCode (rate : Nat) : Nat :=
  match rate with
  | 25 => 1
  | 50 => 2
  | 80 => 3
  | 160 => 4
  | 320 => 5
  | 640 => 6
  | _ => 0

/-- Max Payload Size and Max Read Request Size as their 3-bit codes. -/
def sizeCode (n : Nat) : Nat := if n ≤ 128 then 0 else if n ≤ 256 then 1 else if n ≤ 512 then 2 else if n ≤ 1024 then 3 else if n ≤ 2048 then 4 else 5

/-- The Device Serial Number: the management MAC address with 0xFFFE between its third and fourth octets (R464). -/
def serialEui : Nat :=
  let m := Config.macAddress % 2 ^ 48
  m / 2 ^ 24 * 2 ^ 40 + 0xFFFE * 2 ^ 24 + m % 2 ^ 24

/-- The value of a configuration register (R464, R466, R468, R470, R472). -/
def State.cfgRead (s : State) : CfgReg → Nat
  | .vendorDevice => 0x0B021F8C
  | .command => 2 * b2n s.pcie.memEnable + 4 * b2n s.pcie.busMaster
  | .classRevision => 0x12000000 + (if s.a0 then 0x00 else 0x10)
  | .subsystem => 0x0B021F8C
  | .interruptPin => 0
  | .bar i => s.pcie.bars.getD i.val 0 + barFlags i.val
  | .msixControl => 0x000F0011 + b2n s.pcie.funcMask * 2 ^ 30 + b2n s.pcie.msixEnable * 2 ^ 31
  | .powerControl => 8 + 3 * b2n s.pcie.d3hot
  | .deviceControl => sizeCode s.pcie.mps * 2 ^ 5 + sizeCode s.pcie.mrrs * 2 ^ 12
  | .linkStatus => if s.pcie.up then rateCode s.pcie.rate * 2 ^ 16 + s.pcie.width * 2 ^ 20 else 0
  | .serialLow => serialEui % 2 ^ 32
  | .serialHigh => serialEui / 2 ^ 32

/-- The function enters D3hot, or returns to D0 without a reset (R470). -/
def State.setD3hot (s : State) (b : Bool) : State := (s.setPcie { s.pcie with d3hot := b }).wakeRequests

/-- A new Max Payload Size starts the bandwidth computation (R471); a size that the device does not support is not taken (R464). -/
def State.setSizes (s : State) (mps mrrs : Nat) : State :=
  let s1 := if mrrs ≤ 5 then s.setPcie { s.pcie with mrrs := 2 ^ (7 + mrrs) } else s
  if 2 < mps ∨ s1.pcie.mps = 2 ^ (7 + mps) then s1
  else (s1.setPcie { s1.pcie with mps := 2 ^ (7 + mps) }).recompute

/-- A write to a configuration register. -/
def State.cfgWrite (s : State) (r : CfgReg) (v : Nat) : State :=
  match r with
  | .command => (s.setPcie { s.pcie with memEnable := bit v 1, busMaster := bit v 2 })
  | .bar i => s.setPcie { s.pcie with bars := s.pcie.bars.set i.val (v % 2 ^ 32 &&& barMask i.val) }
  | .msixControl => s.setPcie { s.pcie with funcMask := bit v 30, msixEnable := bit v 31 }
  | .powerControl => if v % 4 = 3 then s.setD3hot true else if v % 4 = 0 then s.setD3hot false else s
  | .deviceControl => s.setSizes (bits v 7 5) (bits v 14 12)
  | _ => s

/-- PCIE_CONFIG_REQUEST: a Type 0 configuration read, or with `data` a write, of one dword (R464, R465, R467, R470). -/
def execPcieConfigRequest (r : CfgReg) (data : Option (BitVec 32)) (s : State) : Host.Outcome State Fault Refusal :=
  .next (if !s.linkUp then s
  else if !s.pastStage3 then s.emit (.completion .retry [])
  else match data with
    | none => s.emit (.completion .success (toLe 4 (s.cfgRead r)))
    | some v => (s.cfgWrite r v.toNat).emit (.completion .success []))

/-! ### Unsupported requests (R467, R470) -/

/-- PCIE_UNSUPPORTED_REQUEST: a request that the function does not support (R464, R467). -/
def execPcieUnsupportedRequest (k : HostRequest) (s : State) : Host.Outcome State Fault Refusal :=
  .next (if !s.linkUp then s
  else match k with
    | .ioRead => s.refuseHost true
    | .ioWrite => s.refuseHost true
    | .atomicOp => s.refuseHost true
    | .memRead => s.refuseHost true
    | .memWrite => s.refuseHost false
    | .vendorMessage => s)

/-- A memory request to a BAR is served: the link up, the function in D0, Memory Space Enable set; otherwise it is outside every
BAR, or as R470 says. -/
def State.barServe (s : State) (isRead : Bool) (run : State) : State :=
  if !s.linkUp then s
  else if s.pcie.d3hot || !s.pcie.memEnable then s.refuseHost isRead
  else run

/-! ### BAR0 (R466, R467) -/

/-- BAR0_ACCESS: a host read, or with `data` a write, of `len` bytes at an offset of BAR0; `whole` says that its byte enables are
contiguous and cover it (R12, R466, R467, R470). -/
def execBar0Access (off : BitVec 29) (len : Nat) (whole : Bool) (data : Option Word) (s : State) : Host.Outcome State Fault Refusal :=
  let a := regBase + off.toNat
  .next (s.barServe data.isNone (
    if !(whole && (len == 4 || len == 8) && a % len == 0) then s.refuseHost data.isNone
    else match data with
      | some v => s.regAreaWrite a len v.toNat
      | none =>
        let p := s.regAreaRead a len
        p.2.emit (.completion .success (toLe len p.1))))

/-! ### BAR2 (R466, R467) -/

/-- An aperture reaches no host memory and no register. -/
def State.pastApertures (s : State) (a : Nat) : Bool :=
  match s.decodeAddr a with
  | .host _ _ => true
  | .regs _ => true
  | _ => false

/-- The aperture of an offset in BAR2, and the device address behind the offset (R470). -/
def apertureOf (off : BitVec 36) : Reg := .bcHapt (Fin.ofNat 16 (off.toNat / 2 ^ 32))
def State.apertureAddr (s : State) (off : BitVec 36) : Nat := s.fld (apertureOf off) Fld.bcHapt_BASE * 2 ^ 32 + off.toNat % 2 ^ 32

/-- BAR2_ACCESS: a host read of `len` bytes, or with `data` a write, through an aperture (R466, R467, R470). -/
def execBar2Access (off : BitVec 36) (len : Nat) (data : Option (List Byte)) (s : State) : Host.Outcome State Fault Refusal :=
  let a := s.apertureAddr off
  .next (s.barServe data.isNone (
    if !s.isSet (apertureOf off) Fld.bcHapt_EN || s.pastApertures a then s.refuseHost data.isNone
    else
      let w : WaitingAccess := ⟨hostReq, 0x32, a, len, data⟩
      if s.accessWaits w then s.addWaiting w else s.serve w))

/-! ### BAR4 and MSI-X (R466, R467, R472) -/

/-- Dword `i` of the MSI-X table. -/
def State.msixDword (s : State) (i : Nat) : Nat :=
  let e := s.pcie.table.getD (i / 4) ⟨0, 0, true⟩
  match i % 4 with
  | 0 => e.addr % 2 ^ 32
  | 1 => e.addr / 2 ^ 32
  | 2 => e.data
  | _ => b2n e.masked

/-- The MSI-X table with one dword written. -/
def State.setMsixDword (s : State) (i v : Nat) : State :=
  let e := s.pcie.table.getD (i / 4) ⟨0, 0, true⟩
  let e1 : MsixEntry := match i % 4 with
    | 0 => { e with addr := e.addr / 2 ^ 32 * 2 ^ 32 + v / 4 * 4 }
    | 1 => { e with addr := v * 2 ^ 32 + e.addr % 2 ^ 32 }
    | 2 => { e with data := v }
    | _ => { e with masked := bit v 0 }
  s.setPcie { s.pcie with table := s.pcie.table.set (i / 4) e1 }

/-- A dword of BAR4: the table, the Pending Bit Array, zero elsewhere. -/
def State.bar4Dword (s : State) (o : Nat) : Nat :=
  if o < 256 then s.msixDword (o / 4) else if o = 0x1000 then s.pcie.pba % 2 ^ 16 else 0

/-- A write to a dword of BAR4: only the table takes it. -/
def State.bar4Write (s : State) (o v : Nat) : State := if o < 256 then s.setMsixDword (o / 4) v else s

/-- BAR4_ACCESS: a host access of one dword, or with `wide` of two, at an offset of BAR4 (R466, R467, R470). -/
def execBar4Access (off : BitVec 13) (wide : Bool) (data : Option Word) (s : State) : Host.Outcome State Fault Refusal :=
  let o := if wide then off.toNat / 8 * 8 else off.toNat / 4 * 4
  .next (s.barServe data.isNone (match data with
    | none =>
      let lo := toLe 4 (s.bar4Dword o)
      s.emit (.completion .success (if wide then lo ++ toLe 4 (s.bar4Dword (o + 4)) else lo))
    | some v =>
      let s1 := s.bar4Write o (v.toNat % 2 ^ 32)
      if wide then s1.bar4Write (o + 4) (v.toNat / 2 ^ 32) else s1))

/-- The conditions under which a vector's message goes out (R470, R472). -/
def State.msixReady (s : State) (v : Nat) : Bool :=
  s.linkUp && s.pcie.pba.testBit v && s.pcie.msixEnable && !s.pcie.funcMask && !(s.pcie.table.getD v ⟨0, 0, true⟩).masked &&
  s.pcie.busMaster && !s.pcie.d3hot

/-- MSIX_SEND: a pending vector sends its message and its pending bit clears; `again` says that its event arrives in the same cycle,
which sets the bit again (R472). -/
def execMsixSend (v : Fin 16) (again : Bool) (s : State) : Host.Outcome State Fault Refusal :=
  .next (if s.msixReady v.val then
    let e := s.pcie.table.getD v.val ⟨0, 0, true⟩
    (s.setPcie { s.pcie with pba := setBit s.pcie.pba v.val again }).emit (.msix v.val e.addr e.data)
  else s)

/-! ### The link and D3hot (R465, R468 to R471) -/

/-- The rates of R464 in units of 0.1 GT/s, and its widths. -/
def linkRates : List Nat := [25, 50, 80, 160, 320, 640]
def linkWidths : List Nat := [16, 8, 4, 2, 1]

/-- PCIE_LINK_UP: the link trains at a rate and width, in flit mode where the partner supports it, as it always does at 64.0 GT/s
(R464, R465, R471). -/
def execPcieLinkUp (rate : Fin 6) (width : Fin 5) (flit : Bool) (s : State) : Host.Outcome State Fault Refusal :=
  .next (if s.doms.pcie then
    let r := linkRates.getD rate.val 0
    ((s.setPcie { s.pcie with up := true, rate := r, width := linkWidths.getD width.val 0, flit := flit || r == 640 }).wakeRequests).recompute
  else s)

/-- PCIE_LINK_DOWN: the link goes down, or a hot reset occurs: the PCIe domain is reset, and requests outstanding fail (R465, R469). -/
def execPcieLinkDown (s : State) : Host.Outcome State Fault Refusal := .next (if s.linkUp then s.pcieReset else s)

/-- LINK_WAIT_EXPIRY: a request of the device has waited 100 ms for a link that is down (R469). -/
def execLinkWaitExpiry (r : Requester) (a : Nat) (s : State) : Host.Outcome State Fault Refusal :=
  .next (match s.pcie.requests.find? (fun q => decide (q.req = r) && q.addr == a && q.waiting) with
  | some q => if s.pcie.up then s else s.failRequest q q.addr
  | none => s)

/-- COMPLETION_TIMEOUT: a request to the host times out (R468). -/
def execCompletionTimeout (r : Requester) (a : Nat) (s : State) : Host.Outcome State Fault Refusal :=
  .next (match s.pcie.requests.find? (fun q => decide (q.req = r) && q.addr == a && !q.waiting) with
  | some q => s.failRequest q q.addr
  | none => s)

/-- D3HOT_ENTRY: the host puts the function in D3hot (R470). -/
def execD3hotEntry (s : State) : Host.Outcome State Fault Refusal := .next (if s.linkUp then s.setD3hot true else s)

/-- D0_RETURN: the host returns the function to D0; the BARs stand (R470). -/
def execD0Return (s : State) : Host.Outcome State Fault Refusal := .next (if s.linkUp then s.setD3hot false else s)

end Sys2Proof.Machine
end

