-- ==== Sys2Proof/Machine/TensorKv.lean ====
section
/-! DEFINITION. The KV operations of a tensor core (R75 to R93, R143) and the completion of operations (R138). -/

namespace Sys2Proof.Machine

/-! ### Reading and writing pages (R76, R85, R91) -/

/-- Where one row of a page lies: byte offsets of its elements and of its scales, for keys or values (R76). -/
def pageRow (fp8 : Bool) (head tok : Nat) (value : Bool) : Nat × Nat :=
  let e := if fp8 then 128 else 64
  let part := head * kvHeadBytes fp8 + (if value then 256 * e + 1024 else 0)
  (part + tok * e, part + 256 * e + tok * 4)

/-- FMT of a page's rows as a slot would name it: MX-FP8 E4M3 or MX-FP4. -/
def pageFmt (fp8 : Bool) : Nat := if fp8 then 6 else 5

/-- One stored row of a page as values under its scales. -/
def State.pageValues (s : State) (a : Nat) (fp8 : Bool) (head tok : Nat) (value : Bool) : List Fp :=
  let o := pageRow fp8 head tok value
  rowValues (pageFmt fp8) ((s.peek (a + o.2) 4).map BitVec.toNat)
    (unpackElems (pageFmt fp8) 128 (s.peek (a + o.1) (if fp8 then 128 else 64)))

/-- The feeder's expansion to BF16, as FP32 codes (R91). -/
def expandRow (vs : List Fp) : List Nat := vs.map (fun v => (convPlain .bf16 false .nearest (toF32 v)).code * 2 ^ 16)

/-- A core as the source of its accesses. -/
def coreReq (d : Fin 4) (k : Fin 11) : Requester := ⟨d.val, 1, k.val⟩

/-- Write one row of keys or values into a page, quantised to nearest even (R85). -/
def State.putPageRow (s : State) (d : Fin 4) (k : Fin 11) (a : Nat) (fp8 : Bool) (head tok : Nat) (value : Bool) (xs : List Nat) :
    State :=
  let o := pageRow fp8 head tok value
  let r := convertRow (pageFmt fp8) false (fun _ => .nearest) xs
  (s.writeMem (coreReq d k) 0 (a + o.1) (packElems (pageFmt fp8) r.codes)).writeMem (coreReq d k) 0 (a + o.2)
    (r.scales.map (BitVec.ofNat 8))

/-! ### KV_APPEND (R85 to R88, R143) -/

/-- The training reservation covers the pages that an append starts (R96). -/
def State.appendReserve (s : State) (p : KvSlot) : Bool :=
  !s.seqTrain p.seq ||
  decide (s.fld (.ntKvResv 0) Fld.ntKvResv_TRAIN_USED + newPages p.pos p.nrows ≤ s.fld (.ntKvResv 0) Fld.ntKvResv_TRAIN_RESV)

/-- A near frame for a new page: one granted at the step boundary, or one taken now (R86, R97). -/
def State.pageFrame (s : State) (n : Nat) : Nat × State :=
  match s.kv.grants.find? (fun g => g.1 == n) with
  | some g => (g.2, s.setKv { s.kv with grants := s.kv.grants.erase g })
  | none =>
    let a := s.kvAlloc 0
    (a.1, a.2.kvTake 0 a.1 false (s.seqTrain n))

/-- The first position of a page: frame, entry, and the trailer's identity (R77, R86). -/
def State.startPage (s : State) (d : Fin 4) (k : Fin 11) (n l p : Nat) (fp8 : Bool) : State :=
  let f := s.pageFrame n
  let heads := s.seqHeads n
  let gen := (s.pte n l p).gen
  let e : Pte := ⟨gen, 1, b2n fp8, false, false, f.1⟩
  let s1 := f.2.setPte n l p e
  s1.writeMem (coreReq d k) 0 (s1.pageAddr e + kvBody fp8 heads)
    (toLe 4 gen ++ toLe 2 n ++ toLe 2 l ++ toLe 4 p ++ toLe 2 0 ++ toLe 1 (b2n fp8) ++ toLe 1 heads ++ zeros 40)

/-- Exact sum of squares of a row. -/
def sumSquares (vs : List Fp) : Fp := vs.foldl (fun a v => a.add (v.mul v)) (.fin false 0 0)

/-- A nonnegative exact value rounded toward +∞ to FP32 (R87). -/
def roundUpF32 (x : Fp) : Nat :=
  let r := roundF32 x
  if (f32 r).lt x then r + 1 else r

/-- FP32 L2 norm, rounded toward +∞ (R87): the exact norm, rounded once. -/
def normUp (vs : List Fp) : Nat := roundUpF32 (sumSquares vs).sqrt

/-- FP32 L2 norm of a query row, rounded to nearest (R89). -/
def normOf (vs : List Fp) : Nat := roundF32 (sumSquares vs).sqrt

/-- The cairn entry of one head of a full page, and whether its conversion met a NaN or an infinity (R87, R88, R107). A NaN norm does not
count in the maximum, as `fmaxf` of R89 ignores it (DESIGN CHOICE, log entry 51). -/
def State.cairnEntry (s : State) (a : Nat) (fp8 : Bool) (h gen : Nat) : List Byte × Bool :=
  let keys := (List.range 256).map (fun t => s.pageValues a fp8 h t false)
  let sums := (List.range 128).map (fun c => keys.foldl (fun acc r => fadd acc (toF32 (r.getD c .nan))) 0)
  let mean := convertRow 6 false (fun _ => .nearest) (sums.map (fun x => fmul x 0x3B800000))
  let norm := (keys.map normUp).foldl fmaxf 0
  (packElems 6 mean.codes ++ mean.scales.map (BitVec.ofNat 8) ++ toLe 4 norm ++ toLe 4 gen ++ zeros 4, mean.nf)

/-- A page reaches 256 tokens: its cairn entries, the trailer CRC, then FULL (R87). -/
def State.fillPage (s : State) (d : Fin 4) (k : Fin 11) (pc n l p : Nat) : State :=
  let e := s.pte n l p
  let fp8 := e.fmt == 1
  let heads := s.seqHeads n
  let a := s.pageAddr e
  let s0 := s.tcNfIf ((List.range heads).any (fun h => (s.cairnEntry a fp8 h e.gen).2)) d k 3 pc
  let s1 := (List.range heads).foldl (fun t h => t.writeMem (coreReq d k) 0 (t.cairnAddr n l h p) (s.cairnEntry a fp8 h e.gen).1) s0
  let body := kvBody fp8 heads
  (s1.writeMem (coreReq d k) 0 (a + body + 56) (toLe 8 (s1.pageCrc a body))).setPte n l p { e with full := true }

/-- One position is appended: the rows of every head, COUNT, and the summary of a page that becomes full (R85 to R87). -/
def State.appendRow (s : State) (d : Fin 4) (k : Fin 11) (pc : Nat) (q : KvSlot) (fp8 : Bool) (pos : Nat) (keys vals : List Nat) :
    State :=
  let p := pos / 256
  let tok := pos % 256
  let s0 := if tok = 0 then s.startPage d k q.seq q.layer p fp8 else s
  let e := s0.pte q.seq q.layer p
  let heads := s0.seqHeads q.seq
  let a := s0.pageAddr e
  let s1 := (List.range heads).foldl (fun t h =>
    (t.putPageRow d k a fp8 h tok false ((keys.drop (128 * h)).take 128)).putPageRow d k a fp8 h tok true
      ((vals.drop (128 * h)).take 128)) s0
  let s2 := s1.writeMem (coreReq d k) 0 (a + kvBody fp8 heads + 12) (toLe 2 (tok + 1))
  if tok = 255 then s2.fillPage d k pc q.seq q.layer p else s2

/-- The positions of a run, in order. -/
def State.appendRows (d : Fin 4) (k : Fin 11) (pc : Nat) (q : KvSlot) (fp8 : Bool) : State → Nat → List (List Nat × List Nat) → State
  | s, _, [] => s
  | s, pos, r :: rs => State.appendRows d k pc q fp8 (s.appendRow d k pc q fp8 pos r.1 r.2) (pos + 1) rs

/-- KV_APPEND: NROWS positions of one layer are quantised into KV pages; an append out of order, of another format or
beyond the reservation is rejected before it writes anything (R85 to R88, R96, R143). -/
def execKvAppend (d : Fin 4) (k : Fin 11) (s : State) : Host.Outcome State Fault Refusal :=
  .next (s.tcIssue d k 0x40 (s.appendCheck d k) (fun i pc t =>
    let p := t.kvSlot d k i.a
    let ks := t.tileSlot d k i.b
    let vs := t.tileSlot d k i.c
    let used := fun (x : TileSlot) => x.ranges.take p.nrows
    let det := pageDetail p.seq p.layer (p.pos / 256)
    if !(t.appendOrder p && t.appendRoom p) then t.tcStop d k 0x10 pc i.a 0 det
    else if !t.appendFormat p i.kvfmt then t.tcStop d k 0x11 pc i.a 0 det
    else if !t.appendReserve p then t.tcStop d k 0x18 pc i.a 0 det
    else match t.foreignHit d (t.logicalOf d k) (used ks ++ used vs) with
    | some t1 => t1.tcStop d k 0x09 pc (if (t.firstForeign d (t.logicalOf d k) (used ks)).isSome then i.b else i.c)
    | none =>
      let rk := State.readRanges d (t.logicalOf d k) t (used ks)
      let rv := State.readRanges d (t.logicalOf d k) rk.2.2 (used vs)
      let keys := rk.1.map (unpackElems 0 ks.cols)
      let vals := rv.1.map (unpackElems 0 vs.cols)
      let t1 := rv.2.2.tcBadRead (firstBad [(i.b, rk.2.1), (i.c, rv.2.1)]) d k pc
      let t2 := t1.tcNfIf (!(keys ++ vals).all (fun r => r.all ffinite)) d k 4 pc
      let t3 := State.appendRows d k pc p i.kvfmt t2 p.pos (keys.zip vals)
      let heads := t.seqHeads p.seq
      let filled := (p.pos + p.nrows) / 256 - p.pos / 256
      t3.tcStart d k ⟨pc, 0x40, 0, 2 * p.nrows * heads + 256 * heads * filled, [], [p.seq, p.layer, p.nrows]⟩))

/-! ### KV_SELECT (R89, R90) -/

/-- `above` of R90. -/
def rankAbove (a : Nat) (pa : Nat) (b : Nat) (pb : Nat) : Bool :=
  if (f32 a).isNan != (f32 b).isNan then (f32 b).isNan
  else if !(f32 a).isNan && (flt a b || flt b a) then flt b a
  else decide (pa < pb)

/-- `select` of R90 over pages `(number, score, full)` in ascending number: forced pages and the highest-ranked others. -/
def selectPages (k w : Nat) (pages : List (Nat × Nat × Bool)) : List Nat :=
  let n := pages.length
  if n ≤ k then pages.map Prod.fst
  else
    let lo := if w < n then n - w else 0
    let forced := pages.filter (fun p => p.1 == 0 || decide (lo ≤ p.1) || !p.2.2)
    let others := pages.filter (fun p => !(p.1 == 0 || decide (lo ≤ p.1) || !p.2.2))
    let best := (insertSort (fun a b => rankAbove a.2.1 a.1 b.2.1 b.1) others).take (k - forced.length)
    insertSort (fun a b => decide (a < b)) (forced.map Prod.fst ++ best.map Prod.fst)

/-- Sum of products in ascending order under add32, with whether it overflowed (R117, R120 cause 1). -/
def dotFlag (a b : List Fp) : Nat × Bool := columnSum (List.zipWith Fp.mul a b) 0 false

/-- The sum alone. -/
def dotFp (a b : List Fp) : Nat := (dotFlag a b).1

/-- The score of a page for a block of queries `(values under MX-FP8, norm)` (R89). -/
def pageScore (beta : Nat) (qs : List (List Fp × Nat)) (mu : List Fp) (nu : Nat) : Nat :=
  qs.foldl (fun best q => fmaxf best (fadd (dotFp q.1 mu) (fmul (fmul beta q.2) nu))) 0xFF800000

/-- Some dot product of a page's score overflows (R120 cause 1). -/
def scoreOverflows (qs : List (List Fp × Nat)) (mu : List Fp) : Bool := qs.any (fun q => (dotFlag q.1 mu).2)

/-- The cairn entry of a page is valid: FULL, and its GEN equals the entry's (R88). -/
def State.cairnValid (s : State) (n l h p : Nat) : Bool :=
  let e := s.pte n l p
  e.full && ofLe (s.peek (s.cairnAddr n l h p + 136) 4) == e.gen

/-- The dequantised mean key of a page (R88, R89). -/
def State.cairnMean (s : State) (n l h p : Nat) : List Fp :=
  let a := s.cairnAddr n l h p
  rowValues 6 ((s.peek (a + 128) 4).map BitVec.toNat) (unpackElems 6 128 (s.peek a 128))

/-- Shape and format checks of a block of 128 query rows and its positions (R143). -/
def State.queryCheck (s : State) (d : Fin 4) (k : Fin 11) (q : Nat) : List TcFault :=
  [need ((s.tileSlot d k q).fmt == 0 || (s.tileSlot d k q).fmt == 1) 0x03 q, need ((s.tileSlot d k (q + 1)).fmt == 12) 0x03 (q + 1)]

/-- Shapes of the query block. -/
def State.queryShape (s : State) (d : Fin 4) (k : Fin 11) (q : Nat) : List TcFault :=
  [s.tileShape d k 128 128 q, s.tileShape d k 128 0 (q + 1)]

/-- The checks of KV_SELECT at issue. -/
def State.selectCheck (s : State) (d : Fin 4) (k : Fin 11) (i : TcInstr) : TcFault :=
  let p := s.kvSlot d k i.a
  firstFault ([s.kvParams d k i.a, s.tileKind d k i.b, s.tileKind d k (i.b + 1)] ++ s.queryCheck d k i.b ++
    [s.kvRanges p i.a] ++ s.queryShape d k i.b ++ [s.tilePlace d k i.b, s.tilePlace d k (i.b + 1)])

/-- KV_SELECT: the eligible pages of a query block are scored from the cairn index, and the selected ones are written into
the record (R89, R90, R143). -/
def execKvSelect (d : Fin 4) (k : Fin 11) (s : State) : Host.Outcome State Fault Refusal :=
  .next (s.tcIssue d k 0x41 (s.selectCheck d k) (fun i pc t =>
    let p := t.kvSlot d k i.a
    match t.foreignHit d (t.logicalOf d k) (t.groupRanges d k [i.b, i.b + 1]) with
    | some t1 => t1.tcStop d k 0x09 pc (t.foreignSlot d k [i.b, i.b + 1])
    | none =>
      let rq := t.readTile d (t.logicalOf d k) (t.tileSlot d k i.b)
      let rp := rq.2.2.readU32s d (t.logicalOf d k) (t.tileSlot d k (i.b + 1))
      let t1 := (rp.2.2.tcBadRead (firstBad [(i.b, rq.2.1), (i.b + 1, rp.2.1)]) d k pc).tcNfIf rq.1.nonFinite d k 2 pc
      let rows := rq.1.values
      let qs := rows.map (fun r =>
        let c := convertRow 6 false (fun _ => .nearest) (r.map toF32)
        (rowValues 6 c.scales c.codes, normOf r))
      let n := rp.1.foldl max 0 / 256 + 1
      let full := fun pg => (t1.pte p.seq p.layer pg).full
      match (List.range n).find? (fun pg => full pg && !t1.cairnValid p.seq p.layer p.head pg) with
      | some pg => t1.tcStop d k 0x12 pc i.a (t1.cairnAddr p.seq p.layer p.head pg) (pageDetail p.seq p.layer pg)
      | none =>
        let mu := t1.cairnMean p.seq p.layer p.head
        let pages := (List.range n).map (fun pg => (pg, if full pg then pageScore p.beta qs (mu pg)
          (ofLe (t1.peek (t1.cairnAddr p.seq p.layer p.head pg + 132) 4)) else 0, full pg))
        let used := (List.range n).filter full
        let t2 := ((t1.tcNfIf (used.any (fun pg => (mu pg).any (fun v => !v.isFin))) d k 2 pc).tcNfIf
          (used.any (fun pg => scoreOverflows qs (mu pg))) d k 1 pc).tcNfIf (pages.any (fun x => x.2.2 && !ffinite x.2.1)) d k 5 pc
        let l := selectPages p.k p.w pages
        let w := (l.mapIdx (fun j pg => (p.record + 16 + 8 * j, toLe 4 pg)))
        let t3 := ((p.record, toLe 2 l.length ++ zeros 14) :: w).foldl (fun (u : State) (x : Nat × List Byte) =>
          u.writeMem (coreReq d k) (t.logicalOf d k) x.1 x.2) t2
        t3.tcStart d k ⟨pc, 0x41, 0, 128 + (n + 3) / 4 + (p.k + 7) / 8, [], []⟩))

/-! ### KV_ATTN (R91 to R93) -/

/-- The feeder's checks of one page (R92): the code of the failure and its device address, 0 for an entry with TIER 0, which names no
frame (DESIGN CHOICE, log entry 51). -/
def State.feederFault (s : State) (n l p : Nat) : Option (Nat × Nat) :=
  let e := s.pte n l p
  let a := s.pageAddr e
  let body := kvBody (e.fmt == 1) (s.seqHeads n)
  let tr := s.peek (a + body) 64
  if e.tier ≠ 1 ∧ e.tier ≠ 2 then some (0x13, if e.tier = 0 then 0 else a)
  else if leAt tr 0 4 ≠ e.gen ∨ leAt tr 4 2 ≠ n ∨ leAt tr 6 2 ≠ l ∨ leAt tr 8 4 ≠ p then some (0x14, a)
  else if e.full ∧ e.tier = 2 ∧ leAt tr 56 8 ≠ s.pageCrc a body then some (0x15, a)
  else none

/-- Some 64 B block that the feeder reads is uncorrectable: the head's part and the trailer, or the whole of a full page in
the moraine pool, whose CRC it checks (R92). -/
def State.pageBad (s : State) (e : Pte) (heads h : Nat) : Bool :=
  let part := kvHeadBytes (e.fmt == 1) / 64
  (List.range (part * heads + 1)).any (fun b =>
    (e.full && e.tier == 2 || decide (part * h ≤ b ∧ b < part * (h + 1)) || b == part * heads) &&
    match s.decodeAddr (s.pageAddr e + 64 * b) with
    | .near st o => s.isBad (s.nearKey st o / 64 * 64)
    | .moraine c o => s.isBad (s.moraineKey c o / 64 * 64)
    | _ => false)

/-- A feeder failure stops the operation with a record; a sequence that is not a training one is cancelled and dropped
(R92). -/
def State.feederStop (s : State) (d : Fin 4) (k : Fin 11) (code pc slot addr n l p : Nat) : State :=
  let s1 := s.tcStop d k code pc slot addr (pageDetail n l p)
  if s1.seqTrain n ∨ s1.seqState n = 0 ∨ s1.seqState n = 5 then s1 else (s1.kvCancel n 5).kvProgress

/-- An uncorrectable page: recorded with a UCC record that names its address, NF with cause 4 (R92, R145). -/
def State.feederRecord (s : State) (d : Fin 4) (k : Fin 11) (pc slot n l : Nat) (x : Nat × Nat) : State :=
  ((s.tcRecord d k 0x16 pc slot).tcNf d k 4 pc).ucc (coreReq d k) 0x16 x.2 (pageDetail n l x.1)

/-- Pages that an operation read with uncorrectable blocks: each is recorded, and then a sequence that is not a training one is
cancelled and dropped (R92, R145). -/
def State.feederBad (s : State) (d : Fin 4) (k : Fin 11) (pc slot h n l : Nat) (pages : List Nat) : State :=
  let bad := (pages.filter (fun p => s.pageBad (s.pte n l p) (s.seqHeads n) h)).map (fun p => (p, s.pageAddr (s.pte n l p)))
  if bad.isEmpty then s
  else
    let s1 := bad.foldl (fun (t : State) x => t.feederRecord d k pc slot n l x) s
    if s1.seqTrain n ∨ s1.seqState n = 0 ∨ s1.seqState n = 5 then s1 else (s1.kvCancel n 5).kvProgress

/-- The shortest burst of a feeder is the 64 B of a trailer: it stalls where compute streams declared longer bursts (R68, R138). -/
def State.feederStalls (s : State) (d : Fin 4) (k : Fin 11) (n l : Nat) (pages : List Nat) : State :=
  s.stallBursts (pages.flatMap (fun p => s.shortBursts (coreReq d k) (s.pageAddr (s.pte n l p)) true 0 64)).dedup

/-- Keys and values of one head of a page, expanded to BF16 (R91). -/
def State.pageHead (s : State) (e : Pte) (h : Nat) : List (List Nat) × List (List Nat) :=
  let a := s.pageAddr e
  let fp8 := e.fmt == 1
  ((List.range 256).map (fun t => expandRow (s.pageValues a fp8 h t false)),
   (List.range 256).map (fun t => expandRow (s.pageValues a fp8 h t true)))

/-- An expanded value overflowed to an infinity although its scale is not NaN (R91). The feeder expands all 256 rows of a page, also
those at or beyond COUNT (DESIGN CHOICE, log entry 51). -/
def State.pageOverflows (s : State) (e : Pte) (h : Nat) : Bool :=
  let kv := s.pageHead e h
  (kv.1 ++ kv.2).any (fun r => r.any (fun x => x % 2 ^ 31 == 0x7F800000))

/-- A block of a page's head has scale 0xFF: a non-finite operand (R91, R120 cause 2). -/
def State.pageNan (s : State) (e : Pte) (h : Nat) : Bool :=
  let kv := s.pageHead e h
  (kv.1 ++ kv.2).any (fun r => r.any (fun x => (f32 x).isNan))

/-- Running state of one query row, and whether an accumulation overflowed (R91, R120 cause 1). -/
structure AttnRow where
  m : Nat
  l : Nat
  o : List Nat
  spill : Bool
deriving DecidableEq, Repr

/-- A row that has seen nothing. -/
def AttnRow.start : AttnRow := ⟨0xFF800000, 0, List.replicate 128 0, false⟩

/-- A value as the BF16 operand that the array takes, as FP32 code. -/
def asBf16 (x : Nat) : Nat := (convPlain .bf16 false .nearest x).code * 2 ^ 16

/-- A row's conversion to BF16 sets NF (R108). -/
def bf16Nf (xs : List Nat) : Bool := xs.any (fun x => (convPlain .bf16 false .nearest x).nf)

/-- A row at position `t` sees some position of a page. -/
def rowSees (t page count : Nat) : Bool := decide (256 * page ≤ t ∧ 0 < count)

/-- Scores of a page for one row: c times the dot product, −∞ above the row's position or at or beyond COUNT (R91). -/
def rowScores (c : Nat) (q : List Nat) (keys : List (List Nat)) (t page count : Nat) : List Nat :=
  keys.mapIdx (fun j key =>
    if t < 256 * page + j ∨ count ≤ j then 0xFF800000 else fmul c (dotFp (q.map f32) (key.map f32)))

/-- A dot product of a page for one row overflows (R120 cause 1). -/
def rowOverflows (q : List Nat) (keys : List (List Nat)) : Bool := keys.any (fun key => (dotFlag (q.map f32) (key.map f32)).2)

/-- Sum over rows of a coefficient times a row's column, in ascending order, with whether it overflowed. -/
def weightedFlag (coef : List Nat) (rows : List (List Nat)) (col : Nat) : Nat × Bool :=
  dotFlag (coef.map f32) (rows.map (fun r => f32 (r.getD col 0)))

/-- The sum alone. -/
def weighted (coef : List Nat) (rows : List (List Nat)) (col : Nat) : Nat := (weightedFlag coef rows col).1

/-- One page's contribution to a row that sees some position of it (R91). The maximum ignores a NaN score, as `fmaxf` of R89 does
(DESIGN CHOICE, log entry 51); the sums do not. -/
def attnStep (r : AttnRow) (ss : List Nat) (vals : List (List Nat)) : AttnRow :=
  let m := fmaxf r.m (ss.foldl fmaxf 0xFF800000)
  let f := tcExp (fsub r.m m)
  let es := ss.map (fun x => tcExp (fsub x m))
  let sum := es.foldl (fun a e => add32 a (f32 e)) 0
  let parts := (List.range 128).map (weightedFlag es vals)
  let outs := List.zipWith (fun x p => addFlag (fmul x f) (f32 p.1)) r.o parts
  ⟨m, fadd (fmul r.l f) sum, outs.map Prod.fst, r.spill || parts.any Prod.snd || outs.any Prod.snd⟩

/-- A row over a page: one of which the row sees no position leaves it as it is, for its scores are all −∞ (R91). -/
def AttnRow.page (r : AttnRow) (c : Nat) (q : List Nat) (kv : List (List Nat) × List (List Nat)) (t pg count : Nat) : AttnRow :=
  if rowSees t pg count then
    let a := attnStep r (rowScores c q kv.1 t pg count) kv.2
    { a with spill := a.spill || rowOverflows q kv.1 }
  else r

/-- The checks of KV_ATTN at issue. -/
def State.attnCheck (s : State) (d : Fin 4) (k : Fin 11) (i : TcInstr) : TcFault :=
  let p := s.kvSlot d k i.a
  firstFault ([s.kvParams d k i.a, s.tileKind d k i.b, s.tileKind d k (i.b + 1), s.tileKind d k i.c] ++ s.queryCheck d k i.b ++
    [need ((s.tileSlot d k i.c).fmt == 0 || (s.tileSlot d k i.c).fmt == 1) 0x03 i.c, s.kvRanges p i.a] ++ s.queryShape d k i.b ++
    [s.tileShape d k 128 128 i.c, s.tilePlace d k i.b, s.tilePlace d k (i.b + 1), s.tilePlace d k i.c])

/-- KV_ATTN: attention over the listed pages, with its statistics and the generations read (R91 to R93, R143). -/
def execKvAttn (d : Fin 4) (k : Fin 11) (s : State) : Host.Outcome State Fault Refusal :=
  .next (s.tcIssue d k 0x42 (s.attnCheck d k) (fun i pc t =>
    let p := t.kvSlot d k i.a
    let own := t.logicalOf d k
    let out := t.tileSlot d k i.c
    match t.foreignHit d own (t.groupRanges d k [i.b, i.b + 1, i.c]) with
    | some t1 => t1.tcStop d k 0x09 pc (t.foreignSlot d k [i.b, i.b + 1, i.c])
    | none =>
      let pages := (t.recordPages p.record).map Prod.fst
      match pages.findSome? (fun pg => (t.feederFault p.seq p.layer pg).map (fun f => (f, pg))) with
      | some (f, pg) => t.feederStop d k f.1 pc i.a f.2 p.seq p.layer pg
      | none =>
        let rq := t.readTile d own (t.tileSlot d k i.b)
        let rp := rq.2.2.readU32s d own (t.tileSlot d k (i.b + 1))
        let t1 := (rp.2.2.tcBadRead (firstBad [(i.b, rq.2.1), (i.b + 1, rp.2.1)]) d k pc).tcNfIf rq.1.nonFinite d k 2 pc
        let heads := t1.seqHeads p.seq
        let entry := t1.pte p.seq p.layer
        let raw := rq.1.values.map (fun r => r.map toF32)
        let rows := raw.mapIdx (fun r xs => pages.foldl (fun (a : AttnRow) (pg : Nat) =>
          a.page p.cScale (xs.map asBf16) (t1.pageHead (entry pg) p.head) (rp.1.getD r 0) pg (t1.pageCount (entry pg) heads)) AttnRow.start)
        let res := rows.map (fun (r : AttnRow) =>
          convertRow out.fmt false (fun _ => .nearest) (if r.l = 0 then List.replicate 128 0 else r.o.map (fun x => fdiv x r.l)))
        let t2 := State.writeRuns d own t1 (out.runs res)
        let gens := pages.mapIdx (fun j pg => (p.record + 20 + 8 * j, toLe 4 (entry pg).gen))
        let stats := rows.mapIdx (fun r (x : AttnRow) =>
          (p.record + 16 + 8 * pages.length + 8 * r, toLe 4 (if x.l = 0 then 0xFF800000 else x.m) ++ toLe 4 x.l))
        let t3 := (gens ++ stats).foldl (fun (u : State) (x : Nat × List Byte) => u.writeMem (coreReq d k) own x.1 x.2) t2
        let t4 := (((t3.tcNfIf (raw.any bf16Nf) d k 3 pc).tcNfIf (pages.any (fun pg => t1.pageNan (entry pg) p.head)) d k 2 pc).tcNfIf
          (pages.any (fun pg => t1.pageOverflows (entry pg) p.head)) d k 4 pc).tcNfIf (rows.any AttnRow.spill) d k 1 pc
        let t5 := ((t4.tcNfIf (res.any RowOut.nf) d k 3 pc).feederStalls d k p.seq p.layer pages).feederBad d k pc i.a p.head p.seq p.layer pages
        t5.tcStart d k ⟨pc, 0x42, 0, 256 * pages.length, t1.oldRuns d (out.runs res), []⟩))

/-! ### KV_ATTN_BWD (R93) -/

/-- The checks of KV_ATTN_BWD at issue: Q, positions, dO and D in B to B + 3; dQ, dK and dV in C to C + 2 (R137, R143). -/
def State.bwdCheck (s : State) (d : Fin 4) (k : Fin 11) (i : TcInstr) : TcFault :=
  let p := s.kvSlot d k i.a
  let t := s.tileSlot d k
  let ins := [i.b, i.b + 1, i.b + 2, i.b + 3]
  let outs := [i.c, i.c + 1, i.c + 2]
  firstFault ([s.kvParams d k i.a] ++ (ins ++ outs).map (s.tileKind d k) ++ s.queryCheck d k i.b ++
    [need ((t (i.b + 2)).fmt == 0 || (t (i.b + 2)).fmt == 1) 0x03 (i.b + 2), need ((t (i.b + 3)).fmt == 0) 0x03 (i.b + 3)] ++
    outs.map (fun n => need ((t n).fmt == 0) 0x03 n) ++
    [s.kvRanges p i.a] ++ s.queryShape d k i.b ++
    [s.tileShape d k 128 128 (i.b + 2), s.tileShape d k 128 64 (i.b + 3), s.tileShape d k 128 128 i.c,
     need ((t (i.c + 1)).cols == 128 && (t (i.c + 1)).rows % 256 == 0 && (t (i.c + 1)).rows != 0) 0x06 (i.c + 1),
     need ((t (i.c + 2)).cols == 128 && (t (i.c + 2)).rows == (t (i.c + 1)).rows) 0x06 (i.c + 2)] ++
    (ins ++ outs).map (s.tilePlace d k))

/-- What the backward pass forms for one page: each row's probabilities and score gradients (R93). -/
structure BwdPage where
  keys : List (List Nat)
  probs : List (List Nat)
  grads : List (List Nat)
deriving DecidableEq, Repr

/-- One query row of the backward pass: its BF16 row, dO row, D term, m, l and position. -/
structure BwdRow where
  q : List Nat
  dO : List Nat
  term : Nat
  m : Nat
  l : Nat
  pos : Nat
deriving DecidableEq, Repr

/-- Probabilities exp(S − m) / l of one row over a page; a row that saw nothing has none (R93). -/
def BwdRow.probs (r : BwdRow) (c : Nat) (keys : List (List Nat)) (page count : Nat) : List Nat :=
  (rowScores c r.q keys r.pos page count).map (fun x => if r.l = 0 then 0 else fdiv (tcExp (fsub x r.m)) r.l)

/-- Score gradients of one row over a page: c · P · (dO·V − D). -/
def BwdRow.grads (r : BwdRow) (c : Nat) (probs : List Nat) (vals : List (List Nat)) : List Nat :=
  List.zipWith (fun p v => fmul c (fmul p (fsub (dotFp (r.dO.map f32) (v.map f32)) r.term))) probs vals

/-- A product with dO, or a sum over the rows, overflows in a page of the backward pass (R120 cause 1). -/
def BwdPage.spill (g : BwdPage) (rows : List BwdRow) (vals : List (List Nat)) : Bool :=
  rows.any (fun r => rowOverflows r.q g.keys || rowOverflows r.dO vals) ||
  (List.range 256).any (fun j => (List.range 128).any (fun c =>
    (weightedFlag (g.probs.map (fun r => r.getD j 0)) (rows.map BwdRow.dO) c).2 ||
    (weightedFlag (g.grads.map (fun r => r.getD j 0)) (rows.map BwdRow.q) c).2)) ||
  g.grads.any (fun gr => (List.range 128).any (fun c => (weightedFlag gr g.keys c).2))

/-- KV_ATTN_BWD: the listed pages from FIRST, as many as fit dK and dV; the probabilities are recomputed from the record's
statistics, and dQ, dK and dV are written (R92, R93, R143). -/
def execKvAttnBwd (d : Fin 4) (k : Fin 11) (s : State) : Host.Outcome State Fault Refusal :=
  .next (s.tcIssue d k 0x43 (s.bwdCheck d k) (fun i pc t =>
    let p := t.kvSlot d k i.a
    let own := t.logicalOf d k
    let slot := t.tileSlot d k
    let all := t.recordPages p.record
    let list := (all.drop p.first).take ((slot (i.c + 1)).rows / 256)
    match t.foreignHit d own (t.groupRanges d k [i.b, i.b + 1, i.b + 2, i.b + 3, i.c, i.c + 1, i.c + 2]) with
    | some t1 => t1.tcStop d k 0x09 pc (t.foreignSlot d k [i.b, i.b + 1, i.b + 2, i.b + 3, i.c, i.c + 1, i.c + 2])
    | none =>
      match list.findSome? (fun x =>
        (if (t.pte p.seq p.layer x.1).gen ≠ x.2 then some (0x17, t.pageAddr (t.pte p.seq p.layer x.1)) else
          t.feederFault p.seq p.layer x.1).map (fun f => (f, x.1))) with
      | some (f, pg) => t.feederStop d k f.1 pc i.a f.2 p.seq p.layer pg
      | none =>
        let rq := t.readTile d own (slot i.b)
        let rp := rq.2.2.readU32s d own (slot (i.b + 1))
        let ro := rp.2.2.readTile d own (slot (i.b + 2))
        let rd := ro.2.2.readTile d own (slot (i.b + 3))
        let rz := rd.2.2.readTile d own (slot i.c)
        let t1 := (rz.2.2.tcBadRead (firstBad [(i.b, rq.2.1), (i.b + 1, rp.2.1), (i.b + 2, ro.2.1), (i.b + 3, rd.2.1), (i.c, !i.fresh && rz.2.1)])
          d k pc).tcNfIf (rq.1.nonFinite || ro.1.nonFinite || rd.1.nonFinite || (!i.fresh && rz.1.nonFinite)) d k 2 pc
        let heads := t1.seqHeads p.seq
        let entry := t1.pte p.seq p.layer
        let rows := (List.range 128).map (fun r =>
          let st := p.record + 16 + 8 * all.length + 8 * r
          (⟨((rq.1.values.getD r []).map toF32).map asBf16, ((ro.1.values.getD r []).map toF32).map asBf16,
            toF32 ((rd.1.values.getD r []).getD 0 .nan), ofLe (t1.peek st 4), ofLe (t1.peek (st + 4) 4), rp.1.getD r 0⟩ : BwdRow))
        let vals := fun (x : Nat × Nat) => (t1.pageHead (entry x.1) p.head).2
        let pages := list.map (fun x =>
          let keys := (t1.pageHead (entry x.1) p.head).1
          let probs := rows.map (fun r => r.probs p.cScale keys x.1 (t1.pageCount (entry x.1) heads))
          (⟨keys, probs, List.zipWith (fun r pr => BwdRow.grads r p.cScale pr (vals x)) rows probs⟩ : BwdPage))
        let conv := fun (xs : List Nat) => convertRow 0 false (fun _ => .nearest) xs
        let dV := pages.flatMap (fun g => (List.range 256).map (fun j =>
          (List.range 128).map (weighted (g.probs.map (fun r => r.getD j 0)) (rows.map BwdRow.dO))))
        let dK := pages.flatMap (fun g => (List.range 256).map (fun j =>
          (List.range 128).map (weighted (g.grads.map (fun r => r.getD j 0)) (rows.map BwdRow.q))))
        let dQ := (List.range 128).map (fun r => (List.range 128).map (fun c =>
          columnSum (pages.map (fun g => f32 (weighted (g.grads.getD r []) g.keys c)))
            (if i.fresh then 0 else (rz.1.codes.getD r []).getD c 0) false))
        let part := fun (n : Nat) (rs : List (List Nat)) => rs.mapIdx (fun r xs =>
          ((slot n).base + r * (slot n).pitch, packElems 0 (conv xs).codes))
        let runs := part i.c (dQ.map (fun r => r.map Prod.fst)) ++ part (i.c + 1) dK ++ part (i.c + 2) dV
        let t2 := State.writeRuns d own t1 runs
        let listed := list.map Prod.fst
        let t3 := ((t2.tcNfIf ((rq.1.values ++ ro.1.values).any (fun r => bf16Nf (r.map toF32))) d k 3 pc).tcNfIf
          (listed.any (fun pg => t1.pageNan (entry pg) p.head)) d k 2 pc).tcNfIf (listed.any (fun pg => t1.pageOverflows (entry pg) p.head)) d k 4 pc
        let spill := dQ.any (fun r => r.any Prod.snd) || (List.zipWith (fun g x => BwdPage.spill g rows (vals x)) pages list).any id
        let t4 := ((t3.tcNfIf spill d k 1 pc).feederStalls d k p.seq p.layer listed).feederBad d k pc i.a p.head p.seq p.layer listed
        t4.tcStart d k ⟨pc, 0x43, 0, 640 * list.length, t1.oldRuns d runs, []⟩))

/-! ### KV_MOVE (R96, R97, R143) -/

/-- The pages of a planned move. -/
def moveList (p : KvSlot) (pool : Nat) : List KvPlanned :=
  (List.range p.nrows).map (fun j => ⟨p.seq, p.layer, p.pos / 256 + j, pool⟩)

/-- The checks of KV_MOVE at issue. -/
def State.moveCheck (s : State) (d : Fin 4) (k : Fin 11) (i : TcInstr) : TcFault :=
  let p := s.kvSlot d k i.a
  firstFault [s.kvParams d k i.a, s.kvRanges p i.a,
    need (p.pos % 256 == 0 && decide (i.c < 2) && decide (p.pos / 256 + p.nrows ≤ 2 ^ s.seqStride p.seq)) 0x06 i.a]

/-- KV_MOVE: planned moves of NROWS pages are posted; a page that lies in no near or moraine frame, and a destination
beyond the reservation, stop the operation (R92, R96, R97). -/
def execKvMove (d : Fin 4) (k : Fin 11) (s : State) : Host.Outcome State Fault Refusal :=
  .next (s.tcIssue d k 0x44 (s.moveCheck d k) (fun i pc t =>
    let p := t.kvSlot d k i.a
    let ms := moveList p i.c
    match ms.find? (fun m => (t.pte m.seq m.layer m.page).tier == 0 || (t.pte m.seq m.layer m.page).tier == 3) with
    | some m =>
      let e := t.pte m.seq m.layer m.page
      t.tcStop d k 0x13 pc i.a (if e.tier = 0 then 0 else t.pageAddr e) (pageDetail m.seq m.layer m.page)
    | none =>
      let r := Reg.ntKvResv (poolIx i.c)
      if t.seqTrain p.seq ∧ t.fld r Fld.ntKvResv_TRAIN_RESV < t.fld r Fld.ntKvResv_TRAIN_USED + ms.length then
        t.tcStop d k 0x18 pc i.a 0 (pageDetail p.seq p.layer (p.pos / 256))
      else
        let t1 := (t.setKv { t.kv with planned := t.kv.planned ++ ms }).kvProgress
        t1.tcStart d k ⟨pc, 0x44, 0, 4 * p.nrows, [], [p.seq, p.layer, p.pos / 256, p.nrows]⟩))

/-! ### Completion (R87, R137, R138) -/

/-- Every move of a KV_MOVE has completed (R137). -/
def State.movesOver (s : State) (aux : List Nat) : Bool :=
  let inRange := fun (n l p : Nat) => n == aux.getD 0 0 && l == aux.getD 1 0 &&
    decide (aux.getD 2 0 ≤ p ∧ p < aux.getD 2 0 + aux.getD 3 0)
  !(s.kv.planned.any (fun m => inRange m.seq m.layer m.page)) && !(s.kv.moves.any (fun m => inRange m.seq m.layer m.page))

/-- An operation may complete: a KV_MOVE once its moves have, a KV operation once no burst of its feeder is stalled (R68), a LEND only
by the optimizer engine's return. -/
def State.tcMayComplete (s : State) (d : Fin 4) (k : Fin 11) (op : TcOp) : Bool :=
  if op.opcode = 0x44 then s.movesOver op.aux
  else op.opcode != 0x06 && !(kvArrayOps.contains op.opcode && s.burstStalled (coreReq d k))

/-- LEN grows when an append to the last layer completes (R87). -/
def State.appendDone (s : State) (op : TcOp) : State :=
  let n := op.aux.getD 0 0
  if op.opcode = 0x40 ∧ op.aux.getD 1 0 + 1 = s.seqLayers n then s.seqPut n 0 4 (s.seqGet n 0 4 + op.aux.getD 2 0) else s

/-- An operation leaves the core. -/
def State.tcFinish (s : State) (d : Fin 4) (k : Fin 11) (op : TcOp) : State :=
  let rest := (s.tcCore d k).ops.erase op
  (s.setTcCore d k { s.tcCore d k with ops := rest }).put (.tcStatus d k) Fld.tcStatus_BUSY (b2n !rest.isEmpty)

/-- TC_OP_COMPLETE: the operation in flight that issued at this PC completes (R137, R138). -/
def execTcOpComplete (d : Fin 4) (k : Fin 11) (pc : BitVec 16) (s : State) : Host.Outcome State Fault Refusal :=
  .next (match (s.tcCore d k).ops.find? (fun o => o.pc == pc.toNat) with
  | none => s
  | some op => if s.tcMayComplete d k op then (s.appendDone op).tcFinish d k op else s)

end Sys2Proof.Machine
end

