-- ==== Sys2Proof/Machine/Dispatch.lean ====
section
/-! DEFINITION. Which meaning each command has. -/

namespace Sys2Proof.Machine

/-- The effect of a command on everything but the queue. -/
def exec (i : Instr) (s : State) : Host.Outcome State Fault Refusal :=
  match i with
  | .registerWrite r h v => Sys2Proof.Machine.execRegisterWrite r h v s
  | .auxRailOn strapLow => Sys2Proof.Machine.execAuxRailOn strapLow s
  | .auxRailLoss => Sys2Proof.Machine.execAuxRailLoss s
  | .mainRailOn => Sys2Proof.Machine.execMainRailOn s
  | .mainRailLoss => Sys2Proof.Machine.execMainRailLoss s
  | .rootPllLock => Sys2Proof.Machine.execRootPllLock s
  | .referenceLost => Sys2Proof.Machine.execReferenceLost s
  | .clockRestart => Sys2Proof.Machine.execClockRestart s
  | .perstAssert => Sys2Proof.Machine.execPerstAssert s
  | .perstRelease => Sys2Proof.Machine.execPerstRelease s
  | .housekeepingStageEnd => Sys2Proof.Machine.execHousekeepingStageEnd s
  | .basecampStageEnd => Sys2Proof.Machine.execBasecampStageEnd s
  | .manifestCheck => Sys2Proof.Machine.execManifestCheck s
  | .tokenWindowClose => Sys2Proof.Machine.execTokenWindowClose s
  | .belayTraining failed => Sys2Proof.Machine.execBelayTraining failed s
  | .ledgeMarchStage fails => Sys2Proof.Machine.execLedgeMarchStage fails s
  | .ridgeStage ok => Sys2Proof.Machine.execRidgeStage ok s
  | .nearTraining ok => Sys2Proof.Machine.execNearTraining ok s
  | .moraineTraining ok => Sys2Proof.Machine.execMoraineTraining ok s
  | .ropeBringup => Sys2Proof.Machine.execRopeBringup s
  | .serviceAnnounce => Sys2Proof.Machine.execServiceAnnounce s
  | .stageTimeout finished => Sys2Proof.Machine.execStageTimeout finished s
  | .dieReset dies => Sys2Proof.Machine.execDieReset dies s
  | .dieResetDone => Sys2Proof.Machine.execDieResetDone s
  | .hkRepairMapWrite n map => Sys2Proof.Machine.execHkRepairMapWrite n map s
  | .repairFlashWrite => Sys2Proof.Machine.execRepairFlashWrite s
  | .nearRead r a errs => Sys2Proof.Machine.execNearRead r a errs s
  | .nearWrite r a data => Sys2Proof.Machine.execNearWrite r a data s
  | .nearPartialWrite r a errs data => Sys2Proof.Machine.execNearPartialWrite r a errs data s
  | .moraineAccess r a len data e => Sys2Proof.Machine.execMoraineAccess r a len data e s
  | .unmappedAccess r a len data => Sys2Proof.Machine.execUnmappedAccess r a len data s
  | .ntRetire stack frame => Sys2Proof.Machine.execNtRetire stack frame s
  | .retireCopyDone => Sys2Proof.Machine.execRetireCopyDone s
  | .morRetire channel frame => Sys2Proof.Machine.execMorRetire channel frame s
  | .morRetireCopyDone => Sys2Proof.Machine.execMorRetireCopyDone s
  | .driftCheck drifts => Sys2Proof.Machine.execDriftCheck drifts s
  | .moraineCaseHot ch => Sys2Proof.Machine.execMoraineCaseHot ch s
  | .selfRefreshEntry ch => Sys2Proof.Machine.execSelfRefreshEntry ch s
  | .selfRefreshExit ch => Sys2Proof.Machine.execSelfRefreshExit ch s
  | .selfRefreshScrubWake ch => Sys2Proof.Machine.execSelfRefreshScrubWake ch s
  | .hostErrorCompletion r a len isRead => Sys2Proof.Machine.execHostErrorCompletion r a len isRead s
  | .swapDescTake q => Sys2Proof.Machine.execSwapDescTake q s
  | .swapDescSkip q => Sys2Proof.Machine.execSwapDescSkip q s
  | .swapDescDone q => Sys2Proof.Machine.execSwapDescDone q s
  | .scrubRead near find => Sys2Proof.Machine.execScrubRead near find s
  | .scrubOverdue near => Sys2Proof.Machine.execScrubOverdue near s
  | .calibrationTrigger stack temp => Sys2Proof.Machine.execCalibrationTrigger stack temp s
  | .calibrationSteal stack => Sys2Proof.Machine.execCalibrationSteal stack s
  | .calibrationChannelDone stack => Sys2Proof.Machine.execCalibrationChannelDone stack s
  | .deliverableCompute losses => Sys2Proof.Machine.execDeliverableCompute losses s
  | .contractStallRelease r => Sys2Proof.Machine.execContractStallRelease r s
  | .kvEnable en => Sys2Proof.Machine.execKvEnable en s
  | .kvAdmit n => Sys2Proof.Machine.execAdmit n s
  | .kvResume n => Sys2Proof.Machine.execResume n s
  | .kvCancel n => Sys2Proof.Machine.execCancel n s
  | .kvPreempt n => Sys2Proof.Machine.execPreempt n s
  | .kvStepAllocation entering => Sys2Proof.Machine.execKvStepAllocation entering s
  | .kvMoveComplete tag => Sys2Proof.Machine.execKvMoveComplete tag s
  | .tcNop d k => Sys2Proof.Machine.execTcNop d k s
  | .tcHalt d k => Sys2Proof.Machine.execHalt d k s
  | .tcFence d k => Sys2Proof.Machine.execFence d k s
  | .waitSeq d k => Sys2Proof.Machine.execWaitSeq d k s
  | .postSeq d k => Sys2Proof.Machine.execPostSeq d k s
  | .waitOwn d k => Sys2Proof.Machine.execWaitOwn d k s
  | .tcLend d k => Sys2Proof.Machine.execLend d k s
  | .lendReturn d k => Sys2Proof.Machine.execLendReturn d k s
  | .ldw d k => Sys2Proof.Machine.execLdw d k s
  | .swpw d k => Sys2Proof.Machine.execSwpw d k s
  | .mm d k => Sys2Proof.Machine.execMm d k s
  | .drain d k => Sys2Proof.Machine.execDrain d k s
  | .smax d k => Sys2Proof.Machine.execSmax d k s
  | .kvAppend d k => Sys2Proof.Machine.execKvAppend d k s
  | .kvSelect d k => Sys2Proof.Machine.execKvSelect d k s
  | .kvAttn d k => Sys2Proof.Machine.execKvAttn d k s
  | .kvAttnBwd d k => Sys2Proof.Machine.execKvAttnBwd d k s
  | .kvMove d k => Sys2Proof.Machine.execKvMove d k s
  | .tcOpComplete d k pc => Sys2Proof.Machine.execTcOpComplete d k pc s
  | .tcRun d k => Sys2Proof.Machine.execTcRun d k s
  | .tcStop d k => Sys2Proof.Machine.execTcStop d k s
  | .tcStopDone d k => Sys2Proof.Machine.execTcStopDone d k s
  | .tcProgLimitAdvance d k index => Sys2Proof.Machine.execTcProgLimitAdvance d k index s
  | .tcWaitTimeout d k => Sys2Proof.Machine.execTcWaitTimeout d k s
  | .tcRemapWrite d map => Sys2Proof.Machine.execTcRemapWrite d map s
  | .trvNop d j => Sys2Proof.Machine.execTrvNop d j s
  | .trvCopy d j => Sys2Proof.Machine.execCopy d j s
  | .trvFill d j => Sys2Proof.Machine.execFill d j s
  | .trvFence d j => Sys2Proof.Machine.execTrvFence d j s
  | .trvHalt d j => Sys2Proof.Machine.execTrvHalt d j s
  | .trvDescComplete d j => Sys2Proof.Machine.execTrvDescComplete d j s
  | .trvRun d j => Sys2Proof.Machine.execTrvRun d j s
  | .trvStop d j => Sys2Proof.Machine.execTrvStop d j s
  | .trvStopDone d j => Sys2Proof.Machine.execTrvStopDone d j s
  | .trvLimitAdvance d j index => Sys2Proof.Machine.execTrvLimitAdvance d j index s
  | .trvWaitTimeout d j => Sys2Proof.Machine.execTrvWaitTimeout d j s
  | .fusionPublish d b counts => Sys2Proof.Machine.execFusionPublish d b counts s
  | .fusionCountWrite d b count counts => Sys2Proof.Machine.execFusionCountWrite d b count counts s
  | .ledgeModeChange d pooled => Sys2Proof.Machine.execLedgeModeChange d pooled s
  | .ldgGive d writes => Sys2Proof.Machine.execLdgGive d writes s
  | .giveHeldApply d => Sys2Proof.Machine.execGiveHeldApply d s
  | .ledgeAccess d port0 port1 errs0 errs1 => Sys2Proof.Machine.execLedgeAccess d port0 port1 errs0 errs1 s
  | .ledgeRetry d => Sys2Proof.Machine.execLedgeRetry d s
  | .marchDestructive d banks => Sys2Proof.Machine.execMarchDestructive d banks s
  | .marchTransparent d banks => Sys2Proof.Machine.execMarchTransparent d banks s
  | .marchDone d fails => Sys2Proof.Machine.execMarchDone d fails s
  | .ledgeSoft d g row => Sys2Proof.Machine.execSoft d g row s
  | .ledgeSoftCopy d g row => Sys2Proof.Machine.execSoftCopy d g row s
  | .ledgeFuse d g row => Sys2Proof.Machine.execFuse d g row s
  | .ledgeFuseDone d ok => Sys2Proof.Machine.execFuseDone d ok s
  | .ledgeRelease d g row => Sys2Proof.Machine.execRelease d g row s
  | .detRequest => Sys2Proof.Machine.execDetRequest s
  | .detRequestDone => Sys2Proof.Machine.execDetRequestDone s
  | .gradQuantise d entry => Sys2Proof.Machine.execGradQuantise d entry s
  | .fallbackPublish d entry => Sys2Proof.Machine.execFallbackPublish d entry s
  | .entryApply d => Sys2Proof.Machine.execEntryApply d s
  | .passEntry d entry => Sys2Proof.Machine.execPassEntry d entry s
  | .stepMark d => Sys2Proof.Machine.execMark d s
  | .stepEnd d => Sys2Proof.Machine.execStepEnd d s
  | .jobVerdict => Sys2Proof.Machine.execJobVerdict s
  | .retractRestoreDone => Sys2Proof.Machine.execRetractRestoreDone s
  | .optWaitTimeout d => Sys2Proof.Machine.execOptWaitTimeout d s
  | .jobLoad plan => Sys2Proof.Machine.execJobLoad plan s
  | .jobEndRequest => Sys2Proof.Machine.execJobEndRequest s
  | .jobAbort => Sys2Proof.Machine.execJobAbort s
  | .jobEnd => Sys2Proof.Machine.execJobEnd s
  | .evalTake => Sys2Proof.Machine.execEvalTake s
  | .evalStepBoundary tokens refresh snap => Sys2Proof.Machine.execEvalStepBoundary tokens refresh snap s
  | .evalSliceError => Sys2Proof.Machine.execEvalSliceError s
  | .teamJoin d => Sys2Proof.Machine.execJoin d s
  | .joinTimeout d => Sys2Proof.Machine.execJoinTimeout d s
  | .colReduce d => Sys2Proof.Machine.execReduce d s
  | .colReduceScatter d => Sys2Proof.Machine.execReduceScatter d s
  | .colGather d => Sys2Proof.Machine.execGather d s
  | .colSend d => Sys2Proof.Machine.execSend d s
  | .colRecv d => Sys2Proof.Machine.execRecv d s
  | .colVote d => Sys2Proof.Machine.execVote d s
  | .colSwitch d => Sys2Proof.Machine.execSwitch d s
  | .switchBarrierDone d => Sys2Proof.Machine.execSwitchBarrierDone d s
  | .colReshard d => Sys2Proof.Machine.execReshard d s
  | .reshardBarrierDone d => Sys2Proof.Machine.execReshardBarrierDone d s
  | .colDescComplete d index => Sys2Proof.Machine.execColDescComplete d index s
  | .reduceContrib d desc level digit off bytes => Sys2Proof.Machine.execReduceContrib d desc level digit off bytes s
  | .normPartial d entry rank value => Sys2Proof.Machine.execNormPartial d entry rank value s
  | .colWaitTimeout d => Sys2Proof.Machine.execColWaitTimeout d s
  | .colStop d => Sys2Proof.Machine.execColStop d s
  | .ropeRead p x => Sys2Proof.Machine.execRopeRead p x s
  | .ropeWrite p x => Sys2Proof.Machine.execRopeWrite p x s
  | .ropeReduce p x => Sys2Proof.Machine.execRopeReduce p x s
  | .readResp p x => Sys2Proof.Machine.execReadResp p x s
  | .ropeAck p x => Sys2Proof.Machine.execAck p x s
  | .ropeNack p x => Sys2Proof.Machine.execNack p x s
  | .ropeCredit p x => Sys2Proof.Machine.execCredit p x s
  | .ropeLink p x => Sys2Proof.Machine.execLink p x s
  | .ropeHeartbeat p x => Sys2Proof.Machine.execRopeHeartbeat p x s
  | .ropeTime p x => Sys2Proof.Machine.execTime p x s
  | .ropeLane p x => Sys2Proof.Machine.execLane p x s
  | .ropeHello p x => Sys2Proof.Machine.execHello p x s
  | .ropeRelay p x => Sys2Proof.Machine.execRopeRelay p x s
  | .neighborSolicitation p x => Sys2Proof.Machine.execNeighborSolicitation p x s
  | .creditReportTimer p => Sys2Proof.Machine.execCreditReportTimer p s
  | .linkAckTimer p => Sys2Proof.Machine.execLinkAckTimer p s
  | .replayTimeout p => Sys2Proof.Machine.execReplayTimeout p s
  | .reqTimeout d tag => Sys2Proof.Machine.execReqTimeout d tag s
  | .pathLimit d tag => Sys2Proof.Machine.execPathLimit d tag s
  | .dedupFullResend d tag => Sys2Proof.Machine.execDedupFullResend d tag s
  | .helloTimer p => Sys2Proof.Machine.execHelloTimer p s
  | .portUp p foms => Sys2Proof.Machine.execPortUp p foms s
  | .portBringupTimeout p => Sys2Proof.Machine.execPortBringupTimeout p s
  | .laneFail p l partnerDrops => Sys2Proof.Machine.execLaneFail p l partnerDrops s
  | .ropeRetrain p => Sys2Proof.Machine.execRetrain p s
  | .ropeRetrainDone p foms => Sys2Proof.Machine.execRetrainDone p foms s
  | .timeExchange => Sys2Proof.Machine.execTimeExchange s
  | .videoDecode => Sys2Proof.Machine.execVideoDecode s
  | .imageDecode => Sys2Proof.Machine.execImageDecode s
  | .audioDecode => Sys2Proof.Machine.execAudioDecode s
  | .videoEncode q => Sys2Proof.Machine.execVideoEncode q s
  | .encStallResume n => Sys2Proof.Machine.execEncStallResume n s
  | .medRequestComplete q unit => Sys2Proof.Machine.execMedRequestComplete q unit s
  | .medDisable => Sys2Proof.Machine.execMedDisable s
  | .tokenize => Sys2Proof.Machine.execTokenize s
  | .tokRequestComplete unit => Sys2Proof.Machine.execTokRequestComplete unit s
  | .tokDisable => Sys2Proof.Machine.execTokDisable s
  | .augFill => Sys2Proof.Machine.execAugFill s
  | .augRequestComplete unit => Sys2Proof.Machine.execAugRequestComplete unit s
  | .chkStreamOpen point tag => Sys2Proof.Machine.execChkStreamOpen point tag s
  | .chkStreamClose point tag => Sys2Proof.Machine.execChkStreamClose point tag s
  | .chkStateWrite e isBytes v upto => Sys2Proof.Machine.execChkStateWrite e isBytes v upto s
  | .hartRun run => Sys2Proof.Machine.execHartRun run s
  | .hartIoAccess h a size data => Sys2Proof.Machine.execHartIoAccess h a size data s
  | .irqEvent src => Sys2Proof.Machine.execIrqEvent src s
  | .irqClaim h m again => Sys2Proof.Machine.execClaim h m again s
  | .irqComplete h m src => Sys2Proof.Machine.execComplete h m src s
  | .msipSet mask => Sys2Proof.Machine.execMsipSet mask s
  | .msipClear mask set => Sys2Proof.Machine.execMsipClear mask set s
  | .machineTimer h => Sys2Proof.Machine.execMachineTimer h s
  | .mboxOpen => Sys2Proof.Machine.execMboxOpen s
  | .dictRead => Sys2Proof.Machine.execMboxDictRead s
  | .dictWrite => Sys2Proof.Machine.execMboxDictWrite s
  | .fwWrite => Sys2Proof.Machine.execMboxFwWrite s
  | .fwCommit => Sys2Proof.Machine.execMboxFwCommit s
  | .factoryToken => Sys2Proof.Machine.execMboxFactoryToken s
  | .mboxDiag => Sys2Proof.Machine.execMboxDiag s
  | .mboxClose => Sys2Proof.Machine.execMboxClose s
  | .budgetRedistribute => Sys2Proof.Machine.execBudgetRedistribute s
  | .budgetAdopt d => Sys2Proof.Machine.execBudget d s
  | .budgetAck d => Sys2Proof.Machine.execBudgetAck d s
  | .budgetAckLate d => Sys2Proof.Machine.execBudgetAckLate d s
  | .budgetAckFatal d => Sys2Proof.Machine.execBudgetAckFatal d s
  | .dutyRejudge d raw => Sys2Proof.Machine.execDutyRejudge d raw s
  | .modeChange m => Sys2Proof.Machine.execModeChange m s
  | .thermalLimit j temp => Sys2Proof.Machine.execThermalLimit j temp s
  | .thermalCapStep d => Sys2Proof.Machine.execThermalCapStep d s
  | .thermalClear j temp => Sys2Proof.Machine.execThermalClear j temp s
  | .overTemperature j temp => Sys2Proof.Machine.execOverTemperature j temp s
  | .compatDuty n temp => Sys2Proof.Machine.execCompatDuty n temp s
  | .brakeAssert => Sys2Proof.Machine.execBrakeAssert s
  | .brakeRelease => Sys2Proof.Machine.execBrakeRelease s
  | .gainTrim meter raws => Sys2Proof.Machine.execGainTrim meter raws s
  | .sensorOffsetUpdate j tref power refOk readings => Sys2Proof.Machine.execSensorOffsetUpdate j tref power refOk readings s
  | .faultRecord => Sys2Proof.Machine.execFaultRecord s
  | .fltAck q => Sys2Proof.Machine.execFltAck q s
  | .fltClear q => Sys2Proof.Machine.execFltClear q s
  | .fltInject w => Sys2Proof.Machine.execFltInject w s
  | .graceExpiry => Sys2Proof.Machine.execGraceExpiry s
  | .errPulseEnd => Sys2Proof.Machine.execErrPulseEnd s
  | .hbEnable => Sys2Proof.Machine.execHbEnable s
  | .hbDisable => Sys2Proof.Machine.execHbDisable s
  | .hbFail => Sys2Proof.Machine.execHbFail s
  | .heartbeatTick => Sys2Proof.Machine.execHeartbeatTick s
  | .restartNotice epoch failed => Sys2Proof.Machine.execRestartNotice epoch failed s
  | .quiesceComplete => Sys2Proof.Machine.execQuiesceComplete s
  | .restartPromote map => Sys2Proof.Machine.execRestartPromote map s
  | .restartReport r => Sys2Proof.Machine.execRestartReport r s
  | .restartTarget step => Sys2Proof.Machine.execRestartTarget step s
  | .restoreComplete => Sys2Proof.Machine.execRestoreComplete s
  | .refillComplete => Sys2Proof.Machine.execRefillComplete s
  | .resumeBarrierDone => Sys2Proof.Machine.execResumeBarrierDone s
  | .mirrorComplete => Sys2Proof.Machine.execMirrorComplete s
  | .t1sRead req => Sys2Proof.Machine.execT1sRead req s
  | .t1sWrite req => Sys2Proof.Machine.execT1sWrite req s
  | .discover req => Sys2Proof.Machine.execDiscover req s
  | .t1sUnknownOp req => Sys2Proof.Machine.execT1sUnknownOp req s
  | .keptFlashWrite => Sys2Proof.Machine.execKeptFlashWrite s
  | .lampIdentify ambient => Sys2Proof.Machine.execIdentify ambient s
  | .readSummary ambient => Sys2Proof.Machine.execReadSummary ambient s
  | .tagForReplacement workOrder ambient => Sys2Proof.Machine.execTagForReplacement workOrder ambient s
  | .headlampReject reason ambient => Sys2Proof.Machine.execHeadlampReject reason ambient s
  | .headlampReply => Sys2Proof.Machine.execHeadlampReply s
  | .pcieConfigRequest r data => Sys2Proof.Machine.execPcieConfigRequest r data s
  | .bar0Access off len whole data => Sys2Proof.Machine.execBar0Access off len whole data s
  | .bar2Access off len data => Sys2Proof.Machine.execBar2Access off len data s
  | .bar4Access off wide data => Sys2Proof.Machine.execBar4Access off wide data s
  | .pcieLinkUp rate width flit => Sys2Proof.Machine.execPcieLinkUp rate width flit s
  | .pcieLinkDown => Sys2Proof.Machine.execPcieLinkDown s
  | .linkWaitExpiry r a => Sys2Proof.Machine.execLinkWaitExpiry r a s
  | .completionTimeout r a => Sys2Proof.Machine.execCompletionTimeout r a s
  | .d3hotEntry => Sys2Proof.Machine.execD3hotEntry s
  | .d0Return => Sys2Proof.Machine.execD0Return s
  | .msixSend v again => Sys2Proof.Machine.execMsixSend v again s
  | .nearStackHot stack loss => Sys2Proof.Machine.execNearStackHot stack loss s
  | .priorityPauseFrame p prio pause => Sys2Proof.Machine.execPriorityPauseFrame p prio pause s
  | .agreeBoundExpiry => Sys2Proof.Machine.execAgreeBoundExpiry s
  | .pinnedRecordFlashWrite => Sys2Proof.Machine.execPinnedRecordFlashWrite s
  | .supervisorTimer h cmp => Sys2Proof.Machine.execSupervisorTimer h cmp s
  | .hartMemoryAccess h a op bad => Sys2Proof.Machine.execHartMemoryAccess h a op bad s
  | .pcieUnsupportedRequest k => Sys2Proof.Machine.execPcieUnsupportedRequest k s

end Sys2Proof.Machine
end

