-- ==== Sys2Proof/Machine/Tick.lean ====
section
/-! DEFINITION. One H-clock cycle of 4 ns, which passes while no command waits: the timestamp (R34), the idle counters of the
tensor cores and collective engines (R138, R253, R254, R278), and a management response that is sent (log entry 17). -/

namespace Sys2Proof.Machine

/-- Operations whose occupancy of a unit pauses while duty limiting skips a cycle: those of the array, the drain port and the softmax
unit, and what the engine runs on a lent core (R132). -/
def pausedOps : List Nat := [0x06, 0x20, 0x28, 0x30] ++ kvArrayOps

/-- Operations whose cycles of occupancy are busy cycles of the core (R253). -/
def busyOps : List Nat := [0x06, 0x20] ++ kvArrayOps

/-- Idle cause of the operation that waits at the issue stage, as an index of TC_IDLE: 0 peer data, 2 copy, 4 bank ownership, 5 pipeline
bubble, 6 calibration steal, 7 fault handling (R138). -/
def State.waitCause (s : State) (d : Fin 4) (k : Fin 11) (i : TcInstr) : Nat :=
  if !s.unitFree d k i.opcode then 5
  else if !s.tcInterlock d k i then
    (if i.opcode = 0x03 then s.fld (.trvFbuf d (Fin.ofNat 256 i.a)) Fld.trvFbuf_CAUSE else if i.opcode = 0x05 then 4 else 5)
  else if s.kvWaits d k i then (if s.tiers.calib.any Calibration.stealing then 6 else 7)
  else 5

/-- A KV operation in flight whose feeder is stalled by its contract, or by compute streams that are degraded (R68, R71). -/
def State.feederHeld (s : State) (d : Fin 4) (k : Fin 11) : Bool :=
  s.tcBusyWith d k kvArrayOps && (s.burstStalled (coreReq d k) || s.computeThrottled)

/-- Cause of an idle cycle of a core (R138, R212, R254): a lent core counts peer data, and copy while the engine waits for the mirror or
for a stalled burst of its copy port. -/
def State.idleCause (s : State) (d : Fin 4) (k : Fin 11) : Nat :=
  if s.isSet (.tcStatus d k) Fld.tcStatus_LENT then
    (match (s.optDie d).run with
     | some r => if r.phase == 2 && (s.mirrorReads || s.burstStalled (optReq d)) then 2 else 0
     | none => 0)
  else if s.feederHeld d k then 2
  else match s.tcNext d k with
    | none => 2
    | some i => s.waitCause d k i

/-- An operation in flight after eight cycles, of which duty limiting skipped some (R132, R137). -/
def TcOp.after (o : TcOp) (skipped : Nat) : TcOp := { o with left := o.left - if pausedOps.contains o.opcode then 8 - skipped else 8 }

/-- Cycles of eight in which the array of a core is busy (R253). -/
def TcCore.busy (c : TcCore) (skipped : Nat) : Nat :=
  min (8 - skipped) ((c.ops.filter (fun o => busyOps.contains o.opcode)).map TcOp.left).sum

/-- Eight T-clock cycles of a core: those that duty limiting skips count as power arbiter, a busy one counts under no cause, the rest
count under the cause of the operation that waits. Which cycles the arbiter skips the model does not fix: their number is a free value
(R132, R138, R253, R254; log entry 17). -/
def State.coreTick (s : State) (d : Fin 4) (k : Fin 11) : State :=
  let limited := s.dutyLimited d
  let skipped := if limited then s.freeVal % 9 else 0
  let s1 := if limited then s.tookFree else s
  let c := s1.tcCore d k
  let next : TcCore := { c with ops := c.ops.map (fun o => o.after skipped), hold := c.hold - 8 }
  if s.isSet (.tcCtrl d k) Fld.tcCtrl_RUN || s.isSet (.tcStatus d k) Fld.tcStatus_LENT then
    ((s1.setTcCore d k { next with cycles := c.cycles + 8 }).addf (.tcIdle d k 3) Fld.tcIdle_CYCLES skipped).addf
      (.tcIdle d k (Fin.ofNat 8 (s.idleCause d k))) Fld.tcIdle_CYCLES (8 - skipped - c.busy skipped)
  else if c.ops.isEmpty && c.hold == 0 then s
  else s1.setTcCore d k next

/-- Six F-clock cycles of a collective engine, idle while a descriptor awaits a peer (R278). -/
def State.colTick (s : State) (d : Fin 4) : State :=
  if (s.colDie d).runs.any (s.awaitsPeer d) then s.addf (.colIdle d) Fld.colIdle_COUNT 6 else s

/-- Eight T-clock cycles of the generators of a die, counted from its last marker (R114). -/
def State.laneTick (s : State) (d : Fin 4) : State :=
  { s with tensor := { s.tensor with elapsed := s.tensor.elapsed.set d.val (s.tensor.elapsed.getD d.val 0 + 8) } }

/-- The second cycle of a partial write is over (R186). -/
def State.ledgeTick (s : State) (d : Fin 4) : State :=
  if (s.ledgeOf d).second.isEmpty then s else s.setLedge d { s.ledgeOf d with second := [] }

/-- The cycles of a ridge die whose compute domain is out of reset (R25, R33). -/
def State.dieTick (s : State) (d : Fin 4) : State :=
  if s.doms.compute.testBit d.val then
    let s1 := if s.clocks.tRun then ((List.finRange 11).foldl (fun (t : State) k => t.coreTick d k) s).laneTick d else s
    if s1.clocks.fRun then (s1.colTick d).ledgeTick d else s1
  else s

/-- Each lane in use of a port that is up adapts to what it receives: its figure of merit is what it then is, a free value (R306; log entry
50). -/
def State.adaptLane (p : Fin 16) (s : State) (l : Fin 4) : State :=
  if (s.fld (pStatus p) Fld.ropeStatus_LANE_OK).testBit l.val then
    (s.put (.ropeLane (portDie p) (portLocal p) l) Fld.ropeLane_FOM (s.freeVal % 256)).tookFree
  else s

/-- A receive lane of a team port may ask the far end for another pre-emphasis; whether and for which is free (R306; log entry 50). -/
def State.askPreEmphasis (p : Fin 16) (s : State) (l : Fin 4) : State :=
  if (s.fld (pStatus p) Fld.ropeStatus_LANE_OK).testBit l.val then
    if s.freeVal % 2 = 1 then s.tookFree.sendLane p 0 l.val (s.freeVal / 2 % 256) else s.tookFree
  else s

/-- The receiver has aligned to the surviving lane and confirms (R308). -/
def State.confirmLane (s : State) (p : Fin 16) : State :=
  match (s.port p).confirm with
  | some l => (s.setPort p { s.port p with confirm := none }).sendLane p 2 l 0
  | none => s

/-- A cycle of a port: requests that it holds are judged again, and link control has emptied the buffer of virtual channel 3; a port that
is up adapts its lanes and confirms the loss of one (R290, R306, R308). -/
def State.linkTick (s : State) (p : Fin 16) : State :=
  let s0 := if (s.port p).held.isEmpty then s else s.serveHeld p
  let s1 := if (s0.port p).link = 0 then s0 else s0.setPort p { s0.port p with link := 0 }
  if s1.portLive p && s1.portIsUp p then
    let s2 := (List.finRange 4).foldl (State.adaptLane p) s1
    (if isTeam p then [2, 3].foldl (State.askPreEmphasis p) s2 else s2).confirmLane p
  else s1

/-- One response that the management port has in hand is sent (R443). -/
def State.t1sSend (s : State) : State :=
  match s.dict.t1sHand with
  | [] => s
  | r :: rest => ({ s with dict := { s.dict with t1sHand := rest } }).emit (.t1s r)

/-- A telemetry sample falls due: the counter advances, and the next one follows after the period that degradation leaves (R71, R435). -/
def State.sampleTick (s : State) : State :=
  if s.now < s.dict.nextSample then s
  else { s with dict := { s.dict with samples := (s.dict.samples + 1) % 2 ^ 32, nextSample := s.now + s.telemetryPeriod * 1000000 } }

/-- One cycle of the H-clock. Without a locked PLL no clock runs (R32, R34). -/
def State.tick (s : State) : State :=
  if s.clocks.pll then
    let s0 := (List.finRange 4).foldl (fun (t : State) d => t.dieTick d) s
    let s1 := if s0.clocks.fRun then allPorts.foldl State.linkTick s0 else s0
    { s1.t1sSend.sampleTick with time := s1.time + 4 }
  else s

end Sys2Proof.Machine
end

