-- ==== Sys2Proof/Safety.lean ====
section
/-! DEFINITION. What counts as a sound state and what a step may change, in the terms that claims use. -/

namespace Sys2Proof.Machine

/-- The storage has its canonical form. -/
def State.memOk (s : State) : Bool := s.mem.wf

/-- A command answers a next state, of which `P` holds. -/
def Completes (c : Instr) (s : State) (P : State → Prop) : Prop := ∃ t, exec c s = .next t ∧ P t

/-- The operation at TC_PC of a core went in flight: TC_PC moved on, the operation stands last, and BUSY reads 1 (R133, R138). -/
def Launched (d : Fin 4) (k : Fin 11) (op : TcOp) (s t : State) : Prop :=
  t.tcPcOf d k = (s.tcPcOf d k + 1) % 2 ^ 16 ∧ (∃ w, (t.tcCore d k).ops = (s.tcCore d k).ops ++ [{ op with wrote := w }]) ∧
  t.fld (.tcStatus d k) Fld.tcStatus_BUSY = 1

/-- An engine stopped with a failure: RUN reads 0, and TRV_ERR holds the code and the PC unless it already held a record (R172). -/
def EngineStopped (d : Fin 4) (j : Fin 22) (code : Nat) (s t : State) : Prop :=
  t.fld (.trvCtrl d j) Fld.trvCtrl_RUN = 0 ∧ (s.isSet (.trvErr d j) Fld.trvErr_VALID = false →
    t.fld (.trvErr d j) Fld.trvErr_CODE = code ∧ t.fld (.trvErr d j) Fld.trvErr_PC = s.trvPcOf d j)

/-- An engine met a stopping failure: it stopped at once when nothing ran; otherwise the failure waits behind the descriptors that run,
and no other one starts (R172). -/
def EngineFails (d : Fin 4) (j : Fin 22) (code : Nat) (s t : State) : Prop :=
  t.mem = s.mem ∧ (s.trvRuns d j = [] → EngineStopped d j code s t ∧ t.trv = s.trv) ∧
  (s.trvRuns d j ≠ [] → engineIx d j < s.trv.length → t.trvHasNext d j = false ∧
    ∃ level addr, t.trvRuns d j = s.trvRuns d j ++ [⟨s.trvPcOf d j, [], [], some (code, level, addr)⟩])

/-- A core stopped with a failure: RUN reads 0, and TC_ERR holds the code and the PC unless it already held a record (R144). -/
def CoreStopped (d : Fin 4) (k : Fin 11) (code : Nat) (s t : State) : Prop :=
  t.fld (.tcCtrl d k) Fld.tcCtrl_RUN = 0 ∧ (s.isSet (.tcErr d k) Fld.tcErr_VALID = false →
    t.fld (.tcErr d k) Fld.tcErr_CODE = code ∧ t.fld (.tcErr d k) Fld.tcErr_PC = s.tcPcOf d k)

/-- No request of the device waits: none for its tag, and no outstanding one to be sent again (R297, R299). -/
def RopeQuiet (s : State) : Prop := ∀ e, (s.ropeDie e).queue = [] ∧ (s.ropeDie e).open_.all (fun r => !r.parked) = true

/-- The groups of registers of the address map (R474 to R476). -/
inductive Block where
  /-- Housekeeping registers (HK_). -/
  | hk
  /-- Power arbiter registers (PWR_). -/
  | pwr
  /-- Fault collector registers (FLT_). -/
  | flt
  /-- Near-tier and KV registers (NT_). -/
  | nt
  /-- Moraine registers (MOR_). -/
  | mor
  /-- Media registers (MED_). -/
  | med
  /-- Tokenizer registers (TOK_). -/
  | tok
  /-- Augmentation registers (AUG_). -/
  | aug
  /-- Check-value registers (CHK_). -/
  | chk
  /-- Basecamp registers (BC_). -/
  | bc
  /-- Tensor core registers, program memories and slot tables (TC_). -/
  | tc
  /-- TC_REMAP. -/
  | tcr
  /-- Traverse engine registers and rings (TRV_). -/
  | trv
  /-- Fusion buffers (TRV_FBUF). -/
  | fb
  /-- Optimizer registers (OPT_). -/
  | opt
  /-- Ledge registers (LDG_). -/
  | ldg
  /-- Collective registers (COL_). -/
  | col
  /-- Rope port registers (ROPE_). -/
  | rope
  /-- Rope registers of a whole die (ROPE_). -/
  | ropec
deriving DecidableEq, Repr

/-- The group that a register stands in. -/
def Reg.block : Reg → Block
  | .hkShape => .hk
  | .hkRopeExpect => .hk
  | .hkBoot => .hk
  | .hkBootCtrl => .hk
  | .hkRepairMap _ => .hk
  | .hkBootTime _ => .hk
  | .hkFw _ => .hk
  | .hkBelayRole _ _ => .hk
  | .hkBelayStatus _ => .hk
  | .hkJournal => .hk
  | .hkT1s => .hk
  | .hkHeadlamp => .hk
  | .hkJrnl _ _ => .hk
  | .pwrCtrl => .pwr
  | .pwrStatus => .pwr
  | .pwrDomain _ => .pwr
  | .pwrGain _ => .pwr
  | .pwrTherm _ => .pwr
  | .pwrTlimit => .pwr
  | .fltStatus => .flt
  | .fltCtrl => .flt
  | .fltAck => .flt
  | .fltClear => .flt
  | .fltHead => .flt
  | .fltGrace => .flt
  | .fltDeadline => .flt
  | .fltTotals => .flt
  | .fltPin => .flt
  | .fltInject => .flt
  | .fltHb => .flt
  | .fltRestart => .flt
  | .fltMirror => .flt
  | .fltMset => .flt
  | .fltMarea => .flt
  | .fltMgen _ => .flt
  | .fltFence => .flt
  | .fltRec _ _ => .flt
  | .ntPinMap _ => .nt
  | .ntCtrl => .nt
  | .ntRetire => .nt
  | .ntRetireStatus => .nt
  | .ntContractState => .nt
  | .ntSubstBase _ => .nt
  | .ntKvCfg => .nt
  | .ntKvPool _ => .nt
  | .ntKvBook _ => .nt
  | .ntKvResv _ => .nt
  | .ntKvCmd => .nt
  | .ntKvStatus => .nt
  | .ntKvSeqBase => .nt
  | .ntKvEvqBase => .nt
  | .ntKvEvqPtr => .nt
  | .morRetire => .mor
  | .morRetireStatus => .mor
  | .morSwapqBase _ => .mor
  | .morSwapqPtr _ => .mor
  | .medCtrl => .med
  | .medStatus => .med
  | .medCounts => .med
  | .medQbase _ => .med
  | .medQptr _ => .med
  | .medVpool _ => .med
  | .medEncOut _ => .med
  | .medEncPtr _ => .med
  | .medEncStat _ => .med
  | .tokCtrl => .tok
  | .tokDict => .tok
  | .tokIds => .tok
  | .tokQbase => .tok
  | .tokQptr => .tok
  | .tokCounts => .tok
  | .augCtrl => .aug
  | .augQbase => .aug
  | .augQptr => .aug
  | .augKey _ _ => .aug
  | .chkPointCfg _ => .chk
  | .chkPointState _ => .chk
  | .chkPointResult _ => .chk
  | .chkPointBytes _ => .chk
  | .chkChanCfg _ => .chk
  | .chkChanState _ => .chk
  | .chkChanResult _ => .chk
  | .chkChanBytes _ => .chk
  | .bcHart => .bc
  | .bcResetVec => .bc
  | .bcHwin _ => .bc
  | .bcDetBase => .bc
  | .bcDetPtr => .bc
  | .bcJobCtrl => .bc
  | .bcJobPlan => .bc
  | .bcJobStatus => .bc
  | .bcJobReport => .bc
  | .bcEvalRing => .bc
  | .bcEvalPtr => .bc
  | .bcJobLock => .bc
  | .bcMboxCtrl => .bc
  | .bcHapt _ => .bc
  | .bcMboxReq _ => .bc
  | .bcMboxResp _ => .bc
  | .bcIrqRoute _ => .bc
  | .bcIrqThreshold _ _ => .bc
  | .bcIrqComplete _ _ => .bc
  | .bcIrqTimecmp _ => .bc
  | .bcIrqMsip => .bc
  | .bcIrqMsipSet => .bc
  | .tcId _ _ => .tc
  | .tcCtrl _ _ => .tc
  | .tcStatus _ _ => .tc
  | .tcPc _ _ => .tc
  | .tcProgLimit _ _ => .tc
  | .tcErr _ _ => .tc
  | .tcFlags _ _ => .tc
  | .tcWaitLimit _ _ => .tc
  | .tcIdle _ _ _ => .tc
  | .tcOps _ _ => .tc
  | .tcProg _ _ _ => .tc
  | .tcSlot _ _ _ _ => .tc
  | .tcRemap _ => .tcr
  | .trvId _ _ => .trv
  | .trvCtrl _ _ => .trv
  | .trvStatus _ _ => .trv
  | .trvPc _ _ => .trv
  | .trvLimit _ _ => .trv
  | .trvErr _ _ => .trv
  | .trvWaitLimit _ _ => .trv
  | .trvBytes _ _ => .trv
  | .trvMset _ _ _ => .trv
  | .trvMofs _ _ _ => .trv
  | .trvRing _ _ _ _ => .trv
  | .trvFbuf _ _ => .fb
  | .trvFbCtrl _ => .fb
  | .optCtrl _ => .opt
  | .optStatus _ => .opt
  | .optLtab _ => .opt
  | .optRlog _ => .opt
  | .optLscale _ => .opt
  | .optStep _ => .opt
  | .optAttempt _ => .opt
  | .optCursor _ => .opt
  | .optBatch _ => .opt
  | .optErr _ => .opt
  | .optWaitLimit _ => .opt
  | .optLsAddr _ => .opt
  | .optCommitBase _ => .opt
  | .optSrSeed _ => .opt
  | .optWork _ _ => .opt
  | .optNsc _ _ => .opt
  | .optConst _ _ => .opt
  | .optEprog _ _ => .opt
  | .ldgCtrl _ => .ldg
  | .ldgViol _ => .ldg
  | .ldgEcc _ => .ldg
  | .ldgMarch _ => .ldg
  | .ldgMarchStatus _ => .ldg
  | .ldgRepair _ => .ldg
  | .ldgRepairStatus _ => .ldg
  | .ldgGive _ _ => .ldg
  | .ldgOwn _ _ => .ldg
  | .ldgSpare _ _ _ => .ldg
  | .colCtrl _ => .col
  | .colStatus _ => .col
  | .colTeam _ => .col
  | .colPhase _ => .col
  | .colErr _ => .col
  | .colWaitLimit _ => .col
  | .colIdle _ => .col
  | .colBytes _ => .col
  | .colRx _ => .col
  | .colMap _ _ => .col
  | .ropeCtrl _ _ => .rope
  | .ropeStatus _ _ => .rope
  | .ropeAddr _ _ => .rope
  | .ropeIpPrefix _ _ => .rope
  | .ropeNexthop _ _ => .rope
  | .ropeVc _ _ => .rope
  | .ropeCredit _ _ _ => .rope
  | .ropeSeq _ _ => .rope
  | .ropeErrs _ _ => .rope
  | .ropeDisc _ _ => .rope
  | .ropeLane _ _ _ => .rope
  | .ropeTimeout _ => .ropec
  | .ropeRetx _ => .ropec
  | .ropeDedup _ => .ropec
  | .ropeTimeOfs _ => .ropec
  | .ropeCommonLock _ => .ropec

/-- The parts of the state beside the queue: its fields, and its registers group by group. -/
inductive Part where
  | mem
  | a0
  | time
  | freeCtr
  | out
  | rails
  | clocks
  | doms
  | boot
  | images
  | repair
  | faults
  | dict
  | power
  | camp
  | pcie
  | tiers
  | ledge
  | restart
  | job
  | input
  | kv
  | tensor
  | trv
  | det
  | opt
  | col
  | ports
  | rope
  | regs (b : Block)
deriving DecidableEq, Repr

/-- A part of the state is the same in two states. -/
def Part.same (p : Part) (s t : State) : Prop :=
  match p with
  | .mem => t.mem = s.mem
  | .a0 => t.a0 = s.a0
  | .time => t.time = s.time
  | .freeCtr => t.freeCtr = s.freeCtr
  | .out => t.out = s.out
  | .rails => t.rails = s.rails
  | .clocks => t.clocks = s.clocks
  | .doms => t.doms = s.doms
  | .boot => t.boot = s.boot
  | .images => t.images = s.images
  | .repair => t.repair = s.repair
  | .faults => t.faults = s.faults
  | .dict => t.dict = s.dict
  | .power => t.power = s.power
  | .camp => t.camp = s.camp
  | .pcie => t.pcie = s.pcie
  | .tiers => t.tiers = s.tiers
  | .ledge => t.ledge = s.ledge
  | .restart => t.restart = s.restart
  | .job => t.job = s.job
  | .input => t.input = s.input
  | .kv => t.kv = s.kv
  | .tensor => t.tensor = s.tensor
  | .trv => t.trv = s.trv
  | .det => t.det = s.det
  | .opt => t.opt = s.opt
  | .col => t.col = s.col
  | .ports => t.ports = s.ports
  | .rope => t.rope = s.rope
  | .regs b => ∀ r : Reg, r.block = b → t.get r = s.get r

/-- Only the parts listed may differ between two states. -/
def Frame (l : List Part) (s t : State) : Prop := ∀ p : Part, p ∉ l → p.same s t

/-- Only the parts listed may differ after a command that answers a next state. -/
def ChangesOnly (l : List Part) (c : Instr) : Prop := ∀ s t : State, exec c s = .next t → t.pending = s.pending ∧ Frame l s t

/-- The access code of the field that holds a bit of a register; none for a reserved bit (R14, R16). -/
def Reg.accAt (r : Reg) (i : Nat) : Option Access := (r.fields.find? (fun x => decide (x.fld.lo ≤ i ∧ i ≤ x.fld.hi))).map FieldSpec.acc

/-- A write of a register, or of one half of it, covers a bit (R12). -/
def Half.covers (h : Half) (i : Nat) : Bool :=
  match h with
  | .whole => true
  | .low => decide (i < 32)
  | .high => decide (32 ≤ i)

/-- A register whose software write sets nothing off, and whose fields have no rule of value beside their access codes. -/
def Reg.plain : Reg → Bool
  | .hkShape => true
  | .hkBoot => true
  | .hkBootTime _ => true
  | .hkFw _ => true
  | .hkBelayRole _ _ => true
  | .hkBelayStatus _ => true
  | .hkJournal => true
  | .hkT1s => true
  | .hkHeadlamp => true
  | .hkJrnl _ _ => true
  | .pwrStatus => true
  | .pwrDomain _ => true
  | .pwrGain _ => true
  | .pwrTherm _ => true
  | .fltStatus => true
  | .fltHead => true
  | .fltGrace => true
  | .fltDeadline => true
  | .fltTotals => true
  | .fltPin => true
  | .fltRestart => true
  | .fltMirror => true
  | .fltMset => true
  | .fltMarea => true
  | .fltMgen _ => true
  | .fltFence => true
  | .fltRec _ _ => true
  | .ntPinMap _ => true
  | .ntCtrl => true
  | .ntRetireStatus => true
  | .ntContractState => true
  | .ntKvPool _ => true
  | .ntKvBook _ => true
  | .ntKvResv _ => true
  | .ntKvStatus => true
  | .ntKvSeqBase => true
  | .ntKvEvqBase => true
  | .ntKvEvqPtr => true
  | .morRetireStatus => true
  | .morSwapqPtr _ => true
  | .medStatus => true
  | .medCounts => true
  | .medQbase _ => true
  | .medQptr _ => true
  | .medEncOut _ => true
  | .medEncPtr _ => true
  | .medEncStat _ => true
  | .tokDict => true
  | .tokIds => true
  | .tokQbase => true
  | .tokQptr => true
  | .tokCounts => true
  | .augCtrl => true
  | .augQbase => true
  | .augQptr => true
  | .augKey _ _ => true
  | .chkPointResult _ => true
  | .chkChanResult _ => true
  | .bcResetVec => true
  | .bcHwin _ => true
  | .bcDetPtr => true
  | .bcJobStatus => true
  | .bcEvalRing => true
  | .bcEvalPtr => true
  | .bcJobLock => true
  | .bcHapt _ => true
  | .bcMboxResp _ => true
  | .bcIrqRoute _ => true
  | .bcIrqThreshold _ _ => true
  | .tcId _ _ => true
  | .tcStatus _ _ => true
  | .tcFlags _ _ => true
  | .tcWaitLimit _ _ => true
  | .tcIdle _ _ _ => true
  | .tcOps _ _ => true
  | .tcProg _ _ _ => true
  | .tcSlot _ _ _ _ => true
  | .trvId _ _ => true
  | .trvStatus _ _ => true
  | .trvWaitLimit _ _ => true
  | .trvBytes _ _ => true
  | .trvMset _ _ _ => true
  | .trvMofs _ _ _ => true
  | .trvFbCtrl _ => true
  | .optStatus _ => true
  | .optLtab _ => true
  | .optRlog _ => true
  | .optLscale _ => true
  | .optStep _ => true
  | .optAttempt _ => true
  | .optCursor _ => true
  | .optBatch _ => true
  | .optWaitLimit _ => true
  | .optLsAddr _ => true
  | .optCommitBase _ => true
  | .optSrSeed _ => true
  | .optWork _ _ => true
  | .optNsc _ _ => true
  | .optConst _ _ => true
  | .optEprog _ _ => true
  | .ldgEcc _ => true
  | .ldgMarchStatus _ => true
  | .ldgRepairStatus _ => true
  | .ldgOwn _ _ => true
  | .ldgSpare _ _ _ => true
  | .colStatus _ => true
  | .colPhase _ => true
  | .colWaitLimit _ => true
  | .colIdle _ => true
  | .colBytes _ => true
  | .colRx _ => true
  | .colMap _ _ => true
  | .ropeStatus _ _ => true
  | .ropeAddr _ _ => true
  | .ropeIpPrefix _ _ => true
  | .ropeNexthop _ _ => true
  | .ropeVc _ _ => true
  | .ropeCredit _ _ _ => true
  | .ropeSeq _ _ => true
  | .ropeErrs _ _ => true
  | .ropeDisc _ _ => true
  | .ropeLane _ _ _ => true
  | .ropeTimeout _ => true
  | .ropeRetx _ => true
  | .ropeDedup _ => true
  | .ropeTimeOfs _ => true
  | .ropeCommonLock _ => true
  | _ => false

/-- The parts of the state that a command may change beside the queue, which none changes; a command that answers the
state it met changes none of them. -/
def mayChange : Instr → List Part
  | .registerWrite _ _ _ => [.mem, .freeCtr, .out, .clocks, .doms, .boot, .repair, .faults, .dict, .power, .camp, .pcie,
      .tiers, .ledge, .restart, .job, .input, .kv, .tensor, .trv, .opt, .col, .ports, .rope, .regs .hk, .regs .pwr, .regs
      .flt, .regs .nt, .regs .mor, .regs .med, .regs .tok, .regs .aug, .regs .chk, .regs .bc, .regs .tc, .regs .tcr, .regs
      .trv, .regs .fb, .regs .opt, .regs .ldg, .regs .col, .regs .rope, .regs .ropec]
  | .auxRailOn _ => [.rails, .doms, .boot, .regs .hk, .regs .rope]
  | .auxRailLoss => [.mem, .time, .rails, .clocks, .doms, .boot, .images, .repair, .faults, .dict, .power, .camp, .pcie,
      .tiers, .ledge, .restart, .job, .input, .kv, .tensor, .trv, .det, .opt, .col, .ports, .rope, .regs .hk, .regs .pwr,
      .regs .flt, .regs .nt, .regs .mor, .regs .med, .regs .tok, .regs .aug, .regs .chk, .regs .bc, .regs .tc, .regs .tcr,
      .regs .trv, .regs .fb, .regs .opt, .regs .ldg, .regs .col, .regs .rope, .regs .ropec]
  | .mainRailOn => [.rails, .clocks, .doms, .boot, .dict, .regs .hk, .regs .pwr, .regs .flt, .regs .nt, .regs .mor, .regs
      .med, .regs .tok, .regs .aug, .regs .chk, .regs .bc, .regs .tc, .regs .tcr, .regs .trv, .regs .fb, .regs .opt, .regs
      .ldg, .regs .col, .regs .rope, .regs .ropec]
  | .mainRailLoss => [.mem, .out, .rails, .clocks, .doms, .boot, .faults, .power, .camp, .pcie, .tiers, .ledge, .restart,
      .job, .input, .kv, .tensor, .trv, .det, .opt, .col, .ports, .rope, .regs .hk, .regs .pwr, .regs .flt, .regs .nt,
      .regs .mor, .regs .med, .regs .tok, .regs .aug, .regs .chk, .regs .bc, .regs .tc, .regs .tcr, .regs .trv, .regs .fb,
      .regs .opt, .regs .ldg, .regs .col, .regs .rope, .regs .ropec]
  | .rootPllLock => [.time, .clocks]
  | .referenceLost => [.mem, .out, .clocks, .doms, .boot, .faults, .pcie, .tiers, .ports, .regs .hk, .regs .flt, .regs
      .bc, .regs .rope]
  | .clockRestart => [.out, .clocks, .doms, .boot, .faults, .dict, .power, .camp, .pcie, .tiers, .ledge, .restart, .job,
      .input, .kv, .tensor, .trv, .det, .opt, .col, .ports, .rope, .regs .hk, .regs .pwr, .regs .flt, .regs .nt, .regs
      .mor, .regs .med, .regs .tok, .regs .aug, .regs .chk, .regs .bc, .regs .tc, .regs .tcr, .regs .trv, .regs .fb, .regs
      .opt, .regs .ldg, .regs .col, .regs .rope, .regs .ropec]
  | .perstAssert => [.rails, .doms, .faults, .pcie, .regs .hk, .regs .pwr, .regs .flt, .regs .nt, .regs .mor, .regs .med,
      .regs .tok, .regs .aug, .regs .chk, .regs .bc, .regs .tc, .regs .tcr, .regs .trv, .regs .fb, .regs .opt, .regs .ldg,
      .regs .col, .regs .rope, .regs .ropec]
  | .perstRelease => [.rails, .doms, .pcie]
  | .housekeepingStageEnd => [.out, .clocks, .doms, .boot, .repair, .faults, .dict, .power, .pcie, .ledge, .tensor, .trv,
      .opt, .col, .ports, .rope, .regs .hk, .regs .pwr, .regs .flt, .regs .nt, .regs .mor, .regs .med, .regs .tok, .regs
      .aug, .regs .chk, .regs .bc, .regs .tc, .regs .tcr, .regs .trv, .regs .fb, .regs .opt, .regs .ldg, .regs .col, .regs
      .rope, .regs .ropec]
  | .basecampStageEnd => [.mem, .doms, .boot, .images, .pcie, .regs .hk, .regs .rope]
  | .manifestCheck => [.out, .boot, .images, .faults, .camp, .pcie, .regs .hk, .regs .flt, .regs .bc, .regs .rope]
  | .tokenWindowClose => [.boot, .regs .hk, .regs .rope]
  | .belayTraining _ => [.out, .doms, .boot, .repair, .faults, .pcie, .ledge, .tensor, .trv, .opt, .col, .ports, .rope,
      .regs .hk, .regs .pwr, .regs .flt, .regs .nt, .regs .mor, .regs .med, .regs .tok, .regs .aug, .regs .chk, .regs .bc,
      .regs .tc, .regs .tcr, .regs .trv, .regs .fb, .regs .opt, .regs .ldg, .regs .col, .regs .rope, .regs .ropec]
  | .ledgeMarchStage _ => [.mem, .boot, .repair, .tiers, .ledge, .regs .hk, .regs .ldg, .regs .rope]
  | .ridgeStage _ => [.clocks, .doms, .boot, .regs .hk, .regs .pwr, .regs .flt, .regs .nt, .regs .mor, .regs .med, .regs
      .tok, .regs .aug, .regs .chk, .regs .bc, .regs .tc, .regs .tcr, .regs .trv, .regs .fb, .regs .opt, .regs .ldg, .regs
      .col, .regs .rope, .regs .ropec]
  | .nearTraining _ => [.boot, .regs .hk, .regs .rope]
  | .moraineTraining _ => [.boot, .regs .hk, .regs .rope]
  | .ropeBringup => [.boot, .regs .hk, .regs .rope]
  | .serviceAnnounce => [.out, .doms, .boot, .repair, .faults, .pcie, .ledge, .tensor, .trv, .opt, .col, .ports, .rope,
      .regs .hk, .regs .pwr, .regs .flt, .regs .nt, .regs .mor, .regs .med, .regs .tok, .regs .aug, .regs .chk, .regs .bc,
      .regs .tc, .regs .tcr, .regs .trv, .regs .fb, .regs .opt, .regs .ldg, .regs .col, .regs .rope, .regs .ropec]
  | .stageTimeout _ => [.mem, .out, .clocks, .doms, .boot, .images, .repair, .faults, .camp, .pcie, .tiers, .ledge,
      .tensor, .trv, .opt, .col, .ports, .rope, .regs .hk, .regs .pwr, .regs .flt, .regs .nt, .regs .mor, .regs .med,
      .regs .tok, .regs .aug, .regs .chk, .regs .bc, .regs .tc, .regs .tcr, .regs .trv, .regs .fb, .regs .opt, .regs .ldg,
      .regs .col, .regs .rope, .regs .ropec]
  | .dieReset _ => [.out, .doms, .boot, .repair, .faults, .pcie, .ledge, .tensor, .trv, .opt, .col, .ports, .rope, .regs
      .hk, .regs .pwr, .regs .flt, .regs .nt, .regs .mor, .regs .med, .regs .tok, .regs .aug, .regs .chk, .regs .bc, .regs
      .tc, .regs .tcr, .regs .trv, .regs .fb, .regs .opt, .regs .ldg, .regs .col, .regs .rope, .regs .ropec]
  | .dieResetDone => [.out, .doms, .boot, .repair, .faults, .pcie, .ledge, .tensor, .trv, .opt, .col, .ports, .rope, .regs
      .hk, .regs .pwr, .regs .flt, .regs .nt, .regs .mor, .regs .med, .regs .tok, .regs .aug, .regs .chk, .regs .bc, .regs
      .tc, .regs .tcr, .regs .trv, .regs .fb, .regs .opt, .regs .ldg, .regs .col, .regs .rope, .regs .ropec]
  | .hkRepairMapWrite _ _ => [.repair, .regs .hk]
  | .repairFlashWrite => [.repair]
  | .nearRead _ _ _ => [.mem, .freeCtr, .out, .faults, .pcie, .tiers, .regs .ldg]
  | .nearWrite _ _ _ => [.mem, .freeCtr, .out, .faults, .pcie, .tiers, .regs .ldg]
  | .nearPartialWrite _ _ _ _ => [.mem, .freeCtr, .out, .faults, .pcie, .tiers, .regs .ldg]
  | .moraineAccess _ _ _ _ _ => [.mem, .freeCtr, .out, .faults, .pcie, .tiers, .regs .ldg]
  | .unmappedAccess _ _ _ _ => [.out, .faults]
  | .ntRetire _ _ => [.faults, .tiers, .regs .nt]
  | .retireCopyDone => [.mem, .freeCtr, .out, .repair, .faults, .pcie, .tiers, .restart, .input, .rope, .regs .flt, .regs
      .nt, .regs .med, .regs .bc, .regs .ldg]
  | .morRetire _ _ => [.faults, .tiers, .regs .mor]
  | .morRetireCopyDone => [.mem, .freeCtr, .out, .repair, .faults, .pcie, .tiers, .restart, .input, .rope, .regs .flt,
      .regs .nt, .regs .mor, .regs .med, .regs .bc, .regs .ldg]
  | .driftCheck _ => [.tiers]
  | .moraineCaseHot _ => [.faults, .pcie, .tiers, .restart, .input, .rope, .regs .flt, .regs .nt, .regs .med, .regs .bc]
  | .selfRefreshEntry _ => [.tiers]
  | .selfRefreshExit _ => [.mem, .freeCtr, .out, .faults, .pcie, .tiers, .regs .ldg]
  | .selfRefreshScrubWake _ => [.mem, .freeCtr, .out, .faults, .pcie, .tiers, .regs .ldg]
  | .hostErrorCompletion _ _ _ _ => [.out, .faults, .pcie]
  | .swapDescTake _ => [.mem, .faults, .pcie, .tiers, .regs .mor, .regs .bc, .regs .ldg]
  | .swapDescSkip _ => [.regs .mor]
  | .swapDescDone _ => [.mem, .freeCtr, .faults, .pcie, .tiers, .regs .mor, .regs .bc, .regs .ldg]
  | .scrubRead _ _ => [.mem, .freeCtr, .faults, .tiers]
  | .scrubOverdue _ => [.faults, .tiers]
  | .calibrationTrigger _ _ => [.tiers]
  | .calibrationSteal _ => [.tiers]
  | .calibrationChannelDone _ => [.mem, .freeCtr, .out, .faults, .pcie, .tiers, .regs .ldg]
  | .deliverableCompute _ => [.faults, .pcie, .tiers, .restart, .input, .rope, .regs .flt, .regs .nt, .regs .med, .regs
      .bc]
  | .contractStallRelease _ => [.tiers]
  | .kvEnable _ => [.kv, .regs .nt]
  | .kvAdmit _ => [.mem, .freeCtr, .faults, .pcie, .tiers, .job, .kv, .regs .nt, .regs .mor, .regs .bc, .regs .ldg]
  | .kvResume _ => [.mem, .freeCtr, .faults, .pcie, .tiers, .job, .kv, .regs .nt, .regs .mor, .regs .bc, .regs .ldg]
  | .kvCancel _ => [.mem, .freeCtr, .faults, .pcie, .tiers, .job, .kv, .regs .nt, .regs .mor, .regs .bc, .regs .ldg]
  | .kvPreempt _ => [.mem, .freeCtr, .faults, .pcie, .tiers, .job, .kv, .regs .nt, .regs .mor, .regs .bc, .regs .ldg]
  | .kvStepAllocation _ => [.mem, .freeCtr, .faults, .pcie, .tiers, .job, .kv, .regs .nt, .regs .mor, .regs .bc, .regs
      .ldg]
  | .kvMoveComplete _ => [.mem, .freeCtr, .faults, .pcie, .tiers, .job, .kv, .regs .nt, .regs .mor, .regs .bc, .regs .ldg]
  | .tcNop _ _ => [.faults, .tensor, .regs .bc, .regs .tc]
  | .tcHalt _ _ => [.faults, .regs .bc, .regs .tc]
  | .tcFence _ _ => [.faults, .regs .bc, .regs .tc]
  | .waitSeq _ _ => [.faults, .regs .bc, .regs .tc]
  | .postSeq _ _ => [.faults, .opt, .regs .bc, .regs .tc, .regs .trv, .regs .fb]
  | .waitOwn _ _ => [.faults, .regs .bc, .regs .tc]
  | .tcLend _ _ => [.faults, .tensor, .regs .bc, .regs .tc]
  | .lendReturn _ _ => [.freeCtr, .tensor, .regs .tc]
  | .ldw _ _ => [.freeCtr, .faults, .tensor, .regs .bc, .regs .tc, .regs .ldg]
  | .swpw _ _ => [.faults, .tensor, .regs .bc, .regs .tc]
  | .mm _ _ => [.freeCtr, .faults, .tensor, .regs .bc, .regs .tc, .regs .ldg]
  | .drain _ _ => [.mem, .freeCtr, .faults, .tiers, .tensor, .regs .bc, .regs .tc, .regs .ldg]
  | .smax _ _ => [.mem, .freeCtr, .faults, .tiers, .tensor, .regs .bc, .regs .tc, .regs .ldg]
  | .kvAppend _ _ => [.mem, .freeCtr, .faults, .tiers, .kv, .tensor, .regs .nt, .regs .bc, .regs .tc, .regs .ldg]
  | .kvSelect _ _ => [.mem, .freeCtr, .faults, .tiers, .tensor, .regs .bc, .regs .tc, .regs .ldg]
  | .kvAttn _ _ => [.mem, .freeCtr, .faults, .pcie, .tiers, .job, .kv, .tensor, .regs .nt, .regs .mor, .regs .bc, .regs
      .tc, .regs .ldg]
  | .kvAttnBwd _ _ => [.mem, .freeCtr, .faults, .pcie, .tiers, .job, .kv, .tensor, .regs .nt, .regs .mor, .regs .bc, .regs
      .tc, .regs .ldg]
  | .kvMove _ _ => [.mem, .freeCtr, .faults, .pcie, .tiers, .job, .kv, .tensor, .regs .nt, .regs .mor, .regs .bc, .regs
      .tc, .regs .ldg]
  | .tcOpComplete _ _ _ => [.mem, .faults, .tiers, .tensor, .regs .tc, .regs .ldg]
  | .tcRun _ _ => [.regs .tc]
  | .tcStop _ _ => [.regs .tc]
  | .tcStopDone _ _ => [.regs .tc]
  | .tcProgLimitAdvance _ _ _ => [.regs .tc]
  | .tcWaitTimeout _ _ => [.faults, .regs .bc, .regs .tc]
  | .tcRemapWrite _ _ => [.regs .hk, .regs .tc, .regs .tcr]
  | .trvNop _ _ => [.faults, .trv, .regs .bc, .regs .trv]
  | .trvCopy _ _ => [.faults, .pcie, .tiers, .trv, .regs .bc, .regs .trv]
  | .trvFill _ _ => [.faults, .pcie, .tiers, .trv, .regs .bc, .regs .trv]
  | .trvFence _ _ => [.faults, .trv, .opt, .regs .bc, .regs .trv, .regs .fb]
  | .trvHalt _ _ => [.faults, .trv, .opt, .regs .bc, .regs .trv, .regs .fb]
  | .trvDescComplete _ _ => [.mem, .freeCtr, .faults, .pcie, .tiers, .ledge, .trv, .opt, .regs .bc, .regs .tc, .regs .trv,
      .regs .fb, .regs .ldg]
  | .trvRun _ _ => [.regs .trv]
  | .trvStop _ _ => [.regs .trv]
  | .trvStopDone _ _ => [.regs .trv]
  | .trvLimitAdvance _ _ _ => [.regs .trv]
  | .trvWaitTimeout _ _ => [.faults, .trv, .regs .bc, .regs .trv]
  | .fusionPublish _ _ _ => [.opt, .regs .trv, .regs .fb]
  | .fusionCountWrite _ _ _ _ => [.opt, .regs .trv, .regs .fb]
  | .ledgeModeChange _ _ => [.regs .ldg]
  | .ldgGive _ _ => [.ledge, .regs .ldg]
  | .giveHeldApply _ => [.mem, .freeCtr, .out, .faults, .pcie, .tiers, .ledge, .regs .ldg]
  | .ledgeAccess _ _ _ _ _ => [.mem, .freeCtr, .out, .faults, .tiers, .ledge, .regs .ldg]
  | .ledgeRetry _ => [.mem, .freeCtr, .out, .faults, .tiers, .ledge, .regs .ldg]
  | .marchDestructive _ _ => [.ledge, .regs .ldg]
  | .marchTransparent _ _ => [.ledge, .regs .ldg]
  | .marchDone _ _ => [.mem, .freeCtr, .out, .repair, .faults, .pcie, .tiers, .ledge, .regs .ldg]
  | .ledgeSoft _ _ _ => [.mem, .freeCtr, .repair, .regs .ldg]
  | .ledgeSoftCopy _ _ _ => [.mem, .repair, .faults, .tiers, .regs .ldg]
  | .ledgeFuse _ _ _ => [.ledge, .regs .ldg]
  | .ledgeFuseDone _ _ => [.repair, .ledge, .regs .ldg]
  | .ledgeRelease _ _ _ => [.repair, .regs .ldg]
  | .detRequest => [.mem, .freeCtr, .faults, .pcie, .tiers, .det, .regs .ldg]
  | .detRequestDone => [.mem, .faults, .pcie, .tiers, .det, .regs .bc, .regs .ldg]
  | .gradQuantise _ _ => [.mem, .freeCtr, .faults, .tiers, .tensor, .opt, .regs .trv, .regs .fb, .regs .opt, .regs .ldg]
  | .fallbackPublish _ _ => [.opt, .regs .trv, .regs .fb]
  | .entryApply _ => [.mem, .freeCtr, .out, .faults, .tiers, .tensor, .opt, .col, .regs .bc, .regs .tc, .regs .trv, .regs
      .fb, .regs .opt, .regs .ldg]
  | .passEntry _ _ => [.mem, .freeCtr, .faults, .tiers, .tensor, .opt, .regs .trv, .regs .fb, .regs .opt, .regs .ldg]
  | .stepMark _ => [.mem, .freeCtr, .faults, .tiers, .job, .tensor, .opt, .regs .tc, .regs .opt, .regs .ldg]
  | .stepEnd _ => [.opt, .regs .opt]
  | .jobVerdict => [.mem, .freeCtr, .out, .faults, .tiers, .restart, .job, .tensor, .opt, .ports, .rope, .regs .flt, .regs
      .bc, .regs .tc, .regs .opt, .regs .ldg, .regs .col, .regs .rope]
  | .retractRestoreDone => [.mem, .freeCtr, .faults, .tiers, .job, .tensor, .opt, .regs .bc, .regs .tc, .regs .opt, .regs
      .ldg]
  | .optWaitTimeout _ => [.faults, .opt, .regs .bc, .regs .opt]
  | .jobLoad _ => [.mem, .freeCtr, .out, .clocks, .doms, .boot, .repair, .faults, .dict, .power, .camp, .pcie, .tiers,
      .ledge, .restart, .job, .input, .kv, .tensor, .trv, .opt, .col, .ports, .rope, .regs .hk, .regs .pwr, .regs .flt,
      .regs .nt, .regs .mor, .regs .med, .regs .tok, .regs .aug, .regs .chk, .regs .bc, .regs .tc, .regs .tcr, .regs .trv,
      .regs .fb, .regs .opt, .regs .ldg, .regs .col, .regs .rope, .regs .ropec]
  | .jobEndRequest => [.job, .regs .bc]
  | .jobAbort => [.job, .regs .bc]
  | .jobEnd => [.mem, .freeCtr, .out, .clocks, .faults, .power, .pcie, .tiers, .ledge, .restart, .job, .input, .kv, .det,
      .opt, .col, .rope, .regs .hk, .regs .pwr, .regs .flt, .regs .nt, .regs .mor, .regs .med, .regs .tok, .regs .aug,
      .regs .bc, .regs .tc, .regs .trv, .regs .fb, .regs .opt, .regs .ldg, .regs .col, .regs .rope, .regs .ropec]
  | .evalTake => [.mem, .faults, .tiers, .job, .regs .bc, .regs .ldg]
  | .evalStepBoundary _ _ _ => [.mem, .freeCtr, .out, .faults, .pcie, .tiers, .job, .kv, .regs .nt, .regs .mor, .regs .bc,
      .regs .ldg]
  | .evalSliceError => [.mem, .freeCtr, .faults, .pcie, .tiers, .job, .kv, .regs .nt, .regs .mor, .regs .bc, .regs .tc,
      .regs .ldg]
  | .teamJoin _ => [.out, .col, .ports, .regs .col, .regs .rope]
  | .joinTimeout _ => [.col, .regs .col]
  | .colReduce _ => [.mem, .freeCtr, .out, .faults, .tiers, .job, .tensor, .opt, .col, .ports, .rope, .regs .bc, .regs
      .tc, .regs .opt, .regs .ldg, .regs .col, .regs .rope]
  | .colReduceScatter _ => [.mem, .freeCtr, .out, .faults, .tiers, .job, .tensor, .opt, .col, .ports, .rope, .regs .bc,
      .regs .tc, .regs .opt, .regs .ldg, .regs .col, .regs .rope]
  | .colGather _ => [.mem, .freeCtr, .out, .faults, .tiers, .job, .tensor, .opt, .col, .ports, .rope, .regs .bc, .regs
      .tc, .regs .opt, .regs .ldg, .regs .col, .regs .rope]
  | .colSend _ => [.mem, .freeCtr, .out, .faults, .tiers, .job, .tensor, .opt, .col, .ports, .rope, .regs .bc, .regs .tc,
      .regs .opt, .regs .ldg, .regs .col, .regs .rope]
  | .colRecv _ => [.mem, .freeCtr, .out, .faults, .tiers, .job, .tensor, .opt, .col, .ports, .rope, .regs .bc, .regs .tc,
      .regs .opt, .regs .ldg, .regs .col, .regs .rope]
  | .colVote _ => [.mem, .freeCtr, .out, .faults, .tiers, .job, .tensor, .opt, .col, .ports, .rope, .regs .bc, .regs .tc,
      .regs .opt, .regs .ldg, .regs .col, .regs .rope]
  | .colSwitch _ => [.mem, .freeCtr, .out, .faults, .tiers, .job, .tensor, .opt, .col, .ports, .rope, .regs .bc, .regs
      .tc, .regs .opt, .regs .ldg, .regs .col, .regs .rope]
  | .switchBarrierDone _ => [.mem, .freeCtr, .out, .faults, .tiers, .job, .tensor, .opt, .col, .ports, .rope, .regs .bc,
      .regs .tc, .regs .trv, .regs .fb, .regs .opt, .regs .ldg, .regs .col, .regs .rope, .regs .ropec]
  | .colReshard _ => [.mem, .freeCtr, .out, .faults, .tiers, .job, .tensor, .opt, .col, .ports, .rope, .regs .bc, .regs
      .tc, .regs .opt, .regs .ldg, .regs .col, .regs .rope]
  | .reshardBarrierDone _ => [.mem, .freeCtr, .out, .faults, .tiers, .restart, .job, .tensor, .opt, .col, .ports, .rope,
      .regs .flt, .regs .bc, .regs .tc, .regs .trv, .regs .fb, .regs .opt, .regs .ldg, .regs .col, .regs .rope, .regs
      .ropec]
  | .colDescComplete _ _ => [.mem, .freeCtr, .out, .faults, .tiers, .job, .tensor, .opt, .col, .ports, .rope, .regs .bc,
      .regs .tc, .regs .trv, .regs .fb, .regs .opt, .regs .ldg, .regs .col, .regs .rope]
  | .reduceContrib _ _ _ _ _ _ => [.mem, .freeCtr, .out, .faults, .tiers, .job, .tensor, .opt, .col, .ports, .rope, .regs
      .bc, .regs .tc, .regs .opt, .regs .ldg, .regs .col, .regs .rope]
  | .normPartial _ _ _ _ => [.opt, .col]
  | .colWaitTimeout _ => [.mem, .freeCtr, .out, .faults, .tiers, .job, .tensor, .opt, .col, .ports, .rope, .regs .bc,
      .regs .tc, .regs .opt, .regs .ldg, .regs .col]
  | .colStop _ => [.regs .col]
  | .ropeRead _ _ => [.mem, .freeCtr, .out, .faults, .tiers, .job, .tensor, .opt, .col, .ports, .rope, .regs .bc, .regs
      .tc, .regs .opt, .regs .ldg, .regs .col, .regs .rope, .regs .ropec]
  | .ropeWrite _ _ => [.mem, .freeCtr, .out, .faults, .tiers, .job, .tensor, .opt, .col, .ports, .rope, .regs .bc, .regs
      .tc, .regs .opt, .regs .ldg, .regs .col, .regs .rope, .regs .ropec]
  | .ropeReduce _ _ => [.mem, .freeCtr, .out, .faults, .tiers, .job, .tensor, .opt, .col, .ports, .rope, .regs .bc, .regs
      .tc, .regs .opt, .regs .ldg, .regs .col, .regs .rope, .regs .ropec]
  | .readResp _ _ => [.mem, .freeCtr, .out, .faults, .tiers, .restart, .job, .tensor, .opt, .col, .ports, .rope, .regs
      .bc, .regs .tc, .regs .opt, .regs .ldg, .regs .col, .regs .rope, .regs .ropec]
  | .ropeAck _ _ => [.mem, .freeCtr, .out, .faults, .tiers, .restart, .job, .tensor, .opt, .col, .ports, .rope, .regs .bc,
      .regs .tc, .regs .opt, .regs .ldg, .regs .col, .regs .rope, .regs .ropec]
  | .ropeNack _ _ => [.mem, .freeCtr, .out, .faults, .tiers, .restart, .job, .tensor, .opt, .col, .ports, .rope, .regs
      .flt, .regs .bc, .regs .tc, .regs .opt, .regs .ldg, .regs .col, .regs .rope, .regs .ropec]
  | .ropeCredit _ _ => [.mem, .freeCtr, .out, .faults, .tiers, .job, .tensor, .opt, .col, .ports, .rope, .regs .bc, .regs
      .tc, .regs .opt, .regs .ldg, .regs .col, .regs .rope, .regs .ropec]
  | .ropeLink _ _ => [.mem, .freeCtr, .out, .faults, .pcie, .tiers, .job, .tensor, .opt, .col, .ports, .rope, .regs .hk,
      .regs .bc, .regs .tc, .regs .opt, .regs .ldg, .regs .col, .regs .rope, .regs .ropec]
  | .ropeHeartbeat _ _ => [.mem, .freeCtr, .out, .doms, .repair, .faults, .pcie, .tiers, .ledge, .restart, .job, .kv,
      .tensor, .trv, .opt, .col, .ports, .rope, .regs .hk, .regs .pwr, .regs .flt, .regs .nt, .regs .mor, .regs .med,
      .regs .tok, .regs .aug, .regs .chk, .regs .bc, .regs .tc, .regs .tcr, .regs .trv, .regs .fb, .regs .opt, .regs .ldg,
      .regs .col, .regs .rope, .regs .ropec]
  | .ropeTime _ _ => [.out, .ports, .regs .rope, .regs .ropec]
  | .ropeLane _ _ => [.mem, .freeCtr, .out, .faults, .pcie, .tiers, .job, .tensor, .opt, .col, .ports, .rope, .regs .hk,
      .regs .bc, .regs .tc, .regs .opt, .regs .ldg, .regs .col, .regs .rope, .regs .ropec]
  | .ropeHello _ _ => [.out, .pcie, .col, .ports, .rope, .regs .hk, .regs .bc, .regs .col, .regs .rope, .regs .ropec]
  | .ropeRelay _ _ => [.out, .ports, .regs .rope]
  | .neighborSolicitation _ _ => [.out, .regs .rope]
  | .creditReportTimer _ => [.out, .ports]
  | .linkAckTimer _ => [.out, .ports]
  | .replayTimeout _ => [.out, .pcie, .ports, .rope, .regs .hk, .regs .bc, .regs .col, .regs .rope, .regs .ropec]
  | .reqTimeout _ _ => [.out, .ports, .rope, .regs .rope, .regs .ropec]
  | .pathLimit _ _ => [.mem, .freeCtr, .out, .faults, .tiers, .restart, .job, .tensor, .opt, .col, .ports, .rope, .regs
      .flt, .regs .bc, .regs .tc, .regs .opt, .regs .ldg, .regs .col, .regs .rope, .regs .ropec]
  | .dedupFullResend _ _ => [.out, .ports, .rope, .regs .rope, .regs .ropec]
  | .helloTimer _ => [.out, .ports, .regs .rope]
  | .portUp _ _ => [.out, .ports, .rope, .regs .col, .regs .rope, .regs .ropec]
  | .portBringupTimeout _ => [.out, .pcie, .regs .hk, .regs .bc, .regs .rope]
  | .laneFail _ _ _ => [.out, .faults, .pcie, .ports, .rope, .regs .hk, .regs .bc, .regs .col, .regs .rope, .regs .ropec]
  | .ropeRetrain _ => [.out, .pcie, .ports, .rope, .regs .hk, .regs .bc, .regs .col, .regs .rope, .regs .ropec]
  | .ropeRetrainDone _ _ => [.out, .ports, .rope, .regs .col, .regs .rope, .regs .ropec]
  | .timeExchange => [.out, .ports, .regs .rope, .regs .ropec]
  | .videoDecode => [.mem, .freeCtr, .faults, .pcie, .tiers, .input, .regs .med, .regs .ldg]
  | .imageDecode => [.mem, .freeCtr, .faults, .pcie, .tiers, .input, .regs .med, .regs .ldg]
  | .audioDecode => [.mem, .freeCtr, .faults, .pcie, .tiers, .input, .regs .med, .regs .ldg]
  | .videoEncode _ => [.mem, .freeCtr, .faults, .pcie, .tiers, .input, .regs .med, .regs .bc, .regs .ldg]
  | .encStallResume _ => [.mem, .faults, .pcie, .tiers, .input, .regs .med, .regs .bc, .regs .ldg]
  | .medRequestComplete _ _ => [.mem, .faults, .pcie, .tiers, .input, .regs .med, .regs .bc, .regs .trv, .regs .ldg]
  | .medDisable => [.mem, .faults, .tiers, .regs .med, .regs .ldg]
  | .tokenize => [.mem, .freeCtr, .faults, .pcie, .tiers, .input, .regs .tok, .regs .ldg]
  | .tokRequestComplete _ => [.mem, .faults, .pcie, .tiers, .input, .regs .tok, .regs .bc, .regs .trv, .regs .ldg]
  | .tokDisable => [.mem, .faults, .tiers, .regs .tok, .regs .ldg]
  | .augFill => [.mem, .freeCtr, .faults, .tiers, .input, .regs .aug, .regs .ldg]
  | .augRequestComplete _ => [.mem, .faults, .pcie, .tiers, .input, .regs .bc, .regs .trv, .regs .ldg]
  | .chkStreamOpen _ _ => [.input, .regs .chk]
  | .chkStreamClose _ _ => [.input, .regs .chk]
  | .chkStateWrite _ _ _ _ => [.input, .regs .chk]
  | .hartRun _ => [.camp, .regs .bc]
  | .hartIoAccess _ _ _ _ => [.mem, .freeCtr, .out, .clocks, .doms, .boot, .repair, .faults, .dict, .power, .camp, .pcie,
      .tiers, .ledge, .restart, .job, .input, .kv, .tensor, .trv, .opt, .col, .ports, .rope, .regs .hk, .regs .pwr, .regs
      .flt, .regs .nt, .regs .mor, .regs .med, .regs .tok, .regs .aug, .regs .chk, .regs .bc, .regs .tc, .regs .tcr, .regs
      .trv, .regs .fb, .regs .opt, .regs .ldg, .regs .col, .regs .rope, .regs .ropec]
  | .irqEvent _ => [.regs .bc]
  | .irqClaim _ _ _ => [.out, .regs .bc]
  | .irqComplete _ _ _ => [.regs .bc]
  | .msipSet _ => [.regs .bc]
  | .msipClear _ _ => [.regs .bc]
  | .machineTimer _ => [.camp]
  | .mboxOpen => [.camp, .pcie, .regs .hk, .regs .bc]
  | .dictRead => [.pcie, .regs .bc]
  | .dictWrite => [.mem, .freeCtr, .out, .clocks, .boot, .images, .faults, .dict, .power, .pcie, .tiers, .ledge, .restart,
      .job, .input, .ports, .rope, .regs .hk, .regs .pwr, .regs .flt, .regs .nt, .regs .med, .regs .bc, .regs .ldg, .regs
      .rope]
  | .fwWrite => [.images, .pcie, .regs .bc]
  | .fwCommit => [.images, .pcie, .regs .bc]
  | .factoryToken => [.boot, .pcie, .regs .hk, .regs .flt, .regs .bc, .regs .rope]
  | .mboxDiag => [.freeCtr, .pcie, .regs .bc]
  | .mboxClose => [.camp, .pcie, .regs .hk, .regs .bc]
  | .budgetRedistribute => [.faults, .power, .regs .pwr]
  | .budgetAdopt _ => [.power, .regs .pwr]
  | .budgetAck _ => [.faults, .power, .pcie, .tiers, .restart, .input, .rope, .regs .pwr, .regs .flt, .regs .nt, .regs
      .med, .regs .bc]
  | .budgetAckLate _ => [.faults, .power]
  | .budgetAckFatal _ => [.mem, .out, .clocks, .doms, .boot, .repair, .faults, .pcie, .tiers, .ledge, .job, .tensor, .trv,
      .opt, .col, .ports, .rope, .regs .hk, .regs .pwr, .regs .flt, .regs .nt, .regs .mor, .regs .med, .regs .tok, .regs
      .aug, .regs .chk, .regs .bc, .regs .tc, .regs .tcr, .regs .trv, .regs .fb, .regs .opt, .regs .ldg, .regs .col, .regs
      .rope, .regs .ropec]
  | .dutyRejudge _ _ => [.power, .regs .pwr]
  | .modeChange _ => [.mem, .freeCtr, .out, .clocks, .faults, .dict, .power, .pcie, .tiers, .ledge, .restart, .job,
      .input, .ports, .rope, .regs .hk, .regs .pwr, .regs .flt, .regs .nt, .regs .med, .regs .bc, .regs .ldg, .regs .rope]
  | .thermalLimit _ _ => [.power, .regs .pwr]
  | .thermalCapStep _ => [.power]
  | .thermalClear _ _ => [.power, .regs .pwr]
  | .overTemperature _ _ => [.mem, .out, .clocks, .doms, .boot, .faults, .pcie, .tiers, .ports, .regs .hk, .regs .pwr,
      .regs .flt, .regs .bc, .regs .rope]
  | .compatDuty _ _ => [.power, .regs .pwr]
  | .brakeAssert => [.mem, .freeCtr, .out, .rails, .clocks, .faults, .power, .pcie, .tiers, .ledge, .regs .pwr, .regs .bc,
      .regs .ldg]
  | .brakeRelease => [.rails, .clocks, .faults, .power, .regs .pwr]
  | .gainTrim _ _ => [.faults, .power, .regs .pwr]
  | .sensorOffsetUpdate _ _ _ _ _ => [.faults, .power, .regs .pwr]
  | .faultRecord => [.out, .doms, .repair, .faults, .pcie, .ledge, .job, .tensor, .trv, .opt, .col, .ports, .rope, .regs
      .hk, .regs .pwr, .regs .flt, .regs .nt, .regs .mor, .regs .med, .regs .tok, .regs .aug, .regs .chk, .regs .bc, .regs
      .tc, .regs .tcr, .regs .trv, .regs .fb, .regs .opt, .regs .ldg, .regs .col, .regs .rope, .regs .ropec]
  | .fltAck _ => [.faults, .regs .flt]
  | .fltClear _ => [.out, .faults, .regs .flt]
  | .fltInject _ => [.mem, .freeCtr, .out, .clocks, .doms, .boot, .faults, .pcie, .tiers, .job, .tensor, .opt, .col,
      .ports, .rope, .regs .hk, .regs .flt, .regs .bc, .regs .tc, .regs .trv, .regs .opt, .regs .ldg, .regs .col, .regs
      .rope]
  | .graceExpiry => [.out, .doms, .repair, .faults, .pcie, .ledge, .job, .tensor, .trv, .opt, .col, .ports, .rope, .regs
      .hk, .regs .pwr, .regs .flt, .regs .nt, .regs .mor, .regs .med, .regs .tok, .regs .aug, .regs .chk, .regs .bc, .regs
      .tc, .regs .tcr, .regs .trv, .regs .fb, .regs .opt, .regs .ldg, .regs .col, .regs .rope, .regs .ropec]
  | .errPulseEnd => [.out, .regs .flt]
  | .hbEnable => [.regs .flt]
  | .hbDisable => [.out, .ports, .regs .flt, .regs .rope]
  | .hbFail => [.out, .ports, .regs .flt, .regs .rope]
  | .heartbeatTick => [.mem, .freeCtr, .out, .faults, .pcie, .tiers, .restart, .job, .kv, .col, .ports, .rope, .regs .hk,
      .regs .flt, .regs .nt, .regs .mor, .regs .med, .regs .tok, .regs .aug, .regs .bc, .regs .tc, .regs .trv, .regs .ldg,
      .regs .col, .regs .rope, .regs .ropec]
  | .restartNotice _ _ => [.mem, .freeCtr, .out, .faults, .pcie, .tiers, .restart, .job, .kv, .col, .ports, .rope, .regs
      .hk, .regs .flt, .regs .nt, .regs .mor, .regs .med, .regs .tok, .regs .aug, .regs .bc, .regs .tc, .regs .trv, .regs
      .ldg, .regs .col, .regs .rope, .regs .ropec]
  | .quiesceComplete => [.mem, .freeCtr, .out, .faults, .tiers, .restart, .job, .opt, .col, .ports, .rope, .regs .flt,
      .regs .bc, .regs .tc, .regs .trv, .regs .opt, .regs .ldg, .regs .col, .regs .rope]
  | .restartPromote _ => [.mem, .freeCtr, .out, .faults, .tiers, .restart, .job, .opt, .col, .ports, .rope, .regs .flt,
      .regs .bc, .regs .opt, .regs .ldg, .regs .col, .regs .rope, .regs .ropec]
  | .restartReport _ => [.mem, .freeCtr, .out, .faults, .tiers, .restart, .job, .opt, .col, .ports, .rope, .regs .flt,
      .regs .bc, .regs .opt, .regs .ldg, .regs .col, .regs .rope]
  | .restartTarget _ => [.mem, .freeCtr, .out, .faults, .tiers, .job, .opt, .col, .ports, .rope, .regs .flt, .regs .bc,
      .regs .opt, .regs .ldg, .regs .col, .regs .rope]
  | .restoreComplete => [.mem, .freeCtr, .out, .faults, .tiers, .restart, .job, .kv, .opt, .col, .ports, .rope, .regs
      .flt, .regs .nt, .regs .bc, .regs .trv, .regs .fb, .regs .opt, .regs .ldg, .regs .col, .regs .rope]
  | .refillComplete => [.regs .flt]
  | .resumeBarrierDone => [.mem, .freeCtr, .faults, .tiers, .restart, .job, .tensor, .opt, .regs .flt, .regs .tc, .regs
      .opt, .regs .ldg]
  | .mirrorComplete => [.restart, .regs .flt]
  | .t1sRead _ => [.out, .dict, .regs .hk]
  | .t1sWrite _ => [.mem, .freeCtr, .out, .clocks, .boot, .images, .faults, .dict, .power, .pcie, .tiers, .ledge,
      .restart, .job, .input, .ports, .rope, .regs .hk, .regs .pwr, .regs .flt, .regs .nt, .regs .med, .regs .bc, .regs
      .ldg, .regs .rope]
  | .discover _ => [.out, .dict, .regs .hk]
  | .t1sUnknownOp _ => [.out, .dict, .regs .hk]
  | .keptFlashWrite => [.dict]
  | .lampIdentify _ => [.dict, .regs .hk]
  | .readSummary _ => [.dict, .regs .hk]
  | .tagForReplacement _ _ => [.mem, .freeCtr, .out, .clocks, .boot, .images, .faults, .dict, .power, .pcie, .tiers,
      .ledge, .restart, .job, .input, .ports, .rope, .regs .hk, .regs .pwr, .regs .flt, .regs .nt, .regs .med, .regs .bc,
      .regs .ldg, .regs .rope]
  | .headlampReject _ _ => [.dict, .regs .hk]
  | .headlampReply => [.out, .dict, .regs .hk]
  | .pcieConfigRequest _ _ => [.out, .faults, .pcie, .tiers, .restart, .input, .rope, .regs .flt, .regs .nt, .regs .med,
      .regs .bc]
  | .bar0Access _ _ _ _ => [.mem, .freeCtr, .out, .clocks, .doms, .boot, .repair, .faults, .dict, .power, .camp, .pcie,
      .tiers, .ledge, .restart, .job, .input, .kv, .tensor, .trv, .opt, .col, .ports, .rope, .regs .hk, .regs .pwr, .regs
      .flt, .regs .nt, .regs .mor, .regs .med, .regs .tok, .regs .aug, .regs .chk, .regs .bc, .regs .tc, .regs .tcr, .regs
      .trv, .regs .fb, .regs .opt, .regs .ldg, .regs .col, .regs .rope, .regs .ropec]
  | .bar2Access _ _ _ => [.mem, .freeCtr, .out, .faults, .pcie, .tiers, .regs .ldg]
  | .bar4Access _ _ _ => [.out, .pcie]
  | .pcieLinkUp _ _ _ => [.faults, .pcie, .tiers, .restart, .input, .rope, .regs .flt, .regs .nt, .regs .med, .regs .bc]
  | .pcieLinkDown => [.faults, .pcie, .regs .hk, .regs .pwr, .regs .flt, .regs .nt, .regs .mor, .regs .med, .regs .tok,
      .regs .aug, .regs .chk, .regs .bc, .regs .tc, .regs .tcr, .regs .trv, .regs .fb, .regs .opt, .regs .ldg, .regs .col,
      .regs .rope, .regs .ropec]
  | .linkWaitExpiry _ _ => [.faults, .pcie]
  | .completionTimeout _ _ => [.faults, .pcie]
  | .d3hotEntry => [.pcie]
  | .d0Return => [.pcie]
  | .msixSend _ _ => [.out, .pcie]
  | .nearStackHot _ _ => [.faults, .pcie, .tiers, .restart, .input, .rope, .regs .flt, .regs .nt, .regs .med, .regs .bc]
  | .priorityPauseFrame _ _ _ => [.mem, .freeCtr, .out, .faults, .tiers, .job, .tensor, .opt, .col, .ports, .rope, .regs
      .bc, .regs .tc, .regs .opt, .regs .ldg, .regs .col, .regs .rope, .regs .ropec]
  | .agreeBoundExpiry => [.mem, .freeCtr, .out, .faults, .tiers, .job, .opt, .col, .ports, .rope, .regs .flt, .regs .bc,
      .regs .opt, .regs .ldg, .regs .col, .regs .rope]
  | .pinnedRecordFlashWrite => [.faults]
  | .supervisorTimer _ _ => [.camp]
  | .hartMemoryAccess _ _ _ _ => [.mem, .freeCtr, .out, .faults, .camp, .pcie, .tiers, .regs .ldg]
  | .pcieUnsupportedRequest _ => [.out, .pcie]

end Sys2Proof.Machine
end

