-- ==== Sys2Proof/Certificates/Slice0/Obligations.lean ====
section
/-! DEFINITION. The statements about the model, for the provers. -/

open Sys2Proof Sys2Proof.Machine

/-- A step takes the command at the front of the queue and runs it with the rest of the queue.
(95_what_each_step_holds.md) -/
def Obligations.StepRunsFrontCommand : Prop :=
  ∀ (c : Instr) (rest : List Instr) (s : State),
    Sys2Proof.Machine.step (s.withPending (c :: rest)) = Sys2Proof.Machine.exec c (s.withPending rest)

/-- On an empty queue one H-clock cycle passes, four nanoseconds of the timestamp, while the root PLL holds lock. (R32,
R34) -/
def Obligations.EmptyQueueAdvancesTime : Prop :=
  ∀ s : State, s.pending = [] →
    (s.clocks.pll = true → ∃ t, Sys2Proof.Machine.step s = .next t ∧ t.time = s.time + 4 ∧ t.pending = []) ∧
    (s.clocks.pll = false → Sys2Proof.Machine.step s = .next s)

/-- Every command answers a next state in every state: no command ends in a fault or a refusal.
(95_what_each_step_holds.md) -/
def Obligations.EveryCommandAnswersNext : Prop :=
  ∀ (c : Instr) (s : State), ∃ t, Sys2Proof.Machine.exec c s = .next t

/-- No command changes the queue of waiting commands. (95_what_each_step_holds.md) -/
def Obligations.CommandsLeaveTheQueue : Prop :=
  ∀ (c : Instr) (s t : State), Sys2Proof.Machine.exec c s = .next t → t.pending = s.pending

/-- Every step keeps the canonical form of storage: addresses strictly rising, no entry equal to what an unlisted address
reads as. (02_state_memory.md) -/
def Obligations.StepsKeepStorageCanonical : Prop :=
  ∀ s t : State, s.memOk = true → Sys2Proof.Machine.step s = .next t → t.memOk = true

/-- At reset storage has its canonical form and lists nothing. (02_state_memory.md) -/
def Obligations.ResetStorageCanonical : Prop :=
  State.reset.memOk = true ∧ State.reset.mem.cells = []

/-- After reset every register holds the reset value of its table, no rail is in tolerance and no reset domain is
released. (R13, R348, R459) -/
def Obligations.ResetRegistersTakeResetValues : Prop :=
  (∀ r : Reg, State.reset.get r = r.reset) ∧ State.reset.pending = [] ∧ State.reset.rails.aux = false ∧
    State.reset.rails.main = false ∧ State.reset.doms = ⟨false, false, false, 0, 0⟩ ∧ State.reset.boot.phase = .off ∧
    State.reset.out = []

/-- The power rails, the clocks and PERST# switch the device, stop and restart it, and reset the PCIe domain alone. (R32,
R33, R34, R45, R348, R349, R357, R359, R460, R465) -/
def Obligations.RailsClocksAndPerst : Prop :=
  (∀ s : State,
     (∀ strap, s.rails.aux = false → Completes (.auxRailOn strap) s (fun t => t.rails.aux = true ∧ t.rails.factoryStrapLow = strap ∧
       t.doms.hk = true ∧ t.boot.phase = .stage 1 ∧ t.fld .hkBoot Fld.hkBoot_STAGE = 1)) ∧
     (s.rails.main = false → Completes .mainRailOn s (fun t => t.rails.main = true ∧
       t.boot.phase = if s.boot.phase = .standby ∧ (s.clocks.stopped = 0 ∨ s.clocks.stopped = 2) then .stage 2 else s.boot.phase)) ∧
     (s.rails.main = true → s.rails.aux = true → Completes .mainRailLoss s (fun t => t.rails.main = false ∧
       t.doms.main = false ∧ t.doms.pcie = false ∧ t.doms.fabric = 0 ∧ t.doms.compute = 0 ∧ t.job = JobState.none ∧
       t.boot.phase = if s.boot.phase = .stage 1 then .stage 1 else .standby)) ∧
     (s.rails.aux = true → Completes .auxRailLoss s (fun t => t.rails.aux = false ∧ t.boot.phase = .off ∧ t.regs = [] ∧
       t.repair.fused = s.repair.fused))) ∧
  (∀ s : State,
     (s.rails.aux = true → Completes .rootPllLock s (fun t => t.clocks.pll = true ∧ t.clocks.reference = true ∧
       t.time = if s.clocks.everLocked then s.time else 0)) ∧
     (s.rails.aux = true → s.clocks.pll = true → Completes .referenceLost s (fun t => t.clocks.pll = false ∧
       (s.boot.phase ≠ .stage 1 → s.clocks.stopped = 0 → t.clocks.tRun = false ∧ t.clocks.fRun = false ∧ t.clocks.mRun = false ∧
         t.doms.main = false ∧ t.doms.compute = 0))) ∧
     (s.clocks.pll = true → s.clocks.stopped = 1 → Completes .clockRestart s (fun t => t.clocks.stopped = 0 ∧ t.doms.compute = 0 ∧
       t.boot.phase = if s.rails.main then .stage 2 else .standby))) ∧
  (∀ s : State,
     Completes .perstAssert s (fun t => t.rails.perst = true ∧ t.doms = { s.doms with pcie := false } ∧ t.boot = s.boot ∧
       t.mem = s.mem ∧ t.job = s.job) ∧
     Completes .perstRelease s (fun t => t.rails.perst = false ∧ t.doms.pcie = (s.doms.pcie || s.pastStage2) ∧ t.boot = s.boot ∧
       t.regs = s.regs ∧ t.mem = s.mem))

/-- The boot order runs through its stages: rails, token window, PCIe and firmware, then stages 4 to 10 and their
timeouts. (R44, R357, R359, R363, R364, R365, R366, R369) -/
def Obligations.StagesOfTheBootOrder : Prop :=
  (∀ s : State,
     (s.boot.phase = .stage 1 → s.clocks.pll = true → Completes .housekeepingStageEnd s (fun t =>
       t.repair.record = s.repair.flash.newest.getD RepairRecord.empty ∧
       t.boot.phase = if s.rails.main = true ∧ s.clocks.stopped = 0 then .stage 2 else .standby)) ∧
     (s.boot.phase = .stage 2 → Completes .basecampStageEnd s (fun t =>
       if (s.pickSlot 1).isSome then t.boot.phase = .stage 3 ∧ t.fld .hkBoot Fld.hkBoot_STAGE = 3
       else t.boot.phase = .recovery ∧ t.fld .hkBoot Fld.hkBoot_RECOVERY = 1)) ∧
     (s.boot.phase = .stage 3 → Completes .manifestCheck s (fun t => t.fld .hkShape Fld.hkShape_SVC_LEVEL = 1 ∧
       (s.boot.windowOpen = true → t.boot.phase = .token))) ∧
     (s.boot.windowOpen = true → s.boot.phase = .token → Completes .tokenWindowClose s (fun t => t.boot.windowOpen = false ∧
       t.boot.phase = if s.untestedPair.isSome ∧ s.boot.tokenGood = false then .hold else .stage 4))) ∧
  (∀ (s : State) (failed : List (Fin 8 × Fin 128)) (fails : List (Fin 4 × Fin 192 × Fin 1032)) (ok4 : BitVec 4) (ok8 : BitVec 8)
       (ok24 : BitVec 24),
     (∀ x ∈ [(4, Instr.belayTraining failed), (5, .ledgeMarchStage fails), (6, .ridgeStage ok4), (7, .nearTraining ok8),
         (8, .moraineTraining ok24), (9, .ropeBringup), (4, .stageTimeout ok24), (5, .stageTimeout ok24), (6, .stageTimeout ok24),
         (7, .stageTimeout ok24), (8, .stageTimeout ok24), (9, .stageTimeout ok24)],
       s.boot.phase = .stage x.1 → Completes x.2 s (fun t =>
         t.boot.phase = .stage (x.1 + 1) ∧ t.fld .hkBoot Fld.hkBoot_STAGE = x.1 + 1)) ∧
     (∀ x ∈ [(4, 5, Instr.belayTraining failed), (5, 6, .ledgeMarchStage fails), (6, 7, .ridgeStage ok4), (7, 9, .nearTraining ok8),
         (9, 10, .ropeBringup)],
       s.boot.phase = .rerun x.1 → Completes x.2.2 s (fun t => t.boot.phase = .rerun x.2.1)) ∧
     (s.boot.phase = .stage 2 → Completes (.stageTimeout ok24) s (fun t => t.boot.phase = .recovery)) ∧
     (s.boot.phase = .stage 10 → s.boot.heldReset = 0 → Completes .serviceAnnounce s (fun t =>
       t.boot.phase = .done ∧ t.fld .hkBoot Fld.hkBoot_STAGE = 15)))

/-- DIE_RESET reruns stages 4 to 9 for its dies, is held during the boot order and refused while a job owns the device;
the repair record. (R349, R359, R369) -/
def Obligations.DieResetAndRepairRecord : Prop :=
  ∀ s : State,
    (∀ dies : BitVec 4, dies ≠ 0 → s.doms.hk = true →
      (s.noJob = true → s.boot.phase = .done → Completes (.dieReset dies) s (fun t => t.boot.phase = .rerun 4 ∧
        t.boot.rerunMask = dies.toNat)) ∧
      (s.noJob = true → s.boot.phase ≠ .done → Completes (.dieReset dies) s (fun t => t.boot.phase = s.boot.phase ∧
        t.boot.heldReset = s.boot.heldReset ||| dies.toNat)) ∧
      (s.noJob = false → Completes (.dieReset dies) s (fun t => t.fld .hkBootCtrl Fld.hkBootCtrl_REFUSED = 1 ∧ t.boot = s.boot))) ∧
    (s.boot.phase = .rerun 10 → s.boot.heldReset = 0 → Completes .dieResetDone s (fun t => t.boot.phase = .done ∧
      t.fld .hkBoot Fld.hkBoot_STAGE = 15)) ∧
    (∀ (n : Fin 4) (map : BitVec 44), s.doms.hk = true →
      (s.inHold = true → mapValid map.toNat = true → Completes (.hkRepairMapWrite n map) s (fun t =>
        t.repair.record.remap = s.repair.record.remap.set n.val map.toNat ∧ t.fld (.hkRepairMap n) Fld.hkRepairMap_MAP = map.toNat)) ∧
      (s.inHold = false ∨ mapValid map.toNat = false → Completes (.hkRepairMapWrite n map) s (fun t =>
        t.fld .hkBootCtrl Fld.hkBootCtrl_REFUSED = 1 ∧ t.repair = s.repair))) ∧
    Completes .repairFlashWrite s (fun t => t.repair.flash = s.repair.flash.finish s.repair.record ∧
      t.repair.record = s.repair.record)

/-- Budgets and demands travel between the power controller and its domains; duty, mode and calibration follow. (R387,
R389, R390, R391, R392, R400, R401, R402) -/
def Obligations.PowerBudgetsAndDuty : Prop :=
  (∀ (s : State) (d : Fin 5),
     (s.redistributes = true → Completes .budgetRedistribute s (fun t => t.budget d = s.budget d ∧
       ((s.pdom d).msg = none →
         max (targetBudget s.grant (powerDomains.map (fun e => s.fld (.pwrDomain e) Fld.pwrDomain_DEMAND))
           (powerDomains.map (fun e => s.fld (.pwrDomain e) Fld.pwrDomain_FLOOR)) (s.isSet (.pwrDomain d) Fld.pwrDomain_THERMAL)
           (s.pdom d).tcap d.val) (s.fld (.pwrDomain d) Fld.pwrDomain_FLOOR) + 4 ≤ s.budget d →
         t.fld (.pwrDomain d) Fld.pwrDomain_PENDING = 1))) ∧
     (∀ m, (s.pdom d).msg = some m → Completes (.budgetAdopt d) s (fun t => t.budget d = m.new % 2 ^ 16)) ∧
     (∀ m, (s.pdom d).msg = some m → m.adopted = true → Completes (.budgetAck d) s (fun t => t.budget d = s.budget d ∧
       ((s.pdom d).raise = none → t.fld (.pwrDomain d) Fld.pwrDomain_PENDING = 0))) ∧
     (∀ m, (s.pdom d).msg = some m → m.late = false → d.val < s.power.domains.length → Completes (.budgetAckLate d) s (fun t =>
       (t.pdom d).msg = some { m with late := true })) ∧
     (∀ m, (s.pdom d).msg = some m → m.late = true → Completes (.budgetAckFatal d) s (fun t =>
       (d.val ≠ 4 → t.clocks = s.clocks) ∧
       (d.val = 4 → s.clocks.stopped = 0 → t.clocks.tRun = false ∧ t.clocks.fRun = false ∧ t.clocks.mRun = false)))) ∧
  (∀ s : State,
     (∀ (d : Fin 5) (raw : Nat), Completes (.dutyRejudge d raw) s (fun t =>
       t.fld (.pwrDomain d) Fld.pwrDomain_DRAW = raw * s.fld (.pwrGain d) Fld.pwrGain_GAIN / 0x8000 % 2 ^ 16 ∧
       (d.val = 4 → t.fld (.pwrDomain d) Fld.pwrDomain_DUTY = 63) ∧
       (d.val ≠ 4 → s.isSet .pwrCtrl Fld.pwrCtrl_COMPAT = false → t.fld (.pwrDomain d) Fld.pwrDomain_DUTY =
         dutyFor (raw * s.fld (.pwrGain d) Fld.pwrGain_GAIN / 0x8000 * 64 / (s.fld (.pwrDomain d) Fld.pwrDomain_DUTY + 1))
           (s.budget d) - 1))) ∧
     (∀ m : Fin 4, s.doms.hk = true → s.inHold = false ∨ s.fld .hkBoot Fld.hkBoot_HOLD_CAUSE = 3 →
       Completes (.modeChange m) s (fun t =>
         if m = 3 then t.fld .hkBoot Fld.hkBoot_HOLD = 1 ∧ t.fld .hkBoot Fld.hkBoot_HOLD_CAUSE = 3
         else t.fld .hkBoot Fld.hkBoot_HOLD = 0 ∧ t.mode = m.val)) ∧
     (∀ (meter : Nat) (raws : List Nat), s.doms.hk = true → Completes (.gainTrim meter raws) s (fun t =>
       t.fld .pwrStatus Fld.pwrStatus_METER = meter % 2 ^ 16 ∧
       (s.isSet .pwrCtrl Fld.pwrCtrl_CAL_FREEZE = true → ∀ d, t.fld (.pwrGain d) Fld.pwrGain_GAIN = s.fld (.pwrGain d) Fld.pwrGain_GAIN))) ∧
     (∀ (i : Fin 9) (tref power : Int) (refOk : Bool) (readings : List Int),
       Completes (.sensorOffsetUpdate i tref power refOk readings) s (fun t =>
         t.fld (.pwrTherm i) Fld.pwrTherm_REF = unsign 16 tref)))

/-- What a hot die, a die that cools, over-temperature, compatibility mode and the brake do. (R395, R396, R397, R398,
R399) -/
def Obligations.TemperatureAndBrake : Prop :=
  ∀ s : State,
    (∀ (i : Fin 9) (temp : Int), s.tLimit i < temp → s.isSet .pwrCtrl Fld.pwrCtrl_COMPAT = false →
      s.isSet (.pwrDomain (sensorDomain i)) Fld.pwrDomain_THERMAL = false → Completes (.thermalLimit i temp) s (fun t =>
        t.fld (.pwrDomain (sensorDomain i)) Fld.pwrDomain_THERMAL = 1 ∧ t.fld (.pwrTherm i) Fld.pwrTherm_HOT = unsign 16 temp)) ∧
    (∀ d : Fin 5, s.isSet (.pwrDomain d) Fld.pwrDomain_THERMAL = true → d.val < s.power.domains.length →
      Completes (.thermalCapStep d) s (fun t => (t.pdom d).tsteps = min 20 ((s.pdom d).tsteps + 1) ∧
        (t.pdom d).tcap = (s.pdom d).tbase * (100 - 5 * min 20 ((s.pdom d).tsteps + 1)) / 100)) ∧
    (∀ (i : Fin 9) (temp : Int), temp ≤ s.tLimit i - 32 → s.isSet .pwrCtrl Fld.pwrCtrl_COMPAT = false →
      (∀ j ∈ domainSensors (sensorDomain i), j = i ∨ s.dieTemp j ≤ s.tLimit j - 32) → Completes (.thermalClear i temp) s (fun t =>
        t.fld (.pwrDomain (sensorDomain i)) Fld.pwrDomain_THERMAL = 0)) ∧
    (∀ (i : Fin 9) (temp : Int), (s.fld .pwrTlimit Fld.pwrTlimit_T_SHUT : Int) < temp → s.clocks.stopped = 0 →
      Completes (.overTemperature i temp) s (fun t => t.clocks.stopped = 2 ∧ t.clocks.tRun = false ∧ t.clocks.fRun = false ∧
        t.clocks.mRun = false)) ∧
    (∀ (n : Fin 4) (temp : Int), s.isSet .pwrCtrl Fld.pwrCtrl_COMPAT = true →
      compatDutyAt temp (signed 16 (s.fld .pwrTlimit Fld.pwrTlimit_LO)) (signed 16 (s.fld .pwrTlimit Fld.pwrTlimit_HI)) <
        (s.pdom ⟨n.val, by omega⟩).compatDuty →
      Completes (.compatDuty n temp) s (fun t => t.fld (.pwrDomain ⟨n.val, by omega⟩) Fld.pwrDomain_DUTY =
        (min (compatDutyAt temp (signed 16 (s.fld .pwrTlimit Fld.pwrTlimit_LO)) (signed 16 (s.fld .pwrTlimit Fld.pwrTlimit_HI)))
          (dutyFor (s.fld (.pwrDomain ⟨n.val, by omega⟩) Fld.pwrDomain_DEMAND) (s.budget ⟨n.val, by omega⟩)) - 1) % 64)) ∧
    (s.doms.hk = true → Completes .brakeAssert s (fun t => t.fld .pwrCtrl Fld.pwrCtrl_BRAKE = 1 ∧ t.power.brakeHeld = true ∧
      (s.power.target = none → ∀ d, t.budget d = min (s.budget d) (modeBrake s.mode d.val)))) ∧
    (s.power.brakeHeld = true → Completes .brakeRelease s (fun t => t.fld .pwrCtrl Fld.pwrCtrl_BRAKE = 0 ∧
      t.power.brakeHeld = false ∧ t.power.restoring = [4, 0, 1, 2, 3]))

/-- FAULT_RECORD appends a corrected event to the ring or merges a UCC event into the record in handling of its source.
(R405, R406, R408, R409) -/
def Obligations.FaultRingRecordsAndMerges : Prop :=
  ∀ (s : State) (e : FaultEvent) (rest : List FaultEvent), s.doms.hk = true → s.faults.queue = e :: rest →
    (e.cls = .corrected → s.faults.ring.length < 1024 → Completes .faultRecord s (fun t => t.faults.queue = rest ∧
      t.faults.ring.length = s.faults.ring.length + 1 ∧ (∀ x, t.faults.ring.getLast? = some x → x.seq = s.nextSeq) ∧
      t.fld .fltHead Fld.fltHead_SEQ = (s.nextSeq + 1) % 2 ^ 32)) ∧
    (∀ i x, e.cls = .ucc → s.mergeTarget e = some i → s.faults.ring[i]? = some x → Completes .faultRecord s (fun t =>
      t.faults.queue = rest ∧ t.faults.ring.length = s.faults.ring.length ∧
      t.faults.ring[i]? = some { x with merge := satInc 16 x.merge, last := e.time, ucc := true }))

/-- An acknowledgement reaches every UCC record not newer than its SEQ, clearing needs the cause gone, and an expired
deadline makes a record Fatal. (R405, R410, R412, R414, R415) -/
def Obligations.FaultAcknowledgementAndClearing : Prop :=
  ∀ s : State,
    (∀ q : BitVec 32, s.doms.hk = true →
      (newer 32 q.toNat (s.nextSeq + 2 ^ 32 - 1) = true → Completes (.fltAck q) s (fun t =>
        t.fld .fltStatus Fld.fltStatus_REFUSED = 1 ∧ t.faults = s.faults)) ∧
      (newer 32 q.toNat (s.nextSeq + 2 ^ 32 - 1) = false → Completes (.fltAck q) s (fun t =>
        ∀ x ∈ t.faults.ring, seqUpTo x.seq q.toNat = true → x.unacked = false)) ∧
      (s.faults.ring.findIdx? (fun x => x.seq == q.toNat % 2 ^ 32) = none → Completes (.fltClear q) s (fun t =>
        t.fld .fltStatus Fld.fltStatus_REFUSED = 1 ∧ t.faults = s.faults)) ∧
      (∀ i x, s.faults.ring.findIdx? (fun x => x.seq == q.toNat % 2 ^ 32) = some i → s.faults.ring[i]? = some x →
        s.causeGone x = true → Completes (.fltClear q) s (fun t =>
          t.faults.ring[i]? = some { x with cleared := true, pinned := false }))) ∧
    (∀ q dl i, s.oldestUnacked = some (q, some dl) → s.faults.ring.findIdx? (fun x => x.unacked && x.seq == q) = some i →
      Completes .graceExpiry s (fun t => ∃ y, t.faults.ring[i]? = some y ∧ y.fatal = true ∧ y.escalated = true)) ∧
    (s.isSet .fltStatus Fld.fltStatus_PULSE = true → s.anyOpen = false → Completes .errPulseEnd s (fun t =>
      t.fld .fltStatus Fld.fltStatus_PULSE = 0 ∧ t.fld .fltStatus Fld.fltStatus_ASSERTED = 0 ∧
      t.fld .fltStatus Fld.fltStatus_ARMED = 1)) ∧
    Completes .pinnedRecordFlashWrite s (fun t => t.faults.flash = s.faults.flash.finish s.pinnedRecs ∧
      t.faults.ring = s.faults.ring)

/-- The restart sequence: the phase that each event of it leads to. (R421, R423, R424, R425, R426) -/
def Obligations.RestartPhasesInOrder : Prop :=
  ∀ s : State,
    (∀ (e : BitVec 8) (node : BitVec 32), s.doms.main = true → newer 8 e.toNat s.epoch = true →
      Completes (.restartNotice e node) s (fun t => t.restartPhase = 3 ∧ t.restart.notice = true)) ∧
    (s.restartPhase = 3 → s.allStopped = true → s.restart.failedNodes = [] → Completes .quiesceComplete s (fun t =>
      t.restartPhase = 5 ∨ t.restartPhase = 6)) ∧
    (∀ m : BitVec 36, s.restartPhase = 4 → Completes (.restartPromote m) s (fun t => t.restart.spareGone = true ∧
      (t.restartPhase = 5 ∨ t.restartPhase = 6))) ∧
    (∀ r : ReachReport, 3 ≤ s.restartPhase → s.restartPhase ≤ 5 →
      s.restart.reports.any (fun x => x.team == r.team && x.slot == r.slot) = false →
      Completes (.restartReport r) s (fun t => r ∈ t.restart.reports)) ∧
    (∀ step : BitVec 40, s.restartPhase = 5 → Completes (.restartTarget step) s (fun t =>
      t.fld .fltRestart Fld.fltRestart_TARGET = step.toNat ∧ t.restartPhase = if step.toNat = noTarget then 5 else 6)) ∧
    (s.restartPhase = 5 → s.isNodeZero = true → Completes .agreeBoundExpiry s (fun t =>
      t.fld .fltRestart Fld.fltRestart_TARGET = noTarget)) ∧
    (∀ c, s.restartPhase = 6 → s.fld .fltRestart Fld.fltRestart_TARGET ≠ noTarget → s.busyWith s.headDie RopeUse.isPull = false →
      s.kv.moves = [] → s.restart.pulling = none → s.mustPull (s.fld .fltRestart Fld.fltRestart_TARGET) = false →
      s.commitOf (s.fld .fltRestart Fld.fltRestart_TARGET) = some c → Completes .restoreComplete s (fun t => t.restartPhase = 7)) ∧
    (s.restartPhase = 7 → Completes .refillComplete s (fun t => t.restartPhase = 8)) ∧
    (s.restartPhase = 8 → Completes .resumeBarrierDone s (fun t => t.restartPhase = 0 ∧ t.restart.failedNodes = [] ∧
      t.restart.notice = false)) ∧
    (∀ g : Fin 2, s.restart.mirrorSlot = some g.val → (diesOf 15).any (fun d => s.busyWith d RopeUse.isMirror) = false →
      s.burstStalled s.mirrorReq = false →
      Completes .mirrorComplete s (fun t => t.restart.mirrorSlot = none ∧ t.fld (.fltMgen g) Fld.fltMgen_WRITING = 0 ∧
        t.fld (.fltMgen g) Fld.fltMgen_COMPLETE = 1))

/-- EN of the heartbeat and what a tick shows; an injected event needs factory mode and carries INJECTED. (R416, R417,
R418, R419) -/
def Obligations.HeartbeatsAndInjection : Prop :=
  ∀ s : State, s.doms.hk = true →
    Completes .hbEnable s (fun t => t.fld .fltHb Fld.fltHb_EN = 1) ∧
    (s.isSet .fltHb Fld.fltHb_EN = true →
      Completes .hbDisable s (fun t => t.fld .fltHb Fld.fltHb_EN = 0 ∧ t.fld .fltHb Fld.fltHb_LEAD = 0) ∧
      Completes .hbFail s (fun t => t.fld .fltHb Fld.fltHb_EN = 0) ∧
      (s.leads = false → Completes .heartbeatTick s (fun t => t.fld .fltHb Fld.fltHb_SEEN = s.seenNow % 2 ^ 9))) ∧
    (∀ w : Word,
      (s.isSet .fltStatus Fld.fltStatus_FACTORY = false → Completes (.fltInject w) s (fun t =>
        t.fld .fltStatus Fld.fltStatus_REFUSED = 1 ∧ t.faults = s.faults)) ∧
      (s.isSet .fltStatus Fld.fltStatus_FACTORY = true → fget w Fld.fltInject_GO = 1 → fget w Fld.fltInject_CLASS = 1 →
        Completes (.fltInject w) s (fun t => ∃ e, t.faults.queue.getLast? = some e ∧ e.injected = true ∧ e.cls = .corrected ∧
          e.die = fget w Fld.fltInject_DIE ∧ e.block = fget w Fld.fltInject_BLOCK ∧ e.inst = fget w Fld.fltInject_INSTANCE ∧
          e.code = fget w Fld.fltInject_CODE)))

/-- A new request of the management pair puts one response in hand; a repeated one is answered again; a ninth gets BUSY.
(R437, R438, R441, R442, R443) -/
def Obligations.ManagementPairAnswers : Prop :=
  ∀ (q : T1sRequest) (s : State), s.t1sOn = true →
    (s.t1sRepeat q = none → s.dict.t1sHand.length < 8 →
      Completes (.t1sRead q) s (fun t => ∃ r, t.dict.t1sHand = s.dict.t1sHand ++ [r] ∧ r.mac = q.mac ∧ r.seq = q.seq ∧ r.op = 0x81 ∧
        r.index = q.index ∧ r.sub = q.sub ∧ (q.offset = 0 → r.status = (s.dictRead q.index q.sub).1.code ∧
          r.data = (s.dictRead q.index q.sub).2.2)) ∧
      Completes (.t1sWrite q) s (fun t => ∃ r, t.dict.t1sHand.getLast? = some r ∧ r.mac = q.mac ∧ r.seq = q.seq ∧ r.op = 0x82 ∧
        r.index = q.index ∧ r.sub = q.sub ∧ r.data = [] ∧
        r.status = (s.dictWrite 3 q.mac q.index q.sub (some q.type) q.offset q.data).1.code) ∧
      Completes (.discover q) s (fun t => ∃ r, t.dict.t1sHand = s.dict.t1sHand ++ [r] ∧ r.mac = q.mac ∧ r.seq = q.seq ∧ r.op = 0x83 ∧
        r.status = 0) ∧
      (q.op ≠ 1 → q.op ≠ 2 → q.op ≠ 3 → Completes (.t1sUnknownOp q) s (fun t => ∃ r, t.dict.t1sHand = s.dict.t1sHand ++ [r] ∧ r.mac = q.mac ∧ r.seq = q.seq ∧
        r.op = q.op % 256 ||| 0x80 ∧ r.status = 2 ∧ r.data = []))) ∧
    (∀ c ∈ [Instr.t1sRead q, .t1sWrite q, .discover q] ++ (if q.op = 1 ∨ q.op = 2 ∨ q.op = 3 then [] else [.t1sUnknownOp q]),
      (s.t1sRepeat q = none → 8 ≤ s.dict.t1sHand.length → Completes c s (fun t => t.dict = s.dict ∧
        t.fld .hkT1s Fld.hkT1s_BUSY_SENT = satInc Fld.hkT1s_BUSY_SENT.width (s.fld .hkT1s Fld.hkT1s_BUSY_SENT) ∧
        ∃ r, t.out = s.out ++ [.t1s r] ∧ r.mac = q.mac ∧ r.seq = q.seq ∧ r.status = 6)) ∧
      (∀ r, s.t1sRepeat q = some r → Completes c s (fun t => t = s.emit (.t1s r))))

/-- What the headlamp port makes of a frame, and the completed write of the kept entries. (R434, R449, R452, R453, R454) -/
def Obligations.HeadlampAndKeptFlash : Prop :=
  ∀ (a : BitVec 8) (order : BitVec 32) (reason : Fin 5) (s : State),
    (∀ x ∈ [(0x81, Instr.lampIdentify a), (0x82, .readSummary a), (0x83, .tagForReplacement order a)],
      (s.lampOn = true → Completes x.2 s (fun t => t.fld .hkHeadlamp Fld.hkHeadlamp_BUSY = 1 ∧
        t.fld .hkHeadlamp Fld.hkHeadlamp_AMBIENT = a.toNat ∧ ∃ r, t.dict.lampReply = some r ∧ r.cmd = x.1)) ∧
      (s.lampOn = false → Completes x.2 s (fun t => t = s))) ∧
    (s.lampOn = true → Completes (.headlampReject reason a) s (fun t => t.fld .hkHeadlamp Fld.hkHeadlamp_BUSY = 1 ∧
      t.fld .hkHeadlamp Fld.hkHeadlamp_AMBIENT = a.toNat ∧
      t.dict.lampReply = some ⟨0xFF, [BitVec.ofNat 8 (reason.val + 1), a]⟩)) ∧
    (∀ r, s.dict.lampReply = some r → Completes .headlampReply s (fun t => t.out = s.out ++ [.lamp r] ∧ t.dict.lampReply = none ∧
      t.fld .hkHeadlamp Fld.hkHeadlamp_BUSY = 0 ∧
      (r.cmd = 0xFF → t.fld .hkHeadlamp Fld.hkHeadlamp_LAST_REASON = (r.data.getD 0 0).toNat))) ∧
    Completes .keptFlashWrite s (fun t => t.dict.flash = s.dict.flash.finish (keptPart s.dict.stored) ∧ t.dict.stored = s.dict.stored ∧
      t.regs = s.regs ∧ t.mem = s.mem)

/-- What each message of the host mailbox does, and that GO falls and DONE rises with its response. (R361, R363, R366,
R367, R383, R384, R437) -/
def Obligations.MailboxMessages : Prop :=
  ∀ s : State, s.mboxServed = true → s.mboxLen ≤ 4080 →
    (∀ x ∈ [(1, Instr.mboxOpen), (2, .dictRead), (3, .dictWrite), (4, .fwWrite), (5, .fwCommit),
        (6, .factoryToken), (7, .mboxDiag), (8, .mboxClose)], s.mboxOp = x.1 →
      Completes x.2 s (fun t => t.fld .bcMboxCtrl Fld.bcMboxCtrl_GO = 0 ∧ t.fld .bcMboxCtrl Fld.bcMboxCtrl_DONE = 1)) ∧
    (s.mboxOp = 1 → s.mboxPayload.length = 8 →
      (∀ e, s.chooseEpoch (leAt s.mboxPayload 0 4) (leAt s.mboxPayload 4 2) (leAt s.mboxPayload 6 2) = some e →
        Completes .mboxOpen s (fun t => t.camp.mboxOpen = true ∧ t.fld (.hkFw 6) Fld.hkFw_EPOCH = e % 2 ^ 16)) ∧
      (s.chooseEpoch (leAt s.mboxPayload 0 4) (leAt s.mboxPayload 4 2) (leAt s.mboxPayload 6 2) = none →
        Completes .mboxOpen s (fun t => t.camp.mboxOpen = false ∧ bits (t.get (.bcMboxResp 1)).toNat 47 32 = 4))) ∧
    (s.mboxOp = 2 → s.mboxPayload.length = 3 → (s.dictRead (leAt s.mboxPayload 0 2) (leAt s.mboxPayload 2 1)).1 ≠ .ok →
      Completes .dictRead s (fun t => t.dict = s.dict ∧ bits (t.get (.bcMboxResp 1)).toNat 47 32 =
        (s.dictRead (leAt s.mboxPayload 0 2) (leAt s.mboxPayload 2 1)).1.mbox.code)) ∧
    (s.mboxOp = 3 → 3 ≤ s.mboxPayload.length → ∀ p, p = s.dictWrite 2 0 (leAt s.mboxPayload 0 2) (leAt s.mboxPayload 2 1) none 0
        (s.mboxPayload.drop 3) → Completes .dictWrite s (fun t => t.dict = p.2.dict ∧
          bits (t.get (.bcMboxResp 1)).toNat 47 32 = p.1.mbox.code)) ∧
    (s.mboxOp = 4 → 5 ≤ s.mboxPayload.length → s.mboxPayload.length ≤ 4069 → ∀ k, k = leAt s.mboxPayload 0 1 → 1 ≤ k → k ≤ 5 →
      Completes .fwWrite s (fun t =>
        t.images.slotB = (if s.spareSlot k then s.images.slotB.set k (writeAt (s.images.slotB.getD k []) (leAt s.mboxPayload 1 4)
          (s.mboxPayload.drop 5)) else s.images.slotB) ∧
        t.images.slotA = (if s.spareSlot k then s.images.slotA else s.images.slotA.set k (writeAt (s.images.slotA.getD k [])
          (leAt s.mboxPayload 1 4) (s.mboxPayload.drop 5))))) ∧
    (s.mboxOp = 5 → s.mboxPayload.length = 1 → ∀ k, k = leAt s.mboxPayload 0 1 → 1 ≤ k → k ≤ 5 →
      Completes .fwCommit s (fun t => bits (t.get (.bcMboxResp 1)).toNat 47 32 =
        if imageGood k (s.slot k (s.spareSlot k)) then 0 else 7)) ∧
    (∀ x ∈ [(6, Instr.factoryToken), (7, .mboxDiag), (8, .mboxClose)], s.mboxOp = x.1 → s.camp.mboxOpen = false →
      Completes x.2 s (fun t => t.dict = s.dict ∧ t.boot = s.boot ∧ bits (t.get (.bcMboxResp 1)).toNat 47 32 = 3)) ∧
    (s.camp.mboxOpen = true →
      (s.mboxOp = 6 → s.mboxPayload.length = 128 → s.boot.windowOpen = true → s.tokenValid s.mboxPayload = true →
        Completes .factoryToken s (fun t => t.fld .fltStatus Fld.fltStatus_FACTORY = 1)) ∧
      (s.mboxOp = 7 → s.mboxPayload.length = 2 → s.noJob = true →
        Completes .mboxDiag s (fun t => t.freeCtr = s.freeCtr + 8)) ∧
      (s.mboxOp = 8 → s.mboxPayload = [] → Completes .mboxClose s (fun t => t.camp.mboxOpen = false ∧
        bits (t.get (.bcMboxResp 1)).toNat 47 32 = 0)))

/-- A hart's access: exceptions of an I/O range, a register read, and loads, stores and cbo.inval of a cached line. (R371,
R374, R375, R377) -/
def Obligations.HartsReachTheAddressMap : Prop :=
  ∀ (h : Fin 24) (a : BitVec 48) (s : State), s.hartRuns h = true →
    (∀ (o : Nat) (size : Fin 4) (data : Option Word), s.decodeAddr a.toNat = .regs o →
      (a.toNat % 2 ^ size.val ≠ 0 → Completes (.hartIoAccess h a size data) s (fun t =>
        t = s.emit (.exception h.val (if data.isSome then .storeMisaligned else .loadMisaligned) a.toNat))) ∧
      (a.toNat % 2 ^ size.val = 0 → size.val < 2 → Completes (.hartIoAccess h a size data) s (fun t =>
        t = s.emit (.exception h.val (if data.isSome then .storeFault else .loadFault) a.toNat))) ∧
      (a.toNat % 2 ^ size.val = 0 → 2 ≤ size.val → Completes (.hartIoAccess h a size none) s (fun t =>
        ∃ v, t.out.getLast? = some (.hartData h.val v) ∧ v.length = 2 ^ size.val))) ∧
    (∀ l, s.hartDecode a.toNat = .device → s.cached (a.toNat / 64 * 64) = some l → l.dirty = true →
      (∀ n, 0 < n → a.toNat % 64 + n ≤ 64 → Completes (.hartMemoryAccess h a (.load n) 0) s (fun t =>
        t = s.emit (.hartData h.val (slice l.data (a.toNat % 64) n)))) ∧
      (∀ bs : List Byte, bs ≠ [] → a.toNat % 64 + bs.length ≤ 64 → Completes (.hartMemoryAccess h a (.store bs) 0) s (fun t =>
        t.mem = s.mem ∧ t.cached (a.toNat / 64 * 64) = some ⟨a.toNat / 64 * 64, writeAt l.data (a.toNat % 64) bs, true, some h.val⟩)) ∧
      Completes (.hartMemoryAccess h a .cboInval 0) s (fun t => t.mem = s.mem ∧ t.cached (a.toNat / 64 * 64) = none))

/-- RUN, the interrupt controller's event, claim and completion, software interrupts and the two timers. (R372, R373,
R379, R380, R381, R382) -/
def Obligations.HartsInterruptsAndTimers : Prop :=
  ∀ (h : Fin 24) (m : Fin 2) (s : State), s.doms.main = true →
    (∀ run : BitVec 24, Completes (.hartRun run) s (fun t => t.fld .bcHart Fld.bcHart_RUN = run.toNat ∧
      (h.val < s.camp.harts.length → run.toNat.testBit h.val = true → (s.fld .bcHart Fld.bcHart_RUN).testBit h.val = false →
        (t.hart h.val).pc = if h.val = 0 then romBase else s.fld .bcResetVec Fld.bcResetVec_ADDR))) ∧
    (∀ src : Fin 64, irqLine src.val = true →
      Completes (.irqEvent src) s (fun t => t.fld (.bcIrqRoute src) Fld.bcIrqRoute_PEND = 1)) ∧
    (∀ again, s.claimable h m = none → Completes (.irqClaim h m again) s (fun t => t = s.emit (.claim h.val m.val 0))) ∧
    (∀ (again : Bool) (src : Fin 64), s.claimable h m = some src → Completes (.irqClaim h m again) s (fun t =>
      t.out = s.out ++ [.claim h.val m.val src.val] ∧ t.fld (.bcIrqRoute src) Fld.bcIrqRoute_ACTIVE = 1 ∧
      t.fld (.bcIrqRoute src) Fld.bcIrqRoute_PEND = b2n again)) ∧
    (∀ src : Fin 64, s.fld (.bcIrqRoute src) Fld.bcIrqRoute_ACTIVE = 1 → s.fld (.bcIrqRoute src) Fld.bcIrqRoute_HART = h.val →
      s.fld (.bcIrqRoute src) Fld.bcIrqRoute_MODE = m.val →
      Completes (.irqComplete h m src) s (fun t => t.fld (.bcIrqRoute src) Fld.bcIrqRoute_ACTIVE = 0)) ∧
    (∀ mask set : BitVec 24,
      Completes (.msipSet mask) s (fun t => t.fld .bcIrqMsip Fld.bcIrqMsip_MSIP = s.fld .bcIrqMsip Fld.bcIrqMsip_MSIP ||| mask.toNat) ∧
      Completes (.msipClear mask set) s (fun t => ∀ i : Fin 24, (t.fld .bcIrqMsip Fld.bcIrqMsip_MSIP).testBit i.val =
        (set.toNat.testBit i.val || ((s.fld .bcIrqMsip Fld.bcIrqMsip_MSIP).testBit i.val && !mask.toNat.testBit i.val)))) ∧
    (h.val < s.camp.harts.length → ∀ cmp : Word,
      Completes (.machineTimer h) s (fun t => (t.hart h.val).mtip = decide (s.fld (.bcIrqTimecmp h) Fld.bcIrqTimecmp_CMP ≤ s.time.toNat)) ∧
      Completes (.supervisorTimer h cmp) s (fun t => (t.hart h.val).stip = decide (cmp.toNat ≤ s.time.toNat) ∧
        (t.hart h.val).stimecmp = cmp.toNat))

/-- Configuration requests, the three BARs and unsupported requests: what the host is answered. (R464, R465, R466, R467,
R470, R472) -/
def Obligations.HostRequestsAreAnswered : Prop :=
  ∀ s : State, s.linkUp = true →
    (∀ (r : CfgReg) (data : Option (BitVec 32)), s.pastStage3 = false →
      Completes (.pcieConfigRequest r data) s (fun t => t = s.emit (.completion .retry []))) ∧
    (s.pastStage3 = true → (∀ r : CfgReg, Completes (.pcieConfigRequest r none) s (fun t =>
        t = s.emit (.completion .success (toLe 4 (s.cfgRead r))))) ∧
      (∀ v : BitVec 32, Completes (.pcieConfigRequest .command (some v)) s (fun t => t.pcie.memEnable = v.toNat.testBit 1 ∧
        t.pcie.busMaster = v.toNat.testBit 2 ∧ t.out = s.out ++ [.completion .success []]))) ∧
    (∀ k ∈ [HostRequest.ioRead, .ioWrite, .atomicOp, .memRead], Completes (.pcieUnsupportedRequest k) s (fun t =>
      t.out = s.out ++ [.completion .unsupported []] ∧ t.pcie.aerUr = s.pcie.aerUr + 1)) ∧
    Completes (.pcieUnsupportedRequest .memWrite) s (fun t => t.out = s.out ∧ t.pcie.aerUr = s.pcie.aerUr + 1) ∧
    Completes (.pcieUnsupportedRequest .vendorMessage) s (fun t => t = s) ∧
    (∀ (off : BitVec 29) (off2 : BitVec 36) (off4 : BitVec 13) (len : Nat) (wide : Bool),
      (s.pcie.d3hot = true ∨ s.pcie.memEnable = false →
        ∀ c ∈ [Instr.bar0Access off len true none, .bar2Access off2 len none, .bar4Access off4 wide none],
          Completes c s (fun t => t.out = s.out ++ [.completion .unsupported []] ∧ t.pcie.aerUr = s.pcie.aerUr + 1)) ∧
      (s.pcie.d3hot = false → s.pcie.memEnable = true →
        (len = 4 ∨ len = 8 → off.toNat % len = 0 → Completes (.bar0Access off len true none) s (fun t =>
          ∃ bs, t.out.getLast? = some (.completion .success bs) ∧ bs.length = len)) ∧
        (len ≠ 4 → len ≠ 8 → Completes (.bar0Access off len true none) s (fun t =>
          t.out = s.out ++ [.completion .unsupported []])) ∧
        (s.isSet (apertureOf off2) Fld.bcHapt_EN = false → Completes (.bar2Access off2 len none) s (fun t =>
          t.out = s.out ++ [.completion .unsupported []])) ∧
        (s.isSet (apertureOf off2) Fld.bcHapt_EN = true → s.pastApertures (s.apertureAddr off2) = false →
          (∀ data w, w = WaitingAccess.mk hostReq 0x32 (s.apertureAddr off2) len data → s.accessWaits w = true →
            Completes (.bar2Access off2 len data) s (fun t => t = s.addWaiting w)) ∧
          (∀ k, 0 < len → s.apertureAddr off2 % 64 + len ≤ 64 →
            (∃ c o, s.decodeAddr (s.apertureAddr off2) = .moraine c o ∧ k = s.moraineKey c o) ∨
              (∃ st o, s.decodeAddr (s.apertureAddr off2) = .near st o ∧ s.reachable (stackDie st) = true ∧ k = s.nearKey st o) →
            (s.accessWaits ⟨hostReq, 0x32, s.apertureAddr off2, len, none⟩ = false → s.isBad (k / 64 * 64) = false →
              Completes (.bar2Access off2 len none) s (fun t => t = s.emit (.completion .success (s.mem.getN k len)))) ∧
            (∀ bs : List Byte, bs.length = len → s.memOk = true →
              s.accessWaits ⟨hostReq, 0x32, s.apertureAddr off2, len, some bs⟩ = false → Completes (.bar2Access off2 len (some bs)) s (fun t =>
                t.mem.getN k len = bs ∧ t.out = s.out ∧ ∀ x, x < k ∨ k + len ≤ x → t.mem.get x = s.mem.get x)))) ∧
        Completes (.bar4Access off4 wide none) s (fun t => ∃ bs, t = s.emit (.completion .success bs) ∧
          bs.length = if wide then 8 else 4) ∧
        (∀ (e : Fin 16) (v : Word), off4.toNat = 16 * e.val + 12 → e.val < s.pcie.table.length →
          Completes (.bar4Access off4 false (some v)) s (fun t => (t.pcie.table.getD e.val ⟨0, 0, true⟩).masked = v.toNat.testBit 0)))) 

/-- The link trains and goes down, D3hot and D0, a message per pending vector, and how a waiting or timed-out request
fails. (R464, R465, R468, R469, R470, R471, R472) -/
def Obligations.LinkD3hotAndMsix : Prop :=
  ∀ s : State,
    (∀ (rate : Fin 6) (width : Fin 5) (flit : Bool), s.doms.pcie = true → Completes (.pcieLinkUp rate width flit) s (fun t =>
      t.pcie.up = true ∧ t.pcie.rate = [25, 50, 80, 160, 320, 640].getD rate.val 0 ∧ t.pcie.width = [16, 8, 4, 2, 1].getD width.val 0 ∧
      t.pcie.flit = (flit || rate.val == 5))) ∧
    (s.linkUp = true → Completes .pcieLinkDown s (fun t => t.pcie.up = false) ∧
      Completes .d3hotEntry s (fun t => t.pcie.d3hot = true ∧ t.pcie.bars = s.pcie.bars ∧ t.regs = s.regs) ∧
      Completes .d0Return s (fun t => t.pcie.d3hot = false ∧ t.pcie.bars = s.pcie.bars ∧ t.regs = s.regs)) ∧
    (∀ (v : Fin 16) (again : Bool) (e : MsixEntry), s.msixReady v.val = true → s.pcie.table[v.val]? = some e →
      Completes (.msixSend v again) s (fun t => t.out = s.out ++ [.msix v.val e.addr e.data] ∧
        t.pcie.pba.testBit v.val = again)) ∧
    (∀ (r : Requester) (a : Nat),
      (s.pcie.requests.any (fun q => decide (q.req = r) && q.addr == a && q.waiting) = false →
        Completes (.linkWaitExpiry r a) s (fun t => t = s)) ∧
      (s.pcie.requests.any (fun q => decide (q.req = r) && q.addr == a && !q.waiting) = false →
        Completes (.completionTimeout r a) s (fun t => t = s)) ∧
      (∀ q, s.pcie.requests.find? (fun q => decide (q.req = r) && q.addr == a && q.waiting) = some q → s.pcie.up = false →
        Completes (.linkWaitExpiry r a) s (fun t => q ∉ t.pcie.requests)) ∧
      (∀ q, s.pcie.requests.find? (fun q => decide (q.req = r) && q.addr == a && !q.waiting) = some q →
        Completes (.completionTimeout r a) s (fun t => q ∉ t.pcie.requests)))

/-- A near-tier read: the block, one corrected symbol, two or three detected, a block known bad, and an access that waits.
(R53, R54, R55) -/
def Obligations.NearTierReads : Prop :=
  ∀ (r : Requester) (a symbols st o : Nat) (report : Bool) (s : State), s.decodeAddr (a / 64 * 64) = .near st o →
    (s.mustWait (a / 64 * 64) = true → Completes (.nearRead r a ⟨symbols, report⟩) s (fun t =>
      t = s.addWaiting ⟨r, 0, a / 64 * 64, 64, none⟩)) ∧
    (s.mustWait (a / 64 * 64) = false → s.reachable (stackDie st) = true → s.onStack st o = true →
      (s.isBad (s.nearKey st o) = false →
        Completes (.nearRead r a ⟨0, false⟩) s (fun t => t = s.emit (.readData r (a / 64 * 64) .ok (s.mem.getN (s.nearKey st o) 64))) ∧
        (symbols ≤ 1 → Completes (.nearRead r a ⟨symbols, report⟩) s (fun t => t.mem = s.mem ∧ t.faults = s.faults ∧
          t.out = s.out ++ [.readData r (a / 64 * 64) .ok (s.mem.getN (s.nearKey st o) 64)] ∧
          (st < s.tiers.corrected.length → t.tiers.corrected.getD st 0 = s.tiers.corrected.getD st 0 + symbols + b2n report)))) ∧
      (s.isBad (s.nearKey st o) = true ∨ 2 ≤ symbols ∧ symbols ≤ 3 → Completes (.nearRead r a ⟨symbols, report⟩) s (fun t =>
        t.isBad (s.nearKey st o) = true ∧ (s.isBad (s.nearKey st o) = true → t.mem = s.mem) ∧
        (s.memOk = true → ∀ k, k < s.nearKey st o ∨ s.nearKey st o + 64 ≤ k → t.mem.get k = s.mem.get k) ∧
        (∃ e, t.faults.queue.getLast? = some e ∧ e.cls = .ucc ∧ e.die = stackDie st ∧ e.inst = st ∧ e.addr = a / 64 * 64) ∧
        t.out = s.out ++ [.readData r (a / 64 * 64) .uncorrectable (t.mem.getN (s.nearKey st o) 64)])))

/-- Writes of the near and moraine tiers store exactly their bytes; an unmapped access delivers zeros and a UCC record.
(R54, R57, R58, R60, R62) -/
def Obligations.TierWritesAndAccesses : Prop :=
  ∀ (r : Requester) (a : Nat) (report : Bool) (data : List Byte) (s : State), s.memOk = true →
    (∀ st o, s.decodeAddr (a / 64 * 64) = .near st o → s.mustWait (a / 64 * 64) = false → s.reachable (stackDie st) = true →
      (data.length = 64 → Completes (.nearWrite r a data) s (fun t =>
        t.mem.getN (s.nearKey st o) 64 = data ∧ t.isBad (s.nearKey st o / 64 * 64) = false ∧
        (∀ k, k < s.nearKey st o ∨ s.nearKey st o + 64 ≤ k → t.mem.get k = s.mem.get k) ∧
        t.out = s.out ++ [.writeDone r (a / 64 * 64) .ok])) ∧
      (0 < data.length → data.length < 64 → a % 64 + data.length ≤ 64 → s.onStack st o = true →
        (s.isBad (s.nearKey st o) = false → Completes (.nearPartialWrite r a ⟨0, report⟩ data) s (fun t =>
          t.mem.getN (s.nearKey st o + a % 64) data.length = data ∧ t.faults = s.faults ∧
          (∀ k, k < s.nearKey st o + a % 64 ∨ s.nearKey st o + a % 64 + data.length ≤ k → t.mem.get k = s.mem.get k))) ∧
        (s.isBad (s.nearKey st o) = true → Completes (.nearPartialWrite r a ⟨0, report⟩ data) s (fun t =>
          t.mem.getN (s.nearKey st o + a % 64) data.length = data ∧ t.isBad (s.nearKey st o) = true ∧
          (∀ k, k < s.nearKey st o + a % 64 ∨ s.nearKey st o + a % 64 + data.length ≤ k → t.mem.get k = s.mem.get k) ∧
          ∃ e, t.faults.queue.getLast? = some e ∧ e.cls = .ucc)))) ∧
    (∀ c o, s.decodeAddr a = .moraine c o → s.mustWait a = false → 0 < data.length → a % 64 + data.length ≤ 64 →
      Completes (.moraineAccess r a data.length (some data) .none) s (fun t =>
        t.mem.getN (s.moraineKey c o) data.length = data ∧ t.out = s.out ++ [.writeDone r a .ok] ∧
        (∀ k, k < s.moraineKey c o ∨ s.moraineKey c o + data.length ≤ k → t.mem.get k = s.mem.get k)) ∧
      (s.isBad (s.moraineKey c o / 64 * 64) = false → Completes (.moraineAccess r a data.length none .none) s (fun t =>
        t = s.emit (.readData r a .ok (s.mem.getN (s.moraineKey c o) data.length))))) ∧
    (s.decodeAddr a = .unmapped → Completes (.unmappedAccess r a data.length none) s (fun t => t.mem = s.mem ∧
      t.out = s.out ++ [.readData r a .unmapped (zeros data.length)] ∧ ∃ e, t.faults.queue.getLast? = some e ∧ e.cls = .ucc ∧ e.addr = a))

/-- Frames retire: each refusal in its order, the copy under way, and the frame served from its substitute slot. (R55,
R56, R58) -/
def Obligations.FrameRetirement : Prop :=
  ∀ s : State, s.doms.main = true →
    (∀ (st : Fin 8) (f : Nat), f < 2 ^ 20 →
      (s.isSet .ntRetireStatus Fld.ntRetireStatus_BUSY = true → Completes (.ntRetire st f) s (fun t => t = s)) ∧
      (s.isSet .ntRetireStatus Fld.ntRetireStatus_BUSY = false → Completes (.ntRetire st f) s (fun t =>
        t.mem = s.mem ∧ t.repair = s.repair ∧
        if usableBase (s.fld (.ntSubstBase st) Fld.ntSubstBase_BASE) = false then
          t.fld .ntRetireStatus Fld.ntRetireStatus_RESULT = 3 ∧ t.tiers = s.tiers
        else if (st.val, f) ∈ s.repair.record.near then t.fld .ntRetireStatus Fld.ntRetireStatus_RESULT = 1 ∧ t.tiers = s.tiers
        else if nearTableSize s.a0 ≤ retireCount s.repair.record.near st.val then
          t.fld .ntRetireStatus Fld.ntRetireStatus_RESULT = 2 ∧ t.tiers = s.tiers
        else t.fld .ntRetireStatus Fld.ntRetireStatus_BUSY = 1 ∧ t.tiers.nearCopy = some ⟨st.val, f⟩))) ∧
    (∀ (c : Fin 32) (f : Nat), f < 2 ^ 21 →
      (s.isSet .morRetireStatus Fld.morRetireStatus_BUSY = true → Completes (.morRetire c f) s (fun t => t = s)) ∧
      (s.isSet .morRetireStatus Fld.morRetireStatus_BUSY = false → Completes (.morRetire c f) s (fun t =>
        t.mem = s.mem ∧ t.repair = s.repair ∧
        if 24 ≤ c.val then t.fld .morRetireStatus Fld.morRetireStatus_RESULT = 5 ∧ t.tiers = s.tiers
        else if morSubstFrame ≤ f then t.fld .morRetireStatus Fld.morRetireStatus_RESULT = 3 ∧ t.tiers = s.tiers
        else if (c.val, f) ∈ s.repair.record.moraine then t.fld .morRetireStatus Fld.morRetireStatus_RESULT = 1 ∧ t.tiers = s.tiers
        else if 4096 ≤ retireCount s.repair.record.moraine c.val then
          t.fld .morRetireStatus Fld.morRetireStatus_RESULT = 2 ∧ t.tiers = s.tiers
        else t.fld .morRetireStatus Fld.morRetireStatus_BUSY = 1 ∧ t.tiers.morCopy = some ⟨c.val, f⟩))) ∧
    (∀ c, s.tiers.nearCopy = some c → s.slotAsleep (s.copySlot c) = true → Completes .retireCopyDone s (fun t => t = s)) ∧
    (∀ c, s.tiers.morCopy = some c → s.inSelfRefresh c.unit = true → Completes .morRetireCopyDone s (fun t => t = s)) ∧
    (∀ c, s.tiers.nearCopy = some c → s.slotAsleep (s.copySlot c) = false → Completes .retireCopyDone s (fun t => t.tiers.nearCopy = none ∧
      t.repair.record.near = s.repair.record.near ++ [(c.unit, c.frame)] ∧
      t.fld .ntRetireStatus Fld.ntRetireStatus_BUSY = 0 ∧
      t.fld .ntRetireStatus Fld.ntRetireStatus_RESULT = if s.frameBad (c.unit * 2 ^ 36 + c.frame * 2 ^ 16) then 4 else 0)) ∧
    (∀ c, s.tiers.morCopy = some c → s.inSelfRefresh c.unit = false → Completes .morRetireCopyDone s (fun t => t.tiers.morCopy = none ∧
      t.repair.record.moraine = s.repair.record.moraine ++ [(c.unit, c.frame)] ∧
      t.fld .morRetireStatus Fld.morRetireStatus_BUSY = 0 ∧
      t.fld .morRetireStatus Fld.morRetireStatus_RESULT = if s.frameBad (2 ^ 40 + c.unit * 2 ^ 37 + c.frame * 2 ^ 16) then 4 else 0))

/-- Drift retraining, a hot package or stack, and self-refresh: who enters it, and who leaves it. (R59, R70, R395) -/
def Obligations.MoraineUpkeep : Prop :=
  ∀ (ch : Fin 24) (st : Fin 8) (s : State),
    (∀ drifts : List Nat, s.jobRuns = true → Completes (.driftCheck drifts) s (fun t =>
      t.tiers.drift.getD ch.val 0 = (if 125 < drifts.getD ch.val 0 then 0 else drifts.getD ch.val 0) ∧
      t.tiers.retrains.getD ch.val 0 = s.tiers.retrains.getD ch.val 0 + (if 125 < drifts.getD ch.val 0 then 1 else 0) ∧ t.mem = s.mem)) ∧
    (s.tiers.halved.testBit ch.val = true → Completes (.moraineCaseHot ch) s (fun t => t = s)) ∧
    (s.tiers.halved.testBit ch.val = false → Completes (.moraineCaseHot ch) s (fun t => t.tiers.halved.testBit ch.val = true)) ∧
    (∀ loss, Completes (.nearStackHot st loss) s (fun t => t.tiers.hotStacks.testBit st.val = true)) ∧
    (s.inHold = true ∨ s.noJob = true → Completes (.selfRefreshEntry ch) s (fun t => t.inSelfRefresh ch.val = true ∧ t.mem = s.mem)) ∧
    (s.inHold = false → s.noJob = false → Completes (.selfRefreshEntry ch) s (fun t => t = s)) ∧
    (s.inSelfRefresh ch.val = true → Completes (.selfRefreshExit ch) s (fun t => t.inSelfRefresh ch.val = false) ∧
      Completes (.selfRefreshScrubWake ch) s (fun t => t.inSelfRefresh ch.val = false))

/-- Scrub and its overdue report, calibration of a stack, deliverable bandwidth, and the host's error. (R60, R63, R64,
R65, R66, R68, R70) -/
def Obligations.ScrubCalibrationAndContracts : Prop :=
  ∀ (st : Fin 8) (r : Requester) (s : State),
    (∀ find, s.scrubYields s.tiers.scrubNear.pos = false → s.tiers.scrubNear.pos + 64 < 2 ^ 39 →
      Completes (.scrubRead true find) s (fun t => t.tiers.scrubNear.pos = s.tiers.scrubNear.pos + 64 ∧
        t.tiers.scrubMor = s.tiers.scrubMor ∧ (find ≠ .uncorrectable → t.mem = s.mem) ∧
        (find = .uncorrectable → (∃ e, t.faults.queue.getLast? = some e ∧ e.cls = .ucc ∧ e.addr = s.tiers.scrubNear.pos) ∧
          ∀ st' o, s.decodeAddr s.tiers.scrubNear.pos = .near st' o → t.isBad (s.nearKey st' o / 64 * 64) = true))) ∧
    (s.scrubYields s.tiers.scrubNear.pos = true → ∀ find, Completes (.scrubRead true find) s (fun t => t = s)) ∧
    (s.tiers.scrubMor.overdue = false → Completes (.scrubOverdue false) s (fun t => t.tiers.scrubMor.overdue = true ∧
      t.tiers.scrubNear = s.tiers.scrubNear ∧ ∃ e, t.faults.queue.getLast? = some e ∧ e.cls = .corrected ∧ e.code = 0x0106)) ∧
    (s.tiers.scrubMor.overdue = true → Completes (.scrubOverdue false) s (fun t => t = s)) ∧
    (st.val < s.tiers.calib.length →
      (∀ temp : Int, 64 ≤ (temp - (s.calibOf st.val).lastTemp).natAbs → Completes (.calibrationTrigger st temp) s (fun t =>
        if (s.calibOf st.val).trigger = none then (t.calibOf st.val).trigger = some s.time.toNat ∧ (t.calibOf st.val).channel = 0
        else (t.calibOf st.val).restart = true)) ∧
      (∀ t0, (s.calibOf st.val).trigger = some t0 →
        (t0 + 24000000 ≤ s.time.toNat → Completes (.calibrationSteal st) s (fun t => (t.calibOf st.val).stealing = true)) ∧
        (s.tiers.nearCopy = none → (s.calibOf st.val).restart = false → Completes (.calibrationChannelDone st) s (fun t =>
          if (s.calibOf st.val).channel + 1 < 32 then (t.calibOf st.val).channel = (s.calibOf st.val).channel + 1
          else (t.calibOf st.val).trigger = none ∧ (t.calibOf st.val).lastTime = s.time.toNat)))) ∧
    (∀ losses : List Nat, s.doms.main = true → Completes (.deliverableCompute losses) s (fun t =>
      t.fld .ntContractState Fld.ntContractState_DELIV_NEAR = if s.tierPeak 0 ≤ s.deliverable 0 (losses.getD 0 0) then 0xFFFF
        else s.deliverable 0 (losses.getD 0 0) * 65536 / s.tierPeak 0)) ∧
    (∀ b ∈ s.tiers.stalledBursts, b.req = r → Completes (.contractStallRelease r) s (fun t =>
      t.tiers.stalledBursts.length + 1 = s.tiers.stalledBursts.length ∧ t.regs = s.regs ∧ t.mem = s.mem)) ∧
    (∀ (a len o : Nat) (seg : Fin 16), s.decodeAddr a = .host seg o → s.isSet (.bcHwin seg) Fld.bcHwin_EN = true →
      Completes (.hostErrorCompletion r a len true) s (fun t => t.out = s.out ++ [.readData r a .hostError (zeros len)] ∧
        t.mem = s.mem ∧ ∃ e, t.faults.queue.getLast? = some e ∧ e.cls = .ucc ∧ e.addr = a))

/-- A swap queue takes a descriptor, skips a cancelled one, and writes the STATUS of one that ends. (R60, R61, R71) -/
def Obligations.SwapQueueDescriptors : Prop :=
  ∀ (q : Fin 8) (s : State),
    (∀ i, i = s.fld (.morSwapqPtr q) Fld.morSwapqPtr_TAKEN → s.swapReady q = true →
      (s.swapThrottled (leAt (s.peek (s.swapDesc q i) 32) 0 8) (leAt (s.peek (s.swapDesc q i) 32) 8 8) = true →
        Completes (.swapDescTake q) s (fun t => t = s)) ∧
      (s.swapStatus q i ≠ 4 → s.swapThrottled (leAt (s.peek (s.swapDesc q i) 32) 0 8) (leAt (s.peek (s.swapDesc q i) 32) 8 8) = false →
        Completes (.swapDescTake q) s (fun t =>
        t.fld (.morSwapqPtr q) Fld.morSwapqPtr_TAKEN = (i + 1) % 4096 ∧
        (swapValid (leAt (s.peek (s.swapDesc q i) 32) 0 8) (leAt (s.peek (s.swapDesc q i) 32) 8 8)
            (leAt (s.peek (s.swapDesc q i) 32) 16 4) = true → q.val < s.tiers.swap.length → t.mem = s.mem ∧
          ∃ x, t.tiers.swap.getD q.val none = some x ∧ x.index = i ∧ x.src = leAt (s.peek (s.swapDesc q i) 32) 0 8 ∧
            x.dst = leAt (s.peek (s.swapDesc q i) 32) 8 8) ∧
        (swapValid (leAt (s.peek (s.swapDesc q i) 32) 0 8) (leAt (s.peek (s.swapDesc q i) 32) 8 8)
            (leAt (s.peek (s.swapDesc q i) 32) 16 4) = false → t.tiers.swap = s.tiers.swap ∧
          t.fld (.morSwapqPtr q) Fld.morSwapqPtr_DONE = (i + 1) % 4096))) ∧
      (s.swapStatus q i = 4 → Completes (.swapDescSkip q) s (fun t => t.mem = s.mem ∧ t.tiers = s.tiers ∧
        t.fld (.morSwapqPtr q) Fld.morSwapqPtr_TAKEN = (i + 1) % 4096 ∧
        t.fld (.morSwapqPtr q) Fld.morSwapqPtr_DONE = (i + 1) % 4096))) ∧
    (∀ x, s.tiers.swap[q.val]? = some (some x) → s.swapWaits q x = false → Completes (.swapDescDone q) s (fun t =>
      t.tiers.swap.getD q.val none = none ∧ t.fld (.morSwapqPtr q) Fld.morSwapqPtr_DONE = (x.index + 1) % 4096))

/-- The frame manager's commands: which are refused with which RESULT, and what an accepted one does. (R80, R94, R97, R98,
R99) -/
def Obligations.FrameManagerCommands : Prop :=
  ∀ (n : BitVec 16) (s : State), s.doms.main = true →
    (∀ x ∈ [(Instr.kvAdmit n, [0]), (.kvResume n, [2, 3]), (.kvCancel n, [1, 2, 3, 4]), (.kvPreempt n, [1, 4])],
      (s.kvOn = false → Completes x.1 s (fun t => t.fld .ntKvStatus Fld.ntKvStatus_RESULT = 5 ∧
        t.fld .ntKvStatus Fld.ntKvStatus_SEQ = n.toNat ∧ t.mem = s.mem ∧ t.kv = s.kv)) ∧
      (s.kvOn = true → s.fld .ntKvCfg Fld.ntKvCfg_SEQ_COUNT ≤ n.toNat → Completes x.1 s (fun t =>
        t.fld .ntKvStatus Fld.ntKvStatus_RESULT = 1 ∧ t.fld .ntKvStatus Fld.ntKvStatus_SEQ = n.toNat ∧ t.mem = s.mem ∧ t.kv = s.kv)) ∧
      (s.kvOn = true → n.toNat < s.fld .ntKvCfg Fld.ntKvCfg_SEQ_COUNT → s.seqState n.toNat ∉ x.2 → Completes x.1 s (fun t =>
        t.fld .ntKvStatus Fld.ntKvStatus_RESULT = 2 ∧ t.fld .ntKvStatus Fld.ntKvStatus_SEQ = n.toNat ∧ t.mem = s.mem ∧ t.kv = s.kv))) ∧
    (s.kvOn = true → n.toNat < s.fld .ntKvCfg Fld.ntKvCfg_SEQ_COUNT →
      (s.seqState n.toNat ∈ [1, 2, 3, 4] → Completes (.kvCancel n) s (fun t => t.fld .ntKvStatus Fld.ntKvStatus_RESULT = 0)) ∧
      (s.seqState n.toNat ∈ [1, 4] → s.seqTrain n.toNat = true → Completes (.kvPreempt n) s (fun t =>
        t.fld .ntKvStatus Fld.ntKvStatus_RESULT = 4 ∧ t.mem = s.mem ∧ t.kv = s.kv)) ∧
      (s.seqState n.toNat ∈ [1, 4] → s.seqTrain n.toNat = false → Completes (.kvPreempt n) s (fun t =>
        t.fld .ntKvStatus Fld.ntKvStatus_RESULT = 0)) ∧
      (s.seqState n.toNat = 0 → ∀ u, u = ((s.seqPut n.toNat 24 8 s.time.toNat).seqPut n.toNat 0 4 0).seqPut n.toNat 18 1 1 →
        u.kv.owed = [] → u.kv.planned = [] → u.seqsIn (fun st => st == 2 || st == 4 || st == 5) = [] →
        Completes (.kvAdmit n) s (fun t => t.fld .ntKvStatus Fld.ntKvStatus_RESULT = 0 ∧ t.mem = u.mem ∧ t.kv = s.kv))) ∧
    (s.locked .ntKvCfg = false → s.isSet .ntKvCfg Fld.ntKvCfg_EN = false → Completes (.kvEnable true) s (fun t =>
      t.kv = KvState.idle ∧ t.fld .ntKvCfg Fld.ntKvCfg_EN = 1 ∧ ∀ i : Fin 3,
        t.fld (.ntKvBook i) Fld.ntKvBook_FREE = s.fld (.ntKvPool i) Fld.ntKvPool_COUNT ∧
        t.fld (.ntKvBook i) Fld.ntKvBook_ALLOC = 0 ∧ t.fld (.ntKvBook i) Fld.ntKvBook_INFLIGHT = 0))

/-- A step boundary grants one near frame to a resident sequence; a move's record leaves the manager with its completion.
(R96, R97, R98, R99) -/
def Obligations.FrameManagerStepsAndMoves : Prop :=
  ∀ (n : BitVec 16) (tag : BitVec 32) (s : State),
    (s.kvOn = false → ∀ l, Completes (.kvStepAllocation l) s (fun t => t = s) ∧ Completes (.kvMoveComplete tag) s (fun t => t = s)) ∧
    (s.kvOn = true →
      (n.toNat < s.fld .ntKvCfg Fld.ntKvCfg_SEQ_COUNT → s.seqState n.toNat = 1 → s.seqTrain n.toNat = false → 1 ≤ s.kvSupply →
        s.kvMayTake 0 false = true → s.kv.owed = [] → s.kv.planned = [] →
        s.seqsIn (fun st => st == 2 || st == 4 || st == 5) = [] → Completes (.kvStepAllocation [n]) s (fun t => t.mem = s.mem ∧
          t.kv.grants = s.kv.grants ++ [(n.toNat, s.kvPick 0)] ∧ t.kv.frames = s.kv.frames ++ [⟨0, s.kvPick 0, false, false⟩] ∧
          t.kv.owed = [])) ∧
      (s.kv.moves.any (fun m => m.tag == tag.toNat) = false → Completes (.kvMoveComplete tag) s (fun t => t = s)) ∧
      (∀ m, s.kv.moves.find? (fun m => m.tag == tag.toNat) = some m →
        (s.swapStatus (Fin.ofNat 8 m.queue) m.index = 0 ∨ s.swapStatus (Fin.ofNat 8 m.queue) m.index = 4 →
          Completes (.kvMoveComplete tag) s (fun t => t = s)) ∧
        (∀ st u, st = s.swapStatus (Fin.ofNat 8 m.queue) m.index → st ≠ 0 → st ≠ 4 → u = s.kvMoveEnds m st → u.kv.owed = [] →
          u.kv.planned = [] → u.seqsIn (fun st => st == 2 || st == 4 || st == 5) = [] →
          Completes (.kvMoveComplete tag) s (fun t => m ∉ t.kv.moves))) ∧
      (n.toNat < s.fld .ntKvCfg Fld.ntKvCfg_SEQ_COUNT → ∀ st u need, st = s.seqState n.toNat → st = 2 ∨ st = 3 → u = s.kvCancelUntaken n.toNat →
        need = ((u.seqPages n.toNat).filter (fun x => (u.pte n.toNat x.1 x.2).tier == 3 ||
          (u.pte n.toNat x.1 x.2).tier == 2 && (u.pte n.toNat x.1 x.2).moving)).length →
        (State.kvMakeRoom n.toNat need u.victims (u.setSeqState n.toNat (if st = 2 then 1 else 3)) = none → Completes (.kvResume n) s (fun t =>
          t.fld .ntKvStatus Fld.ntKvStatus_RESULT = 3 ∧ t.mem = s.mem ∧ t.kv = s.kv)) ∧
        (∀ v, State.kvMakeRoom n.toNat need u.victims (u.setSeqState n.toNat (if st = 2 then 1 else 3)) = some v →
          Completes (.kvResume n) s (fun t => t.fld .ntKvStatus Fld.ntKvStatus_RESULT = 0 ∧
            t.fld .ntKvStatus Fld.ntKvStatus_SEQ = n.toNat) ∧
          (∀ w x, w = v.setSeqState n.toNat 4 → w.seqState n.toNat = 4 → w.seqInflight n.toNat = 0 →
            (w.seqPages n.toNat).all (fun y => (w.pte n.toNat y.1 y.2).tier != 3) = true → x = (w.setSeqState n.toNat 1).kvEvent n.toNat 2 →
            x.kv.owed = [] → x.kv.planned = [] → x.seqsIn (fun st => st == 2 || st == 4 || st == 5) = [] →
            Completes (.kvResume n) s (fun t => t.mem = x.mem ∧ t.kv = x.kv ∧ t.job = x.job)))))

/-- A running core's operation: a reserved opcode and wrong flags stop it, an interlock makes it wait, and the simple ones
take effect. (R133, R137, R138, R139, R144, R145, R148, R166) -/
def Obligations.TensorOperationsIssue : Prop :=
  ∀ (d : Fin 4) (k : Fin 11) (s : State) (i : TcInstr), s.tcRunning d k = true → s.tcNext d k = some i →
    (∀ x ∈ [(0x00, Instr.tcNop d k), (0x01, .tcHalt d k), (0x02, .tcFence d k), (0x03, .waitSeq d k), (0x04, .postSeq d k),
        (0x05, .waitOwn d k), (0x06, .tcLend d k), (0x10, .ldw d k), (0x11, .swpw d k), (0x20, .mm d k), (0x28, .drain d k), (0x30, .smax d k),
        (0x40, .kvAppend d k), (0x41, .kvSelect d k), (0x42, .kvAttn d k), (0x43, .kvAttnBwd d k), (0x44, .kvMove d k)],
      (opcodeFlags i.opcode = none → Completes x.2 s (fun t => CoreStopped d k 0x01 s t ∧ t.mem = s.mem)) ∧
      (i.opcode = x.1 → s.tcReady d k i = false → Completes x.2 s (fun t => t = s)) ∧
      (∀ f, i.opcode = x.1 → s.tcReady d k i = true → flagCheck i = some f → Completes x.2 s (fun t =>
        CoreStopped d k 0x02 s t ∧ t.mem = s.mem))) ∧
    (s.tcReady d k i = true → flagCheck i = none →
      (∀ x ∈ [(0x00, Instr.tcNop d k), (0x02, .tcFence d k), (0x03, .waitSeq d k)], i.opcode = x.1 → Completes x.2 s (fun t =>
        t.tcPcOf d k = (s.tcPcOf d k + 1) % 2 ^ 16 ∧ (i.opcode ≠ 0x00 → t.tensor = s.tensor) ∧ t.mem = s.mem ∧
        t.fld (.tcOps d k) Fld.tcOps_ISSUED = (s.fld (.tcOps d k) Fld.tcOps_ISSUED + 1) % 2 ^ 64)) ∧
      (i.opcode = 0x00 → coreIx d k < s.tensor.cores.length → Completes (.tcNop d k) s (fun t =>
        t.tcCore d k = { s.tcCore d k with hold := i.c })) ∧
      (i.opcode = 0x05 → s.tileKind d k i.a = none → s.tilePlace d k i.a = none → Completes (.waitOwn d k) s (fun t =>
        t.tcPcOf d k = (s.tcPcOf d k + 1) % 2 ^ 16 ∧ t.tensor = s.tensor ∧ t.mem = s.mem)) ∧
      (i.opcode = 0x01 → Completes (.tcHalt d k) s (fun t => t.fld (.tcCtrl d k) Fld.tcCtrl_RUN = 0 ∧
        t.fld (.tcStatus d k) Fld.tcStatus_DONE = 1 ∧ t.tcPcOf d k = (s.tcPcOf d k + 1) % 2 ^ 16)) ∧
      (i.opcode = 0x04 → Completes (.postSeq d k) s (fun t => t.tcPcOf d k = (s.tcPcOf d k + 1) % 2 ^ 16 ∧
        t.fld (.trvFbuf d (Fin.ofNat 256 i.a)) Fld.trvFbuf_COUNT =
          newestOf (s.fld (.trvFbuf d (Fin.ofNat 256 i.a)) Fld.trvFbuf_COUNT) [i.count] % 2 ^ 32)) ∧
      (i.opcode = 0x11 → coreIx d k < s.tensor.cores.length → Completes (.swpw d k) s (fun t =>
        (t.tcCore d k).active = (s.tcCore d k).shadow ∧ (t.tcCore d k).shadow = (s.tcCore d k).active ∧
        (t.tcCore d k).ops = (s.tcCore d k).ops)))

/-- LDW, MM, DRAIN, SMAX and the KV operations with good operands go in flight; what they read they own. (R85, R86, R89,
R91, R92, R93, R96, R124, R133, R137, R141, R145) -/
def Obligations.TensorOperationsGoInFlight : Prop :=
  ∀ (d : Fin 4) (k : Fin 11) (s u : State) (i : TcInstr) (pc own : Nat) (p : KvSlot), s.tcRunning d k = true → s.tcNext d k = some i →
    s.tcReady d k i = true → flagCheck i = none → coreIx d k < s.tensor.cores.length → u = s.tcIssued d k → pc = s.tcPcOf d k →
    own = s.logicalOf d k → p = s.kvSlot d k i.a →
    (i.opcode = 0x10 → s.ldwCheck d k i = none →
      (u.foreignHit d own (u.groupRanges d k (groupSlots i.a i.pack)) = none → Completes (.ldw d k) s (fun t =>
        Launched d k ⟨pc, 0x10, 0, 256, [], []⟩ s t ∧ (t.tcCore d k).shadow.loaded = true ∧ (t.tcCore d k).shadow.pack = i.pack ∧
        (t.tcCore d k).active = (s.tcCore d k).active)) ∧
      ((u.foreignHit d own (u.groupRanges d k (groupSlots i.a i.pack))).isSome = true → Completes (.ldw d k) s (fun t =>
        CoreStopped d k 0x09 s t ∧ t.mem = s.mem))) ∧
    (i.opcode = 0x20 → s.mmCheck d k i = none → u.foreignHit d own (u.groupRanges d k (groupSlots i.a i.pack)) = none →
      Completes (.mm d k) s (fun t => Launched d k ⟨pc, 0x20, i.bank, if (groupSlots i.a i.pack).any (fun n => (s.tileSlot d k n).fmt == 1) then 2 * packU i.pack
        else packU i.pack, [], []⟩ s t ∧ t.mem = s.mem ∧
        (t.tcCore d k).active = (s.tcCore d k).active)) ∧
    (i.opcode = 0x28 → s.drainCheck d k i = none → u.foreignHit d own (u.groupRanges d k (groupSlots i.a i.pack)) = none →
      Completes (.drain d k) s (fun t => Launched d k ⟨pc, 0x28, i.bank, 256, [], []⟩ s t)) ∧
    (i.opcode = 0x30 → s.smaxCheck d k i = none → u.foreignHit d own ((u.tileSlot d k i.a).ranges ++
        (List.range 256).map (fun r => ((u.tileSlot d k i.c).base + r * (u.tileSlot d k i.c).pitch, 8))) = none →
      Completes (.smax d k) s (fun t => Launched d k ⟨pc, 0x30, i.bank, 512, [], []⟩ s t)) ∧
    (i.opcode = 0x40 → s.appendCheck d k i = none → u.appendOrder p = true → u.appendRoom p = true → u.appendFormat p i.kvfmt = true →
      u.appendReserve p = true →
      u.foreignHit d own ((u.tileSlot d k i.b).ranges.take p.nrows ++ (u.tileSlot d k i.c).ranges.take p.nrows) = none →
      Completes (.kvAppend d k) s (fun t => Launched d k ⟨pc, 0x40, 0, 2 * p.nrows * u.seqHeads p.seq +
        256 * u.seqHeads p.seq * ((p.pos + p.nrows) / 256 - p.pos / 256), [], [p.seq, p.layer, p.nrows]⟩ s t)) ∧
    (i.opcode = 0x41 → s.selectCheck d k i = none → u.foreignHit d own (u.groupRanges d k [i.b, i.b + 1]) = none →
      (∀ pg ∈ List.range ((u.readU32s d own (u.tileSlot d k (i.b + 1))).1.foldl max 0 / 256 + 1),
        (u.pte p.seq p.layer pg).full = true → u.cairnValid p.seq p.layer p.head pg = true) →
      Completes (.kvSelect d k) s (fun t => Launched d k ⟨pc, 0x41, 0, 128 +
        ((u.readU32s d own (u.tileSlot d k (i.b + 1))).1.foldl max 0 / 256 + 1 + 3) / 4 + (p.k + 7) / 8, [], []⟩ s t)) ∧
    (i.opcode = 0x42 → s.attnCheck d k i = none → u.foreignHit d own (u.groupRanges d k [i.b, i.b + 1, i.c]) = none →
      (∀ x ∈ u.recordPages p.record, u.feederFault p.seq p.layer x.1 = none) →
      Completes (.kvAttn d k) s (fun t => Launched d k ⟨pc, 0x42, 0, 256 * (u.recordPages p.record).length, [], []⟩ s t)) ∧
    (i.opcode = 0x43 → s.bwdCheck d k i = none →
      u.foreignHit d own (u.groupRanges d k [i.b, i.b + 1, i.b + 2, i.b + 3, i.c, i.c + 1, i.c + 2]) = none →
      (∀ x ∈ u.recordPages p.record, (u.pte p.seq p.layer x.1).gen = x.2 ∧ u.feederFault p.seq p.layer x.1 = none) →
      Completes (.kvAttnBwd d k) s (fun t => Launched d k ⟨pc, 0x43, 0,
        640 * (((u.recordPages p.record).drop p.first).take ((u.tileSlot d k (i.c + 1)).rows / 256)).length, [], []⟩ s t)) ∧
    (i.opcode = 0x44 → s.moveCheck d k i = none →
      (∀ m ∈ moveList p i.c, (u.pte m.seq m.layer m.page).tier ≠ 0 ∧ (u.pte m.seq m.layer m.page).tier ≠ 3) → u.seqTrain p.seq = false →
      Completes (.kvMove d k) s (fun t => Launched d k ⟨pc, 0x44, 0, 4 * p.nrows, [], [p.seq, p.layer, p.pos / 256, p.nrows]⟩ s t))

/-- Completion, RUN, STOP, the program limit, the wait limit, the remap register and the loan of a core. (R133, R137,
R138, R145, R146, R148, R217) -/
def Obligations.TensorCoreControl : Prop :=
  ∀ (d : Fin 4) (k : Fin 11) (s : State),
    (∀ (pc : BitVec 16) (op : TcOp), (s.tcCore d k).ops.find? (fun o => o.pc == pc.toNat) = some op → s.tcMayComplete d k op = true →
      coreIx d k < s.tensor.cores.length → Completes (.tcOpComplete d k pc) s (fun t =>
        (t.tcCore d k).ops = (s.tcCore d k).ops.erase op ∧
        t.fld (.tcStatus d k) Fld.tcStatus_BUSY = (if (s.tcCore d k).ops.length = 1 then 0 else 1))) ∧
    (s.doms.compute.testBit d.val = true →
      (s.logicalOf d k < 10 → Completes (.tcRun d k) s (fun t => t.fld (.tcCtrl d k) Fld.tcCtrl_RUN = 1 ∧ t.mem = s.mem)) ∧
      (¬ s.logicalOf d k < 10 → Completes (.tcRun d k) s (fun t => t = s)) ∧
      (s.isSet (.tcCtrl d k) Fld.tcCtrl_RUN = true → Completes (.tcStop d k) s (fun t => t.fld (.tcCtrl d k) Fld.tcCtrl_STOP = 1 ∧
        t.fld (.tcCtrl d k) Fld.tcCtrl_RUN = 1)) ∧
      (∀ v : BitVec 16, Completes (.tcProgLimitAdvance d k v) s (fun t => t.fld (.tcProgLimit d k) Fld.tcProgLimit_INDEX = v.toNat)) ∧
      (s.isSet (.tcStatus d k) Fld.tcStatus_LENT = true →
        (s.loanOver d k = true → Completes (.lendReturn d k) s (fun t => t.fld (.tcStatus d k) Fld.tcStatus_LENT = 0 ∧ t.mem = s.mem)) ∧
        (s.loanOver d k = false → Completes (.lendReturn d k) s (fun t => t = s)))) ∧
    (s.isSet (.tcCtrl d k) Fld.tcCtrl_STOP = true → (s.tcCore d k).ops = [] → Completes (.tcStopDone d k) s (fun t =>
      t.fld (.tcCtrl d k) Fld.tcCtrl_RUN = 0 ∧ t.fld (.tcCtrl d k) Fld.tcCtrl_STOP = 0)) ∧
    (∀ i, s.tcRunning d k = true → s.tcNext d k = some i →
      (s.fld (.tcWaitLimit d k) Fld.tcWaitLimit_LIMIT ≠ 0 → s.tcReady d k i = false →
        Completes (.tcWaitTimeout d k) s (fun t => CoreStopped d k 0x0B s t ∧ t.mem = s.mem)) ∧
      (i.opcode = 0x06 → i.flags = 0 → s.tcReady d k i = true → coreIx d k < s.tensor.cores.length →
        Completes (.tcLend d k) s (fun t => t.tcPcOf d k = (s.tcPcOf d k + 1) % 2 ^ 16 ∧
          if s.isSet (.tcCtrl d k) Fld.tcCtrl_EVAL = false ∧ s.matrixReady d = true then
            Launched d k ⟨s.tcPcOf d k, 0x06, 0, 0, [], []⟩ s t ∧ t.fld (.tcStatus d k) Fld.tcStatus_LENT = 1
          else (t.tcCore d k).ops = [] ∧ t.fld (.tcStatus d k) Fld.tcStatus_LENT = 0))) ∧
    (∀ map : BitVec 44, s.domainUp (Reg.tcRemap d).domain = true → Completes (.tcRemapWrite d map) s (fun t =>
      if s.inHold = true ∧ (∀ j : Fin 11, s.isSet (.tcCtrl d j) Fld.tcCtrl_RUN = false) ∧ remapValid map.toNat = true then
        t.fld (.tcRemap d) Fld.tcRemap_MAP = map.toNat ∧ t.fld (.tcId d k) Fld.tcId_LOGICAL = bits map.toNat (4 * k.val + 3) (4 * k.val)
      else t.fld (.tcRemap d) Fld.tcRemap_MAP = s.fld (.tcRemap d) Fld.tcRemap_MAP ∧ t.fld (.tcRemap d) Fld.tcRemap_REFUSED = 1))

/-- The next descriptor of an engine: a reserved OP stops it, a wait holds it, FENCE and HALT wait for earlier ones,
checks decide a COPY or FILL. (R150, R151, R152, R160, R167, R172, R173, R174) -/
def Obligations.TraverseDescriptorsStart : Prop :=
  ∀ (d : Fin 4) (j : Fin 22) (s : State), s.trvHasNext d j = true → engineIx d j < s.trv.length →
    (∀ x ∈ [(0, Instr.trvNop d j), (1, .trvCopy d j), (2, .trvFill d j), (3, .trvFence d j), (4, .trvHalt d j)],
      (s.trvWaits d j = true → Completes x.2 s (fun t => t = s)) ∧
      (s.trvWaits d j = false → 4 < dOp (s.trvDesc d j) → Completes x.2 s (fun t => EngineFails d j 0x01 s t))) ∧
    (s.trvWaits d j = false →
      (∀ x ∈ [(0, Instr.trvNop d j), (3, .trvFence d j), (4, .trvHalt d j)], dOp (s.trvDesc d j) = x.1 →
        s.postBarred (s.trvDesc d j) = true → Completes x.2 s (fun t => EngineFails d j 0x0A s t)) ∧
      (s.postBarred (s.trvDesc d j) = false →
        (dOp (s.trvDesc d j) = 0 → Completes (.trvNop d j) s (fun t => t.trvPcOf d j = (s.trvPcOf d j + 1) % 2 ^ 9 ∧ t.mem = s.mem ∧
          t.trvRuns d j = s.trvRuns d j ++ [⟨s.trvPcOf d j, s.trvDesc d j, [], none⟩])) ∧
        (∀ x ∈ [(3, Instr.trvFence d j), (4, .trvHalt d j)], dOp (s.trvDesc d j) = x.1 →
          (s.trvRuns d j ≠ [] → Completes x.2 s (fun t => t = s)) ∧
          (s.trvRuns d j = [] → Completes x.2 s (fun t => t.trvPcOf d j = (s.trvPcOf d j + 1) % 2 ^ 9 ∧ t.mem = s.mem ∧
            t.trvRuns d j = [] ∧ (x.1 = 4 → t.fld (.trvCtrl d j) Fld.trvCtrl_RUN = 0 ∧ t.fld (.trvStatus d j) Fld.trvStatus_DONE = 1))))) ∧
      (∀ x ∈ [(1, Instr.trvCopy d j), (2, .trvFill d j)], dOp (s.trvDesc d j) = x.1 →
        (s.moveFault d j (s.trvDesc d j) = none → Completes x.2 s (fun t => t.trvPcOf d j = (s.trvPcOf d j + 1) % 2 ^ 9 ∧
          t.mem = s.mem ∧ t.trvRuns d j = s.trvRuns d j ++ [⟨s.trvPcOf d j, s.trvDesc d j, s.sourceBefore d j (s.trvDesc d j), none⟩] ∧
          (s.trvRuns d j = [] → t.trvRuns d j = [⟨s.trvPcOf d j, s.trvDesc d j, [], none⟩]))) ∧
        (∀ f, s.moveFault d j (s.trvDesc d j) = some f → Completes x.2 s (fun t => EngineFails d j f.1 s t))))

/-- What a completed COPY or FILL leaves in memory, and RUN, STOP, TRV_LIMIT, the wait limit and the fusion buffers.
(R150, R151, R153, R165, R166, R167, R168, R172, R174, R175) -/
def Obligations.TraverseMovesAndControl : Prop :=
  ∀ (d : Fin 4) (j : Fin 22) (s : State),
    (∀ r rest, s.trvRuns d j = r :: rest → r.fail = none → s.mayFinish d j r = true → engineIx d j < s.trv.length →
      Completes (.trvDescComplete d j) s (fun t => ∀ x ∈ t.trvRuns d j, x ∈ rest ∨ x.fail.isSome = true) ∧
      (dOp r.words = 0 → Completes (.trvDescComplete d j) s (fun t => t.mem = s.mem ∧
        t.trvRuns d j = if rest.all (fun x => x.fail.isSome) then [] else rest)) ∧
      (∀ pc f, dOp r.words = 0 → rest = [⟨pc, [], [], some f⟩] → Completes (.trvDescComplete d j) s (fun t =>
        t.fld (.trvCtrl d j) Fld.trvCtrl_RUN = 0 ∧ (s.isSet (.trvErr d j) Fld.trvErr_VALID = false → pc < 2 ^ 9 → f.1 < 2 ^ 8 →
          t.fld (.trvErr d j) Fld.trvErr_CODE = f.1 ∧ t.fld (.trvErr d j) Fld.trvErr_PC = pc))) ∧
      (s.memOk = true → dLevels r.words = 0 → dMcast r.words = false → dPost r.words = false → dRun r.words = 64 →
        dDst r.words % 64 = 0 → ∀ c o, s.decodeAddr (dDst r.words) = .moraine c o →
        (dOp r.words = 2 → Completes (.trvDescComplete d j) s (fun t =>
          t.mem.getN (s.moraineKey c o) 64 = (List.replicate 32 (toLe 2 (bits (dw r.words 1) 15 0))).flatten ∧
          (∀ k, k < s.moraineKey c o ∨ s.moraineKey c o + 64 ≤ k → t.mem.get k = s.mem.get k) ∧
          t.fld (.trvBytes d j) Fld.trvBytes_BYTES = (s.fld (.trvBytes d j) Fld.trvBytes_BYTES + 64) % 2 ^ 64)) ∧
        (∀ c' o', dOp r.words = 1 → r.before = [] → dSrc r.words % 64 = 0 → s.decodeAddr (dSrc r.words) = .moraine c' o' →
          s.isBad (s.moraineKey c' o' / 64 * 64) = false → Completes (.trvDescComplete d j) s (fun t =>
          t.mem.getN (s.moraineKey c o) 64 = s.mem.getN (s.moraineKey c' o') 64 ∧
          (∀ k, k < s.moraineKey c o ∨ s.moraineKey c o + 64 ≤ k → t.mem.get k = s.mem.get k))))) ∧
    (s.trvWaits d j = true → s.fld (.trvWaitLimit d j) Fld.trvWaitLimit_LIMIT ≠ 0 →
      Completes (.trvWaitTimeout d j) s (fun t => EngineFails d j 0x13 s t)) ∧
    (s.isSet (.trvCtrl d j) Fld.trvCtrl_STOP = true → s.trvRuns d j = [] → Completes (.trvStopDone d j) s (fun t =>
      t.fld (.trvCtrl d j) Fld.trvCtrl_RUN = 0 ∧ t.fld (.trvCtrl d j) Fld.trvCtrl_STOP = 0)) ∧
    (s.doms.compute.testBit d.val = true →
      Completes (.trvRun d j) s (fun t => t.fld (.trvCtrl d j) Fld.trvCtrl_RUN = 1 ∧ t.mem = s.mem) ∧
      (s.isSet (.trvCtrl d j) Fld.trvCtrl_RUN = true → Completes (.trvStop d j) s (fun t =>
        t.fld (.trvCtrl d j) Fld.trvCtrl_STOP = 1 ∧ t.fld (.trvCtrl d j) Fld.trvCtrl_RUN = 1)) ∧
      (∀ v : BitVec 9, Completes (.trvLimitAdvance d j v) s (fun t => t.fld (.trvLimit d j) Fld.trvLimit_INDEX = v.toNat)) ∧
      (∀ (b : Fin 256) (v : BitVec 32), Completes (.fusionPublish d b [v]) s (fun t =>
        t.fld (.trvFbuf d b) Fld.trvFbuf_COUNT = (if newer 32 v.toNat (s.fld (.trvFbuf d b) Fld.trvFbuf_COUNT) then v.toNat
          else s.fld (.trvFbuf d b) Fld.trvFbuf_COUNT) ∧
        (newer 32 v.toNat (s.fld (.trvFbuf d b) Fld.trvFbuf_COUNT) = false → t.fld (.trvFbuf d b) Fld.trvFbuf_REGRESS = 1))) ∧
      (∀ (b : Fin 256) (v : BitVec 32), Completes (.fusionCountWrite d b v []) s (fun t =>
        t.fld (.trvFbuf d b) Fld.trvFbuf_COUNT = v.toNat)))

/-- Who owns a ledge bank, what an owner's access does, what a non-owner gets, and the march tests. (R178, R179, R181,
R182, R184, R185, R186, R187, R188, R189) -/
def Obligations.LedgeOwnershipAndAccess : Prop :=
  ∀ (d : Fin 4) (src : GiveSource) (s : State), s.ledgeUp d = true →
    (∀ p : Bool, s.isSet (.ldgCtrl d) Fld.ldgCtrl_LOCK = false → s.pooled d ≠ p → Completes (.ledgeModeChange d p) s (fun t =>
      t.pooled d = p ∧ t.mem = s.mem ∧ ∀ g, g < 192 → t.ownerOf d g = 0x32)) ∧
    (∀ (i : Fin 8) (w : Word), fget w Fld.ldgGive_GO = 1 → (s.ledgeOf d).held = [] → s.testing d = none →
      (s.ownerNameable d (fget w Fld.ldgGive_OWNER) = true → s.pooled d = false ∨ fget w Fld.ldgGive_SUB = 15 →
        Completes (.ldgGive d [(src, [(i, w)])]) s (fun t => t.mem = s.mem ∧ ∀ g, g < 192 →
          t.ownerOf d g = if giveNames w g then fget w Fld.ldgGive_OWNER else s.ownerOf d g)) ∧
      (s.ownerNameable d (fget w Fld.ldgGive_OWNER) = false → Completes (.ldgGive d [(src, [(i, w)])]) s (fun t => t.mem = s.mem ∧
        t.fld (.ldgViol d) Fld.ldgViol_VALID = 1 ∧ ∀ g, g < 192 → t.ownerOf d g = s.ownerOf d g))) ∧
    (∀ q : LedgeReq, q.offset < ledgeSize → (s.ledgeOf d).retry = [] → (s.ledgeOf d).second = [] →
      (s.ledgeOf d).march = none → ∀ k,
      k = s.ledgeKey d (q.offset / 64 * 64) →
      (s.ownerAt d q.offset = q.owner →
        (q.write = false → (∀ i, i < 4 → s.isBad (k + 16 * i) = false) → Completes (.ledgeAccess d q none [] []) s (fun t =>
          t.mem = s.mem ∧ t.out = s.out ++ [.readData q.req (ledgeAddr d q.offset) .ok (s.mem.getN k 64)])) ∧
        (q.write = true → q.mask = 2 ^ 64 - 1 → q.data.length = 64 → s.memOk = true → Completes (.ledgeAccess d q none [] []) s (fun t =>
          t.mem.getN k 64 = q.data ∧ (∀ x, x < k ∨ k + 64 ≤ x → t.mem.get x = s.mem.get x) ∧
          t.out = s.out ++ [.writeDone q.req (ledgeAddr d q.offset) .ok])) ∧
        (∀ v : LedgeReq, q.write = true → q.mask = 2 ^ 64 - 1 → q.data.length = 64 → s.memOk = true → v.write = true →
          v.offset / 64 = q.offset / 64 → s.ownerAt d v.offset = v.owner → d.val < s.ledge.length →
          Completes (.ledgeAccess d q (some v) [] []) s (fun t => t.mem.getN k 64 = q.data ∧
            (t.ledgeOf d).retry = [⟨s.subOf d v, 1, v, [], true⟩]))) ∧
      (s.ownerAt d q.offset ≠ q.owner → Completes (.ledgeAccess d q none [] []) s (fun t => t.mem = s.mem ∧
        t.fld (.ldgViol d) Fld.ldgViol_VALID = 1 ∧
        (q.write = false → t.out = s.out ++ [.readData q.req (ledgeAddr d q.offset) .nonOwner (zeros 64)])))) ∧
    (d.val < s.ledge.length →
      ((s.ledgeOf d).retry = [] → (s.ledgeOf d).second = [] → Completes (.ledgeRetry d) s (fun t => t = s)) ∧
      (∀ x, (s.ledgeOf d).retry = [] → (s.ledgeOf d).second = [x] → x.port ≤ 1 → Completes (.ledgeRetry d) s (fun t =>
        (t.ledgeOf d).second = [] ∧ t.mem = s.mem ∧ t.out = s.out)) ∧
      (∀ x, (s.ledgeOf d).retry = [x] → (s.ledgeOf d).second = [] → x.port ≤ 1 → (s.ledgeOf d).march = none →
        Completes (.ledgeRetry d) s (fun t => (t.ledgeOf d).retry = [] ∧
          (s.memOk = true → x.req.offset < ledgeSize → s.ownerAt d x.req.offset = x.req.owner → x.req.write = true → x.req.mask = 2 ^ 64 - 1 →
            x.req.data.length = 64 → t.mem.getN (s.ledgeKey d (x.req.offset / 64 * 64)) 64 = x.req.data))) ∧
      (∀ banks : BitVec 48, (s.ledgeOf d).march = none →
        Completes (.marchDestructive d banks) s (fun t => t.mem = s.mem ∧
          if s.isSet (.ldgCtrl d) Fld.ldgCtrl_LOCK = false ∧ s.banksFree d banks.toNat = true then
            t.fld (.ldgMarchStatus d) Fld.ldgMarchStatus_BUSY = 1 ∧ (t.ledgeOf d).march = some ⟨false, banks.toNat, 0⟩
          else t.fld (.ldgMarchStatus d) Fld.ldgMarchStatus_RESULT = 3 ∧ t.ledge = s.ledge) ∧
        Completes (.marchTransparent d banks) s (fun t => t.mem = s.mem ∧
          if s.banksFree d banks.toNat = true then
            t.fld (.ldgMarchStatus d) Fld.ldgMarchStatus_BUSY = 1 ∧ ∃ g, (t.ledgeOf d).march = some ⟨true, banks.toNat, g⟩
          else t.fld (.ldgMarchStatus d) Fld.ldgMarchStatus_RESULT = 3 ∧ t.ledge = s.ledge)) ∧
      ((s.ledgeOf d).march = some ⟨false, 2 ^ 48 - 1, 0⟩ → Completes (.marchDone d []) s (fun t => (t.ledgeOf d).march = none ∧
        t.fld (.ldgMarchStatus d) Fld.ldgMarchStatus_BUSY = 0 ∧ t.fld (.ldgMarchStatus d) Fld.ldgMarchStatus_RESULT = 0 ∧
        ∀ k, 2 ^ 44 + d.val * 2 ^ 28 ≤ k → k < 2 ^ 44 + d.val * 2 ^ 28 + 2 ^ 28 → t.mem.get k = 0)) ∧
      (∀ m, (s.ledgeOf d).march = some m → m.transparent = true → (s.ledgeOf d).held = [] → (s.ledgeOf d).waits = [] →
        s.tiers.waiting = [] → Completes (.giveHeldApply d) s (fun t => t.mem = s.mem ∧
          (t.ledgeOf d).march = some { m with testing := nextSub m.banks m.testing })))

/-- The repair commands of a ledge die: their RESULT, the spare that then serves the row, and the fuses. (R187, R190,
R191, R192) -/
def Obligations.LedgeRowRepair : Prop :=
  ∀ (d : Fin 4) (g : Fin 256) (row : Fin 1024) (s : State),
    (s.repairReady d = true →
      (∀ c ∈ [Instr.ledgeSoft d g row, .ledgeSoftCopy d g row],
        (192 ≤ g.val ∨ s.ownerOf d g.val ≠ 0x32 → Completes c s (fun t => t.mem = s.mem ∧
          t.fld (.ldgRepairStatus d) Fld.ldgRepairStatus_RESULT = 2)) ∧
        (g.val < 192 → s.ownerOf d g.val = 0x32 → s.freeSpare d g.val = none → Completes c s (fun t => t.mem = s.mem ∧
          t.fld (.ldgRepairStatus d) Fld.ldgRepairStatus_RESULT = 1)) ∧
        (∀ r, g.val < 192 → s.ownerOf d g.val = 0x32 → s.freeSpare d g.val = some r → Completes c s (fun t =>
          t.fld (.ldgRepairStatus d) Fld.ldgRepairStatus_RESULT = 0 ∧ t.fld (spareReg d g.val r) Fld.ldgSpare_USED = 1 ∧
          t.fld (spareReg d g.val r) Fld.ldgSpare_FAILED = 0 ∧ t.fld (spareReg d g.val r) Fld.ldgSpare_ROW = row.val))) ∧
      (∀ r, s.memOk = true → g.val < 192 → s.ownerOf d g.val = 0x32 → s.freeSpare d g.val = some r →
        Completes (.ledgeSoftCopy d g row) s (fun t => t.mem.getN (ledgeRowKey d g.val (1024 + r)) 1024 =
          s.mem.getN (ledgeRowKey d g.val (match s.spareOf d g.val row.val with | some q => 1024 + q | none => row.val)) 1024)) ∧
      (∀ c ∈ [Instr.ledgeFuse d g row, .ledgeRelease d g row],
        (s.inHold = false ∨ 192 ≤ g.val → Completes c s (fun t => t.mem = s.mem ∧ t.repair = s.repair ∧
          t.fld (.ldgRepairStatus d) Fld.ldgRepairStatus_RESULT = 2)) ∧
        (s.inHold = true → g.val < 192 → s.spareOf d g.val row.val = none → Completes c s (fun t => t.repair = s.repair ∧
          t.fld (.ldgRepairStatus d) Fld.ldgRepairStatus_RESULT = 4))) ∧
      (∀ r, s.inHold = true → g.val < 192 → s.spareOf d g.val row.val = some r →
        s.isSet (spareReg d g.val r) Fld.ldgSpare_FUSED = false →
        Completes (.ledgeFuse d g row) s (fun t => t.fld (.ldgRepairStatus d) Fld.ldgRepairStatus_BUSY = 1 ∧ t.repair = s.repair) ∧
        Completes (.ledgeRelease d g row) s (fun t => t.fld (.ldgRepairStatus d) Fld.ldgRepairStatus_RESULT = 0 ∧
          t.get (spareReg d g.val r) = 0))) ∧
    (d.val < s.ledge.length → (s.ledgeOf d).fusing = some (g.val, row.val) →
      Completes (.ledgeFuseDone d false) s (fun t => t.repair = s.repair ∧ (t.ledgeOf d).fusing = none ∧
        t.fld (.ldgRepairStatus d) Fld.ldgRepairStatus_BUSY = 0 ∧ t.fld (.ldgRepairStatus d) Fld.ldgRepairStatus_RESULT = 3) ∧
      (∀ r, s.spareOf d g.val row.val = some r → Completes (.ledgeFuseDone d true) s (fun t =>
        t.fld (.ldgRepairStatus d) Fld.ldgRepairStatus_BUSY = 0 ∧ t.fld (.ldgRepairStatus d) Fld.ldgRepairStatus_RESULT = 0 ∧
        t.fld (spareReg d g.val r) Fld.ldgSpare_FUSED = 1 ∧ t.repair.fused = s.repair.fused ++ [⟨d.val, g.val, r, row.val, false⟩])))

/-- A detection descriptor starts, is refused with STATUS 3 when invalid, and ends with STATUS, COUNT, DONE and the event.
(R200, R201, R203) -/
def Obligations.DetectionRequests : Prop :=
  ∀ s : State,
    (s.detReady = false → Completes .detRequest s (fun t => t = s)) ∧
    (∀ i a x R, i = s.fld .bcDetPtr Fld.bcDetPtr_DONE → a = s.detDesc i → x = s.peek a 64 → R = (a, 64) :: detRanges x → s.detReady = true →
      (R.any (fun r => s.rangeTested r.1 r.2) = true ∨ s.mustWaitAny R = true → Completes .detRequest s (fun t => t = s)) ∧
      (R.any (fun r => s.rangeTested r.1 r.2) = false → s.mustWaitAny R = false → R.all (fun r => !inHostWindow r.1) = true →
        ((s.readBytes detReq 0x32 a 64).2.1 ≠ .ok → Completes .detRequest s (fun t => t.mem = s.mem ∧
          t.det = some ⟨a, (i + 1) % 256, detFlag x 2, 4, 0⟩)) ∧
        (detGood x = false → (s.readBytes detReq 0x32 a 64).2.1 = .ok → Completes .detRequest s (fun t => t.mem = s.mem ∧
          t.det = some ⟨a, (i + 1) % 256, detFlag x 2, 3, 0⟩)) ∧
        (detGood x = true → Completes .detRequest s (fun t => ∃ status count,
          t.det = some ⟨a, (i + 1) % 256, detFlag x 2, status, count⟩ ∧ (status = 1 ∨ status = 2 ∨ status = 4) ∧
          count ≤ detMaxOut x ∧ (status = 4 → count = 0))))) ∧
    (s.det = none → Completes .detRequestDone s (fun t => t = s)) ∧
    (∀ r, s.det = some r → r.next < 256 → Completes .detRequestDone s (fun t => t.det = none ∧
      t.fld .bcDetPtr Fld.bcDetPtr_DONE = r.next ∧
      (∀ c o, s.memOk = true → s.decodeAddr (r.desc + 61) = .moraine c o → (r.desc + 61) % 64 = 61 →
        t.mem.getN (s.moraineKey c o) 3 = toLe 1 r.status ++ toLe 2 r.count) ∧
      (s.doms.pcie = true → r.irq = true → t.pcie.pba.testBit 6 = true)))

/-- A load: refused while a job runs, refused at the first check that fails, and accepted with STATE RUNNING. (R233, R234,
R235, R237) -/
def Obligations.JobLoads : Prop :=
  ∀ (p : Plan) (s : State), s.doms.main = true →
    (2 ≤ s.jobState → Completes (.jobLoad p) s (fun t => t.jobState = s.jobState ∧ t.fld .bcJobStatus Fld.bcJobStatus_CODE = 1 ∧
      t.fld .bcJobStatus Fld.bcJobStatus_DONE = 1 ∧ t.mem = s.mem ∧ t.job = s.job ∧ t.tiers = s.tiers)) ∧
    (s.jobState < 2 → (planRanges p).any (fun r => s.rangeTested r.1 r.2) = true ∨ s.mustWaitAny (planRanges p) = true →
      Completes (.jobLoad p) s (fun t => t = s)) ∧
    (s.jobState < 2 → (planRanges p).any (fun r => s.rangeTested r.1 r.2) = false → s.mustWaitAny (planRanges p) = false →
      (planRanges p).all (fun r => !inHostWindow r.1) = true →
    (∀ code,
      (s.inHold = true ∧ code = 2) ∨ (s.inHold = false ∧ s.epochsAllowed p = false ∧ code = 3) ∨
        (s.inHold = false ∧ s.epochsAllowed p = true ∧ s.shapeFits p = false ∧ code = 4) →
      Completes (.jobLoad p) s (fun t => t.jobState = 0 ∧ t.fld .bcJobStatus Fld.bcJobStatus_CODE = code ∧
        t.fld .bcJobStatus Fld.bcJobStatus_DETAIL = 0 ∧ t.fld .bcJobStatus Fld.bcJobStatus_DONE = 1 ∧ t.mem = s.mem ∧ t.job = s.job)) ∧
    (∀ u, u = s.withPlan p →
      (∀ c, s.planChecks u p = some c → c.1 < 2 ^ 8 → c.2 < 2 ^ 16 → Completes (.jobLoad p) s (fun t => t.jobState = 0 ∧
        t.fld .bcJobStatus Fld.bcJobStatus_CODE = c.1 ∧ t.fld .bcJobStatus Fld.bcJobStatus_DETAIL = c.2 ∧
        t.fld .bcJobStatus Fld.bcJobStatus_DONE = 1 ∧ t.mem = s.mem ∧ t.job = s.job ∧ t.tiers = s.tiers)) ∧
      (s.planChecks u p = none → u.isSet .bcJobCtrl Fld.bcJobCtrl_ABORT = false → u.isSet .bcJobCtrl Fld.bcJobCtrl_END = false →
        Completes (.jobLoad p) s (fun t => t.jobState = 2 ∧ t.fld .bcJobStatus Fld.bcJobStatus_CODE = 0 ∧
          t.fld .bcJobStatus Fld.bcJobStatus_DONE = 1 ∧
          t.fld .bcJobStatus Fld.bcJobStatus_JOB_ID = (u.fld .bcJobStatus Fld.bcJobStatus_JOB_ID + 1) % 2 ^ 32 ∧
          t.job.plan = some p ∧ t.tiers.contracts = p.contracts ∧ t.mem = u.mem))))

/-- END waits for the outcome of an open attempt, ABORT ends at once, and the end runs until all has stopped. (R235, R236,
R237) -/
def Obligations.JobEndsAndAborts : Prop :=
  ∀ s : State, s.doms.main = true →
    (s.jobState = 1 → Completes .jobEndRequest s (fun t => t = s.put .bcJobCtrl Fld.bcJobCtrl_END 1) ∧
      Completes .jobAbort s (fun t => t = s.put .bcJobCtrl Fld.bcJobCtrl_ABORT 1)) ∧
    (s.jobState = 0 → Completes .jobEndRequest s (fun t => t = s) ∧ Completes .jobAbort s (fun t => t = s) ∧
      Completes .jobEnd s (fun t => t = s)) ∧
    (s.jobState = 3 ∨ (s.jobState = 2 ∧ s.job.endWaits = true) → Completes .jobEndRequest s (fun t => t = s)) ∧
    (s.jobState = 2 → s.job.endWaits = false → Completes .jobEndRequest s (fun t => t.mem = s.mem ∧ t.job.endCode = 0x20 ∧
      (s.job.attemptOpen = true → t.jobState = 2 ∧ t.job.endWaits = true) ∧ (s.job.attemptOpen = false → t.jobState = 3))) ∧
    (s.jobState = 2 ∨ (s.jobState = 3 ∧ s.job.endCode = 0x20) → Completes .jobAbort s (fun t => t.jobState = 3 ∧
      t.job.endCode = 0x21 ∧ t.job.endWaits = false ∧ t.mem = s.mem)) ∧
    (s.jobState = 3 → s.stopAll.allStopped = false → Completes .jobEnd s (fun t => t = s.stopAll ∧ t.jobState = 3)) ∧
    (∀ u, s.jobState = 3 → s.stopAll.allStopped = true → u = s.stopAll.runsOff.cutAttempt.kvEndJob →
      (u.kv.moves ≠ [] → Completes .jobEnd s (fun t => t = u ∧ t.jobState = 3)) ∧
      (u.reportRange.any (fun r => u.rangeTested r.1 r.2) = true ∨ u.mustWaitAny u.reportRange = true →
        Completes .jobEnd s (fun t => t = u ∧ t.jobState = 3)) ∧
      (u.kv.moves = [] → u.reportRange.any (fun r => u.rangeTested r.1 r.2) = false → u.mustWaitAny u.reportRange = false →
        inHostWindow (u.fld .bcJobReport Fld.bcJobReport_ADDR) = false → u.job.endCode < 2 ^ 8 →
        Completes .jobEnd s (fun t => t.jobState = 0 ∧ t.fld .bcJobStatus Fld.bcJobStatus_CODE = u.job.endCode ∧
          t.fld .bcJobStatus Fld.bcJobStatus_DONE = 1 ∧ t.job = JobState.none ∧ t.tiers.contracts = [] ∧
          (∀ l ∈ lockBits, u.domainUp l.1.domain = true → t.fld l.1 l.2 = 0))))

/-- The evaluation slice takes requests, records tokens at a step boundary, retires them, and stops on an error. (R248,
R249, R250, R251, R252) -/
def Obligations.EvaluationSlice : Prop :=
  ∀ s : State, s.doms.main = true → s.jobState = 2 →
    (∀ i x, i = s.fld .bcEvalPtr Fld.bcEvalPtr_TAKEN → x = s.peek (s.evDesc i) 64 → s.evReady = true →
      Completes .evalTake s (fun t => t.fld .bcEvalPtr Fld.bcEvalPtr_TAKEN = (i + 1) % 1024 ∧
        (s.evGood x = true → t.mem = s.mem ∧
          t.job.evals = s.job.evals ++ [⟨i, s.now, evSeq x, false, 0, 0, none, false, false, 0⟩]) ∧
        (s.evGood x = false → t.job.evals = s.job.evals))) ∧
    (s.evReady = false → Completes .evalTake s (fun t => t = s)) ∧
    (s.kvOn = true →
      (∀ v, Completes (.evalStepBoundary [] true v) s (fun t => t.job.snap = v.toNat)) ∧
      (∀ e, s.job.evals = [e] → e.status ≠ 0 → ∀ v, Completes (.evalStepBoundary [] false v) s (fun t => t.job.evals = [])) ∧
      (∀ (i : Fin 1024) (tok : BitVec 20) (e f : EvalReq) (c : Fin 8) (o : Nat) (u : State), s.memOk = true → s.job.evals = [e] →
        e.index = i.val → s.evRuns e = true → e.status = 0 → 0 < e.count → tok.toNat ≠ evStop (s.evBytes e) →
        e.count + 1 < evMaxNew (s.evBytes e) → s.decodeAddr (evOut (s.evBytes e) + 4 * e.count) = .moraine c o →
        (evOut (s.evBytes e) + 4 * e.count) % 64 ≤ 60 → u = (s.evToken (i.val, tok.toNat)).evFlag →
        f = { e with
          count := e.count + 1
          snap := some (e.snap.getD s.job.snap)
          nf := e.nf || s.sliceCores.any (fun c => s.isSet (.tcFlags c.1 c.2) Fld.tcFlags_NF) } →
        u.kvOn = true → u.evRuns f = true → u.seqGet f.seq 0 4 % 256 ≠ 0 → u.kv.owed = [] → u.kv.planned = [] →
        u.seqsIn (fun st => st == 2 || st == 4 || st == 5) = [] →
        ∀ v, Completes (.evalStepBoundary [(i, tok)] false v) s (fun t => t.job.evals = [f] ∧ t.mem = u.mem ∧
          t.mem.getN (s.moraineKey c o) 4 = toLe 4 tok.toNat ∧ 
          t.out = u.out ++ [.evalDraw (evRequest (u.evBytes f)) (evPrompt (u.evBytes f) + f.count)
            (augDraw (u.get (.augKey (Fin.ofNat 16 ((u.job.plan.map Plan.evalKey).getD 0)) 0)).toNat
              (u.get (.augKey (Fin.ofNat 16 ((u.job.plan.map Plan.evalKey).getD 0)) 1)).toNat (evRequest (u.evBytes f))
              (evPrompt (u.evBytes f) + f.count))]))) ∧
    (s.sliceCores.any s.sliceStopped = false → Completes .evalSliceError s (fun t => t = s)) ∧
    (s.sliceCores.any s.sliceStopped = true → Completes .evalSliceError s (fun t =>
      (∀ c ∈ s.sliceCores, s.isSet (.tcCtrl c.1 c.2) Fld.tcCtrl_RUN = true →
        t.fld (.tcCtrl c.1 c.2) Fld.tcCtrl_STOP = 1) ∧
      (∀ e, s.job.evals = [e] → e.admitted = true → s.seqState e.seq = 1 ∨ s.seqState e.seq = 4 → t.job.evals = [])))

/-- An entry whose LOCAL_BUF has come is quantised or published once, and a mode 3 entry runs its program once. (R209,
R210, R211, R212) -/
def Obligations.GradientEntriesAreQuantised : Prop :=
  ∀ (d : Fin 4) (i : BitVec 16) (s : State),
    (s.localReady d i.toNat = false → ∀ c ∈ [Instr.gradQuantise d i, .fallbackPublish d i, .passEntry d i], Completes c s (fun t => t = s)) ∧
    (leMode (s.layer d i.toNat) = 3 → ∀ c ∈ [Instr.gradQuantise d i, .fallbackPublish d i], Completes c s (fun t => t = s)) ∧
    (leMode (s.layer d i.toNat) ≠ 3 → Completes (.passEntry d i) s (fun t => t = s)) ∧
    (leFallback (s.layer d i.toNat) = true → Completes (.gradQuantise d i) s (fun t => t = s)) ∧
    (leFallback (s.layer d i.toNat) = false → Completes (.fallbackPublish d i) s (fun t => t = s)) ∧
    (s.localReady d i.toNat = true → d.val < s.opt.dies.length →
      (leMode (s.layer d i.toNat) ≠ 3 → leFallback (s.layer d i.toNat) = false → Completes (.gradQuantise d i) s (fun t =>
        (t.optDie d).quantised = (s.optDie d).quantised ++ [i.toNat] ∧ (t.optDie d).done = (s.optDie d).done ∧
        t.localReady d i.toNat = false)) ∧
      (leMode (s.layer d i.toNat) ≠ 3 → leFallback (s.layer d i.toNat) = true → Completes (.fallbackPublish d i) s (fun t =>
        t.mem = s.mem ∧ (t.optDie d).quantised = (s.optDie d).quantised ++ [i.toNat] ∧ t.localReady d i.toNat = false)) ∧
      (leMode (s.layer d i.toNat) = 3 → (s.optDie d).run = none → s.mirrorReads = true → s.isSet (.optStatus d) Fld.optStatus_FAILED = false →
        Completes (.passEntry d i) s (fun t => t = s)) ∧
      (leMode (s.layer d i.toNat) = 3 → (s.optDie d).run = none → s.isSet (.optStatus d) Fld.optStatus_FAILED = true →
        Completes (.passEntry d i) s (fun t => t.mem = s.mem)) ∧
      (leMode (s.layer d i.toNat) = 3 → (s.optDie d).run = none → s.mirrorReads = false ∨ s.isSet (.optStatus d) Fld.optStatus_FAILED = true →
        Completes (.passEntry d i) s (fun t =>
        (t.optDie d).quantised = (s.optDie d).quantised ++ [i.toNat] ∧ (t.optDie d).done = (s.optDie d).done ++ [i.toNat] ∧
        (t.optDie d).run = none ∧ t.fld (.optStatus d) Fld.optStatus_ENTRY = i.toNat ∧
        t.fld (.optStatus d) Fld.optStatus_BUSY = 0 ∧ t.localReady d i.toNat = false)))

/-- ENTRY_APPLY takes the entry that arrived first and carries it through norm check, log copy and update. (R212, R213,
R214, R217, R223, R231) -/
def Obligations.EntryApplication : Prop :=
  ∀ (d : Fin 4) (s : State),
    (s.optRunning d = false ∨ s.job.attemptOpen = false → Completes (.entryApply d) s (fun t => t = s)) ∧
    (s.optRunning d = true → s.job.attemptOpen = true → d.val < s.opt.dies.length →
      ((s.optDie d).run = none →
        ((s.optDie d).arrived.find? (fun i => !(s.optDie d).done.contains i) = none → Completes (.entryApply d) s (fun t => t = s)) ∧
        (∀ i, (s.optDie d).arrived.find? (fun i => !(s.optDie d).done.contains i) = some i → i < 2 ^ 16 →
          (s.coresQuiet d = false ∨ s.entryWaits d i = true → Completes (.entryApply d) s (fun t => t = s)) ∧
          (∀ u, s.coresQuiet d = true → s.entryWaits d i = false → u = s.boundaryReturn d → Completes (.entryApply d) s (fun t => (∃ total, (t.optDie d).run =
              some ⟨i, 0, normPartial (u.readGrad d (u.layer d i)).1, total, 0, [], []⟩) ∧ t.mem = s.mem ∧
            t.fld (.optStatus d) Fld.optStatus_BUSY = 1 ∧ t.fld (.optStatus d) Fld.optStatus_ENTRY = i)))) ∧
      (∀ r, (s.optDie d).run = some r → s.entryWaits d r.entry = true → Completes (.entryApply d) s (fun t => t = s)) ∧
      (∀ r, (s.optDie d).run = some r → s.entryWaits d r.entry = false →
        (r.phase = 0 → r.total = none → Completes (.entryApply d) s (fun t => t = s)) ∧
        (∀ v u, r.phase = 0 → r.total = some v → fsqrt v < 2 ^ 32 →
          u = s.put (.optStatus d) Fld.optStatus_NORM (fsqrt v) →
          (normPasses (fsqrt v) (leNormMax (s.layer d r.entry)) = false ∨ s.isSet (.optStatus d) Fld.optStatus_FAILED = true →
            Completes (.entryApply d) s (fun t => t.mem = s.mem ∧ (t.optDie d).run = none ∧
              (t.optDie d).done = (s.optDie d).done ++ [r.entry] ∧ t.fld (.optStatus d) Fld.optStatus_NORM = fsqrt v ∧
              t.fld (.optStatus d) Fld.optStatus_FAILED = 1 ∧ t.fld (.optStatus d) Fld.optStatus_BUSY = 0)) ∧
          (normPasses (fsqrt v) (leNormMax (s.layer d r.entry)) = true → s.isSet (.optStatus d) Fld.optStatus_FAILED = false →
            ((u.logCopy d r.entry (fsqrt v)).1 = true → Completes (.entryApply d) s (fun t =>
              (t.optDie d).run = some { r with phase := 2, norm := fsqrt v } ∧
              (t.optDie d).logs = (s.optDie d).logs ++ [s.logBase d + (s.optDie d).logPos])) ∧
            ((u.logCopy d r.entry (fsqrt v)).1 = false → Completes (.entryApply d) s (fun t => (t.optDie d).run = none ∧
              t.fld (.optCtrl d) Fld.optCtrl_RUN = 0 ∧ t.fld (.optErr d) Fld.optErr_VALID = 1)))) ∧
        (r.phase = 2 → s.mirrorReads = true ∨ s.burstStalled (optReq d) = true ∨
            (leMode (s.layer d r.entry) = 2 ∧ s.usableCores d = []) →
          Completes (.entryApply d) s (fun t => t = s)) ∧
        (r.phase = 2 → s.mirrorReads = false → s.burstStalled (optReq d) = false → leMatrix (s.layer d r.entry) = false → Completes (.entryApply d) s (fun t =>
          (t.optDie d).run = none ∧ (t.optDie d).done = (s.optDie d).done ++ [r.entry] ∧
          t.fld (.optStatus d) Fld.optStatus_BUSY = 0)) ∧
        (r.phase = 2 → s.mirrorReads = false → s.burstStalled (optReq d) = false → leMode (s.layer d r.entry) = 1 → Completes (.entryApply d) s (fun t =>
          ∃ q, (t.optDie d).run = some q ∧ q.entry = r.entry ∧ q.phase = 3)) ∧
        (3 ≤ r.phase → s.usableCores d = [] ∨ s.coresQuiet d = false ∨ s.fbufReached d (leGramBuf (s.layer d r.entry)) (s.attemptCount d (r.phase - 3)) = false →
          Completes (.entryApply d) s (fun t => t = s))))

/-- MARK opens an attempt or waits, STEP_END starts the vote once every entry is done, and an optimizer wait times out.
(R206, R225, R231, R268) -/
def Obligations.StepMarkerAndVote : Prop :=
  ∀ (d : Fin 4) (s : State), s.doms.compute.testBit d.val = true →
    (∀ l, s.leader = some l → s.ridgeUp d.val = true →
      (s.job.attemptOpen = true ∨ s.optRunning l = false → Completes (.stepMark d) s (fun t => t.mem = s.mem ∧ t.job = s.job ∧
        t.opt.step = { s.opt.step with markWaits := true } ∧ ∀ e ∈ s.upDies, t.fld (.optCtrl e) Fld.optCtrl_MARK = 1)) ∧
      (s.job.attemptOpen = false → s.optRunning l = true → s.resharding = false → s.jobState = 2 → Completes (.stepMark d) s (fun t =>
        t.job = { s.job with attemptOpen := true } ∧ t.opt.step.markWaits = false ∧ t.opt.step.voting = false ∧
        ∀ e ∈ s.upDies, t.fld (.optCtrl e) Fld.optCtrl_MARK = 0 ∧ t.fld (.optStatus e) Fld.optStatus_PHASE = 1 ∧
          t.fld (.optStatus e) Fld.optStatus_FAILED = 0 ∧
          t.fld (.optAttempt e) Fld.optAttempt_ATTEMPT = (s.fld (.optAttempt e) Fld.optAttempt_ATTEMPT + 1) % 2 ^ 32 ∧
          ∀ k, t.get (.tcFlags e k) = 0)) ∧
      (s.job.attemptOpen = false ∨ s.opt.step.voting = true ∨ s.opt.step.restoring = true →
        Completes (.stepEnd d) s (fun t => t = s)) ∧
      (s.job.attemptOpen = true → s.opt.step.voting = false → s.opt.step.restoring = false →
        (s.entriesDone = true → Completes (.stepEnd d) s (fun t => t.mem = s.mem ∧
          t.opt.step = { s.opt.step with endWaits := false, voting := true, verdict := s.deviceVerdict } ∧
          ∀ e ∈ s.upDies, t.fld (.optStatus e) Fld.optStatus_PHASE = 2 ∧ t.fld (.optCtrl e) Fld.optCtrl_STEP_END = 0)) ∧
        (s.entriesDone = false → Completes (.stepEnd d) s (fun t => t.mem = s.mem ∧ t.opt.step = { s.opt.step with endWaits := true } ∧
          ∀ e ∈ s.upDies, t.fld (.optCtrl e) Fld.optCtrl_STEP_END = 1)))) ∧
    (∀ r, (s.optDie d).run = some r → r.entry < 0xFFFF → s.optRunning d = true → s.job.attemptOpen = true →
      s.fld (.optWaitLimit d) Fld.optWaitLimit_LIMIT ≠ 0 → s.isSet (.optErr d) Fld.optErr_VALID = false → d.val < s.opt.dies.length →
      Completes (.optWaitTimeout d) s (fun t => (t.optDie d).run = none ∧ t.fld (.optCtrl d) Fld.optCtrl_RUN = 0 ∧
        t.fld (.optStatus d) Fld.optStatus_BUSY = 0 ∧ t.fld (.optErr d) Fld.optErr_VALID = 1 ∧ t.fld (.optErr d) Fld.optErr_CODE = 1 ∧
        t.fld (.optErr d) Fld.optErr_ENTRY = r.entry ∧ t.mem = s.mem)) ∧
    (s.fld (.optWaitLimit d) Fld.optWaitLimit_LIMIT = 0 → Completes (.optWaitTimeout d) s (fun t => t = s))

/-- The verdict of the vote commits the step, retracts it or reaches the step limit, and a retract ends after its
restores. (R225, R226, R227, R228, R482) -/
def Obligations.StepOutcomes : Prop :=
  ∀ (l : Fin 4) (s : State), s.leader = some l →
    (s.opt.step.jobVerdict = none ∨ s.opt.step.voting = false → Completes .jobVerdict s (fun t => t = s)) ∧
    (s.opt.step.restoring = false → Completes .retractRestoreDone s (fun t => t = s)) ∧
    (s.opt.step.voting = true → s.optRunning l = true →
      (s.opt.step.jobVerdict = some true → Completes .jobVerdict s (fun t => t.mem = s.mem ∧
        t.opt.step = { s.opt.step with voting := false, restoring := true } ∧
        ∀ e ∈ s.upDies, t.fld (.optStatus e) Fld.optStatus_PHASE = 4 ∧ t.fld (.optStatus e) Fld.optStatus_BUSY = 1)) ∧
      (s.opt.step.jobVerdict = some false → s.opt.step.markWaits = false → s.job.endWaits = false →
        (s.fld (.optStep l) Fld.optStep_STEP = 2 ^ 40 - 1 → s.jobState = 2 → Completes .jobVerdict s (fun t => t.jobState = 3 ∧
          t.job.endCode = 0x22 ∧ t.job.attemptOpen = false ∧ t.fld (.optStep l) Fld.optStep_STEP = 2 ^ 40 - 1)) ∧
        (s.fld (.optStep l) Fld.optStep_STEP ≠ 2 ^ 40 - 1 → s.isSet .fltMirror Fld.fltMirror_EN = false → Completes .jobVerdict s (fun t =>
          t.job.attemptOpen = false ∧ t.opt.step.voting = false ∧ t.opt.step.commitSlot = 1 - s.opt.step.commitSlot ∧
          (∀ e ∈ s.upDies, t.fld (.optStep e) Fld.optStep_STEP = s.fld (.optStep l) Fld.optStep_STEP + 1 ∧
            t.fld (.optCursor e) Fld.optCursor_CURSOR =
              (if 2 ^ 64 ≤ s.fld (.optCursor l) Fld.optCursor_CURSOR + s.fld (.optBatch l) Fld.optBatch_BATCH
                then s.fld (.optCursor l) Fld.optCursor_CURSOR
                else s.fld (.optCursor l) Fld.optCursor_CURSOR + s.fld (.optBatch l) Fld.optBatch_BATCH) ∧
            t.fld (.optLscale e) Fld.optLscale_CLEAN = (if s.fld (.optLscale l) Fld.optLscale_CLEAN = 1999 then 0
              else (s.fld (.optLscale l) Fld.optLscale_CLEAN + 1) % 2 ^ 16) ∧
            t.fld (.optLscale e) Fld.optLscale_RUN = 0 ∧ t.fld (.optStatus e) Fld.optStatus_DONE = 1 ∧
            t.fld (.optStatus e) Fld.optStatus_RETRACTED = 0 ∧ t.fld (.optStatus e) Fld.optStatus_PHASE = 0) ∧
          (2 ^ 64 ≤ s.fld (.optCursor l) Fld.optCursor_CURSOR + s.fld (.optBatch l) Fld.optBatch_BATCH → s.jobState = 2 →
            t.jobState = 3 ∧ t.job.endCode = 0x22) ∧
          (∀ c o a, a = s.fld (.optCommitBase l) Fld.optCommitBase_ADDR + 64 * s.opt.step.commitSlot → s.memOk = true → a % 64 = 0 →
            s.decodeAddr a = .moraine c o → t.mem.getN (s.moraineKey c o) 64 = ((s.optPhase 3).commitCounters l).commitImage l))))) ∧
    (∀ u, s.opt.step.restoring = true → u = (State.restoreAll s s.upDies).2 →
      ((State.restoreAll s s.upDies).1 = false → Completes .retractRestoreDone s (fun t =>
        t = (u.setStep { u.opt.step with restoring := false }).optBusy false)) ∧
      ((State.restoreAll s s.upDies).1 = true → s.opt.step.markWaits = false → s.job.endWaits = false →
        Completes .retractRestoreDone s (fun t => t.job.attemptOpen = false ∧ t.opt.step.restoring = false ∧
          (∀ e ∈ s.upDies, t.fld (.optStep e) Fld.optStep_STEP = s.fld (.optStep e) Fld.optStep_STEP ∧
            t.fld (.optAttempt e) Fld.optAttempt_SKIP = satInc 32 (u.fld (.optAttempt l) Fld.optAttempt_SKIP) ∧
            t.fld (.optLscale e) Fld.optLscale_CLEAN = 0 ∧
            t.fld (.optLscale e) Fld.optLscale_RUN = satInc 8 (u.fld (.optLscale l) Fld.optLscale_RUN) ∧
            t.lossExp e = (if signed 8 (u.fld (.optLscale l) Fld.optLscale_EXP_MIN) < u.lossExp l then u.lossExp l - 1 else u.lossExp l) ∧
            t.fld (.optStatus e) Fld.optStatus_DONE = 1 ∧ t.fld (.optStatus e) Fld.optStatus_RETRACTED = 1 ∧
            t.fld (.optStatus e) Fld.optStatus_PHASE = 0) ∧
          (u.fld (.optLscale l) Fld.optLscale_RETRACT_LIMIT ≠ 0 → satInc 8 (u.fld (.optLscale l) Fld.optLscale_RUN) =
              u.fld (.optLscale l) Fld.optLscale_RETRACT_LIMIT →
            t.fld (.optCtrl l) Fld.optCtrl_RUN = 0 ∧ t.fld (.optErr l) Fld.optErr_VALID = 1))))

/-- A commanded descriptor starts, waits for its buffer, or stops the engine with its error; a SWITCH names the next
phase. (R259, R261, R271, R274, R275, R280) -/
def Obligations.CollectiveDescriptorsStart : Prop :=
  ∀ (d : Fin 4) (s : State) (op : Nat) (c : Instr),
    (op, c) ∈ [(1, Instr.colReduce d), (2, .colReduceScatter d), (3, .colGather d), (4, .colSend d), (5, .colRecv d), (6, .colVote d),
      (7, .colSwitch d), (8, .colReshard d)] →
    (s.colMayStart d = false ∨ s.nextDesc d = none ∨ (op = 6 ∧ s.leader = some d ∧ s.opt.step.voting = false) →
      Completes c s (fun t => t = s)) ∧
    (∀ b, s.nextDesc d = some b → cdOp b ≠ op → 0 < cdOp b → cdOp b ≤ 8 → Completes c s (fun t => t = s)) ∧
    (∀ b i ph u, s.colMayStart d = true → s.nextDesc d = some b → (cdOp b = op ∨ cdOp b = 0 ∨ 8 < cdOp b) →
      ¬ (op = 6 ∧ s.leader = some d ∧ s.opt.step.voting = false) → d.val < s.col.length →
      i = (s.colDie d).next → i < 2 ^ 16 → ph = s.colPhaseOf d → u = s.verifyMap d →
      ((s.colDie d).verified.contains ph = false → s.mapGood d = false → Completes c s (fun t =>
        (t.colDie d).runs = [] ∧ t.fld (.colCtrl d) Fld.colCtrl_RUN = 0 ∧ t.fld (.colErr d) Fld.colErr_VALID = 1 ∧
        (s.isSet (.colErr d) Fld.colErr_VALID = false → t.fld (.colErr d) Fld.colErr_CODE = 5 ∧ t.fld (.colErr d) Fld.colErr_DESC = i))) ∧
      ((s.colDie d).verified.contains ph = true ∨ s.mapGood d = true →
        (u.fbufReached d (cdWaitBuf b) (u.colCount d b (cdWaitCount b)) = false ∨ u.colWaits b = true → Completes c s (fun t => t = u)) ∧
        (u.fbufReached d (cdWaitBuf b) (u.colCount d b (cdWaitCount b)) = true → u.colWaits b = false →
          (∀ e, e = u.descError d b → e ≠ 0 → Completes c s (fun t =>
            (t.colDie d).runs = [] ∧ t.fld (.colCtrl d) Fld.colCtrl_RUN = 0 ∧ t.fld (.colErr d) Fld.colErr_VALID = 1 ∧
            (s.isSet (.colErr d) Fld.colErr_VALID = false → t.fld (.colErr d) Fld.colErr_CODE = e ∧ t.fld (.colErr d) Fld.colErr_DESC = i))) ∧
          (u.descError d b = 0 → (∀ r ∈ (s.colDie d).runs, r.index ≠ i) → Completes c s (fun t => (t.colDie d).next = i + 1 ∧
            (t.isSet (.colCtrl d) Fld.colCtrl_RUN = true → (∃ r ∈ (t.colDie d).runs, r.index = i ∧ r.bytes = b) ∧
              t.fld (.colStatus d) Fld.colStatus_INFLIGHT = (t.colDie d).runs.length ∧
              (op = 7 → t.fld (.colPhase d) Fld.colPhase_NEXT = cdArg b ∧ t.fld (.colPhase d) Fld.colPhase_PENDING = 1)))))))

/-- A descriptor whose parts are through publishes and leaves; the barrier of a SWITCH or RESHARD changes the phase.
(R261, R269, R274, R275, R276) -/
def Obligations.CollectiveDescriptorsComplete : Prop :=
  ∀ (d : Fin 4) (s : State),
    (∀ i : BitVec 16, s.runOf d i.toNat = none → Completes (.colDescComplete d i) s (fun t => t = s)) ∧
    (∀ (i : BitVec 16) run, s.runOf d i.toNat = some run →
      (s.colReady d run = false ∨ s.earlierWritten d run = false ∨ cdOp run.bytes = 7 ∨ cdOp run.bytes = 8 → Completes (.colDescComplete d i) s (fun t => t = s)) ∧
      (s.colReady d run = true → s.earlierWritten d run = true → cdOp run.bytes ≠ 7 → cdOp run.bytes ≠ 8 → d.val < s.col.length →
        Completes (.colDescComplete d i) s (fun t => (∀ r ∈ (t.colDie d).runs, r.index ≠ i.toNat) ∧
          (bit (cdFlags run.bytes) 1 = true → t.fld (.colStatus d) Fld.colStatus_DONE = 1) ∧
          (cdPostDie run.bytes < 4 → cdPostBuf run.bytes < 256 → s.doms.compute.testBit (cdPostDie run.bytes) = true →
            t.fld (.trvFbuf (Fin.ofNat 4 (cdPostDie run.bytes)) (Fin.ofNat 256 (cdPostBuf run.bytes))) Fld.trvFbuf_COUNT =
              newestOf (s.fld (.trvFbuf (Fin.ofNat 4 (cdPostDie run.bytes)) (Fin.ofNat 256 (cdPostBuf run.bytes))) Fld.trvFbuf_COUNT)
                [s.colCount d run.bytes (cdPostCount run.bytes)])))) ∧
    (s.barrierBack d 7 = none → Completes (.switchBarrierDone d) s (fun t => t = s)) ∧
    (s.barrierBack d 8 = none → Completes (.reshardBarrierDone d) s (fun t => t = s)) ∧
    (∀ run, cdArg run.bytes < 8 → (∀ p, (s.port p).held = []) → d.val < s.col.length →
      (s.barrierBack d 7 = some run → Completes (.switchBarrierDone d) s (fun t => t.colPhaseOf d = cdArg run.bytes ∧
        t.fld (.colPhase d) Fld.colPhase_PENDING = 0 ∧ t.fld (.colStatus d) Fld.colStatus_SWITCHING = 0 ∧ (t.colDie d).next = 0 ∧
        (∀ r ∈ (t.colDie d).runs, r.index ≠ run.index) ∧ t.mem = s.mem)) ∧
      (∀ bs u, s.barrierBack d 8 = some run → s.colRead d run (cdScratch run.bytes) (cdN run.bytes) = (some bs, u) →
        (u.colWrite d run (cdDst run.bytes) bs).1 = true → s.opt.step.markWaits = false →
        Completes (.reshardBarrierDone d) s (fun t => t.colPhaseOf d = cdArg run.bytes ∧ (t.colDie d).next = 0 ∧
          t.fld (.colPhase d) Fld.colPhase_PENDING = 0 ∧ t.mem = (u.colWrite d run (cdDst run.bytes) bs).2.mem)))

/-- Contributions and norm partials arrive, a device joins its team, a wait runs out, and STOP waits for what is in
flight. (R259, R263, R267, R278, R279, R280, R281) -/
def Obligations.ContributionsPartialsAndTeams : Prop :=
  ∀ (d : Fin 4) (s : State),
    (s.doms.compute.testBit d.val = true → d.val < s.col.length →
      (∀ (i : BitVec 16) (l : Fin 4) (j : Fin 64) (off : BitVec 48) (bs : List Byte) (u : ColUnit), bs.length = 64 →
        u = ⟨s.colPhaseOf d, i.toNat, l.val, j.val, off.toNat, bs⟩ → (s.colDie d).runs = [] → (s.colDie d).withheld = [] →
        s.isSet (.colCtrl d) Fld.colCtrl_STOP = false →
        (s.unitKnown d u = false → Completes (.reduceContrib d i l j off bs) s (fun t => t.mem = s.mem ∧
          (t.colDie d).units = (s.colDie d).units ++ [u])) ∧
        (s.unitKnown d u = true → Completes (.reduceContrib d i l j off bs) s (fun t => t.mem = s.mem ∧
          (t.colDie d).units = (s.colDie d).units ∧ t.fld (.colErr d) Fld.colErr_VALID = 1 ∧
          (s.isSet (.colErr d) Fld.colErr_VALID = false → t.fld (.colErr d) Fld.colErr_CODE = 0x0C)))) ∧
      (∀ (e : BitVec 16) (rank : Fin 8) (v : BitVec 32),
        ((s.colDie d).norms.any (fun x => x.1 == e.toNat && x.2.1 == rank.val) = true →
          Completes (.normPartial d e rank v) s (fun t => t = s)) ∧
        (∀ ns, ns = (s.colDie d).norms ++ [(e.toNat, rank.val, v.toNat)] →
          (s.colDie d).norms.any (fun x => x.1 == e.toNat && x.2.1 == rank.val) = false →
          ((s.optDie d).run = none → Completes (.normPartial d e rank v) s (fun t => (t.colDie d).norms = ns ∧ t.opt = s.opt)) ∧
          (∀ (r : OptRun) (g : List Byte) (vs : List Nat), (s.optDie d).run = some r → s.normGroup d r.entry = some g → d.val < s.opt.dies.length →
            (List.range (leAt g 0 4)).map (fun k => if k = leAt g 16 4 then some r.part
              else (ns.find? (fun x => x.1 == r.entry && x.2.1 == k)).map (fun x => x.2.2)) = vs.map some →
            Completes (.normPartial d e rank v) s (fun t => (t.optDie d).run =
              some { r with total := some (vs.foldl (fun a x => add32 a (f32 x)) 0) })))) ∧
      (s.teamOf d = 0x3FFF → (s.colDie d).joining = false → Completes (.teamJoin d) s (fun t =>
        t.fld (.colStatus d) Fld.colStatus_JOIN_RESULT = 1 ∧ t.fld (.colCtrl d) Fld.colCtrl_JOIN = 0)) ∧
      (s.teamOf d ≠ 0x3FFF → (s.colDie d).joining = false → Completes (.teamJoin d) s (fun t => t.mem = s.mem ∧
        ((s.otherSlots d).all (fun k => (s.slotShape d k).isSome) = false → t.fld (.colCtrl d) Fld.colCtrl_JOIN = 1 ∧
          (t.colDie d).joining = true) ∧
        ((s.otherSlots d).all (fun k => (s.slotShape d k).isSome) = true → (t.colDie d).joining = false ∧
          t.fld (.colStatus d) Fld.colStatus_JOIN_RESULT = (if (s.otherSlots d).any (s.slotDiffers d) then 2 else 1)))) ∧
      ((s.colDie d).joining = true → Completes (.joinTimeout d) s (fun t => (t.colDie d).joining = false ∧
        t.fld (.colStatus d) Fld.colStatus_JOIN_RESULT = 3 ∧ t.fld (.colCtrl d) Fld.colCtrl_JOIN = 0)) ∧
      (s.isSet (.colCtrl d) Fld.colCtrl_RUN = true → s.fld (.colWaitLimit d) Fld.colWaitLimit_LIMIT ≠ 0 → ∀ i g, s.waitingDesc d = some (i, g) →
        i < 2 ^ 16 → Completes (.colWaitTimeout d) s (fun t => (t.colDie d).runs = [] ∧ t.fld (.colCtrl d) Fld.colCtrl_RUN = 0 ∧
          t.fld (.colErr d) Fld.colErr_VALID = 1 ∧
          (s.isSet (.colErr d) Fld.colErr_VALID = false → t.fld (.colErr d) Fld.colErr_CODE = 6 ∧ t.fld (.colErr d) Fld.colErr_DESC = i))) ∧
      ((s.colDie d).runs = [] → Completes (.colStop d) s (fun t => t.fld (.colCtrl d) Fld.colCtrl_STOP = 0 ∧
        t.fld (.colCtrl d) Fld.colCtrl_RUN = 0 ∧ t.mem = s.mem)) ∧
      ((s.colDie d).runs ≠ [] → Completes (.colStop d) s (fun t => t.fld (.colCtrl d) Fld.colCtrl_STOP = 1 ∧
        t.fld (.colCtrl d) Fld.colCtrl_RUN = s.fld (.colCtrl d) Fld.colCtrl_RUN ∧ t.col = s.col))) ∧
    ((s.colDie d).joining = false → Completes (.joinTimeout d) s (fun t => t = s)) ∧
    (s.waitingDesc d = none → Completes (.colWaitTimeout d) s (fun t => t = s))

/-- A frame is checked before it acts; READ, WRITE and REDUCE are held, served once, or answered from their record; a
relay passes frames on. (R263, R274, R287, R288, R289, R290, R297, R298, R301) -/
def Obligations.RopeFramesAndRequests : Prop :=
  ∀ (p : Fin 16) (x : RxFrame) (s : State),
    (∀ c ∈ [Instr.ropeRead p x, .ropeWrite p x, .ropeReduce p x, .readResp p x, .ropeAck p x, .ropeNack p x, .ropeCredit p x, .ropeLink p x,
        .ropeHeartbeat p x, .ropeTime p x, .ropeLane p x, .ropeHello p x, .ropeRelay p x],
      (s.portLive p = false ∨ s.portIsUp p = false → Completes c s (fun t => t = s)) ∧
      (s.portLive p = true → s.portIsUp p = true → isTeam p = false →
        (x.fcsGood = false → Completes c s (fun t => t = (s.countFec p x.corrected).bump (pErrs p) Fld.ropeErrs_FCS_ERR)) ∧
        (∀ w, x.fcsGood = true → w = s.countFec p x.corrected →
          (w.decapsulate p x.bytes = .foreign → Completes c s (fun t => t = w)) ∧
          (∀ b, w.decapsulate p x.bytes = .misdirected b → Completes c s (fun t => t = w.bump (pDisc p) Fld.ropeDisc_OTHER)))) ∧
      (∀ u, s.arrive p x = (u, none) → Completes c s (fun t => t = u))) ∧
    (∀ u b f d, s.arrive p x = (u, some b) → f = RopeFrame.parse b → d = Fin.ofNat 4 f.dstDie →
      (s.toRelay p b = false →
        (∀ q ∈ [(1, Instr.ropeRead p x), (2, .ropeWrite p x), (3, .ropeReduce p x), (4, .readResp p x), (5, .ropeAck p x), (6, .ropeNack p x),
            (8, .ropeCredit p x), (9, .ropeLink p x), (0xA, .ropeHeartbeat p x), (0xB, .ropeTime p x), (0xC, .ropeLane p x),
            (0xD, .ropeHello p x)], f.type ≠ q.1 → Completes q.2 s (fun t => t = s)) ∧
        Completes (.ropeRelay p x) s (fun t => t = s) ∧
        (∀ q ∈ [(1, Instr.ropeRead p x), (2, .ropeWrite p x), (3, .ropeReduce p x)], f.type = q.1 → p.val < u.ports.length →
          f.phase ≠ u.colPhaseOf d ∨ u.canAnswer p f = false ∨ u.requestWaits p f = true → Completes q.2 s (fun t => t.mem = u.mem ∧
            (t.port p).held = (u.port p).held ++ [(u.hopSource p x.bytes, b)])) ∧
        (f.phase = u.colPhaseOf d → u.canAnswer p f = true → u.requestWaits p f = false → u.memOk = true → d.val < u.rope.length → d.val < u.col.length →
          (∀ c o, f.type = 1 → f.arg % 2 ^ 16 = 1 → u.decodeAddr f.addr = .moraine c o → f.addr % 64 = 0 →
            u.isBad (u.moraineKey c o / 64 * 64) = false → isTeam p = false → (u.port p).waiting = [] → u.portIsUp p = true →
            (u.port p).paused.testBit 2 = false → (u.port p).moving = false → Completes (.ropeRead p x) s (fun t => t.mem = u.mem ∧
              .frame p.val (u.onCable p (if f.relay then some (u.hopSource p x.bytes) else none) (u.fld (pSeq p) Fld.ropeSeq_TX_SEQ)
                (RopeFrame.make ⟨1, 4, 2, u.colPhaseOf d, false, f.relay, u.selfNode d, d.val, f.srcNode, f.srcDie, 0, 0, 0, f.tag, 0,
                  u.fld (.ropeTimeout d) Fld.ropeTimeout_EPOCH, 0, 0, u.mem.getN (u.moraineKey c o) 64⟩)) ∈ t.out)) ∧
          (∀ es c o, f.type = 2 → judgeTag u.now f.srcNode f.srcDie f.tag (u.ropeDie d).dedup = .execute es → (u.colDie d).runs = [] →
            u.decodeAddr f.addr = .moraine c o → f.addr % 64 = 0 → f.payload.length = 64 → Completes (.ropeWrite p x) s (fun t =>
              t.mem.getN (u.moraineKey c o) 64 = f.payload ∧ (t.ropeDie d).dedup = recordTag f.srcNode f.srcDie f.tag 0 es ∧
              (∀ k, k < u.moraineKey c o ∨ u.moraineKey c o + 64 ≤ k → t.mem.get k = u.mem.get k))) ∧
          (∀ es unit, f.type = 3 → judgeTag u.now f.srcNode f.srcDie f.tag (u.ropeDie d).dedup = .execute es → (u.colDie d).runs = [] →
            (u.colDie d).withheld = [] → f.payload.length = 64 →
            unit = ⟨f.phase, bits f.arg 31 16, bits f.arg 15 14, bits f.arg 13 8, f.addr, f.payload⟩ → u.unitKnown d unit = false →
            Completes (.ropeReduce p x) s (fun t => (t.colDie d).units = (u.colDie d).units ++ [unit])) ∧
          (∀ q ∈ [(2, Instr.ropeWrite p x), (3, .ropeReduce p x)], f.type = q.1 →
            (∀ st, judgeTag u.now f.srcNode f.srcDie f.tag (u.ropeDie d).dedup = .recorded st → Completes q.2 s (fun t => t.mem = u.mem ∧
              t.fld (.ropeRetx d) Fld.ropeRetx_DUP_DISCARD = satInc 32 (u.fld (.ropeRetx d) Fld.ropeRetx_DUP_DISCARD))) ∧
            (judgeTag u.now f.srcNode f.srcDie f.tag (u.ropeDie d).dedup = .stale → Completes q.2 s (fun t => t.mem = u.mem ∧
              (t.ropeDie d).dedup = (u.ropeDie d).dedup)) ∧
            (judgeTag u.now f.srcNode f.srcDie f.tag (u.ropeDie d).dedup = .full → Completes q.2 s (fun t => t.mem = u.mem ∧
              t.fld (.ropeDedup d) Fld.ropeDedup_FULL_NACK = satInc 16 (u.fld (.ropeDedup d) Fld.ropeDedup_FULL_NACK)))))) ∧
      (s.toRelay p b = true →
        (s.secondHop p b = true → Completes (.ropeRelay p x) s (fun t => t = u)) ∧
        (s.secondHop p b = false → s.relayPort (portDie p) f.dstNode = none → Completes (.ropeRelay p x) s (fun t => t.mem = u.mem ∧
          t = (u.takeUnits p f.vc (frameUnits b)).releaseUnits p f.vc (frameUnits b))) ∧
        (∀ q, s.secondHop p b = false → s.relayPort (portDie p) f.dstNode = some q → isTeam q = false → unnumbered b = false →
          (u.port q).waiting = [] → (u.port q).paused.testBit f.vc = false → (u.port q).moving = false →
          Completes (.ropeRelay p x) s (fun t => t.mem = u.mem ∧
            .frame q.val (u.onCable q none (u.fld (pSeq q) Fld.ropeSeq_TX_SEQ) b) ∈ t.out))))

/-- Responses end or refuse their request, and credit, link, time, lane, hello and heartbeat frames act on their port.
(R259, R288, R292, R296, R297, R298, R302, R305, R308, R309, R417) -/
def Obligations.RopeAnswersAndLinkControl : Prop :=
  ∀ (p : Fin 16) (x : RxFrame) (s u : State) (b : List Byte) (f : RopeFrame) (d : Fin 4), s.arrive p x = (u, some b) → f = RopeFrame.parse b →
    s.toRelay p b = false → p.val < u.ports.length →
    (d = Fin.ofNat 4 f.dstDie →
      (∀ q ∈ [(4, Instr.readResp p x), (5, .ropeAck p x), (6, .ropeNack p x)], f.type = q.1 → u.openReq d f.tag = none →
        Completes q.2 s (fun t => t.mem = u.mem ∧
          t.fld (.ropeDedup d) Fld.ropeDedup_LATE_RESP = satInc 16 (u.fld (.ropeDedup d) Fld.ropeDedup_LATE_RESP))) ∧
      (∀ r, u.openReq d f.tag = some r → RopeQuiet u → d.val < u.rope.length →
        (∀ q ∈ [(4, Instr.readResp p x), (5, .ropeAck p x)], f.type = q.1 → r.use = .mirror → Completes q.2 s (fun t => t.mem = u.mem ∧
          (t.ropeDie d).open_ = (u.ropeDie d).open_.filter (fun y => y.tag != r.tag))) ∧
        (∀ a c o, f.type = 4 → r.use = .restore a → f.arg % 256 = 0 → f.payload.length = 64 → u.memOk = true → u.decodeAddr a = .moraine c o →
          a % 64 = 0 → Completes (.readResp p x) s (fun t => t.mem.getN (u.moraineKey c o) 64 = f.payload ∧
            (t.ropeDie d).open_ = (u.ropeDie d).open_.filter (fun y => y.tag != r.tag))) ∧
        (f.type = 6 → f.arg % 256 = 2 → Completes (.ropeNack p x) s (fun t => t.mem = u.mem ∧ t.openReq d f.tag = some { r with refused := true })) ∧
        (∀ a, f.type = 6 → f.arg % 256 = 3 → r.use = .restore a → Completes (.ropeNack p x) s (fun t => t.openReq d f.tag = none ∧
          ∃ e, t.faults.queue = u.faults.queue ++ [e] ∧ e.cls = .ucc ∧ e.code = 0x0112 ∧ e.detail = r.tag ∧ e.node = r.node)))) ∧
    (isTeam p = true → (u.port p).waiting = [] → (u.port p).held = [] → RopeQuiet u →
      (∀ v : Fin 3, f.type = 8 → (u.port p).peerFreed.length = 3 → newer 32 (leAt f.payload (4 * v.val) 4) ((u.port p).peerFreed.getD v.val 0) = true →
        Completes (.ropeCredit p x) s (fun t => t.mem = u.mem ∧ (t.port p).peerFreed.getD v.val 0 = leAt f.payload (4 * v.val) 4 ∧
          t.fld (pCredit p v.val) Fld.ropeCredit_AVAIL =
            715 - (u.fld (pCredit p v.val) Fld.ropeCredit_SENT + 2 ^ 32 - leAt f.payload (4 * v.val) 4) % 2 ^ 32)) ∧
      (f.type = 9 → bit f.arg 0 = false → Completes (.ropeLink p x) s (fun t => t.mem = u.mem ∧
        (t.port p).replay = (u.port p).replay.filter (fun e => newer 24 e.1 f.seq))) ∧
      (f.type = 9 → bit f.arg 0 = true → (u.port p).replay.all (fun e => newer 24 e.1 f.seq) = true → (u.port p).replay ≠ [] →
        (u.port p).replays < 4 → Completes (.ropeLink p x) s (fun t => (t.port p).replay = (u.port p).replay ∧
          (t.port p).replays = (u.port p).replays + 1 ∧ t.out.length = u.out.length + (u.port p).replay.length ∧
          t.fld (pErrs p) Fld.ropeErrs_REPLAY = satInc 32 (u.fld (pErrs p) Fld.ropeErrs_REPLAY)))) ∧
    (f.type = 0xB → leAt f.payload 16 8 ≠ 0 → u.timeSource (portDie p) = some (p, f.srcNode) → Completes (.ropeTime p x) s (fun t =>
      t.mem = u.mem ∧ t.out = u.out ∧ (t.port p).asked = false ∧ ∀ e ∈ u.upDies, t.fld (.ropeTimeOfs e) Fld.ropeTimeOfs_STALE = 0 ∧
        t.fld (.ropeTimeOfs e) Fld.ropeTimeOfs_OFFSET = unsign 63 ((((leAt f.payload 8 8 : Nat) : Int) - (leAt f.payload 0 8 : Nat) +
          ((leAt f.payload 16 8 : Nat) - (u.now : Nat) : Int)) / 2))) ∧
    (f.type = 0xB → leAt f.payload 16 8 = 0 → Completes (.ropeTime p x) s (fun t => t.mem = u.mem ∧
      ∀ e, t.get (.ropeTimeOfs e) = u.get (.ropeTimeOfs e))) ∧
    (f.type = 0xC →
      (∀ l : Fin 4, leAt f.payload 0 1 = 1 → leAt f.payload 1 1 = l.val →
        ((u.fld (pStatus p) Fld.ropeStatus_LANE_OK).testBit l.val = false → Completes (.ropeLane p x) s (fun t => t = u)) ∧
        (u.fld (pStatus p) Fld.ropeStatus_LANE_OK = 15 → u.a0 = false → u.isSet (pCtrl p) Fld.ropeCtrl_LANEDROP = true →
          Completes (.ropeLane p x) s (fun t => t.portState p = 3 ∧ t.fld (pStatus p) Fld.ropeStatus_LANE_OK = 15 - 2 ^ l.val ∧
            t.fld (.ropeLane (portDie p) (portLocal p) l) Fld.ropeLane_FAILED = 1 ∧ (l.val < 2 → (t.port p).moving = true))) ∧
        ((u.fld (pStatus p) Fld.ropeStatus_LANE_OK).testBit l.val = true →
          u.isSet (pCtrl p) Fld.ropeCtrl_LANEDROP = false ∨ (u.fld (pStatus p) Fld.ropeStatus_LANE_OK).testBit (laneMate l.val) = false →
          Completes (.ropeLane p x) s (fun t => t.portState p = 0 ∧ t.fld (pStatus p) Fld.ropeStatus_LANE_OK = 0))) ∧
      (leAt f.payload 0 1 = 0 → Completes (.ropeLane p x) s (fun t => t.mem = u.mem ∧ t.out = u.out ∧ t.regs = u.regs ∧
        (leAt f.payload 1 1 < (u.port p).preEmphasis.length → (t.port p).preEmphasis.getD (leAt f.payload 1 1) 0 = leAt f.payload 2 1))) ∧
      (leAt f.payload 0 1 = 2 → (u.port p).waiting = [] → (u.port p).held = [] → RopeQuiet u → Completes (.ropeLane p x) s (fun t =>
        t.mem = u.mem ∧ t.out = u.out ∧ (t.port p).moving = false)) ∧
      (2 < leAt f.payload 0 1 → Completes (.ropeLane p x) s (fun t => t = u))) ∧
    (∀ team slot, f.type = 0xD → team = leAt f.payload 0 2 → slot = leAt f.payload 2 1 →
      (isTeam p = true → team ≠ 0x3FFF → u.teamOf (portDie p) ≠ 0x3FFF →
        (team ≠ u.teamOf (portDie p) ∨ slot ≠ farSlot (u.slotOf (portDie p)) p) → Completes (.ropeHello p x) s (fun t => t.portState p = 4)) ∧
      (isTeam p = false ∨ team = 0x3FFF → Completes (.ropeHello p x) s (fun t => t.mem = u.mem ∧ t.portState p = u.portState p ∧
        (t.port p).hello = some (team, slot, leAt f.payload 4 4, leAt f.payload 8 8)))) ∧
    (∀ h, f.type = 0xA → h = Heartbeat.parse f.payload → h.notice = false → h.promote = false → h.report = false → h.target = false →
      (h.team ≠ u.ownTeam → Completes (.ropeHeartbeat p x) s (fun t => t.mem = u.mem ∧ t.restart = u.restart)) ∧
      (u.teamed = true → h.team = u.ownTeam → h.slot < 9 → h.slot ≠ u.ownSlot → h.failing = false → Completes (.ropeHeartbeat p x) s (fun t =>
        t.mem = u.mem ∧ t.restart.heard = u.restart.heard.set h.slot (some u.now) ∧
        t.restart.seenOf = u.restart.seenOf.set h.slot h.seen)))

/-- Ports come up, go down, lose lanes and retrain; the timers of a port and of outstanding requests act. (R286, R292,
R293, R294, R296, R298, R299, R302, R305, R308, R309, R310) -/
def Obligations.RopePortsAndTimers : Prop :=
  (∀ (p : Fin 16) (foms : BitVec 32) (s : State),
    (s.portLive p = true → s.isSet (pCtrl p) Fld.ropeCtrl_EN = true →
      (s.portState p = 1 → s.isSet (pCtrl p) Fld.ropeCtrl_RETRAIN = false → (s.port p).inUse.all (· == 0) = true → Completes (.portUp p foms) s (fun t =>
        t.mem = s.mem ∧ t.portState p = 2 ∧ t.fld (pStatus p) Fld.ropeStatus_LANE_OK = 15)) ∧
      (s.isSet (pCtrl p) Fld.ropeCtrl_RETRAIN = true → (s.port p).inUse.all (· == 0) = true → Completes (.ropeRetrainDone p foms) s (fun t =>
        t.mem = s.mem ∧ t.portState p = 2 ∧ t.fld (pStatus p) Fld.ropeStatus_LANE_OK = 15 ∧ t.fld (pCtrl p) Fld.ropeCtrl_RETRAIN = 0))) ∧
    (s.portState p ≠ 1 ∨ (s.port p).inUse.all (· == 0) = false → Completes (.portUp p foms) s (fun t => t = s)) ∧
    (s.isSet (pCtrl p) Fld.ropeCtrl_RETRAIN = false → Completes (.ropeRetrainDone p foms) s (fun t => t = s))) ∧
  (∀ (p : Fin 16) (s : State), s.portLive p = true → p.val < s.ports.length →
    (s.inStage 9 = true → s.portIsUp p = false → Completes (.portBringupTimeout p) s (fun t => t.portState p = 0 ∧
      (isTeam p = true → (t.fld .hkShape Fld.hkShape_TEAM_PORT_MASK).testBit p.val = false))) ∧
    (s.inStage 9 = false → Completes (.portBringupTimeout p) s (fun t => t = s)) ∧
    Completes (.ropeRetrain p) s (fun t => t.mem = s.mem ∧ t.portState p = 1 ∧ t.fld (pStatus p) Fld.ropeStatus_LANE_OK = 0 ∧
      t.fld (pCtrl p) Fld.ropeCtrl_RETRAIN = 1 ∧ (t.port p).replay = [] ∧ (t.port p).waiting = []) ∧
    (∀ (l : Fin 4) (drops : Bool), s.portIsUp p = true → s.fld (pStatus p) Fld.ropeStatus_LANE_OK = 15 →
      (s.a0 = false → s.isSet (pCtrl p) Fld.ropeCtrl_LANEDROP = true → Completes (.laneFail p l true) s (fun t => t.portState p = 3 ∧
        t.fld (pStatus p) Fld.ropeStatus_LANE_OK = 15 - 2 ^ l.val ∧
        t.fld (.ropeLane (portDie p) (portLocal p) l) Fld.ropeLane_FAILED = 1)) ∧
      (s.a0 = true ∨ s.isSet (pCtrl p) Fld.ropeCtrl_LANEDROP = false ∨ drops = false → Completes (.laneFail p l drops) s (fun t =>
        t.portState p = 0 ∧ t.fld (pStatus p) Fld.ropeStatus_LANE_OK = 0 ∧
        t.fld (.ropeLane (portDie p) (portLocal p) l) Fld.ropeLane_FAILED = 1))) ∧
    (isTeam p = true → s.portIsUp p = true →
      Completes (.creditReportTimer p) s (fun t => t.mem = s.mem ∧ (t.port p).reported = (s.port p).freed ∧
        t.out.length = s.out.length + 1) ∧
      (0 < (s.port p).unacked → Completes (.linkAckTimer p) s (fun t => (t.port p).unacked = 0 ∧ t.out.length = s.out.length + 1)) ∧
      ((s.port p).unacked = 0 → Completes (.linkAckTimer p) s (fun t => t = s)) ∧
      ((s.port p).replay = [] → Completes (.replayTimeout p) s (fun t => t = s)) ∧
      ((s.port p).replay ≠ [] → (s.port p).replays < 4 → Completes (.replayTimeout p) s (fun t => (t.port p).replay = (s.port p).replay ∧
        (t.port p).replays = (s.port p).replays + 1 ∧ t.out.length = s.out.length + (s.port p).replay.length)) ∧
      ((s.port p).replay ≠ [] → 4 ≤ (s.port p).replays → Completes (.replayTimeout p) s (fun t => t.portState p = 1 ∧
        t.fld (pCtrl p) Fld.ropeCtrl_RETRAIN = 1 ∧ (t.port p).replay = [])) ∧
      ((s.port p).waiting = [] → Completes (.helloTimer p) s (fun t => t.mem = s.mem ∧
        (t.port p).replay.length + (t.port p).waiting.length = (s.port p).replay.length + 1))) ∧
    (∀ (prio : Fin 8) (pause : Bool), isTeam p = false → s.portIsUp p = true → Completes (.priorityPauseFrame p prio pause) s (fun t =>
      ∀ v, v < 3 → (t.port p).paused.testBit v = if s.vcPcp p v = prio.val then pause else (s.port p).paused.testBit v)) ∧
    (∀ c ∈ [Instr.creditReportTimer p, .linkAckTimer p, .replayTimeout p, .helloTimer p], isTeam p = false ∨ s.portIsUp p = false →
      Completes c s (fun t => t = s))) ∧
  (∀ (d : Fin 4) (tag : BitVec 32) (s : State), d.val < s.rope.length →
    (∀ c ∈ [Instr.dedupFullResend d tag, .reqTimeout d tag, .pathLimit d tag], s.openReq d tag.toNat = none → Completes c s (fun t => t = s)) ∧
    (∀ r, s.openReq d tag.toNat = some r →
      (r.refused = false → Completes (.dedupFullResend d tag) s (fun t => t = s)) ∧
      (r.refused = true → Completes (.reqTimeout d tag) s (fun t => t = s)) ∧
      (∀ q, r.refused = true → s.upFrom (s.planeOf d r.node).2 r.port = some q → s.canReserve q r (some (d, r.tag)) = true → Completes (.dedupFullResend d tag) s (fun t => t.mem = s.mem ∧
        t.openReq d tag.toNat = some { r with port := q.val, last := s.now, refused := false, parked := false } ∧
        t.get (.ropeRetx d) = s.get (.ropeRetx d))) ∧
      (∀ q, r.refused = false → s.upFrom (s.planeOf d r.node).2 (r.port + 1) = some q → s.canReserve q r (some (d, r.tag)) = true → Completes (.reqTimeout d tag) s (fun t => t.mem = s.mem ∧
        t.openReq d tag.toNat = some { r with port := q.val, last := s.now, refused := false, parked := false } ∧
        t.fld (.ropeRetx d) Fld.ropeRetx_RETX = satInc 32 (s.fld (.ropeRetx d) Fld.ropeRetx_RETX))) ∧
      (r.refused = false → (∀ q, s.upFrom (s.planeOf d r.node).2 (r.port + 1) = some q → s.canReserve q r (some (d, r.tag)) = false) → Completes (.reqTimeout d tag) s (fun t => t.mem = s.mem ∧
        t.openReq d tag.toNat = some { r with parked := true })) ∧
      (∀ a, r.use = .restore a → RopeQuiet s → Completes (.pathLimit d tag) s (fun t => t.openReq d tag.toNat = none ∧
        ∃ e, t.faults.queue = s.faults.queue ++ [e] ∧ e.cls = .ucc ∧ e.code = 0x0112 ∧ e.detail = r.tag ∧ e.node = r.node)))) ∧
  (∀ s : State,
    (s.upDies = [] → Completes .timeExchange s (fun t => t = s)) ∧
    (∀ d, s.upDies.head? = some d →
      (s.timeSource d = none → s.nodeId d ≠ some 0 → Completes .timeExchange s (fun t => t = s)) ∧
      (s.timeSource d = none → s.nodeId d = some 0 → Completes .timeExchange s (fun t => t.mem = s.mem ∧
        ∀ e ∈ s.upDies, t.fld (.ropeTimeOfs e) Fld.ropeTimeOfs_STALE = 0 ∧ t.fld (.ropeTimeOfs e) Fld.ropeTimeOfs_OFFSET = 0)) ∧
      (∀ q n, s.timeSource d = some (q, n) → s.portIsUp q = false → Completes .timeExchange s (fun t =>
        ∀ e ∈ s.upDies, t.fld (.ropeTimeOfs e) Fld.ropeTimeOfs_STALE = 1)) ∧
      (∀ q n, s.timeSource d = some (q, n) → s.portIsUp q = true → q.val < s.ports.length → Completes .timeExchange s (fun t =>
        t.mem = s.mem ∧ (t.port q).asked = true ∧
        ((s.port q).asked = false → ∀ e, t.get (.ropeTimeOfs e) = s.get (.ropeTimeOfs e)) ∧
        ((s.port q).asked = true → ∀ e ∈ s.upDies, t.fld (.ropeTimeOfs e) Fld.ropeTimeOfs_STALE = 1 ∧
          t.fld (.ropeTimeOfs e) Fld.ropeTimeOfs_OFFSET = s.fld (.ropeTimeOfs e) Fld.ropeTimeOfs_OFFSET)))) ∧
    (∀ (p : Fin 16) (x : RxFrame),
      (s.portIsUp p = false ∨ s.ipMode p = false → Completes (.neighborSolicitation p x) s (fun t => t = s)) ∧
      (∀ body, body = x.bytes.drop 14 → beAt x.bytes 12 2 ≠ 0x8100 → s.portLive p = true → s.portIsUp p = true → s.ipMode p = true →
        x.fcsGood = true → beAt body 6 1 = 58 → beAt body 7 1 = 255 → beAt body 40 1 = 135 →
        ofBe (slice body 48 16) = s.ropeIp p (s.selfNode (portDie p)) p.val → Completes (.neighborSolicitation p x) s (fun t => t.mem = s.mem ∧
          ∃ bs, t.out = s.out ++ [.frame p.val bs]))))

/-- Media units take decode requests, complete them with their counters, code frames row by row, and stop when disabled.
(R313, R314, R315, R320, R328, R329, R330, R333, R334) -/
def Obligations.DecodeAndEncodeRequests : Prop :=
  (∀ (s : State) (m : Nat × Nat × Instr), m ∈ [(0, 2, Instr.videoDecode), (1, 8, .imageDecode), (2, 4, .audioDecode)] →
    (s.medNext (Fin.ofNat 8 m.1) = none ∨ s.freeUnit m.1 m.2.1 = none → Completes m.2.2 s (fun t => t = s)) ∧
    (∀ x u, s.medNext (Fin.ofNat 8 m.1) = some x → s.freeUnit m.1 m.2.1 = some u →
      (s.sampleAllowed (ddSample x) = false ∨ s.mustWaitAny [(ddSrc x, ddLen x)] = true → Completes m.2.2 s (fun t => t = s)) ∧
      (s.sampleAllowed (ddSample x) = true → s.mustWaitAny [(ddSrc x, ddLen x)] = false → inHostWindow (ddSrc x) = false → ∀ good i,
        good = (s.commonGood x (if m.1 = 0 then 0 else if m.1 = 1 then 3 else 5) (if m.1 = 0 then 2 else if m.1 = 1 then 4 else 7) &&
          if m.1 = 0 then visualGood x true else if m.1 = 1 then visualGood x false else audioGood x) →
        i = Config.sampleInfo (ddCodec x) (s.readSample m.1 u x).1 (dvFirst x + (dvCount x - 1) * dvStride x) →
        (m.1 ≠ 0 ∨ good = false ∨ i.buffers + 1 ≤ s.fld (.medVpool (Fin.ofNat 2 u)) Fld.medVpool_FREE) → Completes m.2.2 s (fun t =>
          t.fld (.medQptr (Fin.ofNat 8 m.1)) Fld.medQptr_TAKEN = (s.fld (.medQptr (Fin.ofNat 8 m.1)) Fld.medQptr_TAKEN + 1) % 1024 ∧
          t.fld .medStatus Fld.medStatus_BUSY = 1 ∧ (good = false → t.mem = s.mem) ∧
          ∃ j, t.input.media = s.input.media ++ [j] ∧ j.queue = m.1 ∧ j.unit = u ∧ j.tagAddr = ddTag x ∧ j.irq = ddFlag x 0 ∧
            (good = false → j.status = 4))))) ∧
  (∀ (q : Fin 3) (u : Fin 8) (s : State),
    (s.input.media.find? (fun x => x.queue == q.val && x.unit == u.val) = none → Completes (.medRequestComplete q u) s (fun t => t = s)) ∧
    (∀ x, s.input.media.find? (fun x => x.queue == q.val && x.unit == u.val) = some x →
      s.burstStalled (medReq q.val u.val) = true ∨ (x.rows ≠ 0 ∧ s.liveRow u.val ≠ none) → Completes (.medRequestComplete q u) s (fun t => t = s)) ∧
    (∀ x, s.input.media.find? (fun x => x.queue == q.val && x.unit == u.val) = some x → s.burstStalled (medReq q.val u.val) = false →
      x.rows = 0 ∨ s.liveRow u.val = none → Completes (.medRequestComplete q u) s (fun t =>
      t.input.media = s.input.media.erase x ∧
      t.fld .medCounts Fld.medCounts_CONCEALED = (if x.status = 2 then satInc 32 (s.fld .medCounts Fld.medCounts_CONCEALED)
        else s.fld .medCounts Fld.medCounts_CONCEALED) ∧
      t.fld .medCounts Fld.medCounts_REFUSED = (if x.status = 3 ∨ x.status = 4 then satInc 32 (s.fld .medCounts Fld.medCounts_REFUSED)
        else s.fld .medCounts Fld.medCounts_REFUSED) ∧
      (x.irq = true → s.doms.pcie = true → t.pcie.pba.testBit 7 = true)))) ∧
  (∀ (q : Fin 8) (rows : Nat) (s : State) (n : Nat), n = encStream q →
    (q.val < 3 ∨ ((s.encOf n).frame = none ∧ (s.medNext q = none ∨ s.encEngine q = none)) → Completes (.videoEncode ⟨q, rows⟩) s (fun t => t = s)) ∧
    (∀ f, 3 ≤ q.val → (s.encOf n).frame = some f →
      (rows = 0 ∨ s.burstStalled (medReq 0 f.engine) = true → Completes (.videoEncode ⟨q, rows⟩) s (fun t => t = s)) ∧
      (s.burstStalled (medReq 0 f.engine) = false →
        (∀ m g c, s.liveRow f.engine = some m ∨ (s.liveRow f.engine = none ∧ s.decodeRow f.engine = none ∧ s.rowReady f.engine 4 = true ∧ m = 4) →
          (s.encOf m).frame = some g → m < s.input.enc.length → c = Config.encodedRow s.freeCtr g.row g.qp →
          (s.chunkPlace m (chunkBytes c.length) = none → Completes (.videoEncode ⟨q, 1⟩) s (fun t => t.mem = s.mem ∧
            t.input.media = s.input.media ∧ (t.encOf m).frame = some { g with payload := c, stalled := true })) ∧
          (∀ pl, s.chunkPlace m (chunkBytes c.length) = some pl → Completes (.videoEncode ⟨q, 1⟩) s (fun t =>
            t.input.media = s.input.media ∧ (∀ k, k ≠ m → t.encOf k = s.encOf k) ∧
            t.fld (.medEncPtr (Fin.ofNat 5 m)) Fld.medEncPtr_WR =
              (pl.1 + chunkBytes c.length) % (s.fld (.medEncOut (Fin.ofNat 5 m)) Fld.medEncOut_SIZE * 2 ^ 16) ∧
            (g.row + 1 = g.rows → (t.encOf m).frame = none) ∧
            (g.row + 1 ≠ g.rows → ∃ h, (t.encOf m).frame = some h ∧ h.row = g.row + 1 ∧ h.rows = g.rows ∧ h.stalled = false)))) ∧
        (∀ x, s.liveRow f.engine = none → s.decodeRow f.engine = some x → Completes (.videoEncode ⟨q, 1⟩) s (fun t => t.mem = s.mem ∧
          t.input.enc = s.input.enc ∧
          t.input.media = s.input.media.map (fun y => if y = x then { x with rows := x.rows - 1 } else y))) ∧
        (s.liveRow f.engine = none → s.decodeRow f.engine = none → s.rowReady f.engine 4 = false →
          Completes (.videoEncode ⟨q, rows⟩) s (fun t => t = s)))) ∧
    (∀ x key e eng, 3 ≤ q.val → s.medNext q = some x → s.encEngine q = some eng → (s.encOf n).frame = none → n < s.input.enc.length →
      key = (!(s.encOf n).started || bit (edFlags x) 1 || decide ((s.encOf n).gop ≤ (s.encOf n).sinceKey)) →
      e = (if key then (s.encOf n).keyed x else s.encOf n) →
      ((e.good && encPlaces x e) = false → Completes (.videoEncode ⟨q, rows⟩) s (fun t => t.input.enc = s.input.enc ∧
        t.fld (.medQptr q) Fld.medQptr_TAKEN = (s.fld (.medQptr q) Fld.medQptr_TAKEN + 1) % 1024)) ∧
      (∀ l c, (e.good && encPlaces x e) = true →
        l = (s.medTaken q).readBytes (medReq 0 eng) 0 (edLuma x) ((e.height - 1) * edPitch x + e.width) →
        c = l.2.2.readBytes (medReq 0 eng) 0 (edChroma x) ((e.height / 2 - 1) * edPitch x + e.width) → l.2.1 = .ok → c.2.1 = .ok →
        Completes (.videoEncode ⟨q, 0⟩) s (fun t => (t.encOf n).started = true ∧ (t.encOf n).codec = e.codec ∧ (t.encOf n).width = e.width ∧
          (t.encOf n).height = e.height ∧ t.fld (.medQptr q) Fld.medQptr_TAKEN = (s.fld (.medQptr q) Fld.medQptr_TAKEN + 1) % 1024 ∧
          ∃ g, (t.encOf n).frame = some g ∧ g.engine = eng ∧ g.row = 0 ∧ g.rows = (e.height + 63) / 64 ∧ g.stalled = false)))) ∧
  (∀ (n : Fin 5) (s : State),
    ((s.encOf n.val).frame = none → Completes (.encStallResume n) s (fun t => t = s)) ∧
    (∀ f, (s.encOf n.val).frame = some f →
      (f.stalled = false ∨ s.chunkPlace n.val (chunkBytes f.payload.length) = none → Completes (.encStallResume n) s (fun t => t = s)) ∧
      (∀ pl, f.stalled = true → s.chunkPlace n.val (chunkBytes f.payload.length) = some pl → f.row + 1 = f.rows → n.val < s.input.enc.length →
        Completes (.encStallResume n) s (fun t => (t.encOf n.val).frame = none ∧
          t.fld (.medEncStat n) Fld.medEncStat_FRAMES = (s.fld (.medEncStat n) Fld.medEncStat_FRAMES + 1) % 2 ^ 32 ∧
          t.fld (.medEncPtr n) Fld.medEncPtr_WR =
            (pl.1 + chunkBytes f.payload.length) % (s.fld (.medEncOut n) Fld.medEncOut_SIZE * 2 ^ 16))))) ∧
  (∀ s : State,
    (s.doms.main = true → s.isSet .medCtrl Fld.medCtrl_EN = true → Completes .medDisable s (fun t =>
      t.fld .medCtrl Fld.medCtrl_EN = 0 ∧ ∀ q, s.isSet (.medQbase q) Fld.medQbase_EN = true →
        t.fld (.medQptr q) Fld.medQptr_TAKEN = t.fld (.medQptr q) Fld.medQptr_SUBMIT)) ∧
    (s.isSet .medCtrl Fld.medCtrl_EN = false → Completes .medDisable s (fun t => t = s)))

/-- Tokenizers and generators take, run and complete their requests, and the check engines fold the streams they hold.
(R333, R336, R338, R339, R340, R341, R342, R344, R345, R346) -/
def Obligations.TokensDrawsAndCheckValues : Prop :=
  (∀ s : State,
    (s.tokNext = none ∨ freeOfFour s.input.tok = none → Completes .tokenize s (fun t => t = s)) ∧
    (∀ x u, s.tokNext = some x → freeOfFour s.input.tok = some u →
      (s.sampleAllowed (tdSample x) = false ∨ s.mustWaitAny [(tdSrc x, tdLen x)] = true → Completes .tokenize s (fun t => t = s)) ∧
      (s.sampleAllowed (tdSample x) = true → s.mustWaitAny [(tdSrc x, tdLen x)] = false → inHostWindow (tdSrc x) = false → Completes .tokenize s (fun t =>
        t.fld .tokQptr Fld.tokQptr_TAKEN = (s.fld .tokQptr Fld.tokQptr_TAKEN + 1) % 1024 ∧
        t.input.highSample = some (max (tdSample x) (s.input.highSample.getD 0)) ∧
        ∃ j, t.input.tok = s.input.tok ++ [j] ∧ j.unit = u ∧ j.tagAddr = tdTag x ∧ j.irq = bit (tdFlags x) 0 ∧
          (s.tokGood x = false → j.status = 4 ∧ t.mem = s.mem) ∧
          (∀ c o, s.tokGood x = true → s.decodeAddr (tdSrc x) = .moraine c o → tdSrc x % 64 = 0 → tdLen x ≤ 64 →
            s.isBad (s.moraineKey c o / 64 * 64) = true → j.status = 5)))) ∧
    (s.doms.main = true → s.isSet .tokCtrl Fld.tokCtrl_EN = true → Completes .tokDisable s (fun t => t.fld .tokCtrl Fld.tokCtrl_EN = 0 ∧
      (s.isSet .tokQbase Fld.tokQbase_EN = true → t.fld .tokQptr Fld.tokQptr_TAKEN = t.fld .tokQptr Fld.tokQptr_SUBMIT))) ∧
    (s.isSet .tokCtrl Fld.tokCtrl_EN = false → Completes .tokDisable s (fun t => t = s)) ∧
    (s.augReady = false ∨ freeOfFour s.input.aug = none → Completes .augFill s (fun t => t = s)) ∧
    (∀ u x, s.augReady = true → freeOfFour s.input.aug = some u →
      x = s.peek (s.augDesc (s.fld .augQptr Fld.augQptr_TAKEN)) 64 → Completes .augFill s (fun t =>
        t.fld .augQptr Fld.augQptr_TAKEN = (s.fld .augQptr Fld.augQptr_TAKEN + 1) % 1024 ∧
        (∃ j, t.input.aug = s.input.aug ++ [j] ∧ j.unit = u ∧ (s.augGood x = false → j.status = 4 ∧ t.mem = s.mem)) ∧
        (∀ c o bs, s.augGood x = true → s.memOk = true → s.decodeAddr (adDst x) = .moraine c o →
          bs = augElements (s.get (.augKey (Fin.ofNat 16 (adKey x)) 0)).toNat (s.get (.augKey (Fin.ofNat 16 (adKey x)) 1)).toNat x →
          bs.length ≤ 64 → t.mem.getN (s.moraineKey c o) bs.length = bs)))) ∧
  (∀ (u : Fin 4) (s : State),
    (s.input.tok.find? (fun x => x.unit == u.val) = none → Completes (.tokRequestComplete u) s (fun t => t = s)) ∧
    (s.input.aug.find? (fun x => x.unit == u.val) = none → Completes (.augRequestComplete u) s (fun t => t = s)) ∧
    (∀ x, s.input.tok.find? (fun x => x.unit == u.val) = some x → Completes (.tokRequestComplete u) s (fun t =>
      t.input.tok = s.input.tok.erase x ∧ (x.irq = true → s.doms.pcie = true → t.pcie.pba.testBit 9 = true) ∧
      t.fld .tokCounts Fld.tokCounts_REPLACED = (if bit x.buffers 0 then satInc 32 (s.fld .tokCounts Fld.tokCounts_REPLACED)
        else s.fld .tokCounts Fld.tokCounts_REPLACED) ∧
      t.fld .tokCounts Fld.tokCounts_TRUNCATED = (if bit x.buffers 1 then satInc 32 (s.fld .tokCounts Fld.tokCounts_TRUNCATED)
        else s.fld .tokCounts Fld.tokCounts_TRUNCATED))) ∧
    (∀ x, s.input.aug.find? (fun x => x.unit == u.val) = some x → Completes (.augRequestComplete u) s (fun t =>
      t.input.aug = s.input.aug.erase x ∧ (x.irq = true → s.doms.pcie = true → t.pcie.pba.testBit 10 = true)))) ∧
  (∀ (p : Fin 5) (tag : BitVec 16) (e : Fin 21) (s : State),
    (s.streamAt p.val tag.toNat false = none → Completes (.chkStreamOpen p tag) s (fun t => t = s)) ∧
    (s.streamAt p.val tag.toNat true = none → Completes (.chkStreamClose p tag) s (fun t => t = s)) ∧
    (∀ x, s.streamAt p.val tag.toNat false = some x → s.doms.main = true → s.isSet (chkCfg e) Fld.chkPointCfg_EN = true →
      s.chkPoint e = some p.val → chkFld s e Fld.chkPointCfg_TAG = tag.toNat → Completes (.chkStreamOpen p tag) s (fun t => t.mem = s.mem ∧
        (s.isSet (chkCfg e) Fld.chkPointCfg_HELD = true → chkFld t e Fld.chkPointCfg_MISSED = 1 ∧ t.get (chkState e) = s.get (chkState e)) ∧
        (s.isSet (chkCfg e) Fld.chkPointCfg_HELD = false → chkFld t e Fld.chkPointCfg_HELD = 1 ∧
          (s.isSet (chkCfg e) Fld.chkPointCfg_ACCUM = false → t.get (chkBytes e) = 0 ∧
            (t.get (chkState e)).toNat = (if s.chkWide e then 2 ^ 64 - 1 else 2 ^ 32 - 1))))) ∧
    (∀ x, s.streamAt p.val tag.toNat true = some x → s.input.held = [⟨e.val, x.id, 0⟩] → s.chkWide e = true →
      s.input.streams.find? (fun y => y.id == x.id) = some x → Completes (.chkStreamClose p tag) s (fun t => t.mem = s.mem ∧
        t.input.held = [] ∧ (∀ y ∈ t.input.streams, y.id ≠ x.id) ∧
        (t.get (chkResult e)).toNat = crcFold poly64 (s.get (chkState e)).toNat x.bytes ^^^ (2 ^ 64 - 1) ∧
        chkFld t e Fld.chkPointCfg_DONE = 1 ∧ chkFld t e Fld.chkPointCfg_HELD = 0 ∧
        (s.isSet (chkCfg e) Fld.chkPointCfg_DONE = true → chkFld t e Fld.chkPointCfg_OVERRUN = 1))) ∧
    (∀ (v : Word) (upto : Nat),
      (s.doms.main = false → ∀ b, Completes (.chkStateWrite e b v upto) s (fun t => t = s)) ∧
      (s.doms.main = true → s.input.held.find? (fun h => h.engine == e.val) = none →
        Completes (.chkStateWrite e true v upto) s (fun t => t.get (chkBytes e) = v ∧ t.get (chkState e) = s.get (chkState e)) ∧
        Completes (.chkStateWrite e false v upto) s (fun t => t.get (chkState e) = (if s.chkWide e then v
          else (s.get (chkState e) &&& 0xFFFFFFFF00000000) ||| (v &&& 0xFFFFFFFF)) ∧ t.get (chkBytes e) = s.get (chkBytes e)))))

/-- A software write of a register follows the access code of each field, ignores reserved bits, and does nothing in a
domain in reset. (R12, R14, R15, R16, R148, R174, R238, R414, R477) -/
def Obligations.RegisterWrites : Prop :=
  ∀ (r : Reg) (h : Half) (v same : Word) (s : State),
    (s.domainUp r.domain = false → Completes (.registerWrite r h ⟨v, same⟩) s (fun t => t = s)) ∧
    (s.domainUp r.domain = true →
      (r.plain = true → Completes (.registerWrite r h ⟨v, same⟩) s (fun t => t = s.set r (t.get r) ∧ ∀ i : Fin 64,
        (t.get r).getLsbD i.val = if h.covers i.val then (match r.accAt i.val with
          | some .rw => v.getLsbD i.val
          | some .rwl => if s.locked r then (s.get r).getLsbD i.val else v.getLsbD i.val
          | some .w1c => (s.get r).getLsbD i.val && (!v.getLsbD i.val || same.getLsbD i.val)
          | some .w1s => (s.get r).getLsbD i.val || v.getLsbD i.val
          | _ => (s.get r).getLsbD i.val) else (s.get r).getLsbD i.val)) ∧
      (r = .bcJobPlan ∨ r = .bcJobReport → s.noJob = false → Completes (.registerWrite r h ⟨v, same⟩) s (fun t => t.get r = s.get r)) ∧
      (∀ d k, r = .tcPc d k → s.isSet (.tcCtrl d k) Fld.tcCtrl_RUN = true →
        Completes (.registerWrite r h ⟨v, same⟩) s (fun t => t.get r = s.get r)) ∧
      (∀ d j, r = .trvPc d j → s.isSet (.trvCtrl d j) Fld.trvCtrl_RUN = true →
        Completes (.registerWrite r h ⟨v, same⟩) s (fun t => t.get r = s.get r)) ∧
      (r = .fltCtrl → h ≠ .low → 1000 < fget v Fld.fltCtrl_GRACE ∨ fget v Fld.fltCtrl_GRACE = 0 → Completes (.registerWrite r h ⟨v, same⟩) s (fun t =>
        t.fld .fltCtrl Fld.fltCtrl_GRACE = s.fld .fltCtrl Fld.fltCtrl_GRACE)))

/-- BC_IRQ_MSIP holds the software interrupts; a bit set and cleared in the same cycle stays set. (R381) -/
def Obligations.SoftwareInterruptSetWins : Prop :=
  ∀ (mask set : BitVec 24) (s : State), s.doms.main = true →
    Completes (.msipSet mask) s (fun t => t.fld .bcIrqMsip Fld.bcIrqMsip_MSIP = s.fld .bcIrqMsip Fld.bcIrqMsip_MSIP ||| mask.toNat ∧
      ∀ r : Reg, r ≠ .bcIrqMsip → t.get r = s.get r) ∧
    Completes (.msipClear mask set) s (fun t => (∀ r : Reg, r ≠ .bcIrqMsip → t.get r = s.get r) ∧ ∀ i : Fin 24,
      (set.getLsbD i.val = true → (t.readReg .bcIrqMsip).getLsbD i.val = true) ∧
      (set.getLsbD i.val = false → mask.getLsbD i.val = true → (t.readReg .bcIrqMsip).getLsbD i.val = false) ∧
      (set.getLsbD i.val = false → mask.getLsbD i.val = false →
        (t.readReg .bcIrqMsip).getLsbD i.val = (s.readReg .bcIrqMsip).getLsbD i.val))

/-- An address of the register area that nothing occupies is a reserved offset: it reads as zero, ignores writes, and
writes no fault record. (R474) -/
def Obligations.ReservedOffsetsOfTheRegisterArea : Prop :=
  ∀ (a : BitVec 48) (s : State), regBase ≤ a.toNat → a.toNat < regEnd → Reg.ofAddr (a.toNat / 8 * 8) = none →
    s.decodeAddr a.toNat ≠ .unmapped ∧
    (∀ (r : Requester) (len : Nat) (data : Option (List Byte)), Completes (.unmappedAccess r a.toNat len data) s (fun t => t = s)) ∧
    (∀ (r : Requester) (owner n : Nat) (bs : List Byte), s.readBlock r owner a.toNat n = (zeros n, .ok, s) ∧
      s.writeBlock r owner a.toNat bs = (.ok, s)) ∧
    (∀ (h : Fin 24) (size : Fin 4), s.hartRuns h = true →
      (∀ data : Option Word, Completes (.hartIoAccess h a size data) s (fun t => t.faults = s.faults)) ∧
      (2 ≤ size.val → a.toNat % 2 ^ size.val = 0 →
        Completes (.hartIoAccess h a size none) s (fun t => t = s.emit (.hartData h.val (zeros (2 ^ size.val)))) ∧
        ∀ v : Word, Completes (.hartIoAccess h a size (some v)) s (fun t => t = s))) ∧
    (∀ (off : BitVec 29) (len : Nat), off.toNat = a.toNat - regBase →
      (∀ (whole : Bool) (data : Option Word), Completes (.bar0Access off len whole data) s (fun t => t.faults = s.faults)) ∧
      (len = 4 ∨ len = 8 → off.toNat % len = 0 → s.linkUp = true → s.pcie.d3hot = false → s.pcie.memEnable = true →
        Completes (.bar0Access off len true none) s (fun t => t = s.emit (.completion .success (zeros len))) ∧
        ∀ v : Word, Completes (.bar0Access off len true (some v)) s (fun t => t = s)))

/-- An unmapped access reads zeros, discards the write, and writes a UCC record; the ranges of the tiers are mapped in
full. (R62) -/
def Obligations.UnmappedAccesses : Prop :=
  (∀ (r : Requester) (a : Nat) (s : State), s.decodeAddr a = .unmapped →
    (∀ len : Nat, Completes (.unmappedAccess r a len none) s (fun t => t.mem = s.mem ∧
      t.out = s.out ++ [.readData r a .unmapped (zeros len)] ∧ ∃ e, t.faults.queue = s.faults.queue ++ [e] ∧
        e.cls = .ucc ∧ e.die = r.die ∧ e.block = r.block ∧ e.inst = r.inst ∧ e.addr = a)) ∧
    (∀ (len : Nat) (bs : List Byte), Completes (.unmappedAccess r a len (some bs)) s (fun t => t.mem = s.mem ∧
      t.out = s.out ++ [.writeDone r a .unmapped] ∧ ∃ e, t.faults.queue = s.faults.queue ++ [e] ∧
        e.cls = .ucc ∧ e.die = r.die ∧ e.block = r.block ∧ e.inst = r.inst ∧ e.addr = a)) ∧
    (∀ (owner n : Nat) (bs : List Byte), (s.readBlock r owner a n).1 = zeros n ∧ (s.readBlock r owner a n).2.1 = .unmapped ∧
      (s.readBlock r owner a n).2.2 = s.ucc r 0x0102 a 0 ∧ s.writeBlock r owner a bs = (.unmapped, s.ucc r 0x0102 a 0))) ∧
  (∀ (a : Nat) (s : State), a < 0x8000000000 ∨ (0x100000000000 ≤ a ∧ a < 0x130000000000) ∨
    (0x200000000000 ≤ a ∧ a < 0x200040000000 ∧ a % 0x10000000 < 0xC000000) ∨ (0x400000000000 ≤ a ∧ a < 0x800000000000) →
    s.decodeAddr a ≠ .unmapped)

/-- Each command changes only the parts of the state that its row of mayChange lists, and never the queue.
(95_what_each_step_holds.md) -/
def Obligations.FrameOfEveryCommand : Prop :=
  ∀ c : Instr, ChangesOnly (mayChange c) c
end

