-- ==== Sys2Proof/Laws/Memory.lean ====
section
/-! SUPPORT. Reading back what was written, and the canonical form: every operation of Machine/Memory.lean keeps it. -/

namespace Sys2Proof.Machine

/-- Every listed address lies above `k`. -/
def cellsAbove (k : Nat) (l : List Host.Cell) : Prop := ∀ c ∈ l, k < c.1

theorem cellsSorted_cons {c : Host.Cell} {l : List Host.Cell} :
    cellsSorted (c :: l) = true ↔ cellsAbove c.1 l ∧ cellsSorted l = true := by
  induction l generalizing c with
  | nil => simp [cellsSorted, cellsAbove]
  | cons d l ih =>
    simp only [cellsSorted, Bool.and_eq_true, decide_eq_true_eq, cellsAbove, List.mem_cons, forall_eq_or_imp]
    refine ⟨fun h => ⟨⟨h.1, fun e he => h.1.trans ((ih.1 h.2).1 e he)⟩, h.2⟩, fun h => ⟨h.1.1, h.2⟩⟩

theorem cellsGet_none {l : List Host.Cell} {k : Nat} (h : ∀ c ∈ l, c.1 ≠ k) : cellsGet l k = none := by
  induction l with
  | nil => rfl
  | cons c l ih =>
    rw [cellsGet, if_neg (h c List.mem_cons_self)]
    exact ih fun d hd => h d (List.mem_cons_of_mem _ hd)

theorem cellsGet_put_same (l : List Host.Cell) (k : Nat) (b : Byte) : cellsGet (cellsPut l k b) k = some b := by
  induction l with
  | nil => simp [cellsPut, cellsGet]
  | cons c l ih =>
    unfold cellsPut
    split
    · simp [cellsGet]
    · split
      · simp [cellsGet]
      · rename_i h
        rw [cellsGet, if_neg (fun e => h e.symm)]
        exact ih

theorem cellsGet_put_other (l : List Host.Cell) {k j : Nat} (b : Byte) (h : j ≠ k) : cellsGet (cellsPut l k b) j = cellsGet l j := by
  induction l with
  | nil => simp [cellsPut, cellsGet, h.symm]
  | cons c l ih =>
    unfold cellsPut
    split
    · simp [cellsGet, h.symm]
    · split
      · rename_i e
        simp [cellsGet, h.symm, ← e]
      · simp only [cellsGet, ih]

theorem cellsGet_del_same {l : List Host.Cell} (h : cellsSorted l = true) (k : Nat) : cellsGet (cellsDel l k) k = none := by
  induction l with
  | nil => rfl
  | cons c l ih =>
    unfold cellsDel
    split
    · rename_i e
      exact cellsGet_none fun d hd => Nat.ne_of_gt (e ▸ (cellsSorted_cons.1 h).1 d hd)
    · rename_i e
      rw [cellsGet, if_neg e]
      exact ih (cellsSorted_cons.1 h).2

theorem cellsGet_del_other (l : List Host.Cell) {k j : Nat} (h : j ≠ k) : cellsGet (cellsDel l k) j = cellsGet l j := by
  induction l with
  | nil => rfl
  | cons c l ih =>
    unfold cellsDel
    split
    · rename_i e
      simp [cellsGet, e, h.symm]
    · simp only [cellsGet, ih]

theorem mem_cellsPut {l : List Host.Cell} {k : Nat} {b : Byte} {c : Host.Cell} (h : c ∈ cellsPut l k b) : c = (k, b) ∨ c ∈ l := by
  induction l with
  | nil => exact .inl (List.mem_singleton.1 h)
  | cons d l ih =>
    unfold cellsPut at h
    split at h
    · simpa using h
    · split at h
      · rcases List.mem_cons.1 h with h | h
        · exact .inl h
        · exact .inr (List.mem_cons_of_mem _ h)
      · rcases List.mem_cons.1 h with h | h
        · exact .inr (h ▸ List.mem_cons_self)
        · exact (ih h).imp id (List.mem_cons_of_mem _)

theorem mem_cellsDel {l : List Host.Cell} {k : Nat} {c : Host.Cell} (h : c ∈ cellsDel l k) : c ∈ l := by
  induction l with
  | nil => exact h
  | cons d l ih =>
    unfold cellsDel at h
    split at h
    · exact List.mem_cons_of_mem _ h
    · rcases List.mem_cons.1 h with h | h
      · exact h ▸ List.mem_cons_self
      · exact List.mem_cons_of_mem _ (ih h)

theorem cellsPut_sorted {l : List Host.Cell} (h : cellsSorted l = true) (k : Nat) (b : Byte) : cellsSorted (cellsPut l k b) = true := by
  induction l with
  | nil => rfl
  | cons c l ih =>
    have hc := cellsSorted_cons.1 h
    unfold cellsPut
    split
    · rename_i hk
      exact cellsSorted_cons.2 ⟨fun d hd => by
        rcases List.mem_cons.1 hd with rfl | hd
        · exact hk
        · exact hk.trans (hc.1 d hd), h⟩
    · split
      · rename_i hk
        exact cellsSorted_cons.2 ⟨hk ▸ hc.1, hc.2⟩
      · rename_i hk he
        refine cellsSorted_cons.2 ⟨fun d hd => ?_, ih hc.2⟩
        rcases mem_cellsPut hd with rfl | hd
        · exact Nat.lt_of_le_of_ne (Nat.le_of_not_lt hk) (fun e => he e.symm)
        · exact hc.1 d hd

theorem cellsDel_sorted {l : List Host.Cell} (h : cellsSorted l = true) (k : Nat) : cellsSorted (cellsDel l k) = true := by
  induction l with
  | nil => rfl
  | cons c l ih =>
    have hc := cellsSorted_cons.1 h
    unfold cellsDel
    split
    · exact hc.2
    · exact cellsSorted_cons.2 ⟨fun d hd => hc.1 d (mem_cellsDel hd), ih hc.2⟩

theorem cellsFilter_sorted {l : List Host.Cell} (h : cellsSorted l = true) (p : Host.Cell → Bool) : cellsSorted (l.filter p) = true := by
  induction l with
  | nil => rfl
  | cons c l ih =>
    have hc := cellsSorted_cons.1 h
    rw [List.filter_cons]
    split
    · exact cellsSorted_cons.2 ⟨fun d hd => hc.1 d (List.mem_of_mem_filter hd), ih hc.2⟩
    · exact ih hc.2

theorem Mem.wf_iff {m : Mem} : m.wf = true ↔ cellsSorted m.cells = true ∧ ∀ c ∈ m.cells, c.2 ≠ m.blank c.1 := by
  simp [Mem.wf]

/-- What an unlisted byte reads as depends on the losses alone. -/
theorem Mem.blank_congr {m n : Mem} (k : Nat) (h : n.era k = m.era k) : n.blank k = m.blank k := by
  unfold Mem.blank
  rw [h]

theorem Mem.set_eras (m : Mem) (k : Nat) (b : Byte) : (m.set k b).eras = m.eras := by unfold Mem.set; split <;> rfl

theorem Mem.set_blank (m : Mem) (k : Nat) (b : Byte) (j : Nat) : (m.set k b).blank j = m.blank j :=
  Mem.blank_congr j (by unfold Mem.era; rw [Mem.set_eras])

theorem Mem.set_wf {m : Mem} (h : m.wf = true) (k : Nat) (b : Byte) : (m.set k b).wf = true := by
  obtain ⟨hs, hb⟩ := Mem.wf_iff.1 h
  refine Mem.wf_iff.2 ⟨?_, fun c hc => ?_⟩
  · unfold Mem.set
    split
    · exact cellsDel_sorted hs k
    · exact cellsPut_sorted hs k b
  · rw [Mem.set_blank]
    unfold Mem.set at hc
    split at hc
    · exact hb c (mem_cellsDel hc)
    · rename_i hk
      rcases mem_cellsPut hc with rfl | hc
      · exact hk
      · exact hb c hc

theorem Mem.setN_wf {m : Mem} (h : m.wf = true) (k : Nat) (bs : List Byte) : (m.setN k bs).wf = true := by
  induction bs generalizing m k with
  | nil => exact h
  | cons b bs ih => exact ih (Mem.set_wf h k b) (k + 1)

/-- A byte reads as what was last written to it. -/
theorem Mem.get_set_same {m : Mem} (h : m.wf = true) (k : Nat) (b : Byte) : (m.set k b).get k = b := by
  have hb := Mem.set_blank m k b k
  unfold Mem.get
  rw [hb]
  unfold Mem.set
  split
  · rename_i e
    simp only [cellsGet_del_same (Mem.wf_iff.1 h).1]
    exact e.symm
  · simp only [cellsGet_put_same]
    rfl

/-- A write leaves every other byte. -/
theorem Mem.get_set_other (m : Mem) {k j : Nat} (b : Byte) (h : j ≠ k) : (m.set k b).get j = m.get j := by
  have hb := Mem.set_blank m k b j
  unfold Mem.get
  rw [hb]
  unfold Mem.set
  split
  · simp only [cellsGet_del_other _ h]
  · simp only [cellsGet_put_other _ _ h]

theorem Mem.get_setN_other (m : Mem) (k : Nat) (bs : List Byte) {j : Nat} (h : j < k ∨ k + bs.length ≤ j) :
    (m.setN k bs).get j = m.get j := by
  induction bs generalizing m k with
  | nil => rfl
  | cons b bs ih =>
    simp only [List.length_cons] at h
    rw [Mem.setN, ih _ _ (by omega), Mem.get_set_other _ _ (by omega)]

theorem Mem.get_setN_in {m : Mem} (h : m.wf = true) (k : Nat) (bs : List Byte) (i : Nat) (hi : i < bs.length) :
    (m.setN k bs).get (k + i) = bs[i] := by
  induction bs generalizing m k i with
  | nil => exact absurd hi (Nat.not_lt_zero _)
  | cons b bs ih =>
    cases i with
    | zero =>
      rw [Mem.setN, Mem.get_setN_other _ _ _ (by omega)]
      exact Mem.get_set_same h k b
    | succ i =>
      rw [Mem.setN, show k + (i + 1) = k + 1 + i by omega]
      exact ih (Mem.set_wf h k b) (k + 1) i (Nat.lt_of_succ_lt_succ hi)

/-- Dropping the cells of one region keeps the canonical form when only that region's era changes. -/
theorem Mem.drop_wf {m : Mem} (h : m.wf = true) {r : Nat} {es : List Nat} (he : ∀ i, i ≠ r → es.getD i 0 = m.eras.getD i 0) :
    ({ cells := m.cells.filter (fun c => memRegion c.1 != r), eras := es } : Mem).wf = true := by
  obtain ⟨hs, hb⟩ := Mem.wf_iff.1 h
  refine Mem.wf_iff.2 ⟨cellsFilter_sorted hs _, fun c hc => ?_⟩
  obtain ⟨hm, hr⟩ := List.mem_filter.1 hc
  have e := he (memRegion c.1) (by simpa using hr)
  rw [Mem.blank_congr (m := m) (n := ⟨_, es⟩) c.1 e]
  exact hb c hm

theorem Mem.lose_wf {m : Mem} (h : m.wf = true) (r : Nat) : (m.lose r).wf = true :=
  Mem.drop_wf h fun i hi => by
    simp only [List.getD_eq_getElem?_getD, List.getElem?_set, if_neg (fun e : r = i => hi e.symm)]
    by_cases hl : i < m.eras.length
    · rw [List.getElem?_append_left hl]
    · rw [List.getElem?_append_right (Nat.le_of_not_lt hl), List.getElem?_replicate, List.getElem?_eq_none (Nat.le_of_not_lt hl)]
      split <;> rfl

theorem Mem.loseAll_wf {m : Mem} (h : m.wf = true) (rs : List Nat) : (m.loseAll rs).wf = true := by
  induction rs generalizing m with
  | nil => exact h
  | cons r rs ih => exact ih (Mem.lose_wf h r)

theorem Mem.zero_wf {m : Mem} (h : m.wf = true) (r : Nat) : (m.zero r).wf = true :=
  Mem.drop_wf h fun i hi => by
    simp only [List.getD_eq_getElem?_getD, List.getElem?_set, if_neg (fun e : r = i => hi e.symm)]

/-- Dropping cells keeps the canonical form. -/
theorem Mem.filter_wf {m : Mem} (h : m.wf = true) (p : Host.Cell → Bool) :
    ({ m with cells := m.cells.filter p } : Mem).wf = true := by
  obtain ⟨hs, hb⟩ := Mem.wf_iff.1 h
  exact Mem.wf_iff.2 ⟨cellsFilter_sorted hs _, fun c hc => hb c (List.mem_filter.1 hc).1⟩

end Sys2Proof.Machine
end

