-- ==== Sys2Proof/Laws/Frames.lean ====
section
/-! SUPPORT. Frames with the parts that may change as a bit mask, and the rules by which the frame of a meaning follows from
the frames of what it calls. -/

namespace Sys2Proof.Machine

/-- A mask holds the bit of a group. -/
def Block.inMask (m : Nat) : Block → Bool
  | .hk => m.testBit 29
  | .pwr => m.testBit 30
  | .flt => m.testBit 31
  | .nt => m.testBit 32
  | .mor => m.testBit 33
  | .med => m.testBit 34
  | .tok => m.testBit 35
  | .aug => m.testBit 36
  | .chk => m.testBit 37
  | .bc => m.testBit 38
  | .tc => m.testBit 39
  | .tcr => m.testBit 40
  | .trv => m.testBit 41
  | .fb => m.testBit 42
  | .opt => m.testBit 43
  | .ldg => m.testBit 44
  | .col => m.testBit 45
  | .rope => m.testBit 46
  | .ropec => m.testBit 47

/-- A mask holds the bit of a part. -/
def Part.inMask (m : Nat) : Part → Bool
  | .mem => m.testBit 0
  | .a0 => m.testBit 1
  | .time => m.testBit 2
  | .freeCtr => m.testBit 3
  | .out => m.testBit 4
  | .rails => m.testBit 5
  | .clocks => m.testBit 6
  | .doms => m.testBit 7
  | .boot => m.testBit 8
  | .images => m.testBit 9
  | .repair => m.testBit 10
  | .faults => m.testBit 11
  | .dict => m.testBit 12
  | .power => m.testBit 13
  | .camp => m.testBit 14
  | .pcie => m.testBit 15
  | .tiers => m.testBit 16
  | .ledge => m.testBit 17
  | .restart => m.testBit 18
  | .job => m.testBit 19
  | .input => m.testBit 20
  | .kv => m.testBit 21
  | .tensor => m.testBit 22
  | .trv => m.testBit 23
  | .det => m.testBit 24
  | .opt => m.testBit 25
  | .col => m.testBit 26
  | .ports => m.testBit 27
  | .rope => m.testBit 28
  | .regs b => b.inMask m

/-- Only the parts whose bits a mask holds may differ; the queue is the same, and storage keeps its canonical form. -/
def Frames (m : Nat) (s t : State) : Prop :=
  t.pending = s.pending ∧ (s.mem.wf = true → t.mem.wf = true) ∧ ∀ p : Part, p.inMask m = false → p.same s t

/-- The frame of an outcome: of the next state, if there is one. -/
def FramesOut (m : Nat) (s : State) (o : Host.Outcome State Fault Refusal) : Prop := ∀ t, o = .next t → Frames m s t

theorem Part.same_refl (p : Part) (s : State) : p.same s s := by cases p <;> first | rfl | exact fun _ _ => rfl

theorem Part.same_trans {p : Part} {s t u : State} (h : p.same s t) (k : p.same t u) : p.same s u := by
  cases p with
  | regs b => exact fun r hr => (k r hr).trans (h r hr)
  | _ => exact Eq.trans k h

theorem Frames.refl (m : Nat) (s : State) : Frames m s s := ⟨rfl, id, fun p _ => p.same_refl s⟩

theorem Frames.trans {m : Nat} {s t u : State} (h : Frames m s t) (k : Frames m t u) : Frames m s u :=
  ⟨k.1.trans h.1, k.2.1 ∘ h.2.1, fun p hp => Part.same_trans (h.2.2 p hp) (k.2.2 p hp)⟩

theorem Block.inMask_land (l m : Nat) (b : Block) : b.inMask (l &&& m) = (b.inMask l && b.inMask m) := by
  cases b <;> exact Nat.testBit_land ..

theorem Part.inMask_land (l m : Nat) (p : Part) : p.inMask (l &&& m) = (p.inMask l && p.inMask m) := by
  cases p with
  | regs b => exact b.inMask_land l m
  | _ => exact Nat.testBit_land ..

theorem Frames.mono {l m : Nat} {s t : State} (k : Frames l s t) (hs : l &&& m = l) : Frames m s t :=
  ⟨k.1, k.2.1, fun p hp => k.2.2 p (by rw [← hs, Part.inMask_land, hp, Bool.and_false])⟩

/-- A call whose frame is known, after a state whose frame is known. -/
theorem Frames.step {l m : Nat} {s t u : State} (k : Frames l t u) (hs : l &&& m = l) (h : Frames m s t) : Frames m s u :=
  h.trans (k.mono hs)

theorem Frames.ite {m : Nat} {s : State} {c : Prop} {_ : Decidable c} {a b : State} (h : Frames m s a) (k : Frames m s b) :
    Frames m s (if c then a else b) := by split <;> assumption

theorem Frames.iteSnd {α : Type} {m : Nat} {s : State} {c : Prop} {_ : Decidable c} {a b : α × State} (h : Frames m s a.2)
    (k : Frames m s b.2) : Frames m s (if c then a else b).2 := by split <;> assumption

theorem Frames.iteSnd2 {α β : Type} {m : Nat} {s : State} {c : Prop} {_ : Decidable c} {a b : α × β × State}
    (h : Frames m s a.2.2) (k : Frames m s b.2.2) : Frames m s (if c then a else b).2.2 := by split <;> assumption

theorem Frames.iteFst {α : Type} {m : Nat} {s : State} {c : Prop} {_ : Decidable c} {a b : State × α} (h : Frames m s a.1)
    (k : Frames m s b.1) : Frames m s (if c then a else b).1 := by split <;> assumption

theorem FramesOut.mono {l m : Nat} {s : State} {o : Host.Outcome State Fault Refusal} (k : FramesOut l s o)
    (hs : l &&& m = l) : FramesOut m s o := fun t h => (k t h).mono hs

theorem FramesOut.ite {m : Nat} {s : State} {c : Prop} {_ : Decidable c} {a b : Host.Outcome State Fault Refusal}
    (h : FramesOut m s a) (k : FramesOut m s b) : FramesOut m s (if c then a else b) := by split <;> assumption

theorem Frames.foldl {α : Type} {m : Nat} {s t : State} {f : State → α → State} {l : List α}
    (k : ∀ t x, Frames m t (f t x)) (h : Frames m s t) : Frames m s (l.foldl f t) := by
  induction l generalizing t with
  | nil => exact h
  | cons x l ih => exact ih (h.trans (k t x))

theorem Frames.foldlMem {α : Type} {m : Nat} {s t : State} {f : State → α → State} {l : List α}
    (k : ∀ t x, x ∈ l → Frames m t (f t x)) (h : Frames m s t) : Frames m s (l.foldl f t) := by
  induction l generalizing t with
  | nil => exact h
  | cons x l ih => exact ih (fun t y hy => k t y (List.mem_cons_of_mem _ hy)) (h.trans (k t x List.mem_cons_self))

theorem Frames.foldlSnd {α β : Type} {m : Nat} {s : State} {f : β × State → α → β × State} {l : List α} {p : β × State}
    (k : ∀ t x, Frames m t.2 (f t x).2) (h : Frames m s p.2) : Frames m s (l.foldl f p).2 := by
  induction l generalizing p with
  | nil => exact h
  | cons x l ih => exact ih (h.trans (k p x))

theorem Frames.ofFst {α : Type} {m : Nat} {s t : State} {a : α} {p : State × α} (e : p = (t, a)) (h : Frames m s p.1) :
    Frames m s t := by
  subst e
  exact h

theorem Frames.ofSnd {α : Type} {m : Nat} {s t : State} {a : α} {p : α × State} (e : p = (a, t)) (h : Frames m s p.2) :
    Frames m s t := by
  subst e
  exact h

theorem FramesOut.next {m : Nat} {s t : State} (h : Frames m s t) : FramesOut m s (.next t) := by
  intro u hu; cases hu; exact h

theorem assocGet_assocSet {κ α : Type} [DecidableEq κ] (l : List (κ × α)) (k k' : κ) (v : α) :
    assocGet (assocSet l k v) k' = if k = k' then some v else assocGet l k' := by
  induction l with
  | nil => by_cases h : k = k' <;> simp [assocSet, assocGet, h]
  | cons e l ih =>
    obtain ⟨a, b⟩ := e
    by_cases h : a = k
    · subst h
      by_cases h' : a = k' <;> simp [assocSet, assocGet, h']
    · by_cases h' : a = k'
      · subst h'
        have hk : k ≠ a := fun x => h x.symm
        simp [assocSet, assocGet, h, hk]
      · simp [assocSet, assocGet, h, h', ih]

theorem State.get_set (s : State) (r r' : Reg) (w : Word) : (s.set r w).get r' = if r = r' then w else s.get r' := by
  unfold State.get State.set
  dsimp only
  rw [assocGet_assocSet]
  split <;> rfl

theorem Frames.set {m : Nat} {s t : State} {r : Reg} {v : Word} (hm : r.block.inMask m = true) (h : Frames m s t) :
    Frames m s (t.set r v) := by
  refine h.trans ⟨rfl, id, fun p hp => ?_⟩
  cases p with
  | regs b =>
    intro r' hr'
    rw [State.get_set, if_neg]
    intro e
    subst e
    have hp' : b.inMask m = false := hp
    rw [← hr', hm] at hp'
    cases hp'
  | _ => rfl

theorem Frames.put {m : Nat} {s t : State} {r : Reg} {f : Fld} {v : Nat} (hm : r.block.inMask m = true)
    (h : Frames m s t) : Frames m s (t.put r f v) := h.set hm

theorem Frames.bump {m : Nat} {s t : State} {r : Reg} {f : Fld} (hm : r.block.inMask m = true)
    (h : Frames m s t) : Frames m s (t.bump r f) := h.set hm

theorem Frames.addf {m : Nat} {s t : State} {r : Reg} {f : Fld} {n : Nat} (hm : r.block.inMask m = true)
    (h : Frames m s t) : Frames m s (t.addf r f n) := h.set hm

theorem Frames.mem {m : Nat} {s t : State} {x : Mem} (hm : m.testBit 0 = true) (h : Frames m s t)
    (hw : t.mem.wf = true → x.wf = true) :
    Frames m s { t with mem := x } := by
  refine h.trans ⟨rfl, hw, fun p hp => ?_⟩
  cases p with
  | mem => exact absurd (hp.symm.trans hm) Bool.false_ne_true
  | regs b => exact fun _ _ => rfl
  | _ => rfl

theorem Frames.a0 {m : Nat} {s t : State} {x : Bool} (hm : m.testBit 1 = true) (h : Frames m s t) :
    Frames m s { t with a0 := x } := by
  refine h.trans ⟨rfl, id, fun p hp => ?_⟩
  cases p with
  | a0 => exact absurd (hp.symm.trans hm) Bool.false_ne_true
  | regs b => exact fun _ _ => rfl
  | _ => rfl

theorem Frames.time {m : Nat} {s t : State} {x : Word} (hm : m.testBit 2 = true) (h : Frames m s t) :
    Frames m s { t with time := x } := by
  refine h.trans ⟨rfl, id, fun p hp => ?_⟩
  cases p with
  | time => exact absurd (hp.symm.trans hm) Bool.false_ne_true
  | regs b => exact fun _ _ => rfl
  | _ => rfl

theorem Frames.freeCtr {m : Nat} {s t : State} {x : Nat} (hm : m.testBit 3 = true) (h : Frames m s t) :
    Frames m s { t with freeCtr := x } := by
  refine h.trans ⟨rfl, id, fun p hp => ?_⟩
  cases p with
  | freeCtr => exact absurd (hp.symm.trans hm) Bool.false_ne_true
  | regs b => exact fun _ _ => rfl
  | _ => rfl

theorem Frames.out {m : Nat} {s t : State} {x : List Output} (hm : m.testBit 4 = true) (h : Frames m s t) :
    Frames m s { t with out := x } := by
  refine h.trans ⟨rfl, id, fun p hp => ?_⟩
  cases p with
  | out => exact absurd (hp.symm.trans hm) Bool.false_ne_true
  | regs b => exact fun _ _ => rfl
  | _ => rfl

theorem Frames.rails {m : Nat} {s t : State} {x : Rails} (hm : m.testBit 5 = true) (h : Frames m s t) :
    Frames m s { t with rails := x } := by
  refine h.trans ⟨rfl, id, fun p hp => ?_⟩
  cases p with
  | rails => exact absurd (hp.symm.trans hm) Bool.false_ne_true
  | regs b => exact fun _ _ => rfl
  | _ => rfl

theorem Frames.clocks {m : Nat} {s t : State} {x : Clocks} (hm : m.testBit 6 = true) (h : Frames m s t) :
    Frames m s { t with clocks := x } := by
  refine h.trans ⟨rfl, id, fun p hp => ?_⟩
  cases p with
  | clocks => exact absurd (hp.symm.trans hm) Bool.false_ne_true
  | regs b => exact fun _ _ => rfl
  | _ => rfl

theorem Frames.doms {m : Nat} {s t : State} {x : Domains} (hm : m.testBit 7 = true) (h : Frames m s t) :
    Frames m s { t with doms := x } := by
  refine h.trans ⟨rfl, id, fun p hp => ?_⟩
  cases p with
  | doms => exact absurd (hp.symm.trans hm) Bool.false_ne_true
  | regs b => exact fun _ _ => rfl
  | _ => rfl

theorem Frames.boot {m : Nat} {s t : State} {x : BootState} (hm : m.testBit 8 = true) (h : Frames m s t) :
    Frames m s { t with boot := x } := by
  refine h.trans ⟨rfl, id, fun p hp => ?_⟩
  cases p with
  | boot => exact absurd (hp.symm.trans hm) Bool.false_ne_true
  | regs b => exact fun _ _ => rfl
  | _ => rfl

theorem Frames.images {m : Nat} {s t : State} {x : ImageState} (hm : m.testBit 9 = true) (h : Frames m s t) :
    Frames m s { t with images := x } := by
  refine h.trans ⟨rfl, id, fun p hp => ?_⟩
  cases p with
  | images => exact absurd (hp.symm.trans hm) Bool.false_ne_true
  | regs b => exact fun _ _ => rfl
  | _ => rfl

theorem Frames.repair {m : Nat} {s t : State} {x : RepairState} (hm : m.testBit 10 = true) (h : Frames m s t) :
    Frames m s { t with repair := x } := by
  refine h.trans ⟨rfl, id, fun p hp => ?_⟩
  cases p with
  | repair => exact absurd (hp.symm.trans hm) Bool.false_ne_true
  | regs b => exact fun _ _ => rfl
  | _ => rfl

theorem Frames.faults {m : Nat} {s t : State} {x : FaultState} (hm : m.testBit 11 = true) (h : Frames m s t) :
    Frames m s { t with faults := x } := by
  refine h.trans ⟨rfl, id, fun p hp => ?_⟩
  cases p with
  | faults => exact absurd (hp.symm.trans hm) Bool.false_ne_true
  | regs b => exact fun _ _ => rfl
  | _ => rfl

theorem Frames.dict {m : Nat} {s t : State} {x : DictState} (hm : m.testBit 12 = true) (h : Frames m s t) :
    Frames m s { t with dict := x } := by
  refine h.trans ⟨rfl, id, fun p hp => ?_⟩
  cases p with
  | dict => exact absurd (hp.symm.trans hm) Bool.false_ne_true
  | regs b => exact fun _ _ => rfl
  | _ => rfl

theorem Frames.power {m : Nat} {s t : State} {x : PowerState} (hm : m.testBit 13 = true) (h : Frames m s t) :
    Frames m s { t with power := x } := by
  refine h.trans ⟨rfl, id, fun p hp => ?_⟩
  cases p with
  | power => exact absurd (hp.symm.trans hm) Bool.false_ne_true
  | regs b => exact fun _ _ => rfl
  | _ => rfl

theorem Frames.camp {m : Nat} {s t : State} {x : BasecampState} (hm : m.testBit 14 = true) (h : Frames m s t) :
    Frames m s { t with camp := x } := by
  refine h.trans ⟨rfl, id, fun p hp => ?_⟩
  cases p with
  | camp => exact absurd (hp.symm.trans hm) Bool.false_ne_true
  | regs b => exact fun _ _ => rfl
  | _ => rfl

theorem Frames.pcie {m : Nat} {s t : State} {x : PcieState} (hm : m.testBit 15 = true) (h : Frames m s t) :
    Frames m s { t with pcie := x } := by
  refine h.trans ⟨rfl, id, fun p hp => ?_⟩
  cases p with
  | pcie => exact absurd (hp.symm.trans hm) Bool.false_ne_true
  | regs b => exact fun _ _ => rfl
  | _ => rfl

theorem Frames.tiers {m : Nat} {s t : State} {x : TierState} (hm : m.testBit 16 = true) (h : Frames m s t) :
    Frames m s { t with tiers := x } := by
  refine h.trans ⟨rfl, id, fun p hp => ?_⟩
  cases p with
  | tiers => exact absurd (hp.symm.trans hm) Bool.false_ne_true
  | regs b => exact fun _ _ => rfl
  | _ => rfl

theorem Frames.ledge {m : Nat} {s t : State} {x : List LedgeState} (hm : m.testBit 17 = true) (h : Frames m s t) :
    Frames m s { t with ledge := x } := by
  refine h.trans ⟨rfl, id, fun p hp => ?_⟩
  cases p with
  | ledge => exact absurd (hp.symm.trans hm) Bool.false_ne_true
  | regs b => exact fun _ _ => rfl
  | _ => rfl

theorem Frames.restart {m : Nat} {s t : State} {x : RestartState} (hm : m.testBit 18 = true) (h : Frames m s t) :
    Frames m s { t with restart := x } := by
  refine h.trans ⟨rfl, id, fun p hp => ?_⟩
  cases p with
  | restart => exact absurd (hp.symm.trans hm) Bool.false_ne_true
  | regs b => exact fun _ _ => rfl
  | _ => rfl

theorem Frames.job {m : Nat} {s t : State} {x : JobState} (hm : m.testBit 19 = true) (h : Frames m s t) :
    Frames m s { t with job := x } := by
  refine h.trans ⟨rfl, id, fun p hp => ?_⟩
  cases p with
  | job => exact absurd (hp.symm.trans hm) Bool.false_ne_true
  | regs b => exact fun _ _ => rfl
  | _ => rfl

theorem Frames.input {m : Nat} {s t : State} {x : InputState} (hm : m.testBit 20 = true) (h : Frames m s t) :
    Frames m s { t with input := x } := by
  refine h.trans ⟨rfl, id, fun p hp => ?_⟩
  cases p with
  | input => exact absurd (hp.symm.trans hm) Bool.false_ne_true
  | regs b => exact fun _ _ => rfl
  | _ => rfl

theorem Frames.kv {m : Nat} {s t : State} {x : KvState} (hm : m.testBit 21 = true) (h : Frames m s t) :
    Frames m s { t with kv := x } := by
  refine h.trans ⟨rfl, id, fun p hp => ?_⟩
  cases p with
  | kv => exact absurd (hp.symm.trans hm) Bool.false_ne_true
  | regs b => exact fun _ _ => rfl
  | _ => rfl

theorem Frames.tensor {m : Nat} {s t : State} {x : TensorState} (hm : m.testBit 22 = true) (h : Frames m s t) :
    Frames m s { t with tensor := x } := by
  refine h.trans ⟨rfl, id, fun p hp => ?_⟩
  cases p with
  | tensor => exact absurd (hp.symm.trans hm) Bool.false_ne_true
  | regs b => exact fun _ _ => rfl
  | _ => rfl

theorem Frames.trv {m : Nat} {s t : State} {x : List (List TrvRun)} (hm : m.testBit 23 = true) (h : Frames m s t) :
    Frames m s { t with trv := x } := by
  refine h.trans ⟨rfl, id, fun p hp => ?_⟩
  cases p with
  | trv => exact absurd (hp.symm.trans hm) Bool.false_ne_true
  | regs b => exact fun _ _ => rfl
  | _ => rfl

theorem Frames.det {m : Nat} {s t : State} {x : Option DetRun} (hm : m.testBit 24 = true) (h : Frames m s t) :
    Frames m s { t with det := x } := by
  refine h.trans ⟨rfl, id, fun p hp => ?_⟩
  cases p with
  | det => exact absurd (hp.symm.trans hm) Bool.false_ne_true
  | regs b => exact fun _ _ => rfl
  | _ => rfl

theorem Frames.opt {m : Nat} {s t : State} {x : OptState} (hm : m.testBit 25 = true) (h : Frames m s t) :
    Frames m s { t with opt := x } := by
  refine h.trans ⟨rfl, id, fun p hp => ?_⟩
  cases p with
  | opt => exact absurd (hp.symm.trans hm) Bool.false_ne_true
  | regs b => exact fun _ _ => rfl
  | _ => rfl

theorem Frames.col {m : Nat} {s t : State} {x : List ColDie} (hm : m.testBit 26 = true) (h : Frames m s t) :
    Frames m s { t with col := x } := by
  refine h.trans ⟨rfl, id, fun p hp => ?_⟩
  cases p with
  | col => exact absurd (hp.symm.trans hm) Bool.false_ne_true
  | regs b => exact fun _ _ => rfl
  | _ => rfl

theorem Frames.ports {m : Nat} {s t : State} {x : List RopePort} (hm : m.testBit 27 = true) (h : Frames m s t) :
    Frames m s { t with ports := x } := by
  refine h.trans ⟨rfl, id, fun p hp => ?_⟩
  cases p with
  | ports => exact absurd (hp.symm.trans hm) Bool.false_ne_true
  | regs b => exact fun _ _ => rfl
  | _ => rfl

theorem Frames.rope {m : Nat} {s t : State} {x : List RopeDie} (hm : m.testBit 28 = true) (h : Frames m s t) :
    Frames m s { t with rope := x } := by
  refine h.trans ⟨rfl, id, fun p hp => ?_⟩
  cases p with
  | rope => exact absurd (hp.symm.trans hm) Bool.false_ne_true
  | regs b => exact fun _ _ => rfl
  | _ => rfl

theorem Frames.boot_faults {m : Nat} {s t : State} {x0 : BootState} {x1 : FaultState} (h0 : m.testBit 8 = true) (h1 : m.testBit 11 = true) (h : Frames m s t) :
    Frames m s { t with boot := x0, faults := x1 } := by
  refine h.trans ⟨rfl, id, fun p hp => ?_⟩
  cases p with
  | boot => exact absurd (hp.symm.trans h0) Bool.false_ne_true
  | faults => exact absurd (hp.symm.trans h1) Bool.false_ne_true
  | regs b => exact fun _ _ => rfl
  | _ => rfl

theorem Frames.clocks_boot {m : Nat} {s t : State} {x0 : Clocks} {x1 : BootState} (h0 : m.testBit 6 = true) (h1 : m.testBit 8 = true) (h : Frames m s t) :
    Frames m s { t with clocks := x0, boot := x1 } := by
  refine h.trans ⟨rfl, id, fun p hp => ?_⟩
  cases p with
  | clocks => exact absurd (hp.symm.trans h0) Bool.false_ne_true
  | boot => exact absurd (hp.symm.trans h1) Bool.false_ne_true
  | regs b => exact fun _ _ => rfl
  | _ => rfl

theorem Frames.clocks_doms {m : Nat} {s t : State} {x0 : Clocks} {x1 : Domains} (h0 : m.testBit 6 = true) (h1 : m.testBit 7 = true) (h : Frames m s t) :
    Frames m s { t with clocks := x0, doms := x1 } := by
  refine h.trans ⟨rfl, id, fun p hp => ?_⟩
  cases p with
  | clocks => exact absurd (hp.symm.trans h0) Bool.false_ne_true
  | doms => exact absurd (hp.symm.trans h1) Bool.false_ne_true
  | regs b => exact fun _ _ => rfl
  | _ => rfl

theorem Frames.clocks_doms_camp_pcie_tiers_ledge_job_input_kv_det_opt {m : Nat} {s t : State} {x0 : Clocks} {x1 : Domains} {x2 : BasecampState} {x3 : PcieState} {x4 : TierState} {x5 : List LedgeState} {x6 : JobState} {x7 : InputState} {x8 : KvState} {x9 : Option DetRun} {x10 : OptState} (h0 : m.testBit 6 = true) (h1 : m.testBit 7 = true) (h2 : m.testBit 14 = true) (h3 : m.testBit 15 = true) (h4 : m.testBit 16 = true) (h5 : m.testBit 17 = true) (h6 : m.testBit 19 = true) (h7 : m.testBit 20 = true) (h8 : m.testBit 21 = true) (h9 : m.testBit 24 = true) (h10 : m.testBit 25 = true) (h : Frames m s t) :
    Frames m s { t with clocks := x0, doms := x1, camp := x2, pcie := x3, tiers := x4, ledge := x5, job := x6, input := x7, kv := x8, det := x9, opt := x10 } := by
  refine h.trans ⟨rfl, id, fun p hp => ?_⟩
  cases p with
  | clocks => exact absurd (hp.symm.trans h0) Bool.false_ne_true
  | doms => exact absurd (hp.symm.trans h1) Bool.false_ne_true
  | camp => exact absurd (hp.symm.trans h2) Bool.false_ne_true
  | pcie => exact absurd (hp.symm.trans h3) Bool.false_ne_true
  | tiers => exact absurd (hp.symm.trans h4) Bool.false_ne_true
  | ledge => exact absurd (hp.symm.trans h5) Bool.false_ne_true
  | job => exact absurd (hp.symm.trans h6) Bool.false_ne_true
  | input => exact absurd (hp.symm.trans h7) Bool.false_ne_true
  | kv => exact absurd (hp.symm.trans h8) Bool.false_ne_true
  | det => exact absurd (hp.symm.trans h9) Bool.false_ne_true
  | opt => exact absurd (hp.symm.trans h10) Bool.false_ne_true
  | regs b => exact fun _ _ => rfl
  | _ => rfl

theorem Frames.doms_boot {m : Nat} {s t : State} {x0 : Domains} {x1 : BootState} (h0 : m.testBit 7 = true) (h1 : m.testBit 8 = true) (h : Frames m s t) :
    Frames m s { t with doms := x0, boot := x1 } := by
  refine h.trans ⟨rfl, id, fun p hp => ?_⟩
  cases p with
  | doms => exact absurd (hp.symm.trans h0) Bool.false_ne_true
  | boot => exact absurd (hp.symm.trans h1) Bool.false_ne_true
  | regs b => exact fun _ _ => rfl
  | _ => rfl

theorem Frames.doms_ledge_tensor_trv_opt_col_ports_rope {m : Nat} {s t : State} {x0 : Domains} {x1 : List LedgeState} {x2 : TensorState} {x3 : List (List TrvRun)} {x4 : OptState} {x5 : List ColDie} {x6 : List RopePort} {x7 : List RopeDie} (h0 : m.testBit 7 = true) (h1 : m.testBit 17 = true) (h2 : m.testBit 22 = true) (h3 : m.testBit 23 = true) (h4 : m.testBit 25 = true) (h5 : m.testBit 26 = true) (h6 : m.testBit 27 = true) (h7 : m.testBit 28 = true) (h : Frames m s t) :
    Frames m s { t with doms := x0, ledge := x1, tensor := x2, trv := x3, opt := x4, col := x5, ports := x6, rope := x7 } := by
  refine h.trans ⟨rfl, id, fun p hp => ?_⟩
  cases p with
  | doms => exact absurd (hp.symm.trans h0) Bool.false_ne_true
  | ledge => exact absurd (hp.symm.trans h1) Bool.false_ne_true
  | tensor => exact absurd (hp.symm.trans h2) Bool.false_ne_true
  | trv => exact absurd (hp.symm.trans h3) Bool.false_ne_true
  | opt => exact absurd (hp.symm.trans h4) Bool.false_ne_true
  | col => exact absurd (hp.symm.trans h5) Bool.false_ne_true
  | ports => exact absurd (hp.symm.trans h6) Bool.false_ne_true
  | rope => exact absurd (hp.symm.trans h7) Bool.false_ne_true
  | regs b => exact fun _ _ => rfl
  | _ => rfl

theorem Frames.images_dict {m : Nat} {s t : State} {x0 : ImageState} {x1 : DictState} (h0 : m.testBit 9 = true) (h1 : m.testBit 12 = true) (h : Frames m s t) :
    Frames m s { t with images := x0, dict := x1 } := by
  refine h.trans ⟨rfl, id, fun p hp => ?_⟩
  cases p with
  | images => exact absurd (hp.symm.trans h0) Bool.false_ne_true
  | dict => exact absurd (hp.symm.trans h1) Bool.false_ne_true
  | regs b => exact fun _ _ => rfl
  | _ => rfl

theorem Frames.mem_clocks_tiers {m : Nat} {s t : State} {x0 : Mem} {x1 : Clocks} {x2 : TierState} (h0 : m.testBit 0 = true) (h1 : m.testBit 6 = true) (h2 : m.testBit 16 = true) (h : Frames m s t)
    (hw : t.mem.wf = true → x0.wf = true) :
    Frames m s { t with mem := x0, clocks := x1, tiers := x2 } := by
  refine h.trans ⟨rfl, hw, fun p hp => ?_⟩
  cases p with
  | mem => exact absurd (hp.symm.trans h0) Bool.false_ne_true
  | clocks => exact absurd (hp.symm.trans h1) Bool.false_ne_true
  | tiers => exact absurd (hp.symm.trans h2) Bool.false_ne_true
  | regs b => exact fun _ _ => rfl
  | _ => rfl

theorem Frames.pcie_tiers {m : Nat} {s t : State} {x0 : PcieState} {x1 : TierState} (h0 : m.testBit 15 = true) (h1 : m.testBit 16 = true) (h : Frames m s t) :
    Frames m s { t with pcie := x0, tiers := x1 } := by
  refine h.trans ⟨rfl, id, fun p hp => ?_⟩
  cases p with
  | pcie => exact absurd (hp.symm.trans h0) Bool.false_ne_true
  | tiers => exact absurd (hp.symm.trans h1) Bool.false_ne_true
  | regs b => exact fun _ _ => rfl
  | _ => rfl

theorem Frames.power_tiers_restart_job_opt_col {m : Nat} {s t : State} {x0 : PowerState} {x1 : TierState} {x2 : RestartState} {x3 : JobState} {x4 : OptState} {x5 : List ColDie} (h0 : m.testBit 13 = true) (h1 : m.testBit 16 = true) (h2 : m.testBit 18 = true) (h3 : m.testBit 19 = true) (h4 : m.testBit 25 = true) (h5 : m.testBit 26 = true) (h : Frames m s t) :
    Frames m s { t with power := x0, tiers := x1, restart := x2, job := x3, opt := x4, col := x5 } := by
  refine h.trans ⟨rfl, id, fun p hp => ?_⟩
  cases p with
  | power => exact absurd (hp.symm.trans h0) Bool.false_ne_true
  | tiers => exact absurd (hp.symm.trans h1) Bool.false_ne_true
  | restart => exact absurd (hp.symm.trans h2) Bool.false_ne_true
  | job => exact absurd (hp.symm.trans h3) Bool.false_ne_true
  | opt => exact absurd (hp.symm.trans h4) Bool.false_ne_true
  | col => exact absurd (hp.symm.trans h5) Bool.false_ne_true
  | regs b => exact fun _ _ => rfl
  | _ => rfl

theorem Frames.rails_clocks {m : Nat} {s t : State} {x0 : Rails} {x1 : Clocks} (h0 : m.testBit 5 = true) (h1 : m.testBit 6 = true) (h : Frames m s t) :
    Frames m s { t with rails := x0, clocks := x1 } := by
  refine h.trans ⟨rfl, id, fun p hp => ?_⟩
  cases p with
  | rails => exact absurd (hp.symm.trans h0) Bool.false_ne_true
  | clocks => exact absurd (hp.symm.trans h1) Bool.false_ne_true
  | regs b => exact fun _ _ => rfl
  | _ => rfl

theorem Frames.rails_doms {m : Nat} {s t : State} {x0 : Rails} {x1 : Domains} (h0 : m.testBit 5 = true) (h1 : m.testBit 7 = true) (h : Frames m s t) :
    Frames m s { t with rails := x0, doms := x1 } := by
  refine h.trans ⟨rfl, id, fun p hp => ?_⟩
  cases p with
  | rails => exact absurd (hp.symm.trans h0) Bool.false_ne_true
  | doms => exact absurd (hp.symm.trans h1) Bool.false_ne_true
  | regs b => exact fun _ _ => rfl
  | _ => rfl

theorem Frames.rails_power {m : Nat} {s t : State} {x0 : Rails} {x1 : PowerState} (h0 : m.testBit 5 = true) (h1 : m.testBit 13 = true) (h : Frames m s t) :
    Frames m s { t with rails := x0, power := x1 } := by
  refine h.trans ⟨rfl, id, fun p hp => ?_⟩
  cases p with
  | rails => exact absurd (hp.symm.trans h0) Bool.false_ne_true
  | power => exact absurd (hp.symm.trans h1) Bool.false_ne_true
  | regs b => exact fun _ _ => rfl
  | _ => rfl

theorem Frames.repair_dict {m : Nat} {s t : State} {x0 : RepairState} {x1 : DictState} (h0 : m.testBit 10 = true) (h1 : m.testBit 12 = true) (h : Frames m s t) :
    Frames m s { t with repair := x0, dict := x1 } := by
  refine h.trans ⟨rfl, id, fun p hp => ?_⟩
  cases p with
  | repair => exact absurd (hp.symm.trans h0) Bool.false_ne_true
  | dict => exact absurd (hp.symm.trans h1) Bool.false_ne_true
  | regs b => exact fun _ _ => rfl
  | _ => rfl

theorem Frames.tiers_job {m : Nat} {s t : State} {x0 : TierState} {x1 : JobState} (h0 : m.testBit 16 = true) (h1 : m.testBit 19 = true) (h : Frames m s t) :
    Frames m s { t with tiers := x0, job := x1 } := by
  refine h.trans ⟨rfl, id, fun p hp => ?_⟩
  cases p with
  | tiers => exact absurd (hp.symm.trans h0) Bool.false_ne_true
  | job => exact absurd (hp.symm.trans h1) Bool.false_ne_true
  | regs b => exact fun _ _ => rfl
  | _ => rfl

theorem Frames.time_clocks {m : Nat} {s t : State} {x0 : Word} {x1 : Clocks} (h0 : m.testBit 2 = true) (h1 : m.testBit 6 = true) (h : Frames m s t) :
    Frames m s { t with time := x0, clocks := x1 } := by
  refine h.trans ⟨rfl, id, fun p hp => ?_⟩
  cases p with
  | time => exact absurd (hp.symm.trans h0) Bool.false_ne_true
  | clocks => exact absurd (hp.symm.trans h1) Bool.false_ne_true
  | regs b => exact fun _ _ => rfl
  | _ => rfl

end Sys2Proof.Machine
end

