-- ==== Sys2Proof/Laws/FramesOps.lean ====
section
/-! SUPPORT. What the definitions of Machine/Ops.lean can change: one lemma for each that answers a state. -/

namespace Sys2Proof.Machine

theorem State.resetRegs_frames (s : State) (d : Domain) : Frames 0xffffe0000000 s (s.resetRegs d) := by
  refine ⟨rfl, id, fun p hp => ?_⟩
  cases p with
  | regs b => cases b <;> cases hp
  | _ => rfl

theorem State.emit_frames (s : State) (o : Output) :
    Frames 0x10 s (State.emit s o) := by
  unfold State.emit
  repeat' first
    | with_reducible assumption
    | with_reducible exact Frames.refl _ _
    | with_reducible apply Frames.ite
    | (fail_if_no_progress ((with_reducible apply Frames.out); exact rfl))
    | split

theorem State.tookFree_frames (s : State) :
    Frames 0x8 s (State.tookFree s) := by
  unfold State.tookFree
  repeat' first
    | with_reducible assumption
    | with_reducible exact Frames.refl _ _
    | with_reducible apply Frames.ite
    | (fail_if_no_progress ((with_reducible apply Frames.freeCtr); exact rfl))
    | split

theorem State.tookFrees_frames (s : State) (n : Nat) :
    Frames 0x8 s (State.tookFrees s n) := by
  unfold State.tookFrees
  repeat' first
    | with_reducible assumption
    | with_reducible exact Frames.refl _ _
    | with_reducible apply Frames.ite
    | (fail_if_no_progress ((with_reducible apply Frames.freeCtr); exact rfl))
    | split

theorem State.raise_frames (s : State) (cls : FaultClass) (r : Requester) (code : Nat) (addr : Nat) (detail : Nat) (node : Nat) :
    Frames 0x800 s (State.raise s cls r code addr detail node) := by
  unfold State.raise
  repeat' first
    | with_reducible assumption
    | with_reducible exact Frames.refl _ _
    | with_reducible apply Frames.ite
    | (fail_if_no_progress ((with_reducible apply Frames.faults); exact rfl))
    | split

theorem State.ucc_frames (s : State) (r : Requester) (code : Nat) (addr : Nat) (detail : Nat) :
    Frames 0x800 s (State.ucc s r code addr detail) := by
  unfold State.ucc
  repeat' first
    | with_reducible assumption
    | with_reducible exact Frames.refl _ _
    | with_reducible apply Frames.ite
    | ((with_reducible apply Frames.step (State.raise_frames ..)); exact rfl)
    | ((with_reducible apply Frames.step (State.ucc_frames ..)); exact rfl)
    | split

theorem State.correctedEvent_frames (s : State) (r : Requester) (code : Nat) (addr : Nat) (detail : Nat) :
    Frames 0x800 s (State.correctedEvent s r code addr detail) := by
  unfold State.correctedEvent
  repeat' first
    | with_reducible assumption
    | with_reducible exact Frames.refl _ _
    | with_reducible apply Frames.ite
    | ((with_reducible apply Frames.step (State.raise_frames ..)); exact rfl)
    | split

theorem State.irq_frames (s : State) (src : Fin 64) :
    Frames 0x4000000000 s (State.irq s src) := by
  unfold State.irq
  repeat' first
    | with_reducible assumption
    | with_reducible exact Frames.refl _ _
    | with_reducible apply Frames.ite
    | ((with_reducible apply Frames.put); exact rfl)
    | split

theorem State.msix_frames (s : State) (v : Nat) :
    Frames 0x8000 s (State.msix s v) := by
  unfold State.msix
  repeat' first
    | with_reducible assumption
    | with_reducible exact Frames.refl _ _
    | with_reducible apply Frames.ite
    | (fail_if_no_progress ((with_reducible apply Frames.pcie); exact rfl))
    | split

theorem State.notify_frames (s : State) (src : Fin 64) (v : Nat) :
    Frames 0x4000008000 s (State.notify s src v) := by
  unfold State.notify
  repeat' first
    | with_reducible assumption
    | with_reducible exact Frames.refl _ _
    | with_reducible apply Frames.ite
    | ((with_reducible apply Frames.step (State.irq_frames ..)); exact rfl)
    | ((with_reducible apply Frames.step (State.msix_frames ..)); exact rfl)
    | split

theorem State.awaitTiers_frames {m : Nat} {s : State} {l : List (Nat × Nat)} {go : State → State}
    (h : Frames m s (go s)) : Frames m s (s.awaitTiers l go) := by
  unfold State.awaitTiers
  split
  · exact Frames.refl _ _
  · exact h

theorem State.dropScrub_frames (s : State) (a : Nat) :
    Frames 0x10000 s (State.dropScrub s a) := by
  unfold State.dropScrub
  repeat' first
    | with_reducible assumption
    | with_reducible exact Frames.refl _ _
    | with_reducible apply Frames.ite
    | (fail_if_no_progress ((with_reducible apply Frames.tiers); exact rfl))
    | split

theorem State.ledgeViolation_frames (s : State) (d : Fin 4) (req : Nat) (owner : Nat) (off : Nat) :
    Frames 0x100000000000 s (State.ledgeViolation s d req owner off) := by
  unfold State.ledgeViolation
  repeat' first
    | with_reducible assumption
    | with_reducible exact Frames.refl _ _
    | with_reducible apply Frames.ite
    | ((with_reducible apply Frames.set); exact rfl)
    | ((with_reducible apply Frames.bump); exact rfl)
    | split

theorem State.hostSettled_frames (s : State) (r : Requester) (rs : List (Nat × Nat)) :
    Frames 0x8000 s (State.hostSettled s r rs) := by
  unfold State.hostSettled
  extract_lets y0 y1
  repeat' first
    | with_reducible assumption
    | with_reducible exact Frames.refl _ _
    | with_reducible apply Frames.ite
    | (fail_if_no_progress ((with_reducible apply Frames.pcie); exact rfl))
    | dsimp only
    | split

theorem State.awaitHost_frames {m : Nat} {s : State} {r : Requester} {l : List (Nat × Nat)} {go : State → State}
    (hm : m.testBit 15 = true) (hk : 0x8000 &&& m = 0x8000) (h : ∀ t, Frames m t (go t)) : Frames m s (s.awaitHost r l go) := by
  unfold State.awaitHost
  extract_lets a
  have hg : Frames m s ((go s).hostSettled r a) := Frames.step (State.hostSettled_frames ..) hk (h s)
  clear_value a
  split
  · exact h s
  · split
    · exact hg
    · split
      · exact Frames.refl _ _
      · exact Frames.pcie hm (Frames.refl _ _)

theorem State.awaitAccess_frames {m : Nat} {s : State} {r : Requester} {l : List (Nat × Nat)} {go : State → State}
    (hm : m.testBit 15 = true) (hk : 0x8000 &&& m = 0x8000) (h : ∀ t, Frames m t (go t)) : Frames m s (s.awaitAccess r l go) :=
  State.awaitTiers_frames (State.awaitHost_frames hm hk h)

theorem State.awaitBasecamp_frames {m : Nat} {s : State} {r : Requester} {l : List (Nat × Nat)} {go : State → State}
    (hm : m.testBit 15 = true) (hk : 0x8000 &&& m = 0x8000) (h : ∀ t, Frames m t (go t)) : Frames m s (s.awaitBasecamp r l go) := by
  unfold State.awaitBasecamp
  split
  · exact Frames.refl _ _
  · exact State.awaitAccess_frames hm hk h

theorem State.setBad_frames (s : State) (k : Nat) (b : Bool) :
    Frames 0x10000 s (State.setBad s k b) := by
  unfold State.setBad
  repeat' first
    | with_reducible assumption
    | with_reducible exact Frames.refl _ _
    | with_reducible apply Frames.ite
    | (fail_if_no_progress ((with_reducible apply Frames.tiers); exact rfl))
    | split

theorem State.store_frames (s : State) (k : Nat) (bs : List Byte) :
    Frames 0x1 s (State.store s k bs) := by
  unfold State.store
  repeat' first
    | with_reducible assumption
    | with_reducible exact Frames.refl _ _
    | with_reducible apply Frames.ite
    | (fail_if_no_progress ((with_reducible apply Frames.mem); exact rfl))
    | exact fun h => Mem.loseAll_wf h _
    | exact fun h => Mem.setN_wf h _ _
    | exact fun h => Mem.zero_wf h _
    | exact fun h => Mem.filter_wf h _
    | split

theorem State.ledgeRead_frames (s : State) (d : Fin 4) (owner : Nat) (o : Nat) (n : Nat) :
    Frames 0x100000000808 s (State.ledgeRead s d owner o n).2.2 := by
  unfold State.ledgeRead
  repeat' first
    | with_reducible assumption
    | with_reducible exact Frames.refl _ _
    | with_reducible apply Frames.ite
    | with_reducible apply Frames.iteSnd
    | with_reducible apply Frames.iteSnd2
    | with_reducible apply Frames.iteFst
    | ((with_reducible apply Frames.step (State.ledgeViolation_frames ..)); exact rfl)
    | ((with_reducible apply Frames.step (State.tookFrees_frames ..)); exact rfl)
    | ((with_reducible apply Frames.step (State.ucc_frames ..)); exact rfl)
    | ((with_reducible apply Frames.bump); exact rfl)
    | dsimp only
    | split

theorem State.ledgeWrite_frames (s : State) (d : Fin 4) (owner : Nat) (o : Nat) (bs : List Byte) :
    Frames 0x100000010801 s (State.ledgeWrite s d owner o bs).2 := by
  unfold State.ledgeWrite
  repeat' first
    | with_reducible assumption
    | with_reducible exact Frames.refl _ _
    | with_reducible apply Frames.ite
    | ((with_reducible apply Frames.foldl); intro _ _)
    | ((with_reducible apply Frames.foldlSnd); intro _ _)
    | with_reducible apply Frames.iteSnd
    | with_reducible apply Frames.iteSnd2
    | with_reducible apply Frames.iteFst
    | ((with_reducible apply Frames.step (State.ledgeViolation_frames ..)); exact rfl)
    | ((with_reducible apply Frames.step (State.setBad_frames ..)); exact rfl)
    | ((with_reducible apply Frames.step (State.store_frames ..)); exact rfl)
    | ((with_reducible apply Frames.step (State.ucc_frames ..)); exact rfl)
    | ((with_reducible apply Frames.bump); exact rfl)
    | dsimp only
    | split

theorem State.hostError_frames (s : State) (a : Nat) :
    Frames 0x800 s (State.hostError s a) := by
  unfold State.hostError
  repeat' first
    | with_reducible assumption
    | with_reducible exact Frames.refl _ _
    | with_reducible apply Frames.ite
    | ((with_reducible apply Frames.step (State.ucc_frames ..)); exact rfl)
    | split

theorem State.fencedRead_frames (s : State) (r : Requester) (a : Nat) (n : Nat) :
    Frames 0x808 s (State.fencedRead s r a n).2.2 := by
  unfold State.fencedRead
  repeat' first
    | with_reducible assumption
    | with_reducible exact Frames.refl _ _
    | with_reducible apply Frames.ite
    | with_reducible apply Frames.iteSnd
    | with_reducible apply Frames.iteSnd2
    | with_reducible apply Frames.iteFst
    | ((with_reducible apply Frames.step (State.tookFrees_frames ..)); exact rfl)
    | ((with_reducible apply Frames.step (State.ucc_frames ..)); exact rfl)
    | split

theorem State.fencedWrite_frames (s : State) (r : Requester) (a : Nat) :
    Frames 0x800 s (State.fencedWrite s r a).2 := by
  unfold State.fencedWrite
  repeat' first
    | with_reducible assumption
    | with_reducible exact Frames.refl _ _
    | with_reducible apply Frames.ite
    | with_reducible apply Frames.iteSnd
    | with_reducible apply Frames.iteSnd2
    | with_reducible apply Frames.iteFst
    | ((with_reducible apply Frames.step (State.ucc_frames ..)); exact rfl)
    | split

theorem State.readBlock_frames (s : State) (r : Requester) (owner : Nat) (a : Nat) (n : Nat) :
    Frames 0x100000000808 s (State.readBlock s r owner a n).2.2 := by
  unfold State.readBlock
  repeat' first
    | with_reducible assumption
    | with_reducible exact Frames.refl _ _
    | with_reducible apply Frames.ite
    | with_reducible apply Frames.iteSnd
    | with_reducible apply Frames.iteSnd2
    | with_reducible apply Frames.iteFst
    | ((with_reducible apply Frames.step (State.fencedRead_frames ..)); exact rfl)
    | ((with_reducible apply Frames.step (State.hostError_frames ..)); exact rfl)
    | ((with_reducible apply Frames.step (State.ledgeRead_frames ..)); exact rfl)
    | ((with_reducible apply Frames.step (State.ucc_frames ..)); exact rfl)
    | dsimp only
    | split

theorem State.writeBlock_frames (s : State) (r : Requester) (owner : Nat) (a : Nat) (bs : List Byte) :
    Frames 0x100000010801 s (State.writeBlock s r owner a bs).2 := by
  unfold State.writeBlock
  repeat' first
    | with_reducible assumption
    | with_reducible exact Frames.refl _ _
    | with_reducible apply Frames.ite
    | with_reducible apply Frames.iteSnd
    | with_reducible apply Frames.iteSnd2
    | with_reducible apply Frames.iteFst
    | ((with_reducible apply Frames.step (State.dropScrub_frames ..)); exact rfl)
    | ((with_reducible apply Frames.step (State.fencedWrite_frames ..)); exact rfl)
    | ((with_reducible apply Frames.step (State.hostError_frames ..)); exact rfl)
    | ((with_reducible apply Frames.step (State.ledgeWrite_frames ..)); exact rfl)
    | ((with_reducible apply Frames.step (State.setBad_frames ..)); exact rfl)
    | ((with_reducible apply Frames.step (State.store_frames ..)); exact rfl)
    | ((with_reducible apply Frames.step (State.ucc_frames ..)); exact rfl)
    | dsimp only
    | split

theorem State.readGo_frames (r : Requester) (owner : Nat) (a0 : Nat) (s : State) (a2 : Nat) (a3 : Nat) :
    Frames 0x100000000808 s (State.readGo r owner a0 s a2 a3).2.2 := by
  fun_induction State.readGo r owner a0 s a2 a3
  all_goals
    repeat' first
      | with_reducible assumption
      | with_reducible exact Frames.refl _ _
      | with_reducible apply Frames.ite
      | with_reducible apply Frames.iteSnd
      | with_reducible apply Frames.iteSnd2
      | with_reducible apply Frames.iteFst
      | ((with_reducible apply Frames.step (State.readBlock_frames ..)); exact rfl)
      | with_reducible refine Frames.trans ?_ (by assumption)
      | dsimp only
      | split

theorem State.readBytes_frames (s : State) (r : Requester) (owner : Nat) (a : Nat) (n : Nat) :
    Frames 0x100000000808 s (State.readBytes s r owner a n).2.2 := by
  unfold State.readBytes
  repeat' first
    | with_reducible assumption
    | with_reducible exact Frames.refl _ _
    | with_reducible apply Frames.ite
    | ((with_reducible apply Frames.step (State.readGo_frames ..)); exact rfl)
    | split

theorem State.writeGo_frames (r : Requester) (owner : Nat) (a0 : Nat) (s : State) (a2 : Nat) (a3 : List Byte) :
    Frames 0x100000010801 s (State.writeGo r owner a0 s a2 a3).2 := by
  fun_induction State.writeGo r owner a0 s a2 a3
  all_goals
    repeat' first
      | with_reducible assumption
      | with_reducible exact Frames.refl _ _
      | with_reducible apply Frames.ite
      | with_reducible apply Frames.iteSnd
      | with_reducible apply Frames.iteSnd2
      | with_reducible apply Frames.iteFst
      | ((with_reducible apply Frames.step (State.writeBlock_frames ..)); exact rfl)
      | with_reducible refine Frames.trans ?_ (by assumption)
      | dsimp only
      | split

theorem State.writeBytes_frames (s : State) (r : Requester) (owner : Nat) (a : Nat) (bs : List Byte) :
    Frames 0x100000010801 s (State.writeBytes s r owner a bs).2 := by
  unfold State.writeBytes
  repeat' first
    | with_reducible assumption
    | with_reducible exact Frames.refl _ _
    | with_reducible apply Frames.ite
    | ((with_reducible apply Frames.step (State.writeGo_frames ..)); exact rfl)
    | split

theorem State.writeMem_frames (s : State) (r : Requester) (owner : Nat) (a : Nat) (bs : List Byte) :
    Frames 0x100000010801 s (State.writeMem s r owner a bs) := by
  unfold State.writeMem
  repeat' first
    | with_reducible assumption
    | with_reducible exact Frames.refl _ _
    | with_reducible apply Frames.ite
    | ((with_reducible apply Frames.step (State.writeBytes_frames ..)); exact rfl)
    | split

theorem State.readNat_frames (s : State) (r : Requester) (owner : Nat) (a : Nat) (n : Nat) :
    Frames 0x100000000808 s (State.readNat s r owner a n).2 := by
  unfold State.readNat
  extract_lets y0
  have h0 : Frames 0x100000000808 s y0.2.2 := by
    unfold y0
    repeat' first
      | with_reducible assumption
      | with_reducible exact Frames.refl _ _
      | with_reducible apply Frames.ite
      | ((with_reducible apply Frames.step (State.readBytes_frames ..)); exact rfl)
      | dsimp only
      | split
  repeat' first
    | with_reducible assumption
    | with_reducible exact Frames.refl _ _
    | with_reducible apply Frames.ite
    | split

end Sys2Proof.Machine
end

