-- ==== Sys2Proof/Laws/FramesFlags.lean ====
section
/-! SUPPORT. What the definitions of Machine/Flags.lean can change: one lemma for each that answers a state. -/

namespace Sys2Proof.Machine

theorem State.setShape_frames (s : State) (w : Word) :
    Frames 0x20000000 s (State.setShape s w) := by
  unfold State.setShape
  repeat' first
    | with_reducible assumption
    | with_reducible exact Frames.refl _ _
    | with_reducible apply Frames.ite
    | ((with_reducible apply Frames.set); exact rfl)
    | split

theorem State.levelEvent_frames (s : State) :
    Frames 0x4000008010 s (State.levelEvent s) := by
  unfold State.levelEvent
  extract_lets y0
  have h0 : Frames 0x4000008010 s y0 := by
    unfold y0
    repeat' first
      | with_reducible assumption
      | with_reducible exact Frames.refl _ _
      | with_reducible apply Frames.ite
      | ((with_reducible apply Frames.step (State.notify_frames ..)); exact rfl)
      | dsimp only
      | split
  repeat' first
    | with_reducible assumption
    | with_reducible exact Frames.refl _ _
    | with_reducible apply Frames.ite
    | ((with_reducible apply Frames.step (State.announce_frames ..)); exact rfl)
    | ((with_reducible apply Frames.step (State.emit_frames ..)); exact rfl)
    | split

theorem State.setLevel_frames (s : State) (lvl : Nat) :
    Frames 0x4020008010 s (State.setLevel s lvl) := by
  unfold State.setLevel
  repeat' first
    | with_reducible assumption
    | with_reducible exact Frames.refl _ _
    | with_reducible apply Frames.ite
    | ((with_reducible apply Frames.step (State.levelEvent_frames ..)); exact rfl)
    | ((with_reducible apply Frames.put); exact rfl)
    | split

theorem State.fuseSpares_frames (s : State) (dies : Nat) :
    Frames 0x100000000000 s (State.fuseSpares s dies) := by
  unfold State.fuseSpares
  repeat' first
    | with_reducible assumption
    | with_reducible exact Frames.refl _ _
    | with_reducible apply Frames.ite
    | ((with_reducible apply Frames.foldl); intro _ _)
    | ((with_reducible apply Frames.foldlSnd); intro _ _)
    | ((with_reducible apply Frames.set); exact rfl)
    | split

theorem State.clearDies_frames (s : State) (dies : Nat) :
    Frames 0xfffffec20080 s (State.clearDies s dies) := by
  unfold State.clearDies
  repeat' first
    | with_reducible assumption
    | with_reducible exact Frames.refl _ _
    | with_reducible apply Frames.ite
    | ((with_reducible apply Frames.foldl); intro _ _)
    | ((with_reducible apply Frames.foldlSnd); intro _ _)
    | ((with_reducible apply Frames.step (State.resetRegs_frames ..)); exact rfl)
    | (fail_if_no_progress ((with_reducible apply Frames.doms_ledge_tensor_trv_opt_col_ports_rope); exact rfl; exact rfl; exact rfl; exact rfl; exact rfl; exact rfl; exact rfl; exact rfl))
    | split

theorem State.resetDies_frames (s : State) (dies : Nat) :
    Frames 0xfffffec20080 s (State.resetDies s dies) := by
  unfold State.resetDies
  repeat' first
    | with_reducible assumption
    | with_reducible exact Frames.refl _ _
    | with_reducible apply Frames.ite
    | ((with_reducible apply Frames.step (State.clearDies_frames ..)); exact rfl)
    | ((with_reducible apply Frames.step (State.fuseSpares_frames ..)); exact rfl)
    | split

theorem State.setRecord_frames (s : State) (r : RepairRecord) :
    Frames 0x400 s (State.setRecord s r) := by
  unfold State.setRecord
  repeat' first
    | with_reducible assumption
    | with_reducible exact Frames.refl _ _
    | with_reducible apply Frames.ite
    | (fail_if_no_progress ((with_reducible apply Frames.repair); exact rfl))
    | split

theorem State.remapIds_frames (s : State) (d : Fin 4) :
    Frames 0x8000000000 s (State.remapIds s d) := by
  unfold State.remapIds
  repeat' first
    | with_reducible assumption
    | with_reducible exact Frames.refl _ _
    | with_reducible apply Frames.ite
    | ((with_reducible apply Frames.foldl); intro _ _)
    | ((with_reducible apply Frames.foldlSnd); intro _ _)
    | ((with_reducible apply Frames.put); exact rfl)
    | split

theorem State.fence_frames (s : State) (dies : Nat) :
    Frames 0xfffffec28490 s (State.fence s dies) := by
  unfold State.fence
  extract_lets y0 y1 y2 y3 y4 y5 y6
  have h6 : Frames 0xfffffec28490 s y6 := by
    unfold y6
    repeat' first
      | with_reducible assumption
      | with_reducible exact Frames.refl _ _
      | with_reducible apply Frames.ite
      | ((with_reducible apply Frames.step (State.resetDies_frames ..)); exact rfl)
      | ((with_reducible apply Frames.step (State.setRecord_frames ..)); exact rfl)
      | ((with_reducible apply Frames.put); exact rfl)
      | dsimp only
      | split
  repeat' first
    | with_reducible assumption
    | with_reducible exact Frames.refl _ _
    | with_reducible apply Frames.ite
    | ((with_reducible apply Frames.step (State.levelEvent_frames ..)); exact rfl)
    | ((with_reducible apply Frames.step (State.setShape_frames ..)); exact rfl)
    | dsimp only
    | split

end Sys2Proof.Machine
end

