-- ==== Sys2Proof/Laws/FramesRegWrite.lean ====
section
/-! SUPPORT. What the definitions of Machine/RegWrite.lean can change: one lemma for each that answers a state. -/

namespace Sys2Proof.Machine

theorem State.errorCleared_frames (s : State) (r : Reg) : Frames 0xffffe0000000 s (s.errorCleared r) := by
  unfold State.errorCleared
  split
  all_goals repeat' first
    | with_reducible exact Frames.refl _ _
    | with_reducible refine Frames.ite ?_ ?_
    | ((with_reducible refine Frames.put ?_ ?_); exact rfl)
    | ((with_reducible refine Frames.set ?_ ?_); exact rfl)

theorem State.errLevel_frames (s : State) :
    Frames 0x80000010 s (State.errLevel s) := by
  unfold State.errLevel
  repeat' first
    | with_reducible assumption
    | with_reducible exact Frames.refl _ _
    | with_reducible apply Frames.ite
    | ((with_reducible apply Frames.step (State.emit_frames ..)); exact rfl)
    | ((with_reducible apply Frames.put); exact rfl)
    | dsimp only
    | split

theorem State.afterPlain_frames (s : State) (r : Reg) (old : Word) : Frames 0xffffe0008010 s (s.afterPlain r old) := by
  unfold State.afterPlain
  split
  all_goals repeat' first
    | with_reducible exact Frames.refl _ _
    | with_reducible refine Frames.ite ?_ ?_
    | with_reducible refine Frames.step (State.irq_frames ..) rfl ?_
    | with_reducible refine Frames.step (State.errLevel_frames ..) rfl ?_
    | with_reducible refine Frames.step (State.setShape_frames ..) rfl ?_
    | with_reducible refine Frames.step (State.errorCleared_frames ..) rfl ?_

theorem Block.inMask_all (b : Block) : b.inMask 0xffffe0008010 = true := by cases b <;> rfl

theorem State.writePlain_frames (s : State) (r : Reg) (h : Half) (v : Word) : Frames 0xffffe0008010 s (s.writePlain r h v) := by
  unfold State.writePlain
  refine Frames.ite ?_ (Frames.refl _ _)
  exact Frames.step (State.afterPlain_frames ..) rfl (Frames.set (Block.inMask_all _) (Frames.refl _ _))

theorem State.afterRead_frames (s : State) (r : Reg) : Frames 0xffffe0008010 s (s.afterRead r) := by
  unfold State.afterRead
  exact Frames.ite (Frames.refl _ _) (Frames.set (Block.inMask_all _) (Frames.refl _ _))

end Sys2Proof.Machine
end

