-- ==== Sys2Proof/Laws/FramesLayer.lean ====
section
/-! SUPPORT. What the definitions of Machine/Layer.lean can change: one lemma for each that answers a state. -/

namespace Sys2Proof.Machine

theorem State.setColDie_frames (s : State) (d : Fin 4) (c : ColDie) :
    Frames 0x4000000 s (State.setColDie s d c) := by
  unfold State.setColDie
  repeat' first
    | with_reducible assumption
    | with_reducible exact Frames.refl _ _
    | with_reducible apply Frames.ite
    | ((with_reducible apply Frames.set); exact rfl)
    | (fail_if_no_progress ((with_reducible apply Frames.col); exact rfl))
    | split

theorem State.setOptDie_frames (s : State) (d : Fin 4) (o : OptDie) :
    Frames 0x2000000 s (State.setOptDie s d o) := by
  unfold State.setOptDie
  repeat' first
    | with_reducible assumption
    | with_reducible exact Frames.refl _ _
    | with_reducible apply Frames.ite
    | ((with_reducible apply Frames.set); exact rfl)
    | (fail_if_no_progress ((with_reducible apply Frames.opt); exact rfl))
    | split

theorem State.optSync_frames (s : State) (d : Fin 4) :
    Frames 0x2000000 s (State.optSync s d) := by
  unfold State.optSync
  repeat' first
    | with_reducible assumption
    | with_reducible exact Frames.refl _ _
    | with_reducible apply Frames.ite
    | ((with_reducible apply Frames.step (State.setOptDie_frames ..)); exact rfl)
    | dsimp only
    | split

end Sys2Proof.Machine
end

