-- ==== Sys2Proof/Laws/FramesWire.lean ====
section
/-! SUPPORT. What the definitions of Machine/Wire.lean can change: one lemma for each that answers a state. -/

namespace Sys2Proof.Machine

theorem State.setPort_frames (s : State) (p : Fin 16) (x : RopePort) :
    Frames 0x8000000 s (State.setPort s p x) := by
  unfold State.setPort
  repeat' first
    | with_reducible assumption
    | with_reducible exact Frames.refl _ _
    | with_reducible apply Frames.ite
    | ((with_reducible apply Frames.set); exact rfl)
    | (fail_if_no_progress ((with_reducible apply Frames.ports); exact rfl))
    | split

theorem State.charge_frames (s : State) (p : Fin 16) (x : TxFrame) :
    Frames 0x400000000000 s (State.charge s p x) := by
  unfold State.charge
  repeat' first
    | with_reducible assumption
    | with_reducible exact Frames.refl _ _
    | with_reducible apply Frames.ite
    | ((with_reducible apply Frames.put); exact rfl)
    | ((with_reducible apply Frames.addf); exact rfl)
    | split

theorem State.onWire_frames (s : State) (p : Fin 16) (via : Option Nat) (seq : Nat) (b : List Byte) :
    Frames 0x10 s (State.onWire s p via seq b) := by
  unfold State.onWire
  repeat' first
    | with_reducible assumption
    | with_reducible exact Frames.refl _ _
    | with_reducible apply Frames.ite
    | ((with_reducible apply Frames.step (State.emit_frames ..)); exact rfl)
    | split

theorem State.sendLink_frames (s : State) (p : Fin 16) (nak : Bool) :
    Frames 0x8000010 s (State.sendLink s p nak) := by
  unfold State.sendLink
  extract_lets y0 y1
  repeat' first
    | with_reducible assumption
    | with_reducible exact Frames.refl _ _
    | with_reducible apply Frames.ite
    | ((with_reducible apply Frames.step (State.onWire_frames ..)); exact rfl)
    | ((with_reducible apply Frames.step (State.setPort_frames ..)); exact rfl)
    | dsimp only
    | split

theorem State.sendCredit_frames (s : State) (p : Fin 16) :
    Frames 0x8000010 s (State.sendCredit s p) := by
  unfold State.sendCredit
  extract_lets y0
  repeat' first
    | with_reducible assumption
    | with_reducible exact Frames.refl _ _
    | with_reducible apply Frames.ite
    | ((with_reducible apply Frames.step (State.onWire_frames ..)); exact rfl)
    | ((with_reducible apply Frames.step (State.setPort_frames ..)); exact rfl)
    | dsimp only
    | split

theorem State.freeUnits_frames (s : State) (p : Fin 16) (v : Nat) (n : Nat) :
    Frames 0x8000000 s (State.freeUnits s p v n) := by
  unfold State.freeUnits
  extract_lets y0
  repeat' first
    | with_reducible assumption
    | with_reducible exact Frames.refl _ _
    | with_reducible apply Frames.ite
    | ((with_reducible apply Frames.step (State.setPort_frames ..)); exact rfl)
    | ((with_reducible apply Frames.set); exact rfl)
    | dsimp only
    | split

theorem State.pauseSync_frames (s : State) (p : Fin 16) (v : Nat) :
    Frames 0x8000010 s (State.pauseSync s p v) := by
  unfold State.pauseSync
  extract_lets y0 y1
  have h1 : Frames 0x8000010 s y1 := by
    unfold y1
    repeat' first
      | with_reducible assumption
      | with_reducible exact Frames.refl _ _
      | with_reducible apply Frames.ite
      | ((with_reducible apply Frames.step (State.setPort_frames ..)); exact rfl)
      | dsimp only
      | split
  repeat' first
    | with_reducible assumption
    | with_reducible exact Frames.refl _ _
    | with_reducible apply Frames.ite
    | ((with_reducible apply Frames.step (State.emit_frames ..)); exact rfl)
    | ((with_reducible apply Frames.step (State.setPort_frames ..)); exact rfl)
    | dsimp only
    | split

theorem State.takeUnits_frames (s : State) (p : Fin 16) (v : Nat) (n : Nat) :
    Frames 0x8000010 s (State.takeUnits s p v n) := by
  unfold State.takeUnits
  repeat' first
    | with_reducible assumption
    | with_reducible exact Frames.refl _ _
    | with_reducible apply Frames.ite
    | ((with_reducible apply Frames.step (State.pauseSync_frames ..)); exact rfl)
    | ((with_reducible apply Frames.step (State.setPort_frames ..)); exact rfl)
    | ((with_reducible apply Frames.set); exact rfl)
    | dsimp only
    | split

theorem State.releaseUnits_frames (s : State) (p : Fin 16) (v : Nat) (n : Nat) :
    Frames 0x8000010 s (State.releaseUnits s p v n) := by
  unfold State.releaseUnits
  repeat' first
    | with_reducible assumption
    | with_reducible exact Frames.refl _ _
    | with_reducible apply Frames.ite
    | ((with_reducible apply Frames.step (State.freeUnits_frames ..)); exact rfl)
    | ((with_reducible apply Frames.step (State.pauseSync_frames ..)); exact rfl)
    | ((with_reducible apply Frames.step (State.sendCredit_frames ..)); exact rfl)
    | dsimp only
    | split

theorem State.takeLink_frames (s : State) (p : Fin 16) (b : List Byte) :
    Frames 0x8000000 s (State.takeLink s p b) := by
  unfold State.takeLink
  repeat' first
    | with_reducible assumption
    | with_reducible exact Frames.refl _ _
    | with_reducible apply Frames.ite
    | ((with_reducible apply Frames.step (State.setPort_frames ..)); exact rfl)
    | split

theorem State.leftBuffer_frames (s : State) (x : TxFrame) :
    Frames 0x8000010 s (State.leftBuffer s x) := by
  unfold State.leftBuffer
  repeat' first
    | with_reducible assumption
    | with_reducible exact Frames.refl _ _
    | with_reducible apply Frames.ite
    | ((with_reducible apply Frames.step (State.releaseUnits_frames ..)); exact rfl)
    | split

theorem State.transmit_frames (s : State) (p : Fin 16) (x : TxFrame) :
    Frames 0x400008000010 s (State.transmit s p x) := by
  unfold State.transmit
  extract_lets y0 y1 y2 y3
  have h1 : Frames 0x400008000010 s y1 := by
    unfold y1
    repeat' first
      | with_reducible assumption
      | with_reducible exact Frames.refl _ _
      | with_reducible apply Frames.ite
      | ((with_reducible apply Frames.step (State.charge_frames ..)); exact rfl)
      | ((with_reducible apply Frames.step (State.setPort_frames ..)); exact rfl)
      | ((with_reducible apply Frames.put); exact rfl)
      | dsimp only
      | split
  have h3 : Frames 0x400008000010 s y3 := by
    unfold y3
    repeat' first
      | with_reducible assumption
      | with_reducible exact Frames.refl _ _
      | with_reducible apply Frames.ite
      | ((with_reducible apply Frames.step (State.setPort_frames ..)); exact rfl)
      | dsimp only
      | split
  repeat' first
    | with_reducible assumption
    | with_reducible exact Frames.refl _ _
    | with_reducible apply Frames.ite
    | ((with_reducible apply Frames.step (State.leftBuffer_frames ..)); exact rfl)
    | ((with_reducible apply Frames.step (State.onWire_frames ..)); exact rfl)
    | ((with_reducible apply Frames.step (State.setPort_frames ..)); exact rfl)
    | dsimp only
    | split

theorem State.pumpGo_frames (p : Fin 16) (a0 : List TxFrame) (s : State) (a2 : List TxFrame) :
    Frames 0x400008000010 s (State.pumpGo p a0 s a2) := by
  fun_induction State.pumpGo p a0 s a2
  all_goals
    repeat' first
      | with_reducible assumption
      | with_reducible exact Frames.refl _ _
      | with_reducible apply Frames.ite
      | with_reducible refine Frames.trans ?_ (by assumption)
      | ((with_reducible apply Frames.step (State.setPort_frames ..)); exact rfl)
      | ((with_reducible apply Frames.step (State.transmit_frames ..)); exact rfl)
      | split

theorem State.pump_frames (s : State) (p : Fin 16) :
    Frames 0x400008000010 s (State.pump s p) := by
  unfold State.pump
  repeat' first
    | with_reducible assumption
    | with_reducible exact Frames.refl _ _
    | with_reducible apply Frames.ite
    | ((with_reducible apply Frames.step (State.pumpGo_frames ..)); exact rfl)
    | split

theorem State.send_frames (s : State) (p : Fin 16) (x : TxFrame) :
    Frames 0x400008000010 s (State.send s p x) := by
  unfold State.send
  repeat' first
    | with_reducible assumption
    | with_reducible exact Frames.refl _ _
    | with_reducible apply Frames.ite
    | ((with_reducible apply Frames.step (State.pump_frames ..)); exact rfl)
    | ((with_reducible apply Frames.step (State.setPort_frames ..)); exact rfl)
    | split

theorem State.replayAll_frames (s : State) (p : Fin 16) :
    Frames 0x400008000010 s (State.replayAll s p) := by
  unfold State.replayAll
  repeat' first
    | with_reducible assumption
    | with_reducible exact Frames.refl _ _
    | with_reducible apply Frames.ite
    | ((with_reducible apply Frames.foldl); intro _ _)
    | ((with_reducible apply Frames.foldlSnd); intro _ _)
    | ((with_reducible apply Frames.step (State.onWire_frames ..)); exact rfl)
    | ((with_reducible apply Frames.step (State.setPort_frames ..)); exact rfl)
    | ((with_reducible apply Frames.bump); exact rfl)
    | split

theorem State.sendHello_frames (s : State) (p : Fin 16) :
    Frames 0x400008000010 s (State.sendHello s p) := by
  unfold State.sendHello
  extract_lets y0
  repeat' first
    | with_reducible assumption
    | with_reducible exact Frames.refl _ _
    | with_reducible apply Frames.ite
    | ((with_reducible apply Frames.step (State.send_frames ..)); exact rfl)
    | dsimp only
    | split

theorem State.sendBeat_frames (s : State) (p : Fin 16) (h : Heartbeat) :
    Frames 0x400008000010 s (State.sendBeat s p h) := by
  unfold State.sendBeat
  repeat' first
    | with_reducible assumption
    | with_reducible exact Frames.refl _ _
    | with_reducible apply Frames.ite
    | ((with_reducible apply Frames.step (State.send_frames ..)); exact rfl)
    | split

end Sys2Proof.Machine
end

