-- ==== Sys2Proof/Laws/FramesRopeReq.lean ====
section
/-! SUPPORT. What the definitions of Machine/RopeReq.lean can change: one lemma for each that answers a state. -/

namespace Sys2Proof.Machine

theorem State.setRopeDie_frames (s : State) (d : Fin 4) (r : RopeDie) :
    Frames 0x10000000 s (State.setRopeDie s d r) := by
  unfold State.setRopeDie
  repeat' first
    | with_reducible assumption
    | with_reducible exact Frames.refl _ _
    | with_reducible apply Frames.ite
    | ((with_reducible apply Frames.set); exact rfl)
    | (fail_if_no_progress ((with_reducible apply Frames.rope); exact rfl))
    | split

theorem State.sendFirst_frames (s : State) (d : Fin 4) (r : RopeReq) (p : Fin 16) :
    Frames 0x600018000010 s (State.sendFirst s d r p) := by
  unfold State.sendFirst
  extract_lets y0 y1 y2 y3
  have h2 : Frames 0x600018000010 s y2 := by
    unfold y2
    repeat' first
      | with_reducible assumption
      | with_reducible exact Frames.refl _ _
      | with_reducible apply Frames.ite
      | ((with_reducible apply Frames.step (State.setRopeDie_frames ..)); exact rfl)
      | dsimp only
      | split
  have h3 : Frames 0x600018000010 s y3 := by
    unfold y3
    repeat' first
      | with_reducible assumption
      | with_reducible exact Frames.refl _ _
      | with_reducible apply Frames.ite
      | ((with_reducible apply Frames.addf); exact rfl)
      | dsimp only
      | split
  repeat' first
    | with_reducible assumption
    | with_reducible exact Frames.refl _ _
    | with_reducible apply Frames.ite
    | ((with_reducible apply Frames.step (State.send_frames ..)); exact rfl)
    | dsimp only
    | split

theorem State.drainGo_frames (d : Fin 4) (a0 : List RopeReq) (s : State) (a2 : List RopeReq) :
    Frames 0x600018000010 s (State.drainGo d a0 s a2) := by
  fun_induction State.drainGo d a0 s a2
  all_goals
    repeat' first
      | with_reducible assumption
      | with_reducible exact Frames.refl _ _
      | with_reducible apply Frames.ite
      | with_reducible refine Frames.trans ?_ (by assumption)
      | ((with_reducible apply Frames.step (State.sendFirst_frames ..)); exact rfl)
      | ((with_reducible apply Frames.step (State.setRopeDie_frames ..)); exact rfl)
      | split

theorem State.drain_frames (s : State) (d : Fin 4) :
    Frames 0x600018000010 s (State.drain s d) := by
  unfold State.drain
  repeat' first
    | with_reducible assumption
    | with_reducible exact Frames.refl _ _
    | with_reducible apply Frames.ite
    | ((with_reducible apply Frames.step (State.drainGo_frames ..)); exact rfl)
    | split

theorem State.putOpen_frames (s : State) (d : Fin 4) (r : RopeReq) :
    Frames 0x10000000 s (State.putOpen s d r) := by
  unfold State.putOpen
  extract_lets y0
  repeat' first
    | with_reducible assumption
    | with_reducible exact Frames.refl _ _
    | with_reducible apply Frames.ite
    | ((with_reducible apply Frames.step (State.setRopeDie_frames ..)); exact rfl)
    | dsimp only
    | split

theorem State.dropOpen_frames (s : State) (d : Fin 4) (tag : Nat) :
    Frames 0x10000000 s (State.dropOpen s d tag) := by
  unfold State.dropOpen
  extract_lets y0
  repeat' first
    | with_reducible assumption
    | with_reducible exact Frames.refl _ _
    | with_reducible apply Frames.ite
    | ((with_reducible apply Frames.step (State.setRopeDie_frames ..)); exact rfl)
    | dsimp only
    | split

theorem State.resend_frames (s : State) (d : Fin 4) (r : RopeReq) (start : Nat) (retx : Bool) :
    Frames 0xc00018000010 s (State.resend s d r start retx) := by
  unfold State.resend
  repeat' first
    | with_reducible assumption
    | with_reducible exact Frames.refl _ _
    | with_reducible apply Frames.ite
    | ((with_reducible apply Frames.step (State.putOpen_frames ..)); exact rfl)
    | ((with_reducible apply Frames.step (State.send_frames ..)); exact rfl)
    | ((with_reducible apply Frames.bump); exact rfl)
    | with_reducible apply Frames.iteSnd
    | with_reducible apply Frames.iteSnd2
    | with_reducible apply Frames.iteFst
    | dsimp only
    | split

theorem State.unpark_frames (s : State) :
    Frames 0xc00018000010 s (State.unpark s) := by
  unfold State.unpark
  repeat' first
    | with_reducible assumption
    | with_reducible exact Frames.refl _ _
    | with_reducible apply Frames.ite
    | ((with_reducible apply Frames.foldl); intro _ _)
    | ((with_reducible apply Frames.foldlSnd); intro _ _)
    | ((with_reducible apply Frames.step (State.resend_frames ..)); exact rfl)
    | split

theorem State.drainAll_frames (s : State) :
    Frames 0xe00018000010 s (State.drainAll s) := by
  unfold State.drainAll
  repeat' first
    | with_reducible assumption
    | with_reducible exact Frames.refl _ _
    | with_reducible apply Frames.ite
    | ((with_reducible apply Frames.foldl); intro _ _)
    | ((with_reducible apply Frames.foldlSnd); intro _ _)
    | ((with_reducible apply Frames.step (State.drain_frames ..)); exact rfl)
    | ((with_reducible apply Frames.step (State.unpark_frames ..)); exact rfl)
    | split

theorem State.submit_frames (s : State) (d : Fin 4) (rs : List RopeReq) :
    Frames 0x600018000010 s (State.submit s d rs) := by
  unfold State.submit
  extract_lets y0
  repeat' first
    | with_reducible assumption
    | with_reducible exact Frames.refl _ _
    | with_reducible apply Frames.ite
    | ((with_reducible apply Frames.step (State.drain_frames ..)); exact rfl)
    | ((with_reducible apply Frames.step (State.setRopeDie_frames ..)); exact rfl)
    | dsimp only
    | split

theorem State.forget_frames (s : State) (d : Fin 4) (p : RopeUse → Bool) :
    Frames 0x10000000 s (State.forget s d p) := by
  unfold State.forget
  extract_lets y0
  repeat' first
    | with_reducible assumption
    | with_reducible exact Frames.refl _ _
    | with_reducible apply Frames.ite
    | ((with_reducible apply Frames.step (State.setRopeDie_frames ..)); exact rfl)
    | dsimp only
    | split

end Sys2Proof.Machine
end

