-- ==== Sys2Proof/Laws/FramesJournal.lean ====
section
/-! SUPPORT. What the definitions of Machine/Journal.lean can change: one lemma for each that answers a state. -/

namespace Sys2Proof.Machine

theorem State.journalAdd_frames (s : State) (source : Nat) (origin : Nat) (status : Nat) (idx : Nat) (sub : Nat) (type : Nat) (old : Nat) (new : Nat) :
    Frames 0x20001000 s (State.journalAdd s source origin status idx sub type old new) := by
  unfold State.journalAdd
  extract_lets y0 y1 y2 y3 y4 y5
  have h4 : Frames 0x20001000 s y4 := by
    unfold y4
    repeat' first
      | with_reducible assumption
      | with_reducible exact Frames.refl _ _
      | with_reducible apply Frames.ite
      | ((with_reducible apply Frames.put); exact rfl)
      | (fail_if_no_progress ((with_reducible apply Frames.dict); exact rfl))
      | dsimp only
      | split
  have h5 : Frames 0x20001000 s y5 := by
    unfold y5
    repeat' first
      | with_reducible assumption
      | with_reducible exact Frames.refl _ _
      | with_reducible apply Frames.ite
      | ((with_reducible apply Frames.put); exact rfl)
      | (fail_if_no_progress ((with_reducible apply Frames.dict); exact rfl))
      | dsimp only
      | split
  repeat' first
    | with_reducible assumption
    | with_reducible exact Frames.refl _ _
    | with_reducible apply Frames.ite
    | ((with_reducible apply Frames.bump); exact rfl)
    | (fail_if_no_progress ((with_reducible apply Frames.dict); exact rfl))
    | dsimp only
    | split

theorem State.dictStore_frames (s : State) (idx : Nat) (sub : Nat) (bs : List Byte) :
    Frames 0x1000 s (State.dictStore s idx sub bs) := by
  unfold State.dictStore
  extract_lets y0 y1 y2
  try clear_value y0
  try clear_value y1
  repeat' first
    | with_reducible assumption
    | with_reducible exact Frames.refl _ _
    | with_reducible apply Frames.ite
    | (fail_if_no_progress ((with_reducible apply Frames.dict); exact rfl))
    | dsimp only
    | split

theorem State.deviceKept_frames (s : State) (idx : Nat) (sub : Nat) (type : Nat) (old : Nat) (new : Nat) (bs : List Byte) :
    Frames 0x20001000 s (State.deviceKept s idx sub type old new bs) := by
  unfold State.deviceKept
  repeat' first
    | with_reducible assumption
    | with_reducible exact Frames.refl _ _
    | with_reducible apply Frames.ite
    | ((with_reducible apply Frames.step (State.dictStore_frames ..)); exact rfl)
    | ((with_reducible apply Frames.step (State.journalAdd_frames ..)); exact rfl)
    | split

theorem State.sendHeartbeat_frames (s : State) (h : Heartbeat) :
    Frames 0x400008000010 s (State.sendHeartbeat s h) := by
  unfold State.sendHeartbeat
  extract_lets y0 y1
  repeat' first
    | with_reducible assumption
    | with_reducible exact Frames.refl _ _
    | with_reducible apply Frames.ite
    | ((with_reducible apply Frames.foldl); intro _ _)
    | ((with_reducible apply Frames.foldlSnd); intro _ _)
    | ((with_reducible apply Frames.step (State.sendBeat_frames ..)); exact rfl)
    | dsimp only
    | split

theorem State.failHeartbeat_frames (s : State) :
    Frames 0x400088000010 s (State.failHeartbeat s) := by
  unfold State.failHeartbeat
  repeat' first
    | with_reducible assumption
    | with_reducible exact Frames.refl _ _
    | with_reducible apply Frames.ite
    | ((with_reducible apply Frames.step (State.sendHeartbeat_frames ..)); exact rfl)
    | ((with_reducible apply Frames.put); exact rfl)
    | split

theorem State.beginEnd_frames (s : State) (code : Nat) :
    Frames 0x4000080000 s (State.beginEnd s code) := by
  unfold State.beginEnd
  extract_lets y0 y1 y2
  have h1 : Frames 0x4000080000 s y1 := by
    unfold y1
    repeat' first
      | with_reducible assumption
      | with_reducible exact Frames.refl _ _
      | with_reducible apply Frames.ite
      | ((with_reducible apply Frames.put); exact rfl)
      | (fail_if_no_progress ((with_reducible apply Frames.job); exact rfl))
      | dsimp only
      | split
  repeat' first
    | with_reducible assumption
    | with_reducible exact Frames.refl _ _
    | with_reducible apply Frames.ite
    | ((with_reducible apply Frames.put); exact rfl)
    | (fail_if_no_progress ((with_reducible apply Frames.job); exact rfl))
    | dsimp only
    | split

end Sys2Proof.Machine
end

