-- ==== Sys2Proof/Laws/FramesBandwidth.lean ====
section
/-! SUPPORT. What the definitions of Machine/Bandwidth.lean can change: one lemma for each that answers a state. -/

namespace Sys2Proof.Machine

theorem State.degradeRecord_frames (s : State) (tier : Nat) (new : TierBandwidth) (cls : Nat) :
    Frames 0x800 s (State.degradeRecord s tier new cls) := by
  unfold State.degradeRecord
  repeat' first
    | with_reducible assumption
    | with_reducible exact Frames.refl _ _
    | with_reducible apply Frames.ite
    | ((with_reducible apply Frames.step (State.correctedEvent_frames ..)); exact rfl)
    | split

theorem State.computeTier_frames (s : State) (tier : Nat) (loss : Nat) :
    Frames 0x4100018800 s (State.computeTier s tier loss) := by
  unfold State.computeTier
  extract_lets y0 y1 y2 y3 y4 y5 y6 y7 y8 y9 y10 y11 y12
  have h10 : Frames 0x4100018800 s y10 := by
    unfold y10
    repeat' first
      | with_reducible assumption
      | with_reducible exact Frames.refl _ _
      | with_reducible apply Frames.ite
      | ((with_reducible apply Frames.put); exact rfl)
      | ((with_reducible apply Frames.set); exact rfl)
      | (fail_if_no_progress ((with_reducible apply Frames.tiers); exact rfl))
      | dsimp only
      | split
  have h12 : Frames 0x4100018800 s y12 := by
    unfold y12
    repeat' first
      | with_reducible assumption
      | with_reducible exact Frames.refl _ _
      | with_reducible apply Frames.ite
      | ((with_reducible apply Frames.put); exact rfl)
      | ((with_reducible apply Frames.set); exact rfl)
      | (fail_if_no_progress ((with_reducible apply Frames.tiers); exact rfl))
      | dsimp only
      | split
  repeat' first
    | with_reducible assumption
    | with_reducible exact Frames.refl _ _
    | with_reducible apply Frames.ite
    | ((with_reducible apply Frames.foldl); intro _ _)
    | ((with_reducible apply Frames.foldlSnd); intro _ _)
    | ((with_reducible apply Frames.step (State.degradeRecord_frames ..)); exact rfl)
    | ((with_reducible apply Frames.step (State.notify_frames ..)); exact rfl)
    | ((with_reducible apply Frames.put); exact rfl)
    | ((with_reducible apply Frames.set); exact rfl)
    | (fail_if_no_progress ((with_reducible apply Frames.tiers); exact rfl))
    | dsimp only
    | split

theorem State.effectiveDepth_frames (s : State) :
    Frames 0x400100000 s (State.effectiveDepth s) := by
  unfold State.effectiveDepth
  extract_lets y0 y1 y2 y3
  repeat' first
    | with_reducible assumption
    | with_reducible exact Frames.refl _ _
    | with_reducible apply Frames.ite
    | ((with_reducible apply Frames.foldl); intro _ _)
    | ((with_reducible apply Frames.foldlSnd); intro _ _)
    | ((with_reducible apply Frames.put); exact rfl)
    | (fail_if_no_progress ((with_reducible apply Frames.input); exact rfl))
    | dsimp only
    | split

theorem State.stallBursts_frames (s : State) (l : List StalledBurst) :
    Frames 0x10000 s (State.stallBursts s l) := by
  unfold State.stallBursts
  repeat' first
    | with_reducible assumption
    | with_reducible exact Frames.refl _ _
    | with_reducible apply Frames.ite
    | (fail_if_no_progress ((with_reducible apply Frames.tiers); exact rfl))
    | split

theorem State.forgetMirror_frames (s : State) :
    Frames 0x10000000 s (State.forgetMirror s) := by
  unfold State.forgetMirror
  repeat' first
    | with_reducible assumption
    | with_reducible exact Frames.refl _ _
    | with_reducible apply Frames.ite
    | ((with_reducible apply Frames.foldl); intro _ _)
    | ((with_reducible apply Frames.foldlSnd); intro _ _)
    | ((with_reducible apply Frames.step (State.forget_frames ..)); exact rfl)
    | split

theorem State.abandonMirror_frames (s : State) :
    Frames 0x90040800 s (State.abandonMirror s) := by
  unfold State.abandonMirror
  repeat' first
    | with_reducible assumption
    | with_reducible exact Frames.refl _ _
    | with_reducible apply Frames.ite
    | ((with_reducible apply Frames.step (State.correctedEvent_frames ..)); exact rfl)
    | ((with_reducible apply Frames.step (State.forgetMirror_frames ..)); exact rfl)
    | ((with_reducible apply Frames.put); exact rfl)
    | (fail_if_no_progress ((with_reducible apply Frames.restart); exact rfl))
    | dsimp only
    | split

theorem State.computeBandwidth_frames (s : State) (losses : List Nat) :
    Frames 0x4590158800 s (State.computeBandwidth s losses) := by
  unfold State.computeBandwidth
  repeat' first
    | with_reducible assumption
    | with_reducible exact Frames.refl _ _
    | with_reducible apply Frames.ite
    | ((with_reducible apply Frames.step (State.abandonMirror_frames ..)); exact rfl)
    | ((with_reducible apply Frames.step (State.computeTier_frames ..)); exact rfl)
    | ((with_reducible apply Frames.step (State.effectiveDepth_frames ..)); exact rfl)
    | dsimp only
    | split

theorem State.recompute_frames (s : State) :
    Frames 0x4590158800 s (State.recompute s) := by
  unfold State.recompute
  repeat' first
    | with_reducible assumption
    | with_reducible exact Frames.refl _ _
    | with_reducible apply Frames.ite
    | ((with_reducible apply Frames.step (State.computeBandwidth_frames ..)); exact rfl)
    | split

end Sys2Proof.Machine
end

