-- ==== Sys2Proof/Laws/FramesNearMor.lean ====
section
/-! SUPPORT. What the definitions of Machine/NearMor.lean can change: one lemma for each that answers a state. -/

namespace Sys2Proof.Machine

theorem State.setPcie_frames (s : State) (p : PcieState) :
    Frames 0x8000 s (State.setPcie s p) := by
  unfold State.setPcie
  repeat' first
    | with_reducible assumption
    | with_reducible exact Frames.refl _ _
    | with_reducible apply Frames.ite
    | (fail_if_no_progress ((with_reducible apply Frames.pcie); exact rfl))
    | split

theorem State.aer_frames (s : State) :
    Frames 0x8000 s (State.aer s) := by
  unfold State.aer
  repeat' first
    | with_reducible assumption
    | with_reducible exact Frames.refl _ _
    | with_reducible apply Frames.ite
    | ((with_reducible apply Frames.step (State.setPcie_frames ..)); exact rfl)
    | split

theorem State.refuseHost_frames (s : State) (isRead : Bool) :
    Frames 0x8010 s (State.refuseHost s isRead) := by
  unfold State.refuseHost
  repeat' first
    | with_reducible assumption
    | with_reducible exact Frames.refl _ _
    | with_reducible apply Frames.ite
    | ((with_reducible apply Frames.step (State.aer_frames ..)); exact rfl)
    | ((with_reducible apply Frames.step (State.emit_frames ..)); exact rfl)
    | split

theorem State.apertureRead_frames (s : State) (st : MemStatus) (bs : List Byte) :
    Frames 0x8810 s (State.apertureRead s st bs) := by
  unfold State.apertureRead
  repeat' first
    | with_reducible assumption
    | with_reducible exact Frames.refl _ _
    | with_reducible apply Frames.ite
    | ((with_reducible apply Frames.step (State.emit_frames ..)); exact rfl)
    | ((with_reducible apply Frames.step (State.hostError_frames ..)); exact rfl)
    | ((with_reducible apply Frames.step (State.refuseHost_frames ..)); exact rfl)
    | split

theorem State.apertureServe_frames (s : State) (a : Nat) (len : Nat) (data : Option (List Byte)) :
    Frames 0x100000018819 s (State.apertureServe s a len data) := by
  unfold State.apertureServe
  repeat' first
    | with_reducible assumption
    | with_reducible exact Frames.refl _ _
    | with_reducible apply Frames.ite
    | ((with_reducible apply Frames.step (State.apertureRead_frames ..)); exact rfl)
    | ((with_reducible apply Frames.step (State.readBytes_frames ..)); exact rfl)
    | ((with_reducible apply Frames.step (State.writeMem_frames ..)); exact rfl)
    | dsimp only
    | split

theorem State.addWaiting_frames (s : State) (w : WaitingAccess) :
    Frames 0x10000 s (State.addWaiting s w) := by
  unfold State.addWaiting
  repeat' first
    | with_reducible assumption
    | with_reducible exact Frames.refl _ _
    | with_reducible apply Frames.ite
    | (fail_if_no_progress ((with_reducible apply Frames.tiers); exact rfl))
    | split

theorem State.serve_frames (s : State) (w : WaitingAccess) :
    Frames 0x100000018819 s (State.serve s w) := by
  unfold State.serve
  repeat' first
    | with_reducible assumption
    | with_reducible exact Frames.refl _ _
    | with_reducible apply Frames.ite
    | ((with_reducible apply Frames.step (State.apertureServe_frames ..)); exact rfl)
    | ((with_reducible apply Frames.step (State.emit_frames ..)); exact rfl)
    | ((with_reducible apply Frames.step (State.readBytes_frames ..)); exact rfl)
    | ((with_reducible apply Frames.step (State.writeBytes_frames ..)); exact rfl)
    | with_reducible apply Frames.iteSnd
    | with_reducible apply Frames.iteSnd2
    | with_reducible apply Frames.iteFst
    | dsimp only
    | split

theorem State.releaseWaiting_frames (s : State) :
    Frames 0x100000018819 s (State.releaseWaiting s) := by
  unfold State.releaseWaiting
  extract_lets y0 y1 y2
  repeat' first
    | with_reducible assumption
    | with_reducible exact Frames.refl _ _
    | with_reducible apply Frames.ite
    | ((with_reducible apply Frames.foldl); intro _ _)
    | ((with_reducible apply Frames.foldlSnd); intro _ _)
    | ((with_reducible apply Frames.step (State.serve_frames ..)); exact rfl)
    | (fail_if_no_progress ((with_reducible apply Frames.tiers); exact rfl))
    | dsimp only
    | split

theorem State.countCorrected_frames (s : State) (u : Nat) :
    Frames 0x10000 s (State.countCorrected s u) := by
  unfold State.countCorrected
  repeat' first
    | with_reducible assumption
    | with_reducible exact Frames.refl _ _
    | with_reducible apply Frames.ite
    | ((with_reducible apply Frames.set); exact rfl)
    | (fail_if_no_progress ((with_reducible apply Frames.tiers); exact rfl))
    | split

theorem State.severity_frames (s : State) (st : Nat) (report : Bool) :
    Frames 0x10000 s (State.severity s st report) := by
  unfold State.severity
  repeat' first
    | with_reducible assumption
    | with_reducible exact Frames.refl _ _
    | with_reducible apply Frames.ite
    | ((with_reducible apply Frames.step (State.countCorrected_frames ..)); exact rfl)
    | split

theorem State.spoil_frames (s : State) (k : Nat) :
    Frames 0x10009 s (State.spoil s k) := by
  unfold State.spoil
  repeat' first
    | with_reducible assumption
    | with_reducible exact Frames.refl _ _
    | with_reducible apply Frames.ite
    | ((with_reducible apply Frames.step (State.setBad_frames ..)); exact rfl)
    | ((with_reducible apply Frames.step (State.store_frames ..)); exact rfl)
    | ((with_reducible apply Frames.step (State.tookFrees_frames ..)); exact rfl)
    | split

theorem execNearRead_frames (r : Requester) (a : Nat) (errs : NearErrors) (s : State) :
    FramesOut 0x100000018819 s (execNearRead r a errs s) := by
  unfold execNearRead
  extract_lets y0
  repeat' first
    | with_reducible assumption
    | with_reducible exact Frames.refl _ _
    | with_reducible apply FramesOut.next
    | with_reducible apply Frames.ite
    | with_reducible apply FramesOut.ite
    | ((with_reducible apply Frames.step (State.addWaiting_frames ..)); exact rfl)
    | ((with_reducible apply Frames.step (State.countCorrected_frames ..)); exact rfl)
    | ((with_reducible apply Frames.step (State.emit_frames ..)); exact rfl)
    | ((with_reducible apply Frames.step (State.serve_frames ..)); exact rfl)
    | ((with_reducible apply Frames.step (State.severity_frames ..)); exact rfl)
    | ((with_reducible apply Frames.step (State.spoil_frames ..)); exact rfl)
    | ((with_reducible apply Frames.step (State.tookFrees_frames ..)); exact rfl)
    | ((with_reducible apply Frames.step (State.ucc_frames ..)); exact rfl)
    | dsimp only
    | split

theorem execNearWrite_frames (r : Requester) (a : Nat) (data : List Byte) (s : State) :
    FramesOut 0x100000018819 s (execNearWrite r a data s) := by
  unfold execNearWrite
  extract_lets y0
  repeat' first
    | with_reducible assumption
    | with_reducible exact Frames.refl _ _
    | with_reducible apply FramesOut.next
    | with_reducible apply Frames.ite
    | with_reducible apply FramesOut.ite
    | ((with_reducible apply Frames.step (State.addWaiting_frames ..)); exact rfl)
    | ((with_reducible apply Frames.step (State.serve_frames ..)); exact rfl)
    | dsimp only
    | split

theorem execNearPartialWrite_frames (r : Requester) (a : Nat) (errs : NearErrors) (data : List Byte) (s : State) :
    FramesOut 0x100000018819 s (execNearPartialWrite r a errs data s) := by
  unfold execNearPartialWrite
  extract_lets y0
  repeat' first
    | with_reducible assumption
    | with_reducible exact Frames.refl _ _
    | with_reducible apply FramesOut.next
    | with_reducible apply Frames.ite
    | with_reducible apply FramesOut.ite
    | ((with_reducible apply Frames.step (State.addWaiting_frames ..)); exact rfl)
    | ((with_reducible apply Frames.step (State.countCorrected_frames ..)); exact rfl)
    | ((with_reducible apply Frames.step (State.serve_frames ..)); exact rfl)
    | ((with_reducible apply Frames.step (State.severity_frames ..)); exact rfl)
    | ((with_reducible apply Frames.step (State.spoil_frames ..)); exact rfl)
    | ((with_reducible apply Frames.step (State.store_frames ..)); exact rfl)
    | ((with_reducible apply Frames.step (State.tookFrees_frames ..)); exact rfl)
    | dsimp only
    | split

theorem execMoraineAccess_frames (r : Requester) (a : Nat) (len : Nat) (data : Option (List Byte)) (e : MoraineError) (s : State) :
    FramesOut 0x100000018819 s (execMoraineAccess r a len data e s) := by
  unfold execMoraineAccess
  repeat' first
    | with_reducible assumption
    | with_reducible exact Frames.refl _ _
    | with_reducible apply FramesOut.next
    | with_reducible apply Frames.ite
    | with_reducible apply FramesOut.ite
    | ((with_reducible apply Frames.step (State.addWaiting_frames ..)); exact rfl)
    | ((with_reducible apply Frames.step (State.emit_frames ..)); exact rfl)
    | ((with_reducible apply Frames.step (State.serve_frames ..)); exact rfl)
    | ((with_reducible apply Frames.step (State.tookFrees_frames ..)); exact rfl)
    | ((with_reducible apply Frames.step (State.ucc_frames ..)); exact rfl)
    | dsimp only
    | split

theorem execUnmappedAccess_frames (r : Requester) (a : Nat) (len : Nat) (data : Option (List Byte)) (s : State) :
    FramesOut 0x810 s (execUnmappedAccess r a len data s) := by
  unfold execUnmappedAccess
  extract_lets y0 y1
  have h1 : Frames 0x810 s y1 := by
    unfold y1
    repeat' first
      | with_reducible assumption
      | with_reducible exact Frames.refl _ _
      | with_reducible apply FramesOut.next
      | with_reducible apply Frames.ite
      | with_reducible apply FramesOut.ite
      | ((with_reducible apply Frames.step (State.ucc_frames ..)); exact rfl)
      | dsimp only
      | split
  repeat' first
    | with_reducible assumption
    | with_reducible exact Frames.refl _ _
    | with_reducible apply FramesOut.next
    | with_reducible apply Frames.ite
    | with_reducible apply FramesOut.ite
    | ((with_reducible apply Frames.step (State.emit_frames ..)); exact rfl)
    | dsimp only
    | split

theorem execNtRetire_frames (stack : Fin 8) (frame : Nat) (s : State) :
    FramesOut 0x100010800 s (execNtRetire stack frame s) := by
  unfold execNtRetire
  extract_lets y0 y1 y2 y3 y4 y5 y6
  have h4 : Frames 0x100010800 s y4 := by
    unfold y4
    repeat' first
      | with_reducible assumption
      | with_reducible exact Frames.refl _ _
      | with_reducible apply FramesOut.next
      | with_reducible apply Frames.ite
      | with_reducible apply FramesOut.ite
      | ((with_reducible apply Frames.put); exact rfl)
      | dsimp only
      | split
  have h5 : Frames 0x100010800 s y5 := by
    unfold y5
    repeat' first
      | with_reducible assumption
      | with_reducible exact Frames.refl _ _
      | with_reducible apply FramesOut.next
      | with_reducible apply Frames.ite
      | with_reducible apply FramesOut.ite
      | ((with_reducible apply Frames.step (State.ucc_frames ..)); exact rfl)
      | ((with_reducible apply Frames.put); exact rfl)
      | (fail_if_no_progress ((with_reducible apply Frames.tiers); exact rfl))
      | dsimp only
      | split
  repeat' first
    | with_reducible assumption
    | with_reducible exact Frames.refl _ _
    | with_reducible apply FramesOut.next
    | with_reducible apply Frames.ite
    | with_reducible apply FramesOut.ite
    | ((with_reducible apply Frames.step (State.ucc_frames ..)); exact rfl)
    | ((with_reducible apply Frames.put); exact rfl)
    | (fail_if_no_progress ((with_reducible apply Frames.tiers); exact rfl))
    | dsimp only
    | split

theorem State.copyToMoraine_frames (a0 : Nat) (s : State) (a2 : Nat) (a3 : Nat) :
    Frames 0x10001 s (State.copyToMoraine a0 s a2 a3) := by
  fun_induction State.copyToMoraine a0 s a2 a3
  all_goals
    repeat' first
      | with_reducible assumption
      | with_reducible exact Frames.refl _ _
      | with_reducible apply Frames.ite
      | with_reducible refine Frames.trans ?_ (by assumption)
      | ((with_reducible apply Frames.step (State.setBad_frames ..)); exact rfl)
      | ((with_reducible apply Frames.step (State.store_frames ..)); exact rfl)
      | dsimp only
      | split

theorem execRetireCopyDone_frames (s : State) :
    FramesOut 0x104590158c19 s (execRetireCopyDone s) := by
  unfold execRetireCopyDone
  repeat' first
    | with_reducible assumption
    | with_reducible exact Frames.refl _ _
    | with_reducible apply FramesOut.next
    | with_reducible apply Frames.ite
    | with_reducible apply FramesOut.ite
    | ((with_reducible apply Frames.step (State.copyToMoraine_frames ..)); exact rfl)
    | ((with_reducible apply Frames.step (State.recompute_frames ..)); exact rfl)
    | ((with_reducible apply Frames.step (State.releaseWaiting_frames ..)); exact rfl)
    | ((with_reducible apply Frames.step (State.setRecord_frames ..)); exact rfl)
    | ((with_reducible apply Frames.put); exact rfl)
    | (fail_if_no_progress ((with_reducible apply Frames.tiers); exact rfl))
    | dsimp only
    | split

theorem execMorRetire_frames (channel : Fin 32) (frame : Nat) (s : State) :
    FramesOut 0x200010800 s (execMorRetire channel frame s) := by
  unfold execMorRetire
  extract_lets y0 y1 y2 y3 y4 y5 y6
  have h4 : Frames 0x200010800 s y4 := by
    unfold y4
    repeat' first
      | with_reducible assumption
      | with_reducible exact Frames.refl _ _
      | with_reducible apply FramesOut.next
      | with_reducible apply Frames.ite
      | with_reducible apply FramesOut.ite
      | ((with_reducible apply Frames.put); exact rfl)
      | dsimp only
      | split
  have h5 : Frames 0x200010800 s y5 := by
    unfold y5
    repeat' first
      | with_reducible assumption
      | with_reducible exact Frames.refl _ _
      | with_reducible apply FramesOut.next
      | with_reducible apply Frames.ite
      | with_reducible apply FramesOut.ite
      | ((with_reducible apply Frames.step (State.ucc_frames ..)); exact rfl)
      | ((with_reducible apply Frames.put); exact rfl)
      | (fail_if_no_progress ((with_reducible apply Frames.tiers); exact rfl))
      | dsimp only
      | split
  repeat' first
    | with_reducible assumption
    | with_reducible exact Frames.refl _ _
    | with_reducible apply FramesOut.next
    | with_reducible apply Frames.ite
    | with_reducible apply FramesOut.ite
    | ((with_reducible apply Frames.step (State.ucc_frames ..)); exact rfl)
    | ((with_reducible apply Frames.put); exact rfl)
    | (fail_if_no_progress ((with_reducible apply Frames.tiers); exact rfl))
    | dsimp only
    | split

theorem execMorRetireCopyDone_frames (s : State) :
    FramesOut 0x104790158c19 s (execMorRetireCopyDone s) := by
  unfold execMorRetireCopyDone
  repeat' first
    | with_reducible assumption
    | with_reducible exact Frames.refl _ _
    | with_reducible apply FramesOut.next
    | with_reducible apply Frames.ite
    | with_reducible apply FramesOut.ite
    | ((with_reducible apply Frames.foldl); intro _ _)
    | ((with_reducible apply Frames.foldlSnd); intro _ _)
    | ((with_reducible apply Frames.step (State.recompute_frames ..)); exact rfl)
    | ((with_reducible apply Frames.step (State.releaseWaiting_frames ..)); exact rfl)
    | ((with_reducible apply Frames.step (State.setBad_frames ..)); exact rfl)
    | ((with_reducible apply Frames.step (State.setRecord_frames ..)); exact rfl)
    | ((with_reducible apply Frames.step (State.store_frames ..)); exact rfl)
    | ((with_reducible apply Frames.put); exact rfl)
    | (fail_if_no_progress ((with_reducible apply Frames.tiers); exact rfl))
    | dsimp only
    | split

theorem execDriftCheck_frames (drifts : List Nat) (s : State) :
    FramesOut 0x10000 s (execDriftCheck drifts s) := by
  unfold execDriftCheck
  repeat' first
    | with_reducible assumption
    | with_reducible exact Frames.refl _ _
    | with_reducible apply FramesOut.next
    | with_reducible apply Frames.ite
    | with_reducible apply FramesOut.ite
    | (fail_if_no_progress ((with_reducible apply Frames.tiers); exact rfl))
    | dsimp only
    | split

theorem execMoraineCaseHot_frames (ch : Fin 24) (s : State) :
    FramesOut 0x4590158800 s (execMoraineCaseHot ch s) := by
  unfold execMoraineCaseHot
  repeat' first
    | with_reducible assumption
    | with_reducible exact Frames.refl _ _
    | with_reducible apply FramesOut.next
    | with_reducible apply Frames.ite
    | with_reducible apply FramesOut.ite
    | ((with_reducible apply Frames.step (State.computeBandwidth_frames ..)); exact rfl)
    | ((with_reducible apply Frames.set); exact rfl)
    | (fail_if_no_progress ((with_reducible apply Frames.tiers); exact rfl))
    | dsimp only
    | split

theorem execSelfRefreshEntry_frames (ch : Fin 24) (s : State) :
    FramesOut 0x10000 s (execSelfRefreshEntry ch s) := by
  unfold execSelfRefreshEntry
  repeat' first
    | with_reducible assumption
    | with_reducible exact Frames.refl _ _
    | with_reducible apply FramesOut.next
    | with_reducible apply Frames.ite
    | with_reducible apply FramesOut.ite
    | (fail_if_no_progress ((with_reducible apply Frames.tiers); exact rfl))
    | split

theorem execSelfRefreshExit_frames (ch : Fin 24) (s : State) :
    FramesOut 0x100000018819 s (execSelfRefreshExit ch s) := by
  unfold execSelfRefreshExit
  repeat' first
    | with_reducible assumption
    | with_reducible exact Frames.refl _ _
    | with_reducible apply FramesOut.next
    | with_reducible apply Frames.ite
    | with_reducible apply FramesOut.ite
    | ((with_reducible apply Frames.step (State.releaseWaiting_frames ..)); exact rfl)
    | (fail_if_no_progress ((with_reducible apply Frames.tiers); exact rfl))
    | split

theorem execSelfRefreshScrubWake_frames (ch : Fin 24) (s : State) :
    FramesOut 0x100000018819 s (execSelfRefreshScrubWake ch s) := by
  unfold execSelfRefreshScrubWake
  repeat' first
    | with_reducible assumption
    | with_reducible exact Frames.refl _ _
    | with_reducible apply FramesOut.next
    | with_reducible apply Frames.ite
    | with_reducible apply FramesOut.ite
    | ((with_reducible apply Frames.step (State.releaseWaiting_frames ..)); exact rfl)
    | (fail_if_no_progress ((with_reducible apply Frames.tiers); exact rfl))
    | split

theorem State.failRequest_frames (s : State) (q : HostReq) (a : Nat) :
    Frames 0x8800 s (State.failRequest s q a) := by
  unfold State.failRequest
  repeat' first
    | with_reducible assumption
    | with_reducible exact Frames.refl _ _
    | with_reducible apply Frames.ite
    | ((with_reducible apply Frames.step (State.hostError_frames ..)); exact rfl)
    | (fail_if_no_progress ((with_reducible apply Frames.pcie); exact rfl))
    | split

theorem execHostErrorCompletion_frames (r : Requester) (a : Nat) (len : Nat) (isRead : Bool) (s : State) :
    FramesOut 0x8810 s (execHostErrorCompletion r a len isRead s) := by
  unfold execHostErrorCompletion
  repeat' first
    | with_reducible assumption
    | with_reducible exact Frames.refl _ _
    | with_reducible apply FramesOut.next
    | with_reducible apply Frames.ite
    | with_reducible apply FramesOut.ite
    | ((with_reducible apply Frames.step (State.emit_frames ..)); exact rfl)
    | ((with_reducible apply Frames.step (State.failRequest_frames ..)); exact rfl)
    | ((with_reducible apply Frames.step (State.hostError_frames ..)); exact rfl)
    | dsimp only
    | split

theorem execScrubRead_frames (near : Bool) (find : ScrubFind) (s : State) :
    FramesOut 0x10809 s (execScrubRead near find s) := by
  unfold execScrubRead
  extract_lets y0 y1 y2 y3 y4 y5 y6 y7 y8 y9 y10
  try clear_value y8
  have h10 : Frames 0x10809 s y10 := by
    unfold y10
    repeat' first
      | with_reducible assumption
      | with_reducible exact Frames.refl _ _
      | with_reducible apply FramesOut.next
      | with_reducible apply Frames.ite
      | with_reducible apply FramesOut.ite
      | (fail_if_no_progress ((with_reducible apply Frames.tiers); exact rfl))
      | with_reducible apply Frames.iteSnd
      | with_reducible apply Frames.iteSnd2
      | with_reducible apply Frames.iteFst
      | dsimp only
      | split
  repeat' first
    | with_reducible assumption
    | with_reducible exact Frames.refl _ _
    | with_reducible apply FramesOut.next
    | with_reducible apply Frames.ite
    | with_reducible apply FramesOut.ite
    | ((with_reducible apply Frames.step (State.countCorrected_frames ..)); exact rfl)
    | ((with_reducible apply Frames.step (State.spoil_frames ..)); exact rfl)
    | ((with_reducible apply Frames.step (State.ucc_frames ..)); exact rfl)
    | with_reducible apply Frames.iteSnd
    | with_reducible apply Frames.iteSnd2
    | with_reducible apply Frames.iteFst
    | dsimp only
    | split

theorem execScrubOverdue_frames (near : Bool) (s : State) :
    FramesOut 0x10800 s (execScrubOverdue near s) := by
  unfold execScrubOverdue
  extract_lets y0 y1 y2 y3
  have h3 : Frames 0x10800 s y3 := by
    unfold y3
    repeat' first
      | with_reducible assumption
      | with_reducible exact Frames.refl _ _
      | with_reducible apply FramesOut.next
      | with_reducible apply Frames.ite
      | with_reducible apply FramesOut.ite
      | (fail_if_no_progress ((with_reducible apply Frames.tiers); exact rfl))
      | dsimp only
      | split
  repeat' first
    | with_reducible assumption
    | with_reducible exact Frames.refl _ _
    | with_reducible apply FramesOut.next
    | with_reducible apply Frames.ite
    | with_reducible apply FramesOut.ite
    | ((with_reducible apply Frames.step (State.correctedEvent_frames ..)); exact rfl)
    | dsimp only
    | split

theorem State.setCalib_frames (s : State) (st : Nat) (c : Calibration) :
    Frames 0x10000 s (State.setCalib s st c) := by
  unfold State.setCalib
  repeat' first
    | with_reducible assumption
    | with_reducible exact Frames.refl _ _
    | with_reducible apply Frames.ite
    | ((with_reducible apply Frames.set); exact rfl)
    | (fail_if_no_progress ((with_reducible apply Frames.tiers); exact rfl))
    | split

theorem execCalibrationTrigger_frames (stack : Fin 8) (temp : Int) (s : State) :
    FramesOut 0x10000 s (execCalibrationTrigger stack temp s) := by
  unfold execCalibrationTrigger
  extract_lets y0
  repeat' first
    | with_reducible assumption
    | with_reducible exact Frames.refl _ _
    | with_reducible apply FramesOut.next
    | with_reducible apply Frames.ite
    | with_reducible apply FramesOut.ite
    | ((with_reducible apply Frames.step (State.setCalib_frames ..)); exact rfl)
    | dsimp only
    | split

theorem execCalibrationSteal_frames (stack : Fin 8) (s : State) :
    FramesOut 0x10000 s (execCalibrationSteal stack s) := by
  unfold execCalibrationSteal
  extract_lets y0
  repeat' first
    | with_reducible assumption
    | with_reducible exact Frames.refl _ _
    | with_reducible apply FramesOut.next
    | with_reducible apply Frames.ite
    | with_reducible apply FramesOut.ite
    | ((with_reducible apply Frames.step (State.setCalib_frames ..)); exact rfl)
    | dsimp only
    | split

theorem execCalibrationChannelDone_frames (stack : Fin 8) (s : State) :
    FramesOut 0x100000018819 s (execCalibrationChannelDone stack s) := by
  unfold execCalibrationChannelDone
  extract_lets y0
  repeat' first
    | with_reducible assumption
    | with_reducible exact Frames.refl _ _
    | with_reducible apply FramesOut.next
    | with_reducible apply Frames.ite
    | with_reducible apply FramesOut.ite
    | ((with_reducible apply Frames.step (State.releaseWaiting_frames ..)); exact rfl)
    | ((with_reducible apply Frames.step (State.setCalib_frames ..)); exact rfl)
    | dsimp only
    | split

theorem execDeliverableCompute_frames (losses : List Nat) (s : State) :
    FramesOut 0x4590158800 s (execDeliverableCompute losses s) := by
  unfold execDeliverableCompute
  repeat' first
    | with_reducible assumption
    | with_reducible exact Frames.refl _ _
    | with_reducible apply FramesOut.next
    | with_reducible apply Frames.ite
    | with_reducible apply FramesOut.ite
    | ((with_reducible apply Frames.step (State.computeBandwidth_frames ..)); exact rfl)
    | split

theorem execContractStallRelease_frames (r : Requester) (s : State) :
    FramesOut 0x10000 s (execContractStallRelease r s) := by
  unfold execContractStallRelease
  extract_lets y0 y1
  repeat' first
    | with_reducible assumption
    | with_reducible exact Frames.refl _ _
    | with_reducible apply FramesOut.next
    | with_reducible apply Frames.ite
    | with_reducible apply FramesOut.ite
    | (fail_if_no_progress ((with_reducible apply Frames.tiers); exact rfl))
    | dsimp only
    | split

theorem execNearStackHot_frames (stack : Fin 8) (loss : Nat) (s : State) :
    FramesOut 0x4590158800 s (execNearStackHot stack loss s) := by
  unfold execNearStackHot
  repeat' first
    | with_reducible assumption
    | with_reducible exact Frames.refl _ _
    | with_reducible apply FramesOut.next
    | with_reducible apply Frames.ite
    | with_reducible apply FramesOut.ite
    | ((with_reducible apply Frames.step (State.computeBandwidth_frames ..)); exact rfl)
    | ((with_reducible apply Frames.set); exact rfl)
    | (fail_if_no_progress ((with_reducible apply Frames.tiers); exact rfl))
    | dsimp only
    | split

end Sys2Proof.Machine
end

