-- ==== Sys2Proof/Laws/FramesSwap.lean ====
section
/-! SUPPORT. What the definitions of Machine/Swap.lean can change: one lemma for each that answers a state. -/

namespace Sys2Proof.Machine

theorem State.swapEnd_frames (s : State) (q : Fin 8) (i : Nat) (flags : Nat) (status : Nat) :
    Frames 0x104200018801 s (State.swapEnd s q i flags status) := by
  unfold State.swapEnd
  extract_lets y0 y1
  have h0 : Frames 0x104200018801 s y0 := by
    unfold y0
    repeat' first
      | with_reducible assumption
      | with_reducible exact Frames.refl _ _
      | with_reducible apply Frames.ite
      | ((with_reducible apply Frames.step (State.writeMem_frames ..)); exact rfl)
      | dsimp only
      | split
  have h1 : Frames 0x104200018801 s y1 := by
    unfold y1
    repeat' first
      | with_reducible assumption
      | with_reducible exact Frames.refl _ _
      | with_reducible apply Frames.ite
      | ((with_reducible apply Frames.put); exact rfl)
      | dsimp only
      | split
  repeat' first
    | with_reducible assumption
    | with_reducible exact Frames.refl _ _
    | with_reducible apply Frames.ite
    | ((with_reducible apply Frames.step (State.notify_frames ..)); exact rfl)
    | split

theorem execSwapDescTake_frames (q : Fin 8) (s : State) :
    FramesOut 0x104200018801 s (execSwapDescTake q s) := by
  unfold execSwapDescTake
  extract_lets y0 y1 y2 y3 y4 y5 y6
  have h3 : Frames 0x104200018801 s y3 := by
    unfold y3
    repeat' first
      | with_reducible assumption
      | with_reducible exact Frames.refl _ _
      | with_reducible apply FramesOut.next
      | with_reducible apply Frames.ite
      | with_reducible apply FramesOut.ite
      | ((with_reducible apply Frames.put); exact rfl)
      | dsimp only
      | split
  repeat' first
    | with_reducible assumption
    | with_reducible exact Frames.refl _ _
    | with_reducible apply FramesOut.next
    | with_reducible apply Frames.ite
    | with_reducible apply FramesOut.ite
    | ((with_reducible apply Frames.step (State.swapEnd_frames ..)); exact rfl)
    | ((with_reducible apply Frames.set); exact rfl)
    | (fail_if_no_progress ((with_reducible apply Frames.pcie_tiers); exact rfl; exact rfl))
    | dsimp only
    | split

theorem execSwapDescSkip_frames (q : Fin 8) (s : State) :
    FramesOut 0x200000000 s (execSwapDescSkip q s) := by
  unfold execSwapDescSkip
  extract_lets y0
  repeat' first
    | with_reducible assumption
    | with_reducible exact Frames.refl _ _
    | with_reducible apply FramesOut.next
    | with_reducible apply Frames.ite
    | with_reducible apply FramesOut.ite
    | ((with_reducible apply Frames.put); exact rfl)
    | dsimp only
    | split

theorem State.swapMove_frames (q : Fin 8) (a0 : Nat) (s : State) (a2 : Nat) (a3 : Nat) (a4 : Nat) :
    Frames 0x100000010809 s (State.swapMove q a0 s a2 a3 a4).2 := by
  fun_induction State.swapMove q a0 s a2 a3 a4
  all_goals
    repeat' first
      | with_reducible assumption
      | with_reducible exact Frames.refl _ _
      | with_reducible apply Frames.ite
      | with_reducible apply Frames.iteSnd
      | with_reducible apply Frames.iteSnd2
      | with_reducible apply Frames.iteFst
      | ((with_reducible apply Frames.step (State.hostError_frames ..)); exact rfl)
      | ((with_reducible apply Frames.step (State.readBytes_frames ..)); exact rfl)
      | with_reducible refine Frames.trans ?_ (by assumption)
      | ((with_reducible apply Frames.step (State.writeBytes_frames ..)); exact rfl)
      | dsimp only
      | split

theorem execSwapDescDone_frames (q : Fin 8) (s : State) :
    FramesOut 0x104200018809 s (execSwapDescDone q s) := by
  unfold execSwapDescDone
  repeat' first
    | with_reducible assumption
    | with_reducible exact Frames.refl _ _
    | with_reducible apply FramesOut.next
    | with_reducible apply Frames.ite
    | with_reducible apply FramesOut.ite
    | ((with_reducible apply Frames.step (State.hostSettled_frames ..)); exact rfl)
    | ((with_reducible apply Frames.step (State.swapEnd_frames ..)); exact rfl)
    | ((with_reducible apply Frames.step (State.swapMove_frames ..)); exact rfl)
    | ((with_reducible apply Frames.set); exact rfl)
    | (fail_if_no_progress ((with_reducible apply Frames.tiers); exact rfl))
    | with_reducible apply Frames.iteSnd
    | with_reducible apply Frames.iteSnd2
    | with_reducible apply Frames.iteFst
    | dsimp only
    | split

end Sys2Proof.Machine
end

