-- ==== Sys2Proof/Laws/FramesFault.lean ====
section
/-! SUPPORT. What the definitions of Machine/Fault.lean can change: one lemma for each that answers a state. -/

namespace Sys2Proof.Machine

theorem State.stopClocks_frames (s : State) (cause : Nat) :
    Frames 0x40200181d1 s (State.stopClocks s cause) := by
  unfold State.stopClocks
  repeat' first
    | with_reducible assumption
    | with_reducible exact Frames.refl _ _
    | with_reducible apply Frames.ite
    | ((with_reducible apply Frames.step (State.setLevel_frames ..)); exact rfl)
    | (fail_if_no_progress ((with_reducible apply Frames.clocks); exact rfl))
    | (fail_if_no_progress ((with_reducible apply Frames.doms_boot); exact rfl; exact rfl))
    | (fail_if_no_progress ((with_reducible apply Frames.mem_clocks_tiers); exact rfl; exact rfl; exact rfl))
    | exact fun h => Mem.loseAll_wf h _
    | exact fun h => Mem.setN_wf h _ _
    | exact fun h => Mem.zero_wf h _
    | exact fun h => Mem.filter_wf h _
    | dsimp only
    | split

theorem State.faultSync_frames (s : State) :
    Frames 0x80000000 s (State.faultSync s) := by
  unfold State.faultSync
  extract_lets y0 y1 y2 y3 y4
  have h3 : Frames 0x80000000 s y3 := by
    unfold y3
    repeat' first
      | with_reducible assumption
      | with_reducible exact Frames.refl _ _
      | with_reducible apply Frames.ite
      | ((with_reducible apply Frames.put); exact rfl)
      | dsimp only
      | split
  have h4 : Frames 0x80000000 s y4 := by
    unfold y4
    repeat' first
      | with_reducible assumption
      | with_reducible exact Frames.refl _ _
      | with_reducible apply Frames.ite
      | ((with_reducible apply Frames.put); exact rfl)
      | dsimp only
      | split
  repeat' first
    | with_reducible assumption
    | with_reducible exact Frames.refl _ _
    | with_reducible apply Frames.ite
    | ((with_reducible apply Frames.put); exact rfl)
    | dsimp only
    | split

theorem State.pinnedChanged_frames (s : State) :
    Frames 0x800 s (State.pinnedChanged s) := by
  unfold State.pinnedChanged
  repeat' first
    | with_reducible assumption
    | with_reducible exact Frames.refl _ _
    | with_reducible apply Frames.ite
    | (fail_if_no_progress ((with_reducible apply Frames.faults); exact rfl))
    | split

theorem State.errEvent_frames (s : State) :
    Frames 0x80000010 s (State.errEvent s) := by
  unfold State.errEvent
  repeat' first
    | with_reducible assumption
    | with_reducible exact Frames.refl _ _
    | with_reducible apply Frames.ite
    | ((with_reducible apply Frames.step (State.emit_frames ..)); exact rfl)
    | ((with_reducible apply Frames.put); exact rfl)
    | split

theorem State.errFatal_frames (s : State) :
    Frames 0x80000010 s (State.errFatal s) := by
  unfold State.errFatal
  repeat' first
    | with_reducible assumption
    | with_reducible exact Frames.refl _ _
    | with_reducible apply Frames.ite
    | ((with_reducible apply Frames.step (State.emit_frames ..)); exact rfl)
    | ((with_reducible apply Frames.put); exact rfl)
    | split

theorem State.errRearm_frames (s : State) :
    Frames 0x80000010 s (State.errRearm s) := by
  unfold State.errRearm
  extract_lets y0
  have h0 : Frames 0x80000010 s y0 := by
    unfold y0
    repeat' first
      | with_reducible assumption
      | with_reducible exact Frames.refl _ _
      | with_reducible apply Frames.ite
      | ((with_reducible apply Frames.put); exact rfl)
      | dsimp only
      | split
  repeat' first
    | with_reducible assumption
    | with_reducible exact Frames.refl _ _
    | with_reducible apply Frames.ite
    | ((with_reducible apply Frames.step (State.emit_frames ..)); exact rfl)
    | split

theorem State.errSettle_frames (s : State) :
    Frames 0x80000010 s (State.errSettle s) := by
  unfold State.errSettle
  repeat' first
    | with_reducible assumption
    | with_reducible exact Frames.refl _ _
    | with_reducible apply Frames.ite
    | ((with_reducible apply Frames.step (State.errRearm_frames ..)); exact rfl)
    | split

theorem State.fatalActions_frames (s : State) (mask : Nat) :
    Frames 0xfffffeca8490 s (State.fatalActions s mask) := by
  unfold State.fatalActions
  repeat' first
    | with_reducible assumption
    | with_reducible exact Frames.refl _ _
    | with_reducible apply Frames.ite
    | ((with_reducible apply Frames.step (State.beginEnd_frames ..)); exact rfl)
    | ((with_reducible apply Frames.step (State.failHeartbeat_frames ..)); exact rfl)
    | ((with_reducible apply Frames.step (State.fence_frames ..)); exact rfl)
    | split

theorem State.setRec_frames (s : State) (i : Nat) (x : FaultRec) :
    Frames 0x800 s (State.setRec s i x) := by
  unfold State.setRec
  repeat' first
    | with_reducible assumption
    | with_reducible exact Frames.refl _ _
    | with_reducible apply Frames.ite
    | ((with_reducible apply Frames.set); exact rfl)
    | (fail_if_no_progress ((with_reducible apply Frames.faults); exact rfl))
    | split

theorem State.makeFatal_frames (s : State) (i : Nat) (mask : Nat) :
    Frames 0xfffffeca8c90 s (State.makeFatal s i mask) := by
  unfold State.makeFatal
  repeat' first
    | with_reducible assumption
    | with_reducible exact Frames.refl _ _
    | with_reducible apply Frames.ite
    | ((with_reducible apply Frames.step (State.errFatal_frames ..)); exact rfl)
    | ((with_reducible apply Frames.step (State.fatalActions_frames ..)); exact rfl)
    | ((with_reducible apply Frames.step (State.pinnedChanged_frames ..)); exact rfl)
    | ((with_reducible apply Frames.step (State.setRec_frames ..)); exact rfl)
    | ((with_reducible apply Frames.bump); exact rfl)
    | dsimp only
    | split

theorem State.loseRec_frames (s : State) (x : FaultRec) :
    Frames 0x800 s (State.loseRec s x) := by
  unfold State.loseRec
  repeat' first
    | with_reducible assumption
    | with_reducible exact Frames.refl _ _
    | with_reducible apply Frames.ite
    | (fail_if_no_progress ((with_reducible apply Frames.faults); exact rfl))
    | split

theorem State.writeRec_frames (s : State) (e : FaultEvent) (escalated : Bool) :
    Frames 0xfffffeca8c90 s (State.writeRec s e escalated) := by
  unfold State.writeRec
  extract_lets y0 y1 y2 y3 y4 y5 y6 y7
  have h2 : Frames 0xfffffeca8c90 s y2 := by
    unfold y2
    repeat' first
      | with_reducible assumption
      | with_reducible exact Frames.refl _ _
      | with_reducible apply Frames.ite
      | ((with_reducible apply Frames.step (State.errEvent_frames ..)); exact rfl)
      | ((with_reducible apply Frames.step (State.ucc_frames ..)); exact rfl)
      | dsimp only
      | split
  have h3 : Frames 0xfffffeca8c90 s y3 := by
    unfold y3
    repeat' first
      | with_reducible assumption
      | with_reducible exact Frames.refl _ _
      | with_reducible apply Frames.ite
      | ((with_reducible apply Frames.step (State.errEvent_frames ..)); exact rfl)
      | ((with_reducible apply Frames.step (State.errSettle_frames ..)); exact rfl)
      | ((with_reducible apply Frames.step (State.fatalActions_frames ..)); exact rfl)
      | ((with_reducible apply Frames.step (State.irq_frames ..)); exact rfl)
      | ((with_reducible apply Frames.step (State.loseRec_frames ..)); exact rfl)
      | ((with_reducible apply Frames.step (State.makeFatal_frames ..)); exact rfl)
      | ((with_reducible apply Frames.step (State.msix_frames ..)); exact rfl)
      | ((with_reducible apply Frames.step (State.setRec_frames ..)); exact rfl)
      | ((with_reducible apply Frames.step (State.ucc_frames ..)); exact rfl)
      | ((with_reducible apply Frames.put); exact rfl)
      | ((with_reducible apply Frames.bump); exact rfl)
      | (fail_if_no_progress ((with_reducible apply Frames.faults); exact rfl))
      | dsimp only
      | split
  have h4 : Frames 0xfffffeca8c90 s y4 := by
    unfold y4
    repeat' first
      | with_reducible assumption
      | with_reducible exact Frames.refl _ _
      | with_reducible apply Frames.ite
      | ((with_reducible apply Frames.step (State.errEvent_frames ..)); exact rfl)
      | ((with_reducible apply Frames.step (State.errSettle_frames ..)); exact rfl)
      | ((with_reducible apply Frames.step (State.fatalActions_frames ..)); exact rfl)
      | ((with_reducible apply Frames.step (State.irq_frames ..)); exact rfl)
      | ((with_reducible apply Frames.step (State.loseRec_frames ..)); exact rfl)
      | ((with_reducible apply Frames.step (State.makeFatal_frames ..)); exact rfl)
      | ((with_reducible apply Frames.step (State.msix_frames ..)); exact rfl)
      | ((with_reducible apply Frames.step (State.setRec_frames ..)); exact rfl)
      | ((with_reducible apply Frames.step (State.ucc_frames ..)); exact rfl)
      | ((with_reducible apply Frames.put); exact rfl)
      | ((with_reducible apply Frames.bump); exact rfl)
      | (fail_if_no_progress ((with_reducible apply Frames.faults); exact rfl))
      | dsimp only
      | split
  repeat' first
    | with_reducible assumption
    | with_reducible exact Frames.refl _ _
    | with_reducible apply Frames.ite
    | ((with_reducible apply Frames.step (State.errSettle_frames ..)); exact rfl)
    | ((with_reducible apply Frames.step (State.fatalActions_frames ..)); exact rfl)
    | ((with_reducible apply Frames.step (State.irq_frames ..)); exact rfl)
    | ((with_reducible apply Frames.step (State.loseRec_frames ..)); exact rfl)
    | ((with_reducible apply Frames.step (State.makeFatal_frames ..)); exact rfl)
    | ((with_reducible apply Frames.step (State.msix_frames ..)); exact rfl)
    | ((with_reducible apply Frames.step (State.setRec_frames ..)); exact rfl)
    | ((with_reducible apply Frames.step (State.ucc_frames ..)); exact rfl)
    | ((with_reducible apply Frames.put); exact rfl)
    | ((with_reducible apply Frames.bump); exact rfl)
    | (fail_if_no_progress ((with_reducible apply Frames.faults); exact rfl))
    | dsimp only
    | split

theorem State.mergeRec_frames (s : State) (i : Nat) (e : FaultEvent) :
    Frames 0xfffffeca8c90 s (State.mergeRec s i e) := by
  unfold State.mergeRec
  repeat' first
    | with_reducible assumption
    | with_reducible exact Frames.refl _ _
    | with_reducible apply Frames.ite
    | ((with_reducible apply Frames.step (State.fatalActions_frames ..)); exact rfl)
    | ((with_reducible apply Frames.step (State.irq_frames ..)); exact rfl)
    | ((with_reducible apply Frames.step (State.makeFatal_frames ..)); exact rfl)
    | ((with_reducible apply Frames.step (State.msix_frames ..)); exact rfl)
    | ((with_reducible apply Frames.step (State.setRec_frames ..)); exact rfl)
    | ((with_reducible apply Frames.step (State.ucc_frames ..)); exact rfl)
    | dsimp only
    | split

theorem execFaultRecord_frames (s : State) :
    FramesOut 0xfffffeca8c90 s (execFaultRecord s) := by
  unfold execFaultRecord
  repeat' first
    | with_reducible assumption
    | with_reducible exact Frames.refl _ _
    | with_reducible apply FramesOut.next
    | with_reducible apply Frames.ite
    | with_reducible apply FramesOut.ite
    | ((with_reducible apply Frames.step (State.faultSync_frames ..)); exact rfl)
    | ((with_reducible apply Frames.step (State.mergeRec_frames ..)); exact rfl)
    | ((with_reducible apply Frames.step (State.writeRec_frames ..)); exact rfl)
    | (fail_if_no_progress ((with_reducible apply Frames.faults); exact rfl))
    | dsimp only
    | split

theorem State.fltRefused_frames (s : State) :
    Frames 0x80000000 s (State.fltRefused s) := by
  unfold State.fltRefused
  repeat' first
    | with_reducible assumption
    | with_reducible exact Frames.refl _ _
    | with_reducible apply Frames.ite
    | ((with_reducible apply Frames.put); exact rfl)
    | split

theorem State.ackFaults_frames (s : State) (q : Nat) :
    Frames 0x80000800 s (State.ackFaults s q) := by
  unfold State.ackFaults
  repeat' first
    | with_reducible assumption
    | with_reducible exact Frames.refl _ _
    | with_reducible apply Frames.ite
    | ((with_reducible apply Frames.step (State.faultSync_frames ..)); exact rfl)
    | ((with_reducible apply Frames.step (State.fltRefused_frames ..)); exact rfl)
    | (fail_if_no_progress ((with_reducible apply Frames.faults); exact rfl))
    | dsimp only
    | split

theorem execFltAck_frames (q : BitVec 32) (s : State) :
    FramesOut 0x80000800 s (execFltAck q s) := by
  unfold execFltAck
  repeat' first
    | with_reducible assumption
    | with_reducible exact Frames.refl _ _
    | with_reducible apply FramesOut.next
    | with_reducible apply Frames.ite
    | with_reducible apply FramesOut.ite
    | ((with_reducible apply Frames.step (State.ackFaults_frames ..)); exact rfl)
    | split

theorem State.clearFault_frames (s : State) (q : Nat) :
    Frames 0x80000810 s (State.clearFault s q) := by
  unfold State.clearFault
  repeat' first
    | with_reducible assumption
    | with_reducible exact Frames.refl _ _
    | with_reducible apply Frames.ite
    | ((with_reducible apply Frames.step (State.errSettle_frames ..)); exact rfl)
    | ((with_reducible apply Frames.step (State.faultSync_frames ..)); exact rfl)
    | ((with_reducible apply Frames.step (State.fltRefused_frames ..)); exact rfl)
    | ((with_reducible apply Frames.step (State.pinnedChanged_frames ..)); exact rfl)
    | ((with_reducible apply Frames.step (State.setRec_frames ..)); exact rfl)
    | dsimp only
    | split

theorem execFltClear_frames (q : BitVec 32) (s : State) :
    FramesOut 0x80000810 s (execFltClear q s) := by
  unfold execFltClear
  repeat' first
    | with_reducible assumption
    | with_reducible exact Frames.refl _ _
    | with_reducible apply FramesOut.next
    | with_reducible apply Frames.ite
    | with_reducible apply FramesOut.ite
    | ((with_reducible apply Frames.step (State.clearFault_frames ..)); exact rfl)
    | split

theorem State.promote_frames (s : State) (i : Nat) :
    Frames 0xfffffeca8c90 s (State.promote s i) := by
  unfold State.promote
  repeat' first
    | with_reducible assumption
    | with_reducible exact Frames.refl _ _
    | with_reducible apply Frames.ite
    | ((with_reducible apply Frames.step (State.faultSync_frames ..)); exact rfl)
    | ((with_reducible apply Frames.step (State.irq_frames ..)); exact rfl)
    | ((with_reducible apply Frames.step (State.makeFatal_frames ..)); exact rfl)
    | ((with_reducible apply Frames.step (State.msix_frames ..)); exact rfl)
    | ((with_reducible apply Frames.step (State.setRec_frames ..)); exact rfl)
    | dsimp only
    | split

theorem execGraceExpiry_frames (s : State) :
    FramesOut 0xfffffeca8c90 s (execGraceExpiry s) := by
  unfold execGraceExpiry
  repeat' first
    | with_reducible assumption
    | with_reducible exact Frames.refl _ _
    | with_reducible apply FramesOut.next
    | with_reducible apply Frames.ite
    | with_reducible apply FramesOut.ite
    | ((with_reducible apply Frames.step (State.faultSync_frames ..)); exact rfl)
    | ((with_reducible apply Frames.step (State.promote_frames ..)); exact rfl)
    | ((with_reducible apply Frames.step (State.writeRec_frames ..)); exact rfl)
    | (fail_if_no_progress ((with_reducible apply Frames.faults); exact rfl))
    | dsimp only
    | split

theorem execErrPulseEnd_frames (s : State) :
    FramesOut 0x80000010 s (execErrPulseEnd s) := by
  unfold execErrPulseEnd
  repeat' first
    | with_reducible assumption
    | with_reducible exact Frames.refl _ _
    | with_reducible apply FramesOut.next
    | with_reducible apply Frames.ite
    | with_reducible apply FramesOut.ite
    | ((with_reducible apply Frames.step (State.errLevel_frames ..)); exact rfl)
    | ((with_reducible apply Frames.step (State.errRearm_frames ..)); exact rfl)
    | ((with_reducible apply Frames.put); exact rfl)
    | dsimp only
    | split

theorem execPinnedRecordFlashWrite_frames (s : State) :
    FramesOut 0x800 s (execPinnedRecordFlashWrite s) := by
  unfold execPinnedRecordFlashWrite
  repeat' first
    | with_reducible assumption
    | with_reducible exact Frames.refl _ _
    | with_reducible apply FramesOut.next
    | with_reducible apply Frames.ite
    | with_reducible apply FramesOut.ite
    | (fail_if_no_progress ((with_reducible apply Frames.faults); exact rfl))
    | split

theorem State.startGrace_frames (s : State) :
    Frames 0x80000900 s (State.startGrace s) := by
  unfold State.startGrace
  extract_lets y0 y1 y2 y3 y4
  repeat' first
    | with_reducible assumption
    | with_reducible exact Frames.refl _ _
    | with_reducible apply Frames.ite
    | ((with_reducible apply Frames.step (State.faultSync_frames ..)); exact rfl)
    | (fail_if_no_progress ((with_reducible apply Frames.boot_faults); exact rfl; exact rfl))
    | dsimp only
    | split

theorem State.reloadPinned_frames (s : State) :
    Frames 0x80000800 s (State.reloadPinned s) := by
  unfold State.reloadPinned
  repeat' first
    | with_reducible assumption
    | with_reducible exact Frames.refl _ _
    | with_reducible apply Frames.ite
    | ((with_reducible apply Frames.step (State.faultSync_frames ..)); exact rfl)
    | ((with_reducible apply Frames.put); exact rfl)
    | (fail_if_no_progress ((with_reducible apply Frames.faults); exact rfl))
    | dsimp only
    | split

theorem State.releaseFences_frames (s : State) (dies : Nat) :
    Frames 0x800 s (State.releaseFences s dies) := by
  unfold State.releaseFences
  repeat' first
    | with_reducible assumption
    | with_reducible exact Frames.refl _ _
    | with_reducible apply Frames.ite
    | (fail_if_no_progress ((with_reducible apply Frames.faults); exact rfl))
    | split

theorem State.bootRanAgain_frames (s : State) :
    Frames 0x800 s (State.bootRanAgain s) := by
  unfold State.bootRanAgain
  repeat' first
    | with_reducible assumption
    | with_reducible exact Frames.refl _ _
    | with_reducible apply Frames.ite
    | (fail_if_no_progress ((with_reducible apply Frames.faults); exact rfl))
    | split

end Sys2Proof.Machine
end

