-- ==== Sys2Proof/Laws/FramesLedge.lean ====
section
/-! SUPPORT. What the definitions of Machine/Ledge.lean can change: one lemma for each that answers a state. -/

namespace Sys2Proof.Machine

theorem State.setLedge_frames (s : State) (d : Fin 4) (l : LedgeState) :
    Frames 0x20000 s (State.setLedge s d l) := by
  unfold State.setLedge
  repeat' first
    | with_reducible assumption
    | with_reducible exact Frames.refl _ _
    | with_reducible apply Frames.ite
    | ((with_reducible apply Frames.set); exact rfl)
    | (fail_if_no_progress ((with_reducible apply Frames.ledge); exact rfl))
    | split

theorem State.setOwner_frames (s : State) (d : Fin 4) (g : Nat) (v : Nat) :
    Frames 0x100000000000 s (State.setOwner s d g v) := by
  unfold State.setOwner
  repeat' first
    | with_reducible assumption
    | with_reducible exact Frames.refl _ _
    | with_reducible apply Frames.ite
    | ((with_reducible apply Frames.put); exact rfl)
    | split

theorem State.setOwners_frames (s : State) (d : Fin 4) (g : Nat) (v : Nat) :
    Frames 0x100000000000 s (State.setOwners s d g v) := by
  unfold State.setOwners
  repeat' first
    | with_reducible assumption
    | with_reducible exact Frames.refl _ _
    | with_reducible apply Frames.ite
    | ((with_reducible apply Frames.foldl); intro _ _)
    | ((with_reducible apply Frames.foldlSnd); intro _ _)
    | ((with_reducible apply Frames.step (State.setOwner_frames ..)); exact rfl)
    | split

theorem State.ownersToBasecamp_frames (s : State) (d : Fin 4) :
    Frames 0x100000000000 s (State.ownersToBasecamp s d) := by
  unfold State.ownersToBasecamp
  repeat' first
    | with_reducible assumption
    | with_reducible exact Frames.refl _ _
    | with_reducible apply Frames.ite
    | ((with_reducible apply Frames.foldl); intro _ _)
    | ((with_reducible apply Frames.foldlSnd); intro _ _)
    | ((with_reducible apply Frames.step (State.setOwner_frames ..)); exact rfl)
    | split

theorem execLedgeModeChange_frames (d : Fin 4) (pooled : Bool) (s : State) :
    FramesOut 0x100000000000 s (execLedgeModeChange d pooled s) := by
  unfold execLedgeModeChange
  repeat' first
    | with_reducible assumption
    | with_reducible exact Frames.refl _ _
    | with_reducible apply FramesOut.next
    | with_reducible apply Frames.ite
    | with_reducible apply FramesOut.ite
    | ((with_reducible apply Frames.step (State.ownersToBasecamp_frames ..)); exact rfl)
    | ((with_reducible apply Frames.put); exact rfl)
    | split

theorem State.giveRefused_frames (s : State) (d : Fin 4) (w : Word) :
    Frames 0x100000000000 s (State.giveRefused s d w) := by
  unfold State.giveRefused
  repeat' first
    | with_reducible assumption
    | with_reducible exact Frames.refl _ _
    | with_reducible apply Frames.ite
    | ((with_reducible apply Frames.set); exact rfl)
    | ((with_reducible apply Frames.bump); exact rfl)
    | dsimp only
    | split

theorem State.applyGive_frames (s : State) (d : Fin 4) (w : Word) :
    Frames 0x100000000000 s (State.applyGive s d w) := by
  unfold State.applyGive
  extract_lets y0
  repeat' first
    | with_reducible assumption
    | with_reducible exact Frames.refl _ _
    | with_reducible apply Frames.ite
    | ((with_reducible apply Frames.foldl); intro _ _)
    | ((with_reducible apply Frames.foldlSnd); intro _ _)
    | ((with_reducible apply Frames.step (State.giveRefused_frames ..)); exact rfl)
    | ((with_reducible apply Frames.step (State.setOwner_frames ..)); exact rfl)
    | dsimp only
    | split

theorem State.takeGives_frames (s : State) (d : Fin 4) (a0 : List Word) :
    Frames 0x100000020000 s (State.takeGives s d a0) := by
  fun_induction State.takeGives s d a0
  all_goals
    repeat' first
      | with_reducible assumption
      | with_reducible exact Frames.refl _ _
      | with_reducible apply Frames.ite
      | ((with_reducible apply Frames.step (State.applyGive_frames ..)); exact rfl)
      | ((with_reducible apply Frames.step (State.setLedge_frames ..)); exact rfl)
      | with_reducible refine Frames.trans ?_ (by assumption)
      | split

theorem State.writeGives_frames (s : State) (d : Fin 4) (es : List (Fin 8 × Word)) :
    Frames 0x100000020000 s (State.writeGives s d es) := by
  unfold State.writeGives
  repeat' first
    | with_reducible assumption
    | with_reducible exact Frames.refl _ _
    | with_reducible apply Frames.ite
    | ((with_reducible apply Frames.step (State.setLedge_frames ..)); exact rfl)
    | ((with_reducible apply Frames.step (State.takeGives_frames ..)); exact rfl)
    | dsimp only
    | split

theorem execLdgGive_frames (d : Fin 4) (writes : List (GiveSource × List (Fin 8 × Word))) (s : State) :
    FramesOut 0x100000020000 s (execLdgGive d writes s) := by
  unfold execLdgGive
  repeat' first
    | with_reducible assumption
    | with_reducible exact Frames.refl _ _
    | with_reducible apply FramesOut.next
    | with_reducible apply Frames.ite
    | with_reducible apply FramesOut.ite
    | ((with_reducible apply Frames.foldl); intro _ _)
    | ((with_reducible apply Frames.foldlSnd); intro _ _)
    | ((with_reducible apply Frames.step (State.writeGives_frames ..)); exact rfl)
    | split

theorem State.wordUcc_frames (s : State) (d : Fin 4) (o : Nat) :
    Frames 0x100000000800 s (State.wordUcc s d o) := by
  unfold State.wordUcc
  extract_lets y0
  try clear_value y0
  repeat' first
    | with_reducible assumption
    | with_reducible exact Frames.refl _ _
    | with_reducible apply Frames.ite
    | ((with_reducible apply Frames.step (State.ucc_frames ..)); exact rfl)
    | ((with_reducible apply Frames.bump); exact rfl)
    | dsimp only
    | split

theorem State.meetErrors_frames (s : State) (d : Fin 4) (o : Nat) (errs : List Nat) :
    Frames 0x10009 s (State.meetErrors s d o errs).2 := by
  unfold State.meetErrors
  extract_lets y0
  repeat' first
    | with_reducible assumption
    | with_reducible exact Frames.refl _ _
    | with_reducible apply Frames.ite
    | ((with_reducible apply Frames.foldl); intro _ _)
    | ((with_reducible apply Frames.foldlSnd); intro _ _)
    | with_reducible apply Frames.iteSnd
    | with_reducible apply Frames.iteSnd2
    | with_reducible apply Frames.iteFst
    | ((with_reducible apply Frames.step (State.setBad_frames ..)); exact rfl)
    | ((with_reducible apply Frames.step (State.store_frames ..)); exact rfl)
    | ((with_reducible apply Frames.step (State.tookFree_frames ..)); exact rfl)
    | ((with_reducible apply Frames.step (State.tookFrees_frames ..)); exact rfl)
    | dsimp only
    | split

theorem State.countFixed_frames (s : State) (d : Fin 4) (finds : List QuarterFind) :
    Frames 0x100000000000 s (State.countFixed s d finds) := by
  unfold State.countFixed
  repeat' first
    | with_reducible assumption
    | with_reducible exact Frames.refl _ _
    | with_reducible apply Frames.ite
    | ((with_reducible apply Frames.bump); exact rfl)
    | split

theorem State.ledgeTurned_frames {s t : State} {d : Fin 4} {q : LedgeReq} (h : s.ledgeTurned d q = some t) :
    Frames 0x100000000810 s t := by
  unfold State.ledgeTurned at h
  extract_lets a u v at h
  have hu : Frames 0x100000000810 s u := Frames.mono (State.ucc_frames ..) rfl
  have hv : Frames 0x100000000810 s v := Frames.mono (State.ledgeViolation_frames ..) rfl
  clear_value u v
  split at h
  · cases h
    split <;> exact Frames.step (State.emit_frames ..) rfl hu
  · split at h
    · cases h
      split <;> exact Frames.step (State.emit_frames ..) rfl hv
    · cases h

theorem State.ledgePortRead_frames (s : State) (d : Fin 4) (q : LedgeReq) (errs : List Nat) :
    Frames 0x100000010819 s (State.ledgePortRead s d q errs) := by
  unfold State.ledgePortRead
  extract_lets y0 y1 y2 y3
  have h1 : Frames 0x100000010819 s y1.2 := by
    unfold y1
    repeat' first
      | with_reducible assumption
      | with_reducible exact Frames.refl _ _
      | with_reducible apply Frames.ite
      | ((with_reducible apply Frames.step (State.meetErrors_frames ..)); exact rfl)
      | dsimp only
      | split
  have h3 : Frames 0x100000010819 s y3 := by
    unfold y3
    repeat' first
      | with_reducible assumption
      | with_reducible exact Frames.refl _ _
      | with_reducible apply Frames.ite
      | ((with_reducible apply Frames.step (State.countFixed_frames ..)); exact rfl)
      | dsimp only
      | split
  repeat' first
    | with_reducible assumption
    | with_reducible exact Frames.refl _ _
    | with_reducible apply Frames.ite
    | ((with_reducible apply Frames.step (State.emit_frames ..)); exact rfl)
    | ((with_reducible apply Frames.step (State.tookFrees_frames ..)); exact rfl)
    | ((with_reducible apply Frames.step (State.wordUcc_frames ..)); exact rfl)
    | with_reducible apply Frames.iteSnd
    | with_reducible apply Frames.iteSnd2
    | with_reducible apply Frames.iteFst
    | dsimp only
    | split

theorem State.ledgePortWrite_frames (s : State) (d : Fin 4) (port : Nat) (q : LedgeReq) (errs : List Nat) :
    Frames 0x100000030819 s (State.ledgePortWrite s d port q errs) := by
  unfold State.ledgePortWrite
  extract_lets y0 y1 y2 y3 y4 y5 y6 y7 y8 y9
  have h2 : Frames 0x100000030819 s y2.2 := by
    unfold y2
    repeat' first
      | with_reducible assumption
      | with_reducible exact Frames.refl _ _
      | with_reducible apply Frames.ite
      | ((with_reducible apply Frames.step (State.meetErrors_frames ..)); exact rfl)
      | ((with_reducible apply Frames.step (State.setLedge_frames ..)); exact rfl)
      | with_reducible apply Frames.iteSnd
      | with_reducible apply Frames.iteSnd2
      | with_reducible apply Frames.iteFst
      | dsimp only
      | split
  have h4 : Frames 0x100000030819 s y4 := by
    unfold y4
    repeat' first
      | with_reducible assumption
      | with_reducible exact Frames.refl _ _
      | with_reducible apply Frames.ite
      | ((with_reducible apply Frames.step (State.countFixed_frames ..)); exact rfl)
      | ((with_reducible apply Frames.step (State.setLedge_frames ..)); exact rfl)
      | with_reducible apply Frames.iteSnd
      | with_reducible apply Frames.iteSnd2
      | with_reducible apply Frames.iteFst
      | dsimp only
      | split
  have h5 : Frames 0x100000030819 s y5 := by
    unfold y5
    repeat' first
      | with_reducible assumption
      | with_reducible exact Frames.refl _ _
      | with_reducible apply Frames.ite
      | ((with_reducible apply Frames.step (State.setLedge_frames ..)); exact rfl)
      | ((with_reducible apply Frames.step (State.wordUcc_frames ..)); exact rfl)
      | with_reducible apply Frames.iteSnd
      | with_reducible apply Frames.iteSnd2
      | with_reducible apply Frames.iteFst
      | dsimp only
      | split
  have h6 : Frames 0x100000030819 s y6 := by
    unfold y6
    repeat' first
      | with_reducible assumption
      | with_reducible exact Frames.refl _ _
      | with_reducible apply Frames.ite
      | ((with_reducible apply Frames.foldl); intro _ _)
      | ((with_reducible apply Frames.foldlSnd); intro _ _)
      | ((with_reducible apply Frames.step (State.setBad_frames ..)); exact rfl)
      | ((with_reducible apply Frames.step (State.setLedge_frames ..)); exact rfl)
      | with_reducible apply Frames.iteSnd
      | with_reducible apply Frames.iteSnd2
      | with_reducible apply Frames.iteFst
      | dsimp only
      | split
  have h9 : Frames 0x100000030819 s y9 := by
    unfold y9
    repeat' first
      | with_reducible assumption
      | with_reducible exact Frames.refl _ _
      | with_reducible apply Frames.ite
      | ((with_reducible apply Frames.step (State.setLedge_frames ..)); exact rfl)
      | with_reducible apply Frames.iteSnd
      | with_reducible apply Frames.iteSnd2
      | with_reducible apply Frames.iteFst
      | dsimp only
      | split
  repeat' first
    | with_reducible assumption
    | with_reducible exact Frames.refl _ _
    | with_reducible apply Frames.ite
    | ((with_reducible apply Frames.step (State.emit_frames ..)); exact rfl)
    | ((with_reducible apply Frames.step (State.setLedge_frames ..)); exact rfl)
    | ((with_reducible apply Frames.step (State.store_frames ..)); exact rfl)
    | with_reducible apply Frames.iteSnd
    | with_reducible apply Frames.iteSnd2
    | with_reducible apply Frames.iteFst
    | dsimp only
    | split

theorem State.ledgeServe_frames (s : State) (d : Fin 4) (port : Nat) (q : LedgeReq) (errs : List Nat) :
    Frames 0x100000030819 s (State.ledgeServe s d port q errs) := by
  unfold State.ledgeServe
  repeat' first
    | with_reducible assumption
    | with_reducible exact Frames.refl _ _
    | with_reducible apply Frames.ite
    | ((with_reducible apply Frames.step (State.ledgePortRead_frames ..)); exact rfl)
    | ((with_reducible apply Frames.step (State.ledgePortWrite_frames ..)); exact rfl)
    | ((with_reducible refine Frames.trans ?_ (Frames.mono (State.ledgeTurned_frames (by assumption)) ?_)); on_goal 2 => exact rfl)
    | ((with_reducible apply Frames.step (State.setLedge_frames ..)); exact rfl)
    | split

theorem State.ledgeAgain_frames (s : State) (d : Fin 4) (g : Nat) (port : Nat) (u : PortUse) (wins : Bool) :
    Frames 0x20000 s (State.ledgeAgain s d g port u wins) := by
  unfold State.ledgeAgain
  repeat' first
    | with_reducible assumption
    | with_reducible exact Frames.refl _ _
    | with_reducible apply Frames.ite
    | ((with_reducible apply Frames.step (State.setLedge_frames ..)); exact rfl)
    | split

theorem State.portServe_frames (s : State) (d : Fin 4) (port : Nat) (u : PortUse) :
    Frames 0x100000030819 s (State.portServe s d port u) := by
  unfold State.portServe
  repeat' first
    | with_reducible assumption
    | with_reducible exact Frames.refl _ _
    | with_reducible apply Frames.ite
    | ((with_reducible apply Frames.step (State.ledgeServe_frames ..)); exact rfl)
    | split

theorem State.readBefore_frames (s : State) (d : Fin 4) (q : LedgeReq) (old : List Byte × Bool) :
    Frames 0x100000000810 s (State.readBefore s d q old) := by
  unfold State.readBefore
  extract_lets y0
  repeat' first
    | with_reducible assumption
    | with_reducible exact Frames.refl _ _
    | with_reducible apply Frames.ite
    | ((with_reducible apply Frames.step (State.emit_frames ..)); exact rfl)
    | ((with_reducible apply Frames.step (State.wordUcc_frames ..)); exact rfl)
    | with_reducible apply Frames.iteSnd
    | with_reducible apply Frames.iteSnd2
    | with_reducible apply Frames.iteFst
    | dsimp only
    | split

theorem State.readWithWrite_frames (s : State) (d : Fin 4) (rp : Nat) (wp : Nat) (r : PortUse) (w : PortUse) :
    Frames 0x100000030819 s (State.readWithWrite s d rp wp r w) := by
  unfold State.readWithWrite
  repeat' first
    | with_reducible assumption
    | with_reducible exact Frames.refl _ _
    | with_reducible apply Frames.ite
    | ((with_reducible apply Frames.step (State.portServe_frames ..)); exact rfl)
    | ((with_reducible apply Frames.step (State.readBefore_frames ..)); exact rfl)
    | split

theorem State.ledgePair_frames (s : State) (d : Fin 4) (u : PortUse) (v : PortUse) :
    Frames 0x100000030819 s (State.ledgePair s d u v) := by
  unfold State.ledgePair
  repeat' first
    | with_reducible assumption
    | with_reducible exact Frames.refl _ _
    | with_reducible apply Frames.ite
    | ((with_reducible apply Frames.step (State.ledgeAgain_frames ..)); exact rfl)
    | ((with_reducible apply Frames.step (State.portServe_frames ..)); exact rfl)
    | ((with_reducible apply Frames.step (State.readWithWrite_frames ..)); exact rfl)
    | split

theorem State.delayNew_frames (s : State) (d : Fin 4) (g : Nat) (port : Nat) (held : Option PortUse) (new : Option PortUse) :
    Frames 0x20000 s (State.delayNew s d g port held new) := by
  unfold State.delayNew
  repeat' first
    | with_reducible assumption
    | with_reducible exact Frames.refl _ _
    | with_reducible apply Frames.ite
    | ((with_reducible apply Frames.step (State.ledgeAgain_frames ..)); exact rfl)
    | split

theorem State.ledgeCycle_frames (s : State) (d : Fin 4) (g : Nat) (new0 : Option PortUse) (new1 : Option PortUse) :
    Frames 0x100000030819 s (State.ledgeCycle s d g new0 new1) := by
  unfold State.ledgeCycle
  extract_lets y0 y1 y2 y3
  try clear_value y1
  try clear_value y2
  have h3 : Frames 0x100000030819 s y3 := by
    unfold y3
    repeat' first
      | with_reducible assumption
      | with_reducible exact Frames.refl _ _
      | with_reducible apply Frames.ite
      | ((with_reducible apply Frames.step (State.delayNew_frames ..)); exact rfl)
      | ((with_reducible apply Frames.step (State.setLedge_frames ..)); exact rfl)
      | dsimp only
      | split
  repeat' first
    | with_reducible assumption
    | with_reducible exact Frames.refl _ _
    | with_reducible apply Frames.ite
    | ((with_reducible apply Frames.step (State.ledgePair_frames ..)); exact rfl)
    | ((with_reducible apply Frames.step (State.portServe_frames ..)); exact rfl)
    | dsimp only
    | split

theorem execLedgeAccess_frames (d : Fin 4) (port0 : LedgeReq) (port1 : Option LedgeReq) (errs0 : List Nat) (errs1 : List Nat) (s : State) :
    FramesOut 0x100000030819 s (execLedgeAccess d port0 port1 errs0 errs1 s) := by
  unfold execLedgeAccess
  extract_lets y0
  repeat' first
    | with_reducible assumption
    | with_reducible exact Frames.refl _ _
    | with_reducible apply FramesOut.next
    | with_reducible apply Frames.ite
    | with_reducible apply FramesOut.ite
    | ((with_reducible apply Frames.step (State.ledgeCycle_frames ..)); exact rfl)
    | dsimp only
    | split

theorem execLedgeRetry_frames (d : Fin 4) (s : State) :
    FramesOut 0x100000030819 s (execLedgeRetry d s) := by
  unfold execLedgeRetry
  extract_lets y0
  repeat' first
    | with_reducible assumption
    | with_reducible exact Frames.refl _ _
    | with_reducible apply FramesOut.next
    | with_reducible apply Frames.ite
    | with_reducible apply FramesOut.ite
    | ((with_reducible apply Frames.foldl); intro _ _)
    | ((with_reducible apply Frames.foldlSnd); intro _ _)
    | ((with_reducible apply Frames.step (State.ledgeCycle_frames ..)); exact rfl)
    | dsimp only
    | split

theorem State.recordRepairs_frames (s : State) (d : Fin 4) :
    Frames 0x400 s (State.recordRepairs s d) := by
  unfold State.recordRepairs
  repeat' first
    | with_reducible assumption
    | with_reducible exact Frames.refl _ _
    | with_reducible apply Frames.ite
    | ((with_reducible apply Frames.step (State.setRecord_frames ..)); exact rfl)
    | (fail_if_no_progress ((with_reducible apply Frames.ledge); exact rfl))
    | split

theorem State.mapSpare_frames (s : State) (d : Fin 4) (g : Nat) (r : Nat) (row : Nat) :
    Frames 0x100000000000 s (State.mapSpare s d g r row) := by
  unfold State.mapSpare
  repeat' first
    | with_reducible assumption
    | with_reducible exact Frames.refl _ _
    | with_reducible apply Frames.ite
    | ((with_reducible apply Frames.set); exact rfl)
    | split

theorem State.failSpare_frames (s : State) (d : Fin 4) (g : Nat) (r : Nat) :
    Frames 0x100000000000 s (State.failSpare s d g r) := by
  unfold State.failSpare
  repeat' first
    | with_reducible assumption
    | with_reducible exact Frames.refl _ _
    | with_reducible apply Frames.ite
    | ((with_reducible apply Frames.put); exact rfl)
    | split

theorem State.repairRow_frames (s : State) (d : Fin 4) (g : Nat) (row : Nat) :
    Frames 0x100000000000 s (State.repairRow s d g row).2 := by
  unfold State.repairRow
  extract_lets y0 y1 y2
  try clear_value y0
  try clear_value y1
  have h2 : Frames 0x100000000000 s y2 := by
    unfold y2
    repeat' first
      | with_reducible assumption
      | with_reducible exact Frames.refl _ _
      | with_reducible apply Frames.ite
      | with_reducible apply Frames.iteSnd
      | with_reducible apply Frames.iteSnd2
      | with_reducible apply Frames.iteFst
      | ((with_reducible apply Frames.step (State.failSpare_frames ..)); exact rfl)
      | dsimp only
      | split
  repeat' first
    | with_reducible assumption
    | with_reducible exact Frames.refl _ _
    | with_reducible apply Frames.ite
    | with_reducible apply Frames.iteSnd
    | with_reducible apply Frames.iteSnd2
    | with_reducible apply Frames.iteFst
    | ((with_reducible apply Frames.step (State.mapSpare_frames ..)); exact rfl)
    | dsimp only
    | split

theorem State.repairRows_frames (d : Fin 4) (s : State) (a1 : List (Fin 192 × Fin 1032)) :
    Frames 0x100000000000 s (State.repairRows d s a1).2 := by
  fun_induction State.repairRows d s a1
  all_goals
    repeat' first
      | with_reducible assumption
      | with_reducible exact Frames.refl _ _
      | with_reducible apply Frames.ite
      | with_reducible apply Frames.iteSnd
      | with_reducible apply Frames.iteSnd2
      | with_reducible apply Frames.iteFst
      | ((with_reducible apply Frames.step (State.repairRow_frames ..)); exact rfl)
      | with_reducible refine Frames.trans ?_ (by assumption)
      | dsimp only
      | split

theorem State.marchRefused_frames (s : State) (d : Fin 4) :
    Frames 0x100000000000 s (State.marchRefused s d) := by
  unfold State.marchRefused
  repeat' first
    | with_reducible assumption
    | with_reducible exact Frames.refl _ _
    | with_reducible apply Frames.ite
    | ((with_reducible apply Frames.put); exact rfl)
    | split

theorem State.marchStart_frames (s : State) (d : Fin 4) (m : March) :
    Frames 0x100000020000 s (State.marchStart s d m) := by
  unfold State.marchStart
  repeat' first
    | with_reducible assumption
    | with_reducible exact Frames.refl _ _
    | with_reducible apply Frames.ite
    | ((with_reducible apply Frames.step (State.setLedge_frames ..)); exact rfl)
    | ((with_reducible apply Frames.put); exact rfl)
    | split

theorem execMarchDestructive_frames (d : Fin 4) (banks : BitVec 48) (s : State) :
    FramesOut 0x100000020000 s (execMarchDestructive d banks s) := by
  unfold execMarchDestructive
  repeat' first
    | with_reducible assumption
    | with_reducible exact Frames.refl _ _
    | with_reducible apply FramesOut.next
    | with_reducible apply Frames.ite
    | with_reducible apply FramesOut.ite
    | ((with_reducible apply Frames.step (State.marchRefused_frames ..)); exact rfl)
    | ((with_reducible apply Frames.step (State.marchStart_frames ..)); exact rfl)
    | split

theorem execMarchTransparent_frames (d : Fin 4) (banks : BitVec 48) (s : State) :
    FramesOut 0x100000020000 s (execMarchTransparent d banks s) := by
  unfold execMarchTransparent
  repeat' first
    | with_reducible assumption
    | with_reducible exact Frames.refl _ _
    | with_reducible apply FramesOut.next
    | with_reducible apply Frames.ite
    | with_reducible apply FramesOut.ite
    | ((with_reducible apply Frames.step (State.marchRefused_frames ..)); exact rfl)
    | ((with_reducible apply Frames.step (State.marchStart_frames ..)); exact rfl)
    | split

theorem State.testEnds_frames (s : State) (d : Fin 4) :
    Frames 0x100000038819 s (State.testEnds s d) := by
  unfold State.testEnds
  extract_lets y0
  repeat' first
    | with_reducible assumption
    | with_reducible exact Frames.refl _ _
    | with_reducible apply Frames.ite
    | ((with_reducible apply Frames.foldl); intro _ _)
    | ((with_reducible apply Frames.foldlSnd); intro _ _)
    | ((with_reducible apply Frames.step (State.ledgeServe_frames ..)); exact rfl)
    | ((with_reducible apply Frames.step (State.releaseWaiting_frames ..)); exact rfl)
    | ((with_reducible apply Frames.step (State.setLedge_frames ..)); exact rfl)
    | ((with_reducible apply Frames.step (State.takeGives_frames ..)); exact rfl)
    | dsimp only
    | split

theorem execGiveHeldApply_frames (d : Fin 4) (s : State) :
    FramesOut 0x100000038819 s (execGiveHeldApply d s) := by
  unfold execGiveHeldApply
  repeat' first
    | with_reducible assumption
    | with_reducible exact Frames.refl _ _
    | with_reducible apply FramesOut.next
    | with_reducible apply Frames.ite
    | with_reducible apply FramesOut.ite
    | ((with_reducible apply Frames.step (State.testEnds_frames ..)); exact rfl)
    | split

theorem State.zeroBanks_frames (s : State) (d : Fin 4) (banks : Nat) :
    Frames 0x10001 s (State.zeroBanks s d banks) := by
  unfold State.zeroBanks
  extract_lets y0 y1 y2 y3 y4 y5
  have h3 : Frames 0x10001 s y3 := by
    unfold y3
    repeat' first
      | with_reducible assumption
      | with_reducible exact Frames.refl _ _
      | with_reducible apply Frames.ite
      | ((with_reducible apply Frames.foldl); intro _ _)
      | ((with_reducible apply Frames.foldlSnd); intro _ _)
      | ((with_reducible apply Frames.step (State.store_frames ..)); exact rfl)
      | (fail_if_no_progress ((with_reducible apply Frames.mem); exact rfl))
      | exact fun h => Mem.loseAll_wf h _
      | exact fun h => Mem.setN_wf h _ _
      | exact fun h => Mem.zero_wf h _
      | exact fun h => Mem.filter_wf h _
      | with_reducible apply Frames.iteSnd
      | with_reducible apply Frames.iteSnd2
      | with_reducible apply Frames.iteFst
      | dsimp only
      | split
  have h4 : Frames 0x10001 s y4 := by
    unfold y4
    repeat' first
      | with_reducible assumption
      | with_reducible exact Frames.refl _ _
      | with_reducible apply Frames.ite
      | ((with_reducible apply Frames.foldl); intro _ _)
      | ((with_reducible apply Frames.foldlSnd); intro _ _)
      | ((with_reducible apply Frames.step (State.store_frames ..)); exact rfl)
      | (fail_if_no_progress ((with_reducible apply Frames.mem); exact rfl))
      | exact fun h => Mem.loseAll_wf h _
      | exact fun h => Mem.setN_wf h _ _
      | exact fun h => Mem.zero_wf h _
      | exact fun h => Mem.filter_wf h _
      | with_reducible apply Frames.iteSnd
      | with_reducible apply Frames.iteSnd2
      | with_reducible apply Frames.iteFst
      | dsimp only
      | split
  repeat' first
    | with_reducible assumption
    | with_reducible exact Frames.refl _ _
    | with_reducible apply Frames.ite
    | (fail_if_no_progress ((with_reducible apply Frames.mem); exact rfl))
    | (fail_if_no_progress ((with_reducible apply Frames.tiers); exact rfl))
    | exact fun h => Mem.loseAll_wf h _
    | exact fun h => Mem.setN_wf h _ _
    | exact fun h => Mem.zero_wf h _
    | exact fun h => Mem.filter_wf h _
    | with_reducible apply Frames.iteSnd
    | with_reducible apply Frames.iteSnd2
    | with_reducible apply Frames.iteFst
    | dsimp only
    | split

theorem State.spoilBanks_frames (s : State) (d : Fin 4) (banks : Nat) :
    Frames 0x9 s (State.spoilBanks s d banks) := by
  unfold State.spoilBanks
  extract_lets y0
  repeat' first
    | with_reducible assumption
    | with_reducible exact Frames.refl _ _
    | with_reducible apply Frames.ite
    | ((with_reducible apply Frames.foldl); intro _ _)
    | ((with_reducible apply Frames.foldlSnd); intro _ _)
    | ((with_reducible apply Frames.step (State.store_frames ..)); exact rfl)
    | ((with_reducible apply Frames.step (State.tookFrees_frames ..)); exact rfl)
    | dsimp only
    | split

theorem State.marchResult_frames (s : State) (d : Fin 4) (result : Nat) (failSub : Nat) (rows : Nat) :
    Frames 0x100000000000 s (State.marchResult s d result failSub rows) := by
  unfold State.marchResult
  repeat' first
    | with_reducible assumption
    | with_reducible exact Frames.refl _ _
    | with_reducible apply Frames.ite
    | ((with_reducible apply Frames.put); exact rfl)
    | split

theorem State.destructiveEnd_frames (s : State) (d : Fin 4) (banks : Nat) (fails : List (Fin 192 × Fin 1032)) :
    Frames 0x100000010401 s (State.destructiveEnd s d banks fails).2 := by
  unfold State.destructiveEnd
  extract_lets y0 y1 y2
  have h0 : Frames 0x100000010401 s y0.2 := by
    unfold y0
    repeat' first
      | with_reducible assumption
      | with_reducible exact Frames.refl _ _
      | with_reducible apply Frames.ite
      | ((with_reducible apply Frames.step (State.repairRows_frames ..)); exact rfl)
      | dsimp only
      | split
  have h1 : Frames 0x100000010401 s y1 := by
    unfold y1
    repeat' first
      | with_reducible assumption
      | with_reducible exact Frames.refl _ _
      | with_reducible apply Frames.ite
      | with_reducible apply Frames.iteSnd
      | with_reducible apply Frames.iteSnd2
      | with_reducible apply Frames.iteFst
      | ((with_reducible apply Frames.step (State.recordRepairs_frames ..)); exact rfl)
      | dsimp only
      | split
  have h2 : Frames 0x100000010401 s y2 := by
    unfold y2
    repeat' first
      | with_reducible assumption
      | with_reducible exact Frames.refl _ _
      | with_reducible apply Frames.ite
      | ((with_reducible apply Frames.foldl); intro _ _)
      | ((with_reducible apply Frames.foldlSnd); intro _ _)
      | with_reducible apply Frames.iteSnd
      | with_reducible apply Frames.iteSnd2
      | with_reducible apply Frames.iteFst
      | ((with_reducible apply Frames.step (State.marchResult_frames ..)); exact rfl)
      | ((with_reducible apply Frames.step (State.zeroBanks_frames ..)); exact rfl)
      | dsimp only
      | split
  repeat' first
    | with_reducible assumption
    | with_reducible exact Frames.refl _ _
    | with_reducible apply Frames.ite
    | split

theorem State.marchLeft_frames (s : State) (d : Fin 4) :
    Frames 0x100000038819 s (State.marchLeft s d) := by
  unfold State.marchLeft
  extract_lets y0 y1 y2 y3 y4
  have h0 : Frames 0x100000038819 s y0 := by
    unfold y0
    repeat' first
      | with_reducible assumption
      | with_reducible exact Frames.refl _ _
      | with_reducible apply Frames.ite
      | ((with_reducible apply Frames.step (State.releaseWaiting_frames ..)); exact rfl)
      | ((with_reducible apply Frames.step (State.setLedge_frames ..)); exact rfl)
      | ((with_reducible apply Frames.step (State.takeGives_frames ..)); exact rfl)
      | ((with_reducible apply Frames.step (State.testEnds_frames ..)); exact rfl)
      | dsimp only
      | split
  have h2 : Frames 0x100000038819 s y2 := by
    unfold y2
    repeat' first
      | with_reducible assumption
      | with_reducible exact Frames.refl _ _
      | with_reducible apply Frames.ite
      | ((with_reducible apply Frames.step (State.releaseWaiting_frames ..)); exact rfl)
      | ((with_reducible apply Frames.step (State.setLedge_frames ..)); exact rfl)
      | ((with_reducible apply Frames.step (State.takeGives_frames ..)); exact rfl)
      | dsimp only
      | split
  have h4 : Frames 0x100000038819 s y4 := by
    unfold y4
    repeat' first
      | with_reducible assumption
      | with_reducible exact Frames.refl _ _
      | with_reducible apply Frames.ite
      | ((with_reducible apply Frames.step (State.releaseWaiting_frames ..)); exact rfl)
      | ((with_reducible apply Frames.step (State.setLedge_frames ..)); exact rfl)
      | ((with_reducible apply Frames.step (State.takeGives_frames ..)); exact rfl)
      | dsimp only
      | split
  repeat' first
    | with_reducible assumption
    | with_reducible exact Frames.refl _ _
    | with_reducible apply Frames.ite
    | ((with_reducible apply Frames.foldl); intro _ _)
    | ((with_reducible apply Frames.foldlSnd); intro _ _)
    | ((with_reducible apply Frames.step (State.ledgeServe_frames ..)); exact rfl)
    | ((with_reducible apply Frames.step (State.releaseWaiting_frames ..)); exact rfl)
    | ((with_reducible apply Frames.step (State.setLedge_frames ..)); exact rfl)
    | ((with_reducible apply Frames.step (State.takeGives_frames ..)); exact rfl)
    | dsimp only
    | split

theorem execMarchDone_frames (d : Fin 4) (fails : List (Fin 192 × Fin 1032)) (s : State) :
    FramesOut 0x100000038c19 s (execMarchDone d fails s) := by
  unfold execMarchDone
  repeat' first
    | with_reducible assumption
    | with_reducible exact Frames.refl _ _
    | with_reducible apply FramesOut.next
    | with_reducible apply Frames.ite
    | with_reducible apply FramesOut.ite
    | ((with_reducible apply Frames.foldl); intro _ _)
    | ((with_reducible apply Frames.foldlSnd); intro _ _)
    | ((with_reducible apply Frames.step (State.destructiveEnd_frames ..)); exact rfl)
    | ((with_reducible apply Frames.step (State.marchLeft_frames ..)); exact rfl)
    | ((with_reducible apply Frames.step (State.marchResult_frames ..)); exact rfl)
    | ((with_reducible apply Frames.step (State.setLedge_frames ..)); exact rfl)
    | with_reducible apply Frames.iteSnd
    | with_reducible apply Frames.iteSnd2
    | with_reducible apply Frames.iteFst
    | dsimp only
    | split

theorem State.repairStatus_frames (s : State) (d : Fin 4) (g : Nat) (result : Nat) :
    Frames 0x100000000000 s (State.repairStatus s d g result) := by
  unfold State.repairStatus
  repeat' first
    | with_reducible assumption
    | with_reducible exact Frames.refl _ _
    | with_reducible apply Frames.ite
    | ((with_reducible apply Frames.put); exact rfl)
    | split

theorem State.dropOldSpare_frames (s : State) (d : Fin 4) (g : Nat) (row : Nat) :
    Frames 0x100000000000 s (State.dropOldSpare s d g row) := by
  unfold State.dropOldSpare
  repeat' first
    | with_reducible assumption
    | with_reducible exact Frames.refl _ _
    | with_reducible apply Frames.ite
    | ((with_reducible apply Frames.step (State.failSpare_frames ..)); exact rfl)
    | split

theorem execSoft_frames (d : Fin 4) (g : Fin 256) (row : Fin 1024) (s : State) :
    FramesOut 0x100000000409 s (execSoft d g row s) := by
  unfold execSoft
  repeat' first
    | with_reducible assumption
    | with_reducible exact Frames.refl _ _
    | with_reducible apply FramesOut.next
    | with_reducible apply Frames.ite
    | with_reducible apply FramesOut.ite
    | ((with_reducible apply Frames.step (State.dropOldSpare_frames ..)); exact rfl)
    | ((with_reducible apply Frames.step (State.mapSpare_frames ..)); exact rfl)
    | ((with_reducible apply Frames.step (State.recordRepairs_frames ..)); exact rfl)
    | ((with_reducible apply Frames.step (State.repairStatus_frames ..)); exact rfl)
    | ((with_reducible apply Frames.step (State.store_frames ..)); exact rfl)
    | ((with_reducible apply Frames.step (State.tookFrees_frames ..)); exact rfl)
    | dsimp only
    | split

theorem State.copyRowErrors_frames (s : State) (d : Fin 4) (g : Nat) (row : Nat) (r : Nat) (src : Nat) :
    Frames 0x100000010800 s (State.copyRowErrors s d g row r src) := by
  unfold State.copyRowErrors
  repeat' first
    | with_reducible assumption
    | with_reducible exact Frames.refl _ _
    | with_reducible apply Frames.ite
    | ((with_reducible apply Frames.foldl); intro _ _)
    | ((with_reducible apply Frames.foldlSnd); intro _ _)
    | ((with_reducible apply Frames.step (State.setBad_frames ..)); exact rfl)
    | ((with_reducible apply Frames.step (State.ucc_frames ..)); exact rfl)
    | ((with_reducible apply Frames.bump); exact rfl)
    | dsimp only
    | split

theorem execSoftCopy_frames (d : Fin 4) (g : Fin 256) (row : Fin 1024) (s : State) :
    FramesOut 0x100000010c01 s (execSoftCopy d g row s) := by
  unfold execSoftCopy
  repeat' first
    | with_reducible assumption
    | with_reducible exact Frames.refl _ _
    | with_reducible apply FramesOut.next
    | with_reducible apply Frames.ite
    | with_reducible apply FramesOut.ite
    | ((with_reducible apply Frames.step (State.copyRowErrors_frames ..)); exact rfl)
    | ((with_reducible apply Frames.step (State.dropOldSpare_frames ..)); exact rfl)
    | ((with_reducible apply Frames.step (State.mapSpare_frames ..)); exact rfl)
    | ((with_reducible apply Frames.step (State.recordRepairs_frames ..)); exact rfl)
    | ((with_reducible apply Frames.step (State.repairStatus_frames ..)); exact rfl)
    | ((with_reducible apply Frames.step (State.store_frames ..)); exact rfl)
    | dsimp only
    | split

theorem execFuse_frames (d : Fin 4) (g : Fin 256) (row : Fin 1024) (s : State) :
    FramesOut 0x100000020000 s (execFuse d g row s) := by
  unfold execFuse
  repeat' first
    | with_reducible assumption
    | with_reducible exact Frames.refl _ _
    | with_reducible apply FramesOut.next
    | with_reducible apply Frames.ite
    | with_reducible apply FramesOut.ite
    | ((with_reducible apply Frames.step (State.repairStatus_frames ..)); exact rfl)
    | ((with_reducible apply Frames.step (State.setLedge_frames ..)); exact rfl)
    | ((with_reducible apply Frames.put); exact rfl)
    | split

theorem execFuseDone_frames (d : Fin 4) (ok : Bool) (s : State) :
    FramesOut 0x100000020400 s (execFuseDone d ok s) := by
  unfold execFuseDone
  repeat' first
    | with_reducible assumption
    | with_reducible exact Frames.refl _ _
    | with_reducible apply FramesOut.next
    | with_reducible apply Frames.ite
    | with_reducible apply FramesOut.ite
    | ((with_reducible apply Frames.step (State.recordRepairs_frames ..)); exact rfl)
    | ((with_reducible apply Frames.step (State.repairStatus_frames ..)); exact rfl)
    | ((with_reducible apply Frames.step (State.setLedge_frames ..)); exact rfl)
    | ((with_reducible apply Frames.put); exact rfl)
    | (fail_if_no_progress ((with_reducible apply Frames.repair); exact rfl))
    | dsimp only
    | split

theorem execRelease_frames (d : Fin 4) (g : Fin 256) (row : Fin 1024) (s : State) :
    FramesOut 0x100000000400 s (execRelease d g row s) := by
  unfold execRelease
  repeat' first
    | with_reducible assumption
    | with_reducible exact Frames.refl _ _
    | with_reducible apply FramesOut.next
    | with_reducible apply Frames.ite
    | with_reducible apply FramesOut.ite
    | ((with_reducible apply Frames.step (State.recordRepairs_frames ..)); exact rfl)
    | ((with_reducible apply Frames.step (State.repairStatus_frames ..)); exact rfl)
    | ((with_reducible apply Frames.set); exact rfl)
    | split

theorem State.repairReserved_frames (s : State) (d : Fin 4) (g : Nat) :
    Frames 0x100000000000 s (State.repairReserved s d g) := by
  unfold State.repairReserved
  repeat' first
    | with_reducible assumption
    | with_reducible exact Frames.refl _ _
    | with_reducible apply Frames.ite
    | ((with_reducible apply Frames.step (State.repairStatus_frames ..)); exact rfl)
    | split

theorem State.loadRepairs_frames (s : State) (d : Fin 4) :
    Frames 0x100000000000 s (State.loadRepairs s d) := by
  unfold State.loadRepairs
  extract_lets y0 y1 y2
  repeat' first
    | with_reducible assumption
    | with_reducible exact Frames.refl _ _
    | with_reducible apply Frames.ite
    | ((with_reducible apply Frames.foldl); intro _ _)
    | ((with_reducible apply Frames.foldlSnd); intro _ _)
    | ((with_reducible apply Frames.set); exact rfl)
    | dsimp only
    | split

end Sys2Proof.Machine
end

