-- ==== Sys2Proof/Laws/FramesPower.lean ====
section
/-! SUPPORT. What the definitions of Machine/Power.lean can change: one lemma for each that answers a state. -/

namespace Sys2Proof.Machine

theorem State.setPdom_frames (s : State) (d : Fin 5) (p : PowerDomain) :
    Frames 0x2000 s (State.setPdom s d p) := by
  unfold State.setPdom
  repeat' first
    | with_reducible assumption
    | with_reducible exact Frames.refl _ _
    | with_reducible apply Frames.ite
    | ((with_reducible apply Frames.set); exact rfl)
    | (fail_if_no_progress ((with_reducible apply Frames.power); exact rfl))
    | split

theorem State.sendBudget_frames (s : State) (d : Fin 5) (w : Nat) :
    Frames 0x40002000 s (State.sendBudget s d w) := by
  unfold State.sendBudget
  repeat' first
    | with_reducible assumption
    | with_reducible exact Frames.refl _ _
    | with_reducible apply Frames.ite
    | ((with_reducible apply Frames.step (State.setPdom_frames ..)); exact rfl)
    | ((with_reducible apply Frames.put); exact rfl)
    | split

theorem State.tryRaise_frames (s : State) (d : Fin 5) :
    Frames 0x40002800 s (State.tryRaise s d) := by
  unfold State.tryRaise
  repeat' first
    | with_reducible assumption
    | with_reducible exact Frames.refl _ _
    | with_reducible apply Frames.ite
    | ((with_reducible apply Frames.step (State.raise_frames ..)); exact rfl)
    | ((with_reducible apply Frames.step (State.sendBudget_frames ..)); exact rfl)
    | split

theorem State.sendRaises_frames (s : State) :
    Frames 0x40002800 s (State.sendRaises s) := by
  unfold State.sendRaises
  repeat' first
    | with_reducible assumption
    | with_reducible exact Frames.refl _ _
    | with_reducible apply Frames.ite
    | ((with_reducible apply Frames.foldl); intro _ _)
    | ((with_reducible apply Frames.foldlSnd); intro _ _)
    | ((with_reducible apply Frames.step (State.tryRaise_frames ..)); exact rfl)
    | split

theorem State.askBudget_frames (s : State) (d : Fin 5) (w : Nat) :
    Frames 0x40002000 s (State.askBudget s d w) := by
  unfold State.askBudget
  repeat' first
    | with_reducible assumption
    | with_reducible exact Frames.refl _ _
    | with_reducible apply Frames.ite
    | ((with_reducible apply Frames.step (State.sendBudget_frames ..)); exact rfl)
    | ((with_reducible apply Frames.step (State.setPdom_frames ..)); exact rfl)
    | split

theorem execBudgetRedistribute_frames (s : State) :
    FramesOut 0x40002800 s (execBudgetRedistribute s) := by
  unfold execBudgetRedistribute
  extract_lets y0 y1 y2 y3
  have h2 : Frames 0x40002800 s y2 := by
    unfold y2
    repeat' first
      | with_reducible assumption
      | with_reducible exact Frames.refl _ _
      | with_reducible apply FramesOut.next
      | with_reducible apply Frames.ite
      | with_reducible apply FramesOut.ite
      | ((with_reducible apply Frames.foldl); intro _ _)
      | ((with_reducible apply Frames.foldlSnd); intro _ _)
      | ((with_reducible apply Frames.step (State.askBudget_frames ..)); exact rfl)
      | dsimp only
      | split
  repeat' first
    | with_reducible assumption
    | with_reducible exact Frames.refl _ _
    | with_reducible apply FramesOut.next
    | with_reducible apply Frames.ite
    | with_reducible apply FramesOut.ite
    | ((with_reducible apply Frames.step (State.sendRaises_frames ..)); exact rfl)
    | (fail_if_no_progress ((with_reducible apply Frames.power); exact rfl))
    | dsimp only
    | split

theorem execBudget_frames (d : Fin 5) (s : State) :
    FramesOut 0x40002000 s (execBudget d s) := by
  unfold execBudget
  repeat' first
    | with_reducible assumption
    | with_reducible exact Frames.refl _ _
    | with_reducible apply FramesOut.next
    | with_reducible apply Frames.ite
    | with_reducible apply FramesOut.ite
    | ((with_reducible apply Frames.step (State.setPdom_frames ..)); exact rfl)
    | ((with_reducible apply Frames.put); exact rfl)
    | split

theorem State.setCap_frames (s : State) (m : Nat) :
    Frames 0x40000000 s (State.setCap s m) := by
  unfold State.setCap
  repeat' first
    | with_reducible assumption
    | with_reducible exact Frames.refl _ _
    | with_reducible apply Frames.ite
    | ((with_reducible apply Frames.put); exact rfl)
    | split

theorem State.modeComplete_frames (s : State) :
    Frames 0x45d015a800 s (State.modeComplete s) := by
  unfold State.modeComplete
  repeat' first
    | with_reducible assumption
    | with_reducible exact Frames.refl _ _
    | with_reducible apply Frames.ite
    | ((with_reducible apply Frames.step (State.notify_frames ..)); exact rfl)
    | ((with_reducible apply Frames.step (State.recompute_frames ..)); exact rfl)
    | ((with_reducible apply Frames.step (State.setCap_frames ..)); exact rfl)
    | (fail_if_no_progress ((with_reducible apply Frames.power); exact rfl))
    | dsimp only
    | split

theorem State.restoreNext_frames (s : State) :
    Frames 0x2800 s (State.restoreNext s) := by
  unfold State.restoreNext
  repeat' first
    | with_reducible assumption
    | with_reducible exact Frames.refl _ _
    | with_reducible apply Frames.ite
    | ((with_reducible apply Frames.step (State.raise_frames ..)); exact rfl)
    | (fail_if_no_progress ((with_reducible apply Frames.power); exact rfl))
    | dsimp only
    | split

theorem execBudgetAck_frames (d : Fin 5) (s : State) :
    FramesOut 0x45d015a800 s (execBudgetAck d s) := by
  unfold execBudgetAck
  repeat' first
    | with_reducible assumption
    | with_reducible exact Frames.refl _ _
    | with_reducible apply FramesOut.next
    | with_reducible apply Frames.ite
    | with_reducible apply FramesOut.ite
    | ((with_reducible apply Frames.step (State.modeComplete_frames ..)); exact rfl)
    | ((with_reducible apply Frames.step (State.restoreNext_frames ..)); exact rfl)
    | ((with_reducible apply Frames.step (State.sendRaises_frames ..)); exact rfl)
    | ((with_reducible apply Frames.step (State.setPdom_frames ..)); exact rfl)
    | ((with_reducible apply Frames.put); exact rfl)
    | dsimp only
    | split

theorem execBudgetAckLate_frames (d : Fin 5) (s : State) :
    FramesOut 0x2800 s (execBudgetAckLate d s) := by
  unfold execBudgetAckLate
  repeat' first
    | with_reducible assumption
    | with_reducible exact Frames.refl _ _
    | with_reducible apply FramesOut.next
    | with_reducible apply Frames.ite
    | with_reducible apply FramesOut.ite
    | ((with_reducible apply Frames.step (State.setPdom_frames ..)); exact rfl)
    | ((with_reducible apply Frames.step (State.ucc_frames ..)); exact rfl)
    | split

theorem execBudgetAckFatal_frames (d : Fin 5) (s : State) :
    FramesOut 0xfffffecb8dd1 s (execBudgetAckFatal d s) := by
  unfold execBudgetAckFatal
  repeat' first
    | with_reducible assumption
    | with_reducible exact Frames.refl _ _
    | with_reducible apply FramesOut.next
    | with_reducible apply Frames.ite
    | with_reducible apply FramesOut.ite
    | ((with_reducible apply Frames.step (State.promote_frames ..)); exact rfl)
    | ((with_reducible apply Frames.step (State.raise_frames ..)); exact rfl)
    | ((with_reducible apply Frames.step (State.stopClocks_frames ..)); exact rfl)
    | dsimp only
    | split

theorem execDutyRejudge_frames (d : Fin 5) (raw : Nat) (s : State) :
    FramesOut 0x40002000 s (execDutyRejudge d raw s) := by
  unfold execDutyRejudge
  extract_lets y0 y1 y2 y3 y4 y5 y6
  repeat' first
    | with_reducible assumption
    | with_reducible exact Frames.refl _ _
    | with_reducible apply FramesOut.next
    | with_reducible apply Frames.ite
    | with_reducible apply FramesOut.ite
    | ((with_reducible apply Frames.step (State.setPdom_frames ..)); exact rfl)
    | ((with_reducible apply Frames.put); exact rfl)
    | dsimp only
    | split

theorem State.adoptBrake_frames (s : State) (m : Nat) :
    Frames 0x40002000 s (State.adoptBrake s m) := by
  unfold State.adoptBrake
  repeat' first
    | with_reducible assumption
    | with_reducible exact Frames.refl _ _
    | with_reducible apply Frames.ite
    | ((with_reducible apply Frames.foldl); intro _ _)
    | ((with_reducible apply Frames.foldlSnd); intro _ _)
    | ((with_reducible apply Frames.step (State.setPdom_frames ..)); exact rfl)
    | ((with_reducible apply Frames.put); exact rfl)
    | split

theorem State.gateClocks_frames (s : State) :
    Frames 0x40 s (State.gateClocks s) := by
  unfold State.gateClocks
  extract_lets y0 y1
  repeat' first
    | with_reducible assumption
    | with_reducible exact Frames.refl _ _
    | with_reducible apply Frames.ite
    | (fail_if_no_progress ((with_reducible apply Frames.clocks); exact rfl))
    | dsimp only
    | split

theorem State.stopMarch_frames (s : State) (d : Fin 4) :
    Frames 0x100000038819 s (State.stopMarch s d) := by
  unfold State.stopMarch
  repeat' first
    | with_reducible assumption
    | with_reducible exact Frames.refl _ _
    | with_reducible apply Frames.ite
    | ((with_reducible apply Frames.step (State.marchLeft_frames ..)); exact rfl)
    | ((with_reducible apply Frames.step (State.spoilBanks_frames ..)); exact rfl)
    | ((with_reducible apply Frames.put); exact rfl)
    | split

theorem State.brakeGate_frames (s : State) :
    Frames 0x100000038859 s (State.brakeGate s) := by
  unfold State.brakeGate
  repeat' first
    | with_reducible assumption
    | with_reducible exact Frames.refl _ _
    | with_reducible apply Frames.ite
    | ((with_reducible apply Frames.foldl); intro _ _)
    | ((with_reducible apply Frames.foldlSnd); intro _ _)
    | ((with_reducible apply Frames.step (State.gateClocks_frames ..)); exact rfl)
    | ((with_reducible apply Frames.step (State.stopMarch_frames ..)); exact rfl)
    | split

theorem State.askDefaults_frames (s : State) (m : Nat) (raises : Bool) :
    Frames 0x40002000 s (State.askDefaults s m raises) := by
  unfold State.askDefaults
  repeat' first
    | with_reducible assumption
    | with_reducible exact Frames.refl _ _
    | with_reducible apply Frames.ite
    | ((with_reducible apply Frames.foldl); intro _ _)
    | ((with_reducible apply Frames.foldlSnd); intro _ _)
    | ((with_reducible apply Frames.step (State.askBudget_frames ..)); exact rfl)
    | ((with_reducible apply Frames.step (State.setPdom_frames ..)); exact rfl)
    | dsimp only
    | split

theorem State.startMode_frames (s : State) (m : Nat) :
    Frames 0x1045d017a859 s (State.startMode s m) := by
  unfold State.startMode
  extract_lets y0 y1 y2 y3
  have h2 : Frames 0x1045d017a859 s y2 := by
    unfold y2
    repeat' first
      | with_reducible assumption
      | with_reducible exact Frames.refl _ _
      | with_reducible apply Frames.ite
      | ((with_reducible apply Frames.step (State.brakeGate_frames ..)); exact rfl)
      | (fail_if_no_progress ((with_reducible apply Frames.power); exact rfl))
      | dsimp only
      | split
  have h3 : Frames 0x1045d017a859 s y3 := by
    unfold y3
    repeat' first
      | with_reducible assumption
      | with_reducible exact Frames.refl _ _
      | with_reducible apply Frames.ite
      | ((with_reducible apply Frames.foldl); intro _ _)
      | ((with_reducible apply Frames.foldlSnd); intro _ _)
      | ((with_reducible apply Frames.step (State.brakeGate_frames ..)); exact rfl)
      | ((with_reducible apply Frames.put); exact rfl)
      | (fail_if_no_progress ((with_reducible apply Frames.power); exact rfl))
      | dsimp only
      | split
  repeat' first
    | with_reducible assumption
    | with_reducible exact Frames.refl _ _
    | with_reducible apply Frames.ite
    | ((with_reducible apply Frames.step (State.askDefaults_frames ..)); exact rfl)
    | ((with_reducible apply Frames.step (State.brakeGate_frames ..)); exact rfl)
    | ((with_reducible apply Frames.step (State.modeComplete_frames ..)); exact rfl)
    | ((with_reducible apply Frames.step (State.sendRaises_frames ..)); exact rfl)
    | ((with_reducible apply Frames.step (State.setCap_frames ..)); exact rfl)
    | (fail_if_no_progress ((with_reducible apply Frames.power); exact rfl))
    | dsimp only
    | split

theorem State.writeMode_frames (s : State) (m : Nat) (own : Bool) :
    Frames 0x5045f81fb859 s (State.writeMode s m own) := by
  unfold State.writeMode
  extract_lets y0 y1 y2 y3 y4 y5
  have h2 : Frames 0x5045f81fb859 s y2 := by
    unfold y2
    repeat' first
      | with_reducible assumption
      | with_reducible exact Frames.refl _ _
      | with_reducible apply Frames.ite
      | ((with_reducible apply Frames.put); exact rfl)
      | dsimp only
      | split
  have h3 : Frames 0x5045f81fb859 s y3 := by
    unfold y3
    repeat' first
      | with_reducible assumption
      | with_reducible exact Frames.refl _ _
      | with_reducible apply Frames.ite
      | ((with_reducible apply Frames.step (State.deviceKept_frames ..)); exact rfl)
      | ((with_reducible apply Frames.step (State.dictStore_frames ..)); exact rfl)
      | dsimp only
      | split
  have h4 : Frames 0x5045f81fb859 s y4 := by
    unfold y4
    repeat' first
      | with_reducible assumption
      | with_reducible exact Frames.refl _ _
      | with_reducible apply Frames.ite
      | ((with_reducible apply Frames.step (State.failHeartbeat_frames ..)); exact rfl)
      | ((with_reducible apply Frames.put); exact rfl)
      | dsimp only
      | split
  repeat' first
    | with_reducible assumption
    | with_reducible exact Frames.refl _ _
    | with_reducible apply Frames.ite
    | ((with_reducible apply Frames.step (State.beginEnd_frames ..)); exact rfl)
    | ((with_reducible apply Frames.step (State.startMode_frames ..)); exact rfl)
    | ((with_reducible apply Frames.put); exact rfl)
    | (fail_if_no_progress ((with_reducible apply Frames.power); exact rfl))
    | dsimp only
    | split

theorem execModeChange_frames (m : Fin 4) (s : State) :
    FramesOut 0x5045f81fb859 s (execModeChange m s) := by
  unfold execModeChange
  repeat' first
    | with_reducible assumption
    | with_reducible exact Frames.refl _ _
    | with_reducible apply FramesOut.next
    | with_reducible apply Frames.ite
    | with_reducible apply FramesOut.ite
    | ((with_reducible apply Frames.step (State.writeMode_frames ..)); exact rfl)
    | split

theorem State.setTemp_frames (s : State) (i : Fin 9) (t : Int) :
    Frames 0x40000000 s (State.setTemp s i t) := by
  unfold State.setTemp
  repeat' first
    | with_reducible assumption
    | with_reducible exact Frames.refl _ _
    | with_reducible apply Frames.ite
    | ((with_reducible apply Frames.put); exact rfl)
    | split

theorem execThermalLimit_frames (i : Fin 9) (temp : Int) (s : State) :
    FramesOut 0x40002000 s (execThermalLimit i temp s) := by
  unfold execThermalLimit
  extract_lets y0 y1 y2
  have h1 : Frames 0x40002000 s y1 := by
    unfold y1
    repeat' first
      | with_reducible assumption
      | with_reducible exact Frames.refl _ _
      | with_reducible apply FramesOut.next
      | with_reducible apply Frames.ite
      | with_reducible apply FramesOut.ite
      | ((with_reducible apply Frames.step (State.setTemp_frames ..)); exact rfl)
      | dsimp only
      | split
  repeat' first
    | with_reducible assumption
    | with_reducible exact Frames.refl _ _
    | with_reducible apply FramesOut.next
    | with_reducible apply Frames.ite
    | with_reducible apply FramesOut.ite
    | ((with_reducible apply Frames.step (State.setPdom_frames ..)); exact rfl)
    | ((with_reducible apply Frames.put); exact rfl)
    | dsimp only
    | split

theorem execThermalCapStep_frames (d : Fin 5) (s : State) :
    FramesOut 0x2000 s (execThermalCapStep d s) := by
  unfold execThermalCapStep
  repeat' first
    | with_reducible assumption
    | with_reducible exact Frames.refl _ _
    | with_reducible apply FramesOut.next
    | with_reducible apply Frames.ite
    | with_reducible apply FramesOut.ite
    | ((with_reducible apply Frames.step (State.setPdom_frames ..)); exact rfl)
    | dsimp only
    | split

theorem execThermalClear_frames (i : Fin 9) (temp : Int) (s : State) :
    FramesOut 0x40002000 s (execThermalClear i temp s) := by
  unfold execThermalClear
  extract_lets y0 y1 y2
  have h1 : Frames 0x40002000 s y1 := by
    unfold y1
    repeat' first
      | with_reducible assumption
      | with_reducible exact Frames.refl _ _
      | with_reducible apply FramesOut.next
      | with_reducible apply Frames.ite
      | with_reducible apply FramesOut.ite
      | ((with_reducible apply Frames.step (State.setTemp_frames ..)); exact rfl)
      | dsimp only
      | split
  repeat' first
    | with_reducible assumption
    | with_reducible exact Frames.refl _ _
    | with_reducible apply FramesOut.next
    | with_reducible apply Frames.ite
    | with_reducible apply FramesOut.ite
    | ((with_reducible apply Frames.step (State.setPdom_frames ..)); exact rfl)
    | ((with_reducible apply Frames.put); exact rfl)
    | dsimp only
    | split

theorem execOverTemperature_frames (i : Fin 9) (temp : Int) (s : State) :
    FramesOut 0x4040e80189d1 s (execOverTemperature i temp s) := by
  unfold execOverTemperature
  repeat' first
    | with_reducible assumption
    | with_reducible exact Frames.refl _ _
    | with_reducible apply FramesOut.next
    | with_reducible apply Frames.ite
    | with_reducible apply FramesOut.ite
    | ((with_reducible apply Frames.step (State.failHeartbeat_frames ..)); exact rfl)
    | ((with_reducible apply Frames.step (State.raise_frames ..)); exact rfl)
    | ((with_reducible apply Frames.step (State.setTemp_frames ..)); exact rfl)
    | ((with_reducible apply Frames.step (State.stopClocks_frames ..)); exact rfl)
    | split

theorem execCompatDuty_frames (n : Fin 4) (temp : Int) (s : State) :
    FramesOut 0x40002000 s (execCompatDuty n temp s) := by
  unfold execCompatDuty
  extract_lets y0 y1 y2 y3 y4 y5 y6
  have h2 : Frames 0x40002000 s y2 := by
    unfold y2
    repeat' first
      | with_reducible assumption
      | with_reducible exact Frames.refl _ _
      | with_reducible apply FramesOut.next
      | with_reducible apply Frames.ite
      | with_reducible apply FramesOut.ite
      | ((with_reducible apply Frames.step (State.setTemp_frames ..)); exact rfl)
      | dsimp only
      | split
  have h5 : Frames 0x40002000 s y5 := by
    unfold y5
    repeat' first
      | with_reducible assumption
      | with_reducible exact Frames.refl _ _
      | with_reducible apply FramesOut.next
      | with_reducible apply Frames.ite
      | with_reducible apply FramesOut.ite
      | ((with_reducible apply Frames.step (State.setPdom_frames ..)); exact rfl)
      | dsimp only
      | split
  repeat' first
    | with_reducible assumption
    | with_reducible exact Frames.refl _ _
    | with_reducible apply FramesOut.next
    | with_reducible apply Frames.ite
    | with_reducible apply FramesOut.ite
    | ((with_reducible apply Frames.put); exact rfl)
    | dsimp only
    | split

theorem execBrakeAssert_frames (s : State) :
    FramesOut 0x10404003a879 s (execBrakeAssert s) := by
  unfold execBrakeAssert
  repeat' first
    | with_reducible assumption
    | with_reducible exact Frames.refl _ _
    | with_reducible apply FramesOut.next
    | with_reducible apply Frames.ite
    | with_reducible apply FramesOut.ite
    | ((with_reducible apply Frames.step (State.adoptBrake_frames ..)); exact rfl)
    | ((with_reducible apply Frames.step (State.brakeGate_frames ..)); exact rfl)
    | ((with_reducible apply Frames.step (State.correctedEvent_frames ..)); exact rfl)
    | ((with_reducible apply Frames.step (State.notify_frames ..)); exact rfl)
    | ((with_reducible apply Frames.put); exact rfl)
    | (fail_if_no_progress ((with_reducible apply Frames.rails_power); exact rfl; exact rfl))
    | dsimp only
    | split

theorem execBrakeRelease_frames (s : State) :
    FramesOut 0x40002860 s (execBrakeRelease s) := by
  unfold execBrakeRelease
  repeat' first
    | with_reducible assumption
    | with_reducible exact Frames.refl _ _
    | with_reducible apply FramesOut.next
    | with_reducible apply Frames.ite
    | with_reducible apply FramesOut.ite
    | ((with_reducible apply Frames.step (State.askDefaults_frames ..)); exact rfl)
    | ((with_reducible apply Frames.step (State.gateClocks_frames ..)); exact rfl)
    | ((with_reducible apply Frames.step (State.sendRaises_frames ..)); exact rfl)
    | ((with_reducible apply Frames.step (State.setCap_frames ..)); exact rfl)
    | ((with_reducible apply Frames.put); exact rfl)
    | (fail_if_no_progress ((with_reducible apply Frames.rails_power); exact rfl; exact rfl))
    | dsimp only
    | split

theorem execGainTrim_frames (meter : Nat) (raws : List Nat) (s : State) :
    FramesOut 0x40002800 s (execGainTrim meter raws s) := by
  unfold execGainTrim
  extract_lets y0 y1 y2 y3 y4 y5 y6 y7 y8 y9 y10 y11 y12 y13 y14 y15 y16
  have h5 : Frames 0x40002800 s y5 := by
    unfold y5
    repeat' first
      | with_reducible assumption
      | with_reducible exact Frames.refl _ _
      | with_reducible apply FramesOut.next
      | with_reducible apply Frames.ite
      | with_reducible apply FramesOut.ite
      | ((with_reducible apply Frames.foldl); intro _ _)
      | ((with_reducible apply Frames.foldlSnd); intro _ _)
      | ((with_reducible apply Frames.step (State.setPdom_frames ..)); exact rfl)
      | ((with_reducible apply Frames.put); exact rfl)
      | (fail_if_no_progress ((with_reducible apply Frames.power); exact rfl))
      | with_reducible apply Frames.iteSnd
      | with_reducible apply Frames.iteSnd2
      | with_reducible apply Frames.iteFst
      | dsimp only
      | split
  have h15 : Frames 0x40002800 s y15 := by
    unfold y15
    repeat' first
      | with_reducible assumption
      | with_reducible exact Frames.refl _ _
      | with_reducible apply FramesOut.next
      | with_reducible apply Frames.ite
      | with_reducible apply FramesOut.ite
      | ((with_reducible apply Frames.put); exact rfl)
      | (fail_if_no_progress ((with_reducible apply Frames.power); exact rfl))
      | with_reducible apply Frames.iteSnd
      | with_reducible apply Frames.iteSnd2
      | with_reducible apply Frames.iteFst
      | dsimp only
      | split
  have h16 : Frames 0x40002800 s y16 := by
    unfold y16
    repeat' first
      | with_reducible assumption
      | with_reducible exact Frames.refl _ _
      | with_reducible apply FramesOut.next
      | with_reducible apply Frames.ite
      | with_reducible apply FramesOut.ite
      | ((with_reducible apply Frames.put); exact rfl)
      | (fail_if_no_progress ((with_reducible apply Frames.power); exact rfl))
      | with_reducible apply Frames.iteSnd
      | with_reducible apply Frames.iteSnd2
      | with_reducible apply Frames.iteFst
      | dsimp only
      | split
  repeat' first
    | with_reducible assumption
    | with_reducible exact Frames.refl _ _
    | with_reducible apply FramesOut.next
    | with_reducible apply Frames.ite
    | with_reducible apply FramesOut.ite
    | ((with_reducible apply Frames.step (State.correctedEvent_frames ..)); exact rfl)
    | (fail_if_no_progress ((with_reducible apply Frames.power); exact rfl))
    | with_reducible apply Frames.iteSnd
    | with_reducible apply Frames.iteSnd2
    | with_reducible apply Frames.iteFst
    | dsimp only
    | split

theorem execSensorOffsetUpdate_frames (i : Fin 9) (tref : Int) (power : Int) (refOk : Bool) (readings : List Int) (s : State) :
    FramesOut 0x40002800 s (execSensorOffsetUpdate i tref power refOk readings s) := by
  unfold execSensorOffsetUpdate
  extract_lets y0 y1 y2 y3 y4 y5 y6 y7 y8 y9 y10
  have h9 : Frames 0x40002800 s y9 := by
    unfold y9
    repeat' first
      | with_reducible assumption
      | with_reducible exact Frames.refl _ _
      | with_reducible apply FramesOut.next
      | with_reducible apply Frames.ite
      | with_reducible apply FramesOut.ite
      | ((with_reducible apply Frames.foldl); intro _ _)
      | ((with_reducible apply Frames.foldlSnd); intro _ _)
      | ((with_reducible apply Frames.step (State.setTemp_frames ..)); exact rfl)
      | ((with_reducible apply Frames.put); exact rfl)
      | ((with_reducible apply Frames.set); exact rfl)
      | (fail_if_no_progress ((with_reducible apply Frames.power); exact rfl))
      | dsimp only
      | split
  have h10 : Frames 0x40002800 s y10 := by
    unfold y10
    repeat' first
      | with_reducible assumption
      | with_reducible exact Frames.refl _ _
      | with_reducible apply FramesOut.next
      | with_reducible apply Frames.ite
      | with_reducible apply FramesOut.ite
      | ((with_reducible apply Frames.foldl); intro _ _)
      | ((with_reducible apply Frames.foldlSnd); intro _ _)
      | ((with_reducible apply Frames.step (State.setTemp_frames ..)); exact rfl)
      | ((with_reducible apply Frames.put); exact rfl)
      | ((with_reducible apply Frames.set); exact rfl)
      | (fail_if_no_progress ((with_reducible apply Frames.power); exact rfl))
      | dsimp only
      | split
  repeat' first
    | with_reducible assumption
    | with_reducible exact Frames.refl _ _
    | with_reducible apply FramesOut.next
    | with_reducible apply Frames.ite
    | with_reducible apply FramesOut.ite
    | ((with_reducible apply Frames.foldl); intro _ _)
    | ((with_reducible apply Frames.foldlSnd); intro _ _)
    | ((with_reducible apply Frames.step (State.correctedEvent_frames ..)); exact rfl)
    | ((with_reducible apply Frames.set); exact rfl)
    | (fail_if_no_progress ((with_reducible apply Frames.power); exact rfl))
    | dsimp only
    | split

end Sys2Proof.Machine
end

