-- ==== Sys2Proof/Laws/FramesBoot.lean ====
section
/-! SUPPORT. What the definitions of Machine/Boot.lean can change: one lemma for each that answers a state. -/

namespace Sys2Proof.Machine

theorem State.loadImage_frames (s : State) (t : Nat) (pick : Option Bool) :
    Frames 0x20000200 s (State.loadImage s t pick) := by
  unfold State.loadImage
  extract_lets y0 y1 y2
  have h1 : Frames 0x20000200 s y1 := by
    unfold y1
    repeat' first
      | with_reducible assumption
      | with_reducible exact Frames.refl _ _
      | with_reducible apply Frames.ite
      | ((with_reducible apply Frames.set); exact rfl)
      | (fail_if_no_progress ((with_reducible apply Frames.images); exact rfl))
      | dsimp only
      | split
  repeat' first
    | with_reducible assumption
    | with_reducible exact Frames.refl _ _
    | with_reducible apply Frames.ite
    | ((with_reducible apply Frames.put); exact rfl)
    | ((with_reducible apply Frames.set); exact rfl)
    | (fail_if_no_progress ((with_reducible apply Frames.images); exact rfl))
    | dsimp only
    | split

theorem State.trainPorts_frames (s : State) (dies : Nat) :
    Frames 0x400000000000 s (State.trainPorts s dies) := by
  unfold State.trainPorts
  repeat' first
    | with_reducible assumption
    | with_reducible exact Frames.refl _ _
    | with_reducible apply Frames.ite
    | ((with_reducible apply Frames.foldl); intro _ _)
    | ((with_reducible apply Frames.foldlSnd); intro _ _)
    | ((with_reducible apply Frames.put); exact rfl)
    | with_reducible apply Frames.iteSnd
    | with_reducible apply Frames.iteSnd2
    | with_reducible apply Frames.iteFst
    | split

theorem State.beginStage_frames (s : State) (i : Nat) :
    Frames 0x400020000100 s (State.beginStage s i) := by
  unfold State.beginStage
  extract_lets y0 y1 y2
  have h0 : Frames 0x400020000100 s y0 := by
    unfold y0
    repeat' first
      | with_reducible assumption
      | with_reducible exact Frames.refl _ _
      | with_reducible apply Frames.ite
      | ((with_reducible apply Frames.put); exact rfl)
      | dsimp only
      | split
  have h1 : Frames 0x400020000100 s y1 := by
    unfold y1
    repeat' first
      | with_reducible assumption
      | with_reducible exact Frames.refl _ _
      | with_reducible apply Frames.ite
      | ((with_reducible apply Frames.step (State.trainPorts_frames ..)); exact rfl)
      | dsimp only
      | split
  repeat' first
    | with_reducible assumption
    | with_reducible exact Frames.refl _ _
    | with_reducible apply Frames.ite
    | (fail_if_no_progress ((with_reducible apply Frames.boot); exact rfl))
    | split

theorem State.stageTime_frames (s : State) (i : Nat) :
    Frames 0x20000000 s (State.stageTime s i) := by
  unfold State.stageTime
  repeat' first
    | with_reducible assumption
    | with_reducible exact Frames.refl _ _
    | with_reducible apply Frames.ite
    | ((with_reducible apply Frames.put); exact rfl)
    | split

theorem State.failedAt_frames (s : State) (i : Nat) :
    Frames 0x20000000 s (State.failedAt s i) := by
  unfold State.failedAt
  repeat' first
    | with_reducible assumption
    | with_reducible exact Frames.refl _ _
    | with_reducible apply Frames.ite
    | ((with_reducible apply Frames.put); exact rfl)
    | split

theorem State.failedIf_frames (s : State) (b : Bool) (i : Nat) :
    Frames 0x20000000 s (State.failedIf s b i) := by
  unfold State.failedIf
  repeat' first
    | with_reducible assumption
    | with_reducible exact Frames.refl _ _
    | with_reducible apply Frames.ite
    | ((with_reducible apply Frames.step (State.failedAt_frames ..)); exact rfl)
    | split

theorem State.nextStage_frames (s : State) (i : Nat) :
    Frames 0x400020000100 s (State.nextStage s i) := by
  unfold State.nextStage
  extract_lets y0 y1 y2 y3
  have h0 : Frames 0x400020000100 s y0 := by
    unfold y0
    repeat' first
      | with_reducible assumption
      | with_reducible exact Frames.refl _ _
      | with_reducible apply Frames.ite
      | ((with_reducible apply Frames.step (State.stageTime_frames ..)); exact rfl)
      | dsimp only
      | split
  have h2 : Frames 0x400020000100 s y2 := by
    unfold y2
    repeat' first
      | with_reducible assumption
      | with_reducible exact Frames.refl _ _
      | with_reducible apply Frames.ite
      | (fail_if_no_progress ((with_reducible apply Frames.boot); exact rfl))
      | dsimp only
      | split
  have h3 : Frames 0x400020000100 s y3 := by
    unfold y3
    repeat' first
      | with_reducible assumption
      | with_reducible exact Frames.refl _ _
      | with_reducible apply Frames.ite
      | ((with_reducible apply Frames.step (State.trainPorts_frames ..)); exact rfl)
      | dsimp only
      | split
  repeat' first
    | with_reducible assumption
    | with_reducible exact Frames.refl _ _
    | with_reducible apply Frames.ite
    | ((with_reducible apply Frames.step (State.beginStage_frames ..)); exact rfl)
    | ((with_reducible apply Frames.put); exact rfl)
    | split

theorem State.loadMode_frames (s : State) :
    Frames 0x60002000 s (State.loadMode s) := by
  unfold State.loadMode
  extract_lets y0 y1 y2 y3 y4
  have h2 : Frames 0x60002000 s y2 := by
    unfold y2
    repeat' first
      | with_reducible assumption
      | with_reducible exact Frames.refl _ _
      | with_reducible apply Frames.ite
      | ((with_reducible apply Frames.foldl); intro _ _)
      | ((with_reducible apply Frames.foldlSnd); intro _ _)
      | ((with_reducible apply Frames.step (State.setCap_frames ..)); exact rfl)
      | ((with_reducible apply Frames.put); exact rfl)
      | (fail_if_no_progress ((with_reducible apply Frames.power); exact rfl))
      | dsimp only
      | split
  have h3 : Frames 0x60002000 s y3 := by
    unfold y3
    repeat' first
      | with_reducible assumption
      | with_reducible exact Frames.refl _ _
      | with_reducible apply Frames.ite
      | ((with_reducible apply Frames.foldl); intro _ _)
      | ((with_reducible apply Frames.foldlSnd); intro _ _)
      | ((with_reducible apply Frames.step (State.setCap_frames ..)); exact rfl)
      | ((with_reducible apply Frames.put); exact rfl)
      | (fail_if_no_progress ((with_reducible apply Frames.power); exact rfl))
      | dsimp only
      | split
  have h4 : Frames 0x60002000 s y4 := by
    unfold y4
    repeat' first
      | with_reducible assumption
      | with_reducible exact Frames.refl _ _
      | with_reducible apply Frames.ite
      | ((with_reducible apply Frames.foldl); intro _ _)
      | ((with_reducible apply Frames.foldlSnd); intro _ _)
      | ((with_reducible apply Frames.step (State.setCap_frames ..)); exact rfl)
      | ((with_reducible apply Frames.put); exact rfl)
      | (fail_if_no_progress ((with_reducible apply Frames.power); exact rfl))
      | dsimp only
      | split
  repeat' first
    | with_reducible assumption
    | with_reducible exact Frames.refl _ _
    | with_reducible apply Frames.ite
    | ((with_reducible apply Frames.foldl); intro _ _)
    | ((with_reducible apply Frames.foldlSnd); intro _ _)
    | ((with_reducible apply Frames.step (State.setCap_frames ..)); exact rfl)
    | ((with_reducible apply Frames.put); exact rfl)
    | (fail_if_no_progress ((with_reducible apply Frames.power); exact rfl))
    | dsimp only
    | split

theorem State.beginMain_frames (s : State) :
    Frames 0xffffe00011c0 s (State.beginMain s) := by
  unfold State.beginMain
  extract_lets y0 y1 y2 y3 y4 y5 y6 y7 y8
  have h0 : Frames 0xffffe00011c0 s y0 := by
    unfold y0
    repeat' first
      | with_reducible assumption
      | with_reducible exact Frames.refl _ _
      | with_reducible apply Frames.ite
      | ((with_reducible apply Frames.foldl); intro _ _)
      | ((with_reducible apply Frames.foldlSnd); intro _ _)
      | ((with_reducible apply Frames.step (State.beginStage_frames ..)); exact rfl)
      | ((with_reducible apply Frames.step (State.deviceKept_frames ..)); exact rfl)
      | ((with_reducible apply Frames.step (State.resetRegs_frames ..)); exact rfl)
      | ((with_reducible apply Frames.step (State.stageTime_frames ..)); exact rfl)
      | ((with_reducible apply Frames.put); exact rfl)
      | (fail_if_no_progress ((with_reducible apply Frames.clocks_doms); exact rfl; exact rfl))
      | dsimp only
      | split
  have h4 : Frames 0xffffe00011c0 s y4 := by
    unfold y4
    repeat' first
      | with_reducible assumption
      | with_reducible exact Frames.refl _ _
      | with_reducible apply Frames.ite
      | ((with_reducible apply Frames.foldl); intro _ _)
      | ((with_reducible apply Frames.foldlSnd); intro _ _)
      | ((with_reducible apply Frames.step (State.beginStage_frames ..)); exact rfl)
      | ((with_reducible apply Frames.step (State.deviceKept_frames ..)); exact rfl)
      | ((with_reducible apply Frames.step (State.resetRegs_frames ..)); exact rfl)
      | ((with_reducible apply Frames.step (State.stageTime_frames ..)); exact rfl)
      | ((with_reducible apply Frames.put); exact rfl)
      | (fail_if_no_progress ((with_reducible apply Frames.clocks_doms); exact rfl; exact rfl))
      | dsimp only
      | split
  have h5 : Frames 0xffffe00011c0 s y5 := by
    unfold y5
    repeat' first
      | with_reducible assumption
      | with_reducible exact Frames.refl _ _
      | with_reducible apply Frames.ite
      | ((with_reducible apply Frames.foldl); intro _ _)
      | ((with_reducible apply Frames.foldlSnd); intro _ _)
      | ((with_reducible apply Frames.step (State.beginStage_frames ..)); exact rfl)
      | ((with_reducible apply Frames.step (State.deviceKept_frames ..)); exact rfl)
      | ((with_reducible apply Frames.step (State.resetRegs_frames ..)); exact rfl)
      | ((with_reducible apply Frames.step (State.stageTime_frames ..)); exact rfl)
      | ((with_reducible apply Frames.put); exact rfl)
      | (fail_if_no_progress ((with_reducible apply Frames.clocks_doms); exact rfl; exact rfl))
      | dsimp only
      | split
  have h6 : Frames 0xffffe00011c0 s y6 := by
    unfold y6
    repeat' first
      | with_reducible assumption
      | with_reducible exact Frames.refl _ _
      | with_reducible apply Frames.ite
      | ((with_reducible apply Frames.foldl); intro _ _)
      | ((with_reducible apply Frames.foldlSnd); intro _ _)
      | ((with_reducible apply Frames.step (State.beginStage_frames ..)); exact rfl)
      | ((with_reducible apply Frames.step (State.deviceKept_frames ..)); exact rfl)
      | ((with_reducible apply Frames.step (State.resetRegs_frames ..)); exact rfl)
      | ((with_reducible apply Frames.step (State.stageTime_frames ..)); exact rfl)
      | ((with_reducible apply Frames.put); exact rfl)
      | (fail_if_no_progress ((with_reducible apply Frames.clocks_doms); exact rfl; exact rfl))
      | dsimp only
      | split
  have h7 : Frames 0xffffe00011c0 s y7 := by
    unfold y7
    repeat' first
      | with_reducible assumption
      | with_reducible exact Frames.refl _ _
      | with_reducible apply Frames.ite
      | ((with_reducible apply Frames.foldl); intro _ _)
      | ((with_reducible apply Frames.foldlSnd); intro _ _)
      | ((with_reducible apply Frames.step (State.beginStage_frames ..)); exact rfl)
      | ((with_reducible apply Frames.step (State.deviceKept_frames ..)); exact rfl)
      | ((with_reducible apply Frames.step (State.resetRegs_frames ..)); exact rfl)
      | ((with_reducible apply Frames.step (State.stageTime_frames ..)); exact rfl)
      | ((with_reducible apply Frames.put); exact rfl)
      | (fail_if_no_progress ((with_reducible apply Frames.clocks_doms); exact rfl; exact rfl))
      | dsimp only
      | split
  have h8 : Frames 0xffffe00011c0 s y8 := by
    unfold y8
    repeat' first
      | with_reducible assumption
      | with_reducible exact Frames.refl _ _
      | with_reducible apply Frames.ite
      | ((with_reducible apply Frames.foldl); intro _ _)
      | ((with_reducible apply Frames.foldlSnd); intro _ _)
      | ((with_reducible apply Frames.step (State.beginStage_frames ..)); exact rfl)
      | ((with_reducible apply Frames.step (State.deviceKept_frames ..)); exact rfl)
      | ((with_reducible apply Frames.step (State.resetRegs_frames ..)); exact rfl)
      | ((with_reducible apply Frames.step (State.stageTime_frames ..)); exact rfl)
      | ((with_reducible apply Frames.put); exact rfl)
      | (fail_if_no_progress ((with_reducible apply Frames.clocks_doms); exact rfl; exact rfl))
      | dsimp only
      | split
  repeat' first
    | with_reducible assumption
    | with_reducible exact Frames.refl _ _
    | with_reducible apply Frames.ite
    | ((with_reducible apply Frames.foldl); intro _ _)
    | ((with_reducible apply Frames.foldlSnd); intro _ _)
    | ((with_reducible apply Frames.step (State.beginStage_frames ..)); exact rfl)
    | ((with_reducible apply Frames.step (State.deviceKept_frames ..)); exact rfl)
    | ((with_reducible apply Frames.step (State.resetRegs_frames ..)); exact rfl)
    | ((with_reducible apply Frames.step (State.stageTime_frames ..)); exact rfl)
    | ((with_reducible apply Frames.put); exact rfl)
    | (fail_if_no_progress ((with_reducible apply Frames.clocks_doms); exact rfl; exact rfl))
    | dsimp only
    | split

theorem State.tryMain_frames (s : State) :
    Frames 0xffffe00011c0 s (State.tryMain s) := by
  unfold State.tryMain
  repeat' first
    | with_reducible assumption
    | with_reducible exact Frames.refl _ _
    | with_reducible apply Frames.ite
    | ((with_reducible apply Frames.step (State.beginMain_frames ..)); exact rfl)
    | split

theorem execAuxRailOn_frames (strapLow : Bool) (s : State) :
    FramesOut 0x4000200001a0 s (execAuxRailOn strapLow s) := by
  unfold execAuxRailOn
  repeat' first
    | with_reducible assumption
    | with_reducible exact Frames.refl _ _
    | with_reducible apply FramesOut.next
    | with_reducible apply Frames.ite
    | with_reducible apply FramesOut.ite
    | ((with_reducible apply Frames.step (State.beginStage_frames ..)); exact rfl)
    | (fail_if_no_progress ((with_reducible apply Frames.rails_doms); exact rfl; exact rfl))
    | dsimp only
    | split

theorem State.mainReset_frames (s : State) :
    Frames 0xfffffffbc0c0 s (State.mainReset s) := by
  unfold State.mainReset
  extract_lets y0 y1 y2
  have h0 : Frames 0xfffffffbc0c0 s y0 := by
    unfold y0
    repeat' first
      | with_reducible assumption
      | with_reducible exact Frames.refl _ _
      | with_reducible apply Frames.ite
      | ((with_reducible apply Frames.step (State.resetDies_frames ..)); exact rfl)
      | ((with_reducible apply Frames.step (State.resetRegs_frames ..)); exact rfl)
      | ((with_reducible apply Frames.set); exact rfl)
      | dsimp only
      | split
  repeat' first
    | with_reducible assumption
    | with_reducible exact Frames.refl _ _
    | with_reducible apply Frames.ite
    | (fail_if_no_progress ((with_reducible apply Frames.clocks_doms_camp_pcie_tiers_ledge_job_input_kv_det_opt); exact rfl; exact rfl; exact rfl; exact rfl; exact rfl; exact rfl; exact rfl; exact rfl; exact rfl; exact rfl; exact rfl))
    | split

theorem State.shapeToS0_frames (s : State) :
    Frames 0x4020008010 s (State.shapeToS0 s) := by
  unfold State.shapeToS0
  extract_lets y0 y1
  have h1 : Frames 0x4020008010 s y1 := by
    unfold y1
    repeat' first
      | with_reducible assumption
      | with_reducible exact Frames.refl _ _
      | with_reducible apply Frames.ite
      | ((with_reducible apply Frames.set); exact rfl)
      | dsimp only
      | split
  repeat' first
    | with_reducible assumption
    | with_reducible exact Frames.refl _ _
    | with_reducible apply Frames.ite
    | ((with_reducible apply Frames.step (State.levelEvent_frames ..)); exact rfl)
    | dsimp only
    | split

theorem State.dropBudgets_frames (s : State) :
    Frames 0x45d015a800 s (State.dropBudgets s) := by
  unfold State.dropBudgets
  extract_lets y0 y1 y2
  have h0 : Frames 0x45d015a800 s y0 := by
    unfold y0
    repeat' first
      | with_reducible assumption
      | with_reducible exact Frames.refl _ _
      | with_reducible apply Frames.ite
      | ((with_reducible apply Frames.foldl); intro _ _)
      | ((with_reducible apply Frames.foldlSnd); intro _ _)
      | ((with_reducible apply Frames.step (State.setPdom_frames ..)); exact rfl)
      | ((with_reducible apply Frames.put); exact rfl)
      | (fail_if_no_progress ((with_reducible apply Frames.power); exact rfl))
      | dsimp only
      | split
  have h2 : Frames 0x45d015a800 s y2 := by
    unfold y2
    repeat' first
      | with_reducible assumption
      | with_reducible exact Frames.refl _ _
      | with_reducible apply Frames.ite
      | (fail_if_no_progress ((with_reducible apply Frames.power); exact rfl))
      | dsimp only
      | split
  repeat' first
    | with_reducible assumption
    | with_reducible exact Frames.refl _ _
    | with_reducible apply Frames.ite
    | ((with_reducible apply Frames.foldl); intro _ _)
    | ((with_reducible apply Frames.foldlSnd); intro _ _)
    | ((with_reducible apply Frames.step (State.modeComplete_frames ..)); exact rfl)
    | ((with_reducible apply Frames.put); exact rfl)
    | (fail_if_no_progress ((with_reducible apply Frames.power); exact rfl))
    | dsimp only
    | split

theorem execAuxRailLoss_frames (s : State) : FramesOut 0xffffffffffe5 s (execAuxRailLoss s) := by
  unfold execAuxRailLoss
  refine FramesOut.next (Frames.ite ⟨rfl, fun h => Mem.loseAll_wf h _, fun p hp => ?_⟩ (Frames.refl _ _))
  cases p with
  | regs b => cases b <;> cases hp
  | a0 => rfl
  | freeCtr => rfl
  | out => rfl
  | _ => cases hp

theorem execMainRailOn_frames (s : State) :
    FramesOut 0xffffe00011e0 s (execMainRailOn s) := by
  unfold execMainRailOn
  repeat' first
    | with_reducible assumption
    | with_reducible exact Frames.refl _ _
    | with_reducible apply FramesOut.next
    | with_reducible apply Frames.ite
    | with_reducible apply FramesOut.ite
    | ((with_reducible apply Frames.step (State.tryMain_frames ..)); exact rfl)
    | (fail_if_no_progress ((with_reducible apply Frames.rails_clocks); exact rfl; exact rfl))
    | split

theorem execMainRailLoss_frames (s : State) :
    FramesOut 0xffffffffe9f1 s (execMainRailLoss s) := by
  unfold execMainRailLoss
  repeat' first
    | with_reducible assumption
    | with_reducible exact Frames.refl _ _
    | with_reducible apply FramesOut.next
    | with_reducible apply Frames.ite
    | with_reducible apply FramesOut.ite
    | ((with_reducible apply Frames.step (State.dropBudgets_frames ..)); exact rfl)
    | ((with_reducible apply Frames.step (State.mainReset_frames ..)); exact rfl)
    | ((with_reducible apply Frames.step (State.shapeToS0_frames ..)); exact rfl)
    | ((with_reducible apply Frames.put); exact rfl)
    | (fail_if_no_progress ((with_reducible apply Frames.mem); exact rfl))
    | (fail_if_no_progress ((with_reducible apply Frames.rails); exact rfl))
    | (fail_if_no_progress ((with_reducible apply Frames.clocks_boot); exact rfl; exact rfl))
    | exact fun h => Mem.loseAll_wf h _
    | exact fun h => Mem.setN_wf h _ _
    | exact fun h => Mem.zero_wf h _
    | exact fun h => Mem.filter_wf h _
    | dsimp only
    | split

theorem execRootPllLock_frames (s : State) :
    FramesOut 0x44 s (execRootPllLock s) := by
  unfold execRootPllLock
  repeat' first
    | with_reducible assumption
    | with_reducible exact Frames.refl _ _
    | with_reducible apply FramesOut.next
    | with_reducible apply Frames.ite
    | with_reducible apply FramesOut.ite
    | (fail_if_no_progress ((with_reducible apply Frames.time_clocks); exact rfl; exact rfl))
    | split

theorem execReferenceLost_frames (s : State) :
    FramesOut 0x4040a80189d1 s (execReferenceLost s) := by
  unfold execReferenceLost
  repeat' first
    | with_reducible assumption
    | with_reducible exact Frames.refl _ _
    | with_reducible apply FramesOut.next
    | with_reducible apply Frames.ite
    | with_reducible apply FramesOut.ite
    | ((with_reducible apply Frames.step (State.failHeartbeat_frames ..)); exact rfl)
    | ((with_reducible apply Frames.step (State.raise_frames ..)); exact rfl)
    | ((with_reducible apply Frames.step (State.stopClocks_frames ..)); exact rfl)
    | (fail_if_no_progress ((with_reducible apply Frames.clocks); exact rfl))
    | dsimp only
    | split

theorem execClockRestart_frames (s : State) :
    FramesOut 0xfffffffff9d0 s (execClockRestart s) := by
  unfold execClockRestart
  repeat' first
    | with_reducible assumption
    | with_reducible exact Frames.refl _ _
    | with_reducible apply FramesOut.next
    | with_reducible apply Frames.ite
    | with_reducible apply FramesOut.ite
    | ((with_reducible apply Frames.step (State.dropBudgets_frames ..)); exact rfl)
    | ((with_reducible apply Frames.step (State.mainReset_frames ..)); exact rfl)
    | ((with_reducible apply Frames.step (State.shapeToS0_frames ..)); exact rfl)
    | ((with_reducible apply Frames.step (State.tryMain_frames ..)); exact rfl)
    | ((with_reducible apply Frames.put); exact rfl)
    | (fail_if_no_progress ((with_reducible apply Frames.clocks_boot); exact rfl; exact rfl))
    | dsimp only
    | split

theorem State.pcieReset_frames (s : State) :
    Frames 0xffffe0008800 s (State.pcieReset s) := by
  unfold State.pcieReset
  extract_lets y0 y1 y2 y3 y4
  have h0 : Frames 0xffffe0008800 s y0 := by
    unfold y0
    repeat' first
      | with_reducible assumption
      | with_reducible exact Frames.refl _ _
      | with_reducible apply Frames.ite
      | ((with_reducible apply Frames.foldl); intro _ _)
      | ((with_reducible apply Frames.foldlSnd); intro _ _)
      | ((with_reducible apply Frames.step (State.failRequest_frames ..)); exact rfl)
      | dsimp only
      | split
  have h3 : Frames 0xffffe0008800 s y3 := by
    unfold y3
    repeat' first
      | with_reducible assumption
      | with_reducible exact Frames.refl _ _
      | with_reducible apply Frames.ite
      | ((with_reducible apply Frames.step (State.resetRegs_frames ..)); exact rfl)
      | dsimp only
      | split
  repeat' first
    | with_reducible assumption
    | with_reducible exact Frames.refl _ _
    | with_reducible apply Frames.ite
    | (fail_if_no_progress ((with_reducible apply Frames.pcie); exact rfl))
    | dsimp only
    | split

theorem execPerstAssert_frames (s : State) :
    FramesOut 0xffffe00088a0 s (execPerstAssert s) := by
  unfold execPerstAssert
  repeat' first
    | with_reducible assumption
    | with_reducible exact Frames.refl _ _
    | with_reducible apply FramesOut.next
    | with_reducible apply Frames.ite
    | with_reducible apply FramesOut.ite
    | ((with_reducible apply Frames.step (State.pcieReset_frames ..)); exact rfl)
    | (fail_if_no_progress ((with_reducible apply Frames.rails_doms); exact rfl; exact rfl))
    | dsimp only
    | split

theorem execPerstRelease_frames (s : State) :
    FramesOut 0x80a0 s (execPerstRelease s) := by
  unfold execPerstRelease
  repeat' first
    | with_reducible assumption
    | with_reducible exact Frames.refl _ _
    | with_reducible apply FramesOut.next
    | with_reducible apply Frames.ite
    | with_reducible apply FramesOut.ite
    | (fail_if_no_progress ((with_reducible apply Frames.rails_doms); exact rfl; exact rfl))
    | split

theorem State.announce_frames (s : State) :
    Frames 0x10 s (State.announce s) := by
  unfold State.announce
  repeat' first
    | with_reducible assumption
    | with_reducible exact Frames.refl _ _
    | with_reducible apply Frames.ite
    | ((with_reducible apply Frames.step (State.announce_frames ..)); exact rfl)
    | ((with_reducible apply Frames.step (State.emit_frames ..)); exact rfl)
    | split

theorem State.syncT1s_frames (s : State) :
    Frames 0x20000000 s (State.syncT1s s) := by
  unfold State.syncT1s
  repeat' first
    | with_reducible assumption
    | with_reducible exact Frames.refl _ _
    | with_reducible apply Frames.ite
    | ((with_reducible apply Frames.put); exact rfl)
    | split

theorem execHousekeepingStageEnd_frames (s : State) :
    FramesOut 0xfffffec2bdd0 s (execHousekeepingStageEnd s) := by
  unfold execHousekeepingStageEnd
  repeat' first
    | with_reducible assumption
    | with_reducible exact Frames.refl _ _
    | with_reducible apply FramesOut.next
    | with_reducible apply Frames.ite
    | with_reducible apply FramesOut.ite
    | ((with_reducible apply Frames.foldl); intro _ _)
    | ((with_reducible apply Frames.foldlSnd); intro _ _)
    | ((with_reducible apply Frames.step (State.announce_frames ..)); exact rfl)
    | ((with_reducible apply Frames.step (State.correctedEvent_frames ..)); exact rfl)
    | ((with_reducible apply Frames.step (State.fence_frames ..)); exact rfl)
    | ((with_reducible apply Frames.step (State.journalAdd_frames ..)); exact rfl)
    | ((with_reducible apply Frames.step (State.loadMode_frames ..)); exact rfl)
    | ((with_reducible apply Frames.step (State.reloadPinned_frames ..)); exact rfl)
    | ((with_reducible apply Frames.step (State.stageTime_frames ..)); exact rfl)
    | ((with_reducible apply Frames.step (State.syncT1s_frames ..)); exact rfl)
    | ((with_reducible apply Frames.step (State.tryMain_frames ..)); exact rfl)
    | ((with_reducible apply Frames.step (State.ucc_frames ..)); exact rfl)
    | ((with_reducible apply Frames.put); exact rfl)
    | (fail_if_no_progress ((with_reducible apply Frames.boot); exact rfl))
    | (fail_if_no_progress ((with_reducible apply Frames.repair_dict); exact rfl; exact rfl))
    | dsimp only
    | split

theorem execBasecampStageEnd_frames (s : State) :
    FramesOut 0x400020008381 s (execBasecampStageEnd s) := by
  unfold execBasecampStageEnd
  repeat' first
    | with_reducible assumption
    | with_reducible exact Frames.refl _ _
    | with_reducible apply FramesOut.next
    | with_reducible apply Frames.ite
    | with_reducible apply FramesOut.ite
    | ((with_reducible apply Frames.step (State.beginStage_frames ..)); exact rfl)
    | ((with_reducible apply Frames.step (State.failedAt_frames ..)); exact rfl)
    | ((with_reducible apply Frames.step (State.loadImage_frames ..)); exact rfl)
    | ((with_reducible apply Frames.step (State.stageTime_frames ..)); exact rfl)
    | ((with_reducible apply Frames.step (State.store_frames ..)); exact rfl)
    | ((with_reducible apply Frames.put); exact rfl)
    | (fail_if_no_progress ((with_reducible apply Frames.boot); exact rfl))
    | (fail_if_no_progress ((with_reducible apply Frames.doms); exact rfl))
    | dsimp only
    | split

theorem State.enterBootHold_frames (s : State) (cause : Nat) :
    Frames 0x20000100 s (State.enterBootHold s cause) := by
  unfold State.enterBootHold
  extract_lets y0 y1
  have h0 : Frames 0x20000100 s y0 := by
    unfold y0
    repeat' first
      | with_reducible assumption
      | with_reducible exact Frames.refl _ _
      | with_reducible apply Frames.ite
      | ((with_reducible apply Frames.put); exact rfl)
      | dsimp only
      | split
  repeat' first
    | with_reducible assumption
    | with_reducible exact Frames.refl _ _
    | with_reducible apply Frames.ite
    | (fail_if_no_progress ((with_reducible apply Frames.boot); exact rfl))
    | split

theorem State.afterStage3_frames (s : State) :
    Frames 0x400020000100 s (State.afterStage3 s) := by
  unfold State.afterStage3
  repeat' first
    | with_reducible assumption
    | with_reducible exact Frames.refl _ _
    | with_reducible apply Frames.ite
    | ((with_reducible apply Frames.step (State.beginStage_frames ..)); exact rfl)
    | ((with_reducible apply Frames.step (State.enterBootHold_frames ..)); exact rfl)
    | split

theorem State.enterS1_frames (s : State) :
    Frames 0x40a000c910 s (State.enterS1 s) := by
  unfold State.enterS1
  extract_lets y0 y1
  have h0 : Frames 0x40a000c910 s y0 := by
    unfold y0
    repeat' first
      | with_reducible assumption
      | with_reducible exact Frames.refl _ _
      | with_reducible apply Frames.ite
      | ((with_reducible apply Frames.step (State.setLevel_frames ..)); exact rfl)
      | ((with_reducible apply Frames.step (State.startGrace_frames ..)); exact rfl)
      | dsimp only
      | split
  repeat' first
    | with_reducible assumption
    | with_reducible exact Frames.refl _ _
    | with_reducible apply Frames.ite
    | (fail_if_no_progress ((with_reducible apply Frames.camp); exact rfl))
    | split

theorem State.endStage3_frames (s : State) :
    Frames 0x4040a000c910 s (State.endStage3 s) := by
  unfold State.endStage3
  extract_lets y0 y1 y2
  have h0 : Frames 0x4040a000c910 s y0 := by
    unfold y0
    repeat' first
      | with_reducible assumption
      | with_reducible exact Frames.refl _ _
      | with_reducible apply Frames.ite
      | ((with_reducible apply Frames.put); exact rfl)
      | dsimp only
      | split
  have h1 : Frames 0x4040a000c910 s y1 := by
    unfold y1
    repeat' first
      | with_reducible assumption
      | with_reducible exact Frames.refl _ _
      | with_reducible apply Frames.ite
      | ((with_reducible apply Frames.step (State.enterS1_frames ..)); exact rfl)
      | ((with_reducible apply Frames.step (State.failedIf_frames ..)); exact rfl)
      | ((with_reducible apply Frames.step (State.stageTime_frames ..)); exact rfl)
      | dsimp only
      | split
  repeat' first
    | with_reducible assumption
    | with_reducible exact Frames.refl _ _
    | with_reducible apply Frames.ite
    | ((with_reducible apply Frames.step (State.afterStage3_frames ..)); exact rfl)
    | (fail_if_no_progress ((with_reducible apply Frames.boot); exact rfl))
    | split

theorem execManifestCheck_frames (s : State) :
    FramesOut 0x4040a000cb10 s (execManifestCheck s) := by
  unfold execManifestCheck
  repeat' first
    | with_reducible assumption
    | with_reducible exact Frames.refl _ _
    | with_reducible apply FramesOut.next
    | with_reducible apply Frames.ite
    | with_reducible apply FramesOut.ite
    | ((with_reducible apply Frames.foldl); intro _ _)
    | ((with_reducible apply Frames.foldlSnd); intro _ _)
    | ((with_reducible apply Frames.step (State.endStage3_frames ..)); exact rfl)
    | ((with_reducible apply Frames.step (State.loadImage_frames ..)); exact rfl)
    | split

theorem execTokenWindowClose_frames (s : State) :
    FramesOut 0x400020000100 s (execTokenWindowClose s) := by
  unfold execTokenWindowClose
  repeat' first
    | with_reducible assumption
    | with_reducible exact Frames.refl _ _
    | with_reducible apply FramesOut.next
    | with_reducible apply Frames.ite
    | with_reducible apply FramesOut.ite
    | ((with_reducible apply Frames.step (State.afterStage3_frames ..)); exact rfl)
    | (fail_if_no_progress ((with_reducible apply Frames.boot); exact rfl))
    | split

theorem State.acceptToken_frames (s : State) :
    Frames 0x4000a0000100 s (State.acceptToken s) := by
  unfold State.acceptToken
  extract_lets y0 y1 y2
  have h0 : Frames 0x4000a0000100 s y0 := by
    unfold y0
    repeat' first
      | with_reducible assumption
      | with_reducible exact Frames.refl _ _
      | with_reducible apply Frames.ite
      | ((with_reducible apply Frames.put); exact rfl)
      | (fail_if_no_progress ((with_reducible apply Frames.boot); exact rfl))
      | dsimp only
      | split
  have h2 : Frames 0x4000a0000100 s y2 := by
    unfold y2
    repeat' first
      | with_reducible assumption
      | with_reducible exact Frames.refl _ _
      | with_reducible apply Frames.ite
      | (fail_if_no_progress ((with_reducible apply Frames.boot); exact rfl))
      | dsimp only
      | split
  repeat' first
    | with_reducible assumption
    | with_reducible exact Frames.refl _ _
    | with_reducible apply Frames.ite
    | ((with_reducible apply Frames.step (State.afterStage3_frames ..)); exact rfl)
    | (fail_if_no_progress ((with_reducible apply Frames.boot); exact rfl))
    | dsimp only
    | split

theorem State.setRole_frames (s : State) (e : Fin 8) (g : Nat) (role : Nat) :
    Frames 0x20000000 s (State.setRole s e g role) := by
  unfold State.setRole
  repeat' first
    | with_reducible assumption
    | with_reducible exact Frames.refl _ _
    | with_reducible apply Frames.ite
    | ((with_reducible apply Frames.put); exact rfl)
    | split

theorem State.trainEdge_frames (s : State) (failed : List (Fin 8 × Fin 128)) (e : Fin 8) :
    Frames 0x20000800 s (State.trainEdge s failed e) := by
  unfold State.trainEdge
  extract_lets y0 y1 y2 y3 y4
  have h1 : Frames 0x20000800 s y1 := by
    unfold y1
    repeat' first
      | with_reducible assumption
      | with_reducible exact Frames.refl _ _
      | with_reducible apply Frames.ite
      | ((with_reducible apply Frames.foldl); intro _ _)
      | ((with_reducible apply Frames.foldlSnd); intro _ _)
      | ((with_reducible apply Frames.set); exact rfl)
      | dsimp only
      | split
  have h2 : Frames 0x20000800 s y2 := by
    unfold y2
    repeat' first
      | with_reducible assumption
      | with_reducible exact Frames.refl _ _
      | with_reducible apply Frames.ite
      | ((with_reducible apply Frames.foldl); intro _ _)
      | ((with_reducible apply Frames.foldlSnd); intro _ _)
      | ((with_reducible apply Frames.step (State.correctedEvent_frames ..)); exact rfl)
      | ((with_reducible apply Frames.step (State.setRole_frames ..)); exact rfl)
      | dsimp only
      | split
  repeat' first
    | with_reducible assumption
    | with_reducible exact Frames.refl _ _
    | with_reducible apply Frames.ite
    | ((with_reducible apply Frames.set); exact rfl)
    | dsimp only
    | split

theorem State.releaseFabric_frames (s : State) (dies : Nat) :
    Frames 0xffffe0000080 s (State.releaseFabric s dies) := by
  unfold State.releaseFabric
  repeat' first
    | with_reducible assumption
    | with_reducible exact Frames.refl _ _
    | with_reducible apply Frames.ite
    | ((with_reducible apply Frames.foldl); intro _ _)
    | ((with_reducible apply Frames.foldlSnd); intro _ _)
    | ((with_reducible apply Frames.step (State.fuseSpares_frames ..)); exact rfl)
    | ((with_reducible apply Frames.step (State.resetRegs_frames ..)); exact rfl)
    | (fail_if_no_progress ((with_reducible apply Frames.doms); exact rfl))
    | split

theorem State.endStage4_frames (s : State) (failed : List (Fin 8 × Fin 128)) :
    Frames 0xfffffec28d90 s (State.endStage4 s failed) := by
  unfold State.endStage4
  extract_lets y0 y1 y2 y3
  have h0 : Frames 0xfffffec28d90 s y0 := by
    unfold y0
    repeat' first
      | with_reducible assumption
      | with_reducible exact Frames.refl _ _
      | with_reducible apply Frames.ite
      | ((with_reducible apply Frames.foldl); intro _ _)
      | ((with_reducible apply Frames.foldlSnd); intro _ _)
      | ((with_reducible apply Frames.step (State.releaseFabric_frames ..)); exact rfl)
      | dsimp only
      | split
  have h2 : Frames 0xfffffec28d90 s y2 := by
    unfold y2
    repeat' first
      | with_reducible assumption
      | with_reducible exact Frames.refl _ _
      | with_reducible apply Frames.ite
      | ((with_reducible apply Frames.foldl); intro _ _)
      | ((with_reducible apply Frames.foldlSnd); intro _ _)
      | ((with_reducible apply Frames.step (State.trainEdge_frames ..)); exact rfl)
      | dsimp only
      | split
  repeat' first
    | with_reducible assumption
    | with_reducible exact Frames.refl _ _
    | with_reducible apply Frames.ite
    | ((with_reducible apply Frames.foldl); intro _ _)
    | ((with_reducible apply Frames.foldlSnd); intro _ _)
    | ((with_reducible apply Frames.step (State.failedIf_frames ..)); exact rfl)
    | ((with_reducible apply Frames.step (State.fence_frames ..)); exact rfl)
    | ((with_reducible apply Frames.step (State.nextStage_frames ..)); exact rfl)
    | dsimp only
    | split

theorem execBelayTraining_frames (failed : List (Fin 8 × Fin 128)) (s : State) :
    FramesOut 0xfffffec28d90 s (execBelayTraining failed s) := by
  unfold execBelayTraining
  repeat' first
    | with_reducible assumption
    | with_reducible exact Frames.refl _ _
    | with_reducible apply FramesOut.next
    | with_reducible apply Frames.ite
    | with_reducible apply FramesOut.ite
    | ((with_reducible apply Frames.step (State.endStage4_frames ..)); exact rfl)
    | split

theorem State.shapeMask_frames (s : State) (f : Fld) (v : Nat) :
    Frames 0x20000000 s (State.shapeMask s f v) := by
  unfold State.shapeMask
  repeat' first
    | with_reducible assumption
    | with_reducible exact Frames.refl _ _
    | with_reducible apply Frames.ite
    | ((with_reducible apply Frames.step (State.setShape_frames ..)); exact rfl)
    | split

theorem State.marchDie_frames (s : State) (d : Fin 4) (fails : List (Fin 192 × Fin 1032)) :
    Frames 0x100000030401 s (State.marchDie s d fails).2 := by
  unfold State.marchDie
  repeat' first
    | with_reducible assumption
    | with_reducible exact Frames.refl _ _
    | with_reducible apply Frames.ite
    | ((with_reducible apply Frames.step (State.destructiveEnd_frames ..)); exact rfl)
    | ((with_reducible apply Frames.step (State.loadRepairs_frames ..)); exact rfl)
    | ((with_reducible apply Frames.step (State.setLedge_frames ..)); exact rfl)
    | split

theorem State.marchDies_frames (fails : List (Fin 4 × Fin 192 × Fin 1032)) (finished : Nat) (s : State) (a1 : List (Fin 4)) :
    Frames 0x100000030401 s (State.marchDies fails finished s a1).2 := by
  fun_induction State.marchDies fails finished s a1
  all_goals
    repeat' first
      | with_reducible assumption
      | with_reducible exact Frames.refl _ _
      | with_reducible apply Frames.ite
      | with_reducible apply Frames.iteSnd
      | with_reducible apply Frames.iteSnd2
      | with_reducible apply Frames.iteFst
      | ((with_reducible apply Frames.step (State.marchDie_frames ..)); exact rfl)
      | with_reducible refine Frames.trans ?_ (by assumption)
      | dsimp only
      | split

theorem State.endStage5_frames (s : State) (fails : List (Fin 4 × Fin 192 × Fin 1032)) (finished : Nat) :
    Frames 0x500020030501 s (State.endStage5 s fails finished) := by
  unfold State.endStage5
  extract_lets y0 y1 y2
  have h1 : Frames 0x500020030501 s y1.2 := by
    unfold y1
    repeat' first
      | with_reducible assumption
      | with_reducible exact Frames.refl _ _
      | with_reducible apply Frames.ite
      | ((with_reducible apply Frames.step (State.marchDies_frames ..)); exact rfl)
      | dsimp only
      | split
  have h2 : Frames 0x500020030501 s y2 := by
    unfold y2
    repeat' first
      | with_reducible assumption
      | with_reducible exact Frames.refl _ _
      | with_reducible apply Frames.ite
      | ((with_reducible apply Frames.step (State.shapeMask_frames ..)); exact rfl)
      | dsimp only
      | split
  repeat' first
    | with_reducible assumption
    | with_reducible exact Frames.refl _ _
    | with_reducible apply Frames.ite
    | ((with_reducible apply Frames.step (State.failedIf_frames ..)); exact rfl)
    | ((with_reducible apply Frames.step (State.nextStage_frames ..)); exact rfl)
    | dsimp only
    | split

theorem execLedgeMarchStage_frames (fails : List (Fin 4 × Fin 192 × Fin 1032)) (s : State) :
    FramesOut 0x500020030501 s (execLedgeMarchStage fails s) := by
  unfold execLedgeMarchStage
  repeat' first
    | with_reducible assumption
    | with_reducible exact Frames.refl _ _
    | with_reducible apply FramesOut.next
    | with_reducible apply Frames.ite
    | with_reducible apply FramesOut.ite
    | ((with_reducible apply Frames.step (State.endStage5_frames ..)); exact rfl)
    | split

theorem State.releaseCompute_frames (s : State) (d : Fin 4) :
    Frames 0xffffe0000080 s (State.releaseCompute s d) := by
  unfold State.releaseCompute
  extract_lets y0 y1
  have h0 : Frames 0xffffe0000080 s y0 := by
    unfold y0
    repeat' first
      | with_reducible assumption
      | with_reducible exact Frames.refl _ _
      | with_reducible apply Frames.ite
      | ((with_reducible apply Frames.step (State.resetRegs_frames ..)); exact rfl)
      | dsimp only
      | split
  repeat' first
    | with_reducible assumption
    | with_reducible exact Frames.refl _ _
    | with_reducible apply Frames.ite
    | ((with_reducible apply Frames.step (State.remapIds_frames ..)); exact rfl)
    | ((with_reducible apply Frames.put); exact rfl)
    | (fail_if_no_progress ((with_reducible apply Frames.doms); exact rfl))
    | split

theorem State.endStage6_frames (s : State) (ok : Nat) :
    Frames 0xffffe00001c0 s (State.endStage6 s ok) := by
  unfold State.endStage6
  extract_lets y0 y1 y2 y3 y4 y5 y6 y7 y8
  have h2 : Frames 0xffffe00001c0 s y2 := by
    unfold y2
    repeat' first
      | with_reducible assumption
      | with_reducible exact Frames.refl _ _
      | with_reducible apply Frames.ite
      | ((with_reducible apply Frames.foldl); intro _ _)
      | ((with_reducible apply Frames.foldlSnd); intro _ _)
      | ((with_reducible apply Frames.step (State.releaseCompute_frames ..)); exact rfl)
      | ((with_reducible apply Frames.step (State.setShape_frames ..)); exact rfl)
      | (fail_if_no_progress ((with_reducible apply Frames.clocks); exact rfl))
      | dsimp only
      | split
  have h4 : Frames 0xffffe00001c0 s y4 := by
    unfold y4
    repeat' first
      | with_reducible assumption
      | with_reducible exact Frames.refl _ _
      | with_reducible apply Frames.ite
      | ((with_reducible apply Frames.step (State.setShape_frames ..)); exact rfl)
      | (fail_if_no_progress ((with_reducible apply Frames.clocks); exact rfl))
      | dsimp only
      | split
  have h8 : Frames 0xffffe00001c0 s y8 := by
    unfold y8
    repeat' first
      | with_reducible assumption
      | with_reducible exact Frames.refl _ _
      | with_reducible apply Frames.ite
      | ((with_reducible apply Frames.step (State.setShape_frames ..)); exact rfl)
      | (fail_if_no_progress ((with_reducible apply Frames.clocks); exact rfl))
      | dsimp only
      | split
  repeat' first
    | with_reducible assumption
    | with_reducible exact Frames.refl _ _
    | with_reducible apply Frames.ite
    | ((with_reducible apply Frames.step (State.failedIf_frames ..)); exact rfl)
    | ((with_reducible apply Frames.step (State.nextStage_frames ..)); exact rfl)
    | ((with_reducible apply Frames.step (State.setShape_frames ..)); exact rfl)
    | (fail_if_no_progress ((with_reducible apply Frames.clocks); exact rfl))
    | dsimp only
    | split

theorem execRidgeStage_frames (ok : BitVec 4) (s : State) :
    FramesOut 0xffffe00001c0 s (execRidgeStage ok s) := by
  unfold execRidgeStage
  repeat' first
    | with_reducible assumption
    | with_reducible exact Frames.refl _ _
    | with_reducible apply FramesOut.next
    | with_reducible apply Frames.ite
    | with_reducible apply FramesOut.ite
    | ((with_reducible apply Frames.step (State.endStage6_frames ..)); exact rfl)
    | split

theorem State.endStage7_frames (s : State) (ok : Nat) :
    Frames 0x400020000100 s (State.endStage7 s ok) := by
  unfold State.endStage7
  extract_lets y0 y1 y2
  have h2 : Frames 0x400020000100 s y2 := by
    unfold y2
    repeat' first
      | with_reducible assumption
      | with_reducible exact Frames.refl _ _
      | with_reducible apply Frames.ite
      | ((with_reducible apply Frames.step (State.shapeMask_frames ..)); exact rfl)
      | dsimp only
      | split
  repeat' first
    | with_reducible assumption
    | with_reducible exact Frames.refl _ _
    | with_reducible apply Frames.ite
    | ((with_reducible apply Frames.step (State.failedIf_frames ..)); exact rfl)
    | ((with_reducible apply Frames.step (State.nextStage_frames ..)); exact rfl)
    | dsimp only
    | split

theorem execNearTraining_frames (ok : BitVec 8) (s : State) :
    FramesOut 0x400020000100 s (execNearTraining ok s) := by
  unfold execNearTraining
  repeat' first
    | with_reducible assumption
    | with_reducible exact Frames.refl _ _
    | with_reducible apply FramesOut.next
    | with_reducible apply Frames.ite
    | with_reducible apply FramesOut.ite
    | ((with_reducible apply Frames.step (State.endStage7_frames ..)); exact rfl)
    | split

theorem State.endStage8_frames (s : State) (ok : Nat) :
    Frames 0x400020000100 s (State.endStage8 s ok) := by
  unfold State.endStage8
  repeat' first
    | with_reducible assumption
    | with_reducible exact Frames.refl _ _
    | with_reducible apply Frames.ite
    | ((with_reducible apply Frames.step (State.failedIf_frames ..)); exact rfl)
    | ((with_reducible apply Frames.step (State.nextStage_frames ..)); exact rfl)
    | ((with_reducible apply Frames.step (State.shapeMask_frames ..)); exact rfl)
    | split

theorem execMoraineTraining_frames (ok : BitVec 24) (s : State) :
    FramesOut 0x400020000100 s (execMoraineTraining ok s) := by
  unfold execMoraineTraining
  repeat' first
    | with_reducible assumption
    | with_reducible exact Frames.refl _ _
    | with_reducible apply FramesOut.next
    | with_reducible apply Frames.ite
    | with_reducible apply FramesOut.ite
    | ((with_reducible apply Frames.step (State.endStage8_frames ..)); exact rfl)
    | split

theorem State.endStage9_frames (s : State) :
    Frames 0x400020000100 s (State.endStage9 s) := by
  unfold State.endStage9
  extract_lets y0 y1
  have h1 : Frames 0x400020000100 s y1 := by
    unfold y1
    repeat' first
      | with_reducible assumption
      | with_reducible exact Frames.refl _ _
      | with_reducible apply Frames.ite
      | ((with_reducible apply Frames.step (State.shapeMask_frames ..)); exact rfl)
      | dsimp only
      | split
  repeat' first
    | with_reducible assumption
    | with_reducible exact Frames.refl _ _
    | with_reducible apply Frames.ite
    | ((with_reducible apply Frames.step (State.failedIf_frames ..)); exact rfl)
    | ((with_reducible apply Frames.step (State.nextStage_frames ..)); exact rfl)
    | dsimp only
    | split

theorem execRopeBringup_frames (s : State) :
    FramesOut 0x400020000100 s (execRopeBringup s) := by
  unfold execRopeBringup
  repeat' first
    | with_reducible assumption
    | with_reducible exact Frames.refl _ _
    | with_reducible apply FramesOut.next
    | with_reducible apply Frames.ite
    | with_reducible apply FramesOut.ite
    | ((with_reducible apply Frames.step (State.endStage9_frames ..)); exact rfl)
    | split

theorem State.beginRerun_frames (s : State) (dies : Nat) :
    Frames 0xfffffec28d90 s (State.beginRerun s dies) := by
  unfold State.beginRerun
  extract_lets y0 y1 y2 y3 y4 y5 y6 y7
  have h2 : Frames 0xfffffec28d90 s y2 := by
    unfold y2
    repeat' first
      | with_reducible assumption
      | with_reducible exact Frames.refl _ _
      | with_reducible apply Frames.ite
      | ((with_reducible apply Frames.step (State.fence_frames ..)); exact rfl)
      | ((with_reducible apply Frames.step (State.releaseFences_frames ..)); exact rfl)
      | ((with_reducible apply Frames.step (State.resetDies_frames ..)); exact rfl)
      | ((with_reducible apply Frames.step (State.setLevel_frames ..)); exact rfl)
      | ((with_reducible apply Frames.step (State.setRecord_frames ..)); exact rfl)
      | ((with_reducible apply Frames.step (State.setShape_frames ..)); exact rfl)
      | ((with_reducible apply Frames.put); exact rfl)
      | (fail_if_no_progress ((with_reducible apply Frames.boot); exact rfl))
      | dsimp only
      | split
  have h4 : Frames 0xfffffec28d90 s y4 := by
    unfold y4
    repeat' first
      | with_reducible assumption
      | with_reducible exact Frames.refl _ _
      | with_reducible apply Frames.ite
      | ((with_reducible apply Frames.step (State.fence_frames ..)); exact rfl)
      | ((with_reducible apply Frames.step (State.releaseFences_frames ..)); exact rfl)
      | ((with_reducible apply Frames.step (State.resetDies_frames ..)); exact rfl)
      | ((with_reducible apply Frames.step (State.setLevel_frames ..)); exact rfl)
      | ((with_reducible apply Frames.step (State.setRecord_frames ..)); exact rfl)
      | ((with_reducible apply Frames.step (State.setShape_frames ..)); exact rfl)
      | ((with_reducible apply Frames.put); exact rfl)
      | (fail_if_no_progress ((with_reducible apply Frames.boot); exact rfl))
      | dsimp only
      | split
  have h5 : Frames 0xfffffec28d90 s y5 := by
    unfold y5
    repeat' first
      | with_reducible assumption
      | with_reducible exact Frames.refl _ _
      | with_reducible apply Frames.ite
      | ((with_reducible apply Frames.step (State.fence_frames ..)); exact rfl)
      | ((with_reducible apply Frames.step (State.releaseFences_frames ..)); exact rfl)
      | ((with_reducible apply Frames.step (State.resetDies_frames ..)); exact rfl)
      | ((with_reducible apply Frames.step (State.setLevel_frames ..)); exact rfl)
      | ((with_reducible apply Frames.step (State.setRecord_frames ..)); exact rfl)
      | ((with_reducible apply Frames.step (State.setShape_frames ..)); exact rfl)
      | ((with_reducible apply Frames.put); exact rfl)
      | (fail_if_no_progress ((with_reducible apply Frames.boot); exact rfl))
      | dsimp only
      | split
  have h6 : Frames 0xfffffec28d90 s y6 := by
    unfold y6
    repeat' first
      | with_reducible assumption
      | with_reducible exact Frames.refl _ _
      | with_reducible apply Frames.ite
      | ((with_reducible apply Frames.step (State.fence_frames ..)); exact rfl)
      | ((with_reducible apply Frames.step (State.releaseFences_frames ..)); exact rfl)
      | ((with_reducible apply Frames.step (State.resetDies_frames ..)); exact rfl)
      | ((with_reducible apply Frames.step (State.setLevel_frames ..)); exact rfl)
      | ((with_reducible apply Frames.step (State.setRecord_frames ..)); exact rfl)
      | ((with_reducible apply Frames.step (State.setShape_frames ..)); exact rfl)
      | ((with_reducible apply Frames.put); exact rfl)
      | (fail_if_no_progress ((with_reducible apply Frames.boot); exact rfl))
      | dsimp only
      | split
  repeat' first
    | with_reducible assumption
    | with_reducible exact Frames.refl _ _
    | with_reducible apply Frames.ite
    | ((with_reducible apply Frames.step (State.fence_frames ..)); exact rfl)
    | ((with_reducible apply Frames.step (State.releaseFences_frames ..)); exact rfl)
    | ((with_reducible apply Frames.step (State.resetDies_frames ..)); exact rfl)
    | ((with_reducible apply Frames.step (State.setLevel_frames ..)); exact rfl)
    | ((with_reducible apply Frames.step (State.setRecord_frames ..)); exact rfl)
    | ((with_reducible apply Frames.step (State.setShape_frames ..)); exact rfl)
    | ((with_reducible apply Frames.put); exact rfl)
    | (fail_if_no_progress ((with_reducible apply Frames.boot); exact rfl))
    | dsimp only
    | split

theorem State.announceLevel_frames (s : State) :
    Frames 0xfffffec28d90 s (State.announceLevel s) := by
  unfold State.announceLevel
  extract_lets y0 y1 y2 y3
  have h1 : Frames 0xfffffec28d90 s y1 := by
    unfold y1
    repeat' first
      | with_reducible assumption
      | with_reducible exact Frames.refl _ _
      | with_reducible apply Frames.ite
      | ((with_reducible apply Frames.step (State.levelEvent_frames ..)); exact rfl)
      | ((with_reducible apply Frames.step (State.setShape_frames ..)); exact rfl)
      | ((with_reducible apply Frames.put); exact rfl)
      | (fail_if_no_progress ((with_reducible apply Frames.boot); exact rfl))
      | dsimp only
      | split
  have h3 : Frames 0xfffffec28d90 s y3 := by
    unfold y3
    repeat' first
      | with_reducible assumption
      | with_reducible exact Frames.refl _ _
      | with_reducible apply Frames.ite
      | ((with_reducible apply Frames.step (State.levelEvent_frames ..)); exact rfl)
      | (fail_if_no_progress ((with_reducible apply Frames.boot); exact rfl))
      | dsimp only
      | split
  repeat' first
    | with_reducible assumption
    | with_reducible exact Frames.refl _ _
    | with_reducible apply Frames.ite
    | ((with_reducible apply Frames.step (State.beginRerun_frames ..)); exact rfl)
    | ((with_reducible apply Frames.step (State.levelEvent_frames ..)); exact rfl)
    | (fail_if_no_progress ((with_reducible apply Frames.boot); exact rfl))
    | dsimp only
    | split

theorem execServiceAnnounce_frames (s : State) :
    FramesOut 0xfffffec28d90 s (execServiceAnnounce s) := by
  unfold execServiceAnnounce
  repeat' first
    | with_reducible assumption
    | with_reducible exact Frames.refl _ _
    | with_reducible apply FramesOut.next
    | with_reducible apply Frames.ite
    | with_reducible apply FramesOut.ite
    | ((with_reducible apply Frames.step (State.announceLevel_frames ..)); exact rfl)
    | ((with_reducible apply Frames.step (State.bootRanAgain_frames ..)); exact rfl)
    | ((with_reducible apply Frames.step (State.stageTime_frames ..)); exact rfl)
    | split

theorem execStageTimeout_frames (finished : BitVec 24) (s : State) :
    FramesOut 0xfffffec3cfd1 s (execStageTimeout finished s) := by
  unfold execStageTimeout
  extract_lets y0 y1 y2
  have h1 : Frames 0xfffffec3cfd1 s y1 := by
    unfold y1
    repeat' first
      | with_reducible assumption
      | with_reducible exact Frames.refl _ _
      | with_reducible apply FramesOut.next
      | with_reducible apply Frames.ite
      | with_reducible apply FramesOut.ite
      | ((with_reducible apply Frames.step (State.failedAt_frames ..)); exact rfl)
      | ((with_reducible apply Frames.step (State.loadImage_frames ..)); exact rfl)
      | ((with_reducible apply Frames.put); exact rfl)
      | dsimp only
      | split
  repeat' first
    | with_reducible assumption
    | with_reducible exact Frames.refl _ _
    | with_reducible apply FramesOut.next
    | with_reducible apply Frames.ite
    | with_reducible apply FramesOut.ite
    | ((with_reducible apply Frames.step (State.endStage3_frames ..)); exact rfl)
    | ((with_reducible apply Frames.step (State.endStage4_frames ..)); exact rfl)
    | ((with_reducible apply Frames.step (State.endStage5_frames ..)); exact rfl)
    | ((with_reducible apply Frames.step (State.endStage6_frames ..)); exact rfl)
    | ((with_reducible apply Frames.step (State.endStage7_frames ..)); exact rfl)
    | ((with_reducible apply Frames.step (State.endStage8_frames ..)); exact rfl)
    | ((with_reducible apply Frames.step (State.endStage9_frames ..)); exact rfl)
    | (fail_if_no_progress ((with_reducible apply Frames.boot); exact rfl))
    | dsimp only
    | split

theorem execDieReset_frames (dies : BitVec 4) (s : State) :
    FramesOut 0xfffffec28d90 s (execDieReset dies s) := by
  unfold execDieReset
  repeat' first
    | with_reducible assumption
    | with_reducible exact Frames.refl _ _
    | with_reducible apply FramesOut.next
    | with_reducible apply Frames.ite
    | with_reducible apply FramesOut.ite
    | ((with_reducible apply Frames.step (State.beginRerun_frames ..)); exact rfl)
    | ((with_reducible apply Frames.put); exact rfl)
    | (fail_if_no_progress ((with_reducible apply Frames.boot); exact rfl))
    | dsimp only
    | split

theorem execDieResetDone_frames (s : State) :
    FramesOut 0xfffffec28d90 s (execDieResetDone s) := by
  unfold execDieResetDone
  repeat' first
    | with_reducible assumption
    | with_reducible exact Frames.refl _ _
    | with_reducible apply FramesOut.next
    | with_reducible apply Frames.ite
    | with_reducible apply FramesOut.ite
    | ((with_reducible apply Frames.step (State.announceLevel_frames ..)); exact rfl)
    | ((with_reducible apply Frames.put); exact rfl)
    | split

theorem execHkRepairMapWrite_frames (n : Fin 4) (map : BitVec 44) (s : State) :
    FramesOut 0x20000400 s (execHkRepairMapWrite n map s) := by
  unfold execHkRepairMapWrite
  repeat' first
    | with_reducible assumption
    | with_reducible exact Frames.refl _ _
    | with_reducible apply FramesOut.next
    | with_reducible apply Frames.ite
    | with_reducible apply FramesOut.ite
    | ((with_reducible apply Frames.step (State.setRecord_frames ..)); exact rfl)
    | ((with_reducible apply Frames.put); exact rfl)
    | ((with_reducible apply Frames.set); exact rfl)
    | split

theorem execRepairFlashWrite_frames (s : State) :
    FramesOut 0x400 s (execRepairFlashWrite s) := by
  unfold execRepairFlashWrite
  repeat' first
    | with_reducible assumption
    | with_reducible exact Frames.refl _ _
    | with_reducible apply FramesOut.next
    | with_reducible apply Frames.ite
    | with_reducible apply FramesOut.ite
    | (fail_if_no_progress ((with_reducible apply Frames.repair); exact rfl))
    | split

end Sys2Proof.Machine
end

