-- ==== Sys2Proof/Laws/FramesDict.lean ====
section
/-! SUPPORT. What the definitions of Machine/Dict.lean can change: one lemma for each that answers a state. -/

namespace Sys2Proof.Machine

theorem State.fwWrite_frames (s : State) (t : Nat) (off : Nat) (bs : List Byte) :
    Frames 0x200 s (State.fwWrite s t off bs) := by
  unfold State.fwWrite
  repeat' first
    | with_reducible assumption
    | with_reducible exact Frames.refl _ _
    | with_reducible apply Frames.ite
    | ((with_reducible apply Frames.set); exact rfl)
    | (fail_if_no_progress ((with_reducible apply Frames.images); exact rfl))
    | split

theorem State.fwCommit_frames (s : State) (t : Nat) :
    Frames 0x200 s (State.fwCommit s t).2 := by
  unfold State.fwCommit
  extract_lets y0 y1
  repeat' first
    | with_reducible assumption
    | with_reducible exact Frames.refl _ _
    | with_reducible apply Frames.ite
    | with_reducible apply Frames.iteSnd
    | with_reducible apply Frames.iteSnd2
    | with_reducible apply Frames.iteFst
    | ((with_reducible apply Frames.set); exact rfl)
    | (fail_if_no_progress ((with_reducible apply Frames.images); exact rfl))
    | dsimp only
    | split

theorem State.dictRestore_frames (s : State) :
    Frames 0x5045f81fba59 s (State.dictRestore s) := by
  unfold State.dictRestore
  extract_lets y0 y1 y2 y3 y4
  try clear_value y0
  have h3 : Frames 0x5045f81fba59 s y3 := by
    unfold y3
    repeat' first
      | with_reducible assumption
      | with_reducible exact Frames.refl _ _
      | with_reducible apply Frames.ite
      | ((with_reducible apply Frames.step (State.errLevel_frames ..)); exact rfl)
      | ((with_reducible apply Frames.put); exact rfl)
      | (fail_if_no_progress ((with_reducible apply Frames.images_dict); exact rfl; exact rfl))
      | dsimp only
      | split
  have h4 : Frames 0x5045f81fba59 s y4 := by
    unfold y4
    repeat' first
      | with_reducible assumption
      | with_reducible exact Frames.refl _ _
      | with_reducible apply Frames.ite
      | ((with_reducible apply Frames.step (State.errLevel_frames ..)); exact rfl)
      | ((with_reducible apply Frames.put); exact rfl)
      | (fail_if_no_progress ((with_reducible apply Frames.images_dict); exact rfl; exact rfl))
      | dsimp only
      | split
  repeat' first
    | with_reducible assumption
    | with_reducible exact Frames.refl _ _
    | with_reducible apply Frames.ite
    | ((with_reducible apply Frames.step (State.errLevel_frames ..)); exact rfl)
    | ((with_reducible apply Frames.step (State.syncT1s_frames ..)); exact rfl)
    | ((with_reducible apply Frames.step (State.writeMode_frames ..)); exact rfl)
    | ((with_reducible apply Frames.put); exact rfl)
    | (fail_if_no_progress ((with_reducible apply Frames.images_dict); exact rfl; exact rfl))
    | dsimp only
    | split

theorem State.dictApply_frames (s : State) (idx : Nat) (sub : Nat) (off : Nat) (bs : List Byte) :
    Frames 0x5045f81fbb59 s (State.dictApply s idx sub off bs).2 := by
  unfold State.dictApply
  extract_lets y0 y1 y2 y3 y4 y5
  have h1 : Frames 0x5045f81fbb59 s y1 := by
    unfold y1
    repeat' first
      | with_reducible assumption
      | with_reducible exact Frames.refl _ _
      | with_reducible apply Frames.ite
      | with_reducible apply Frames.iteSnd
      | with_reducible apply Frames.iteSnd2
      | with_reducible apply Frames.iteFst
      | ((with_reducible apply Frames.step (State.acceptToken_frames ..)); exact rfl)
      | ((with_reducible apply Frames.step (State.ackFaults_frames ..)); exact rfl)
      | ((with_reducible apply Frames.step (State.clearFault_frames ..)); exact rfl)
      | ((with_reducible apply Frames.step (State.dictRestore_frames ..)); exact rfl)
      | ((with_reducible apply Frames.step (State.dictStore_frames ..)); exact rfl)
      | ((with_reducible apply Frames.step (State.errLevel_frames ..)); exact rfl)
      | ((with_reducible apply Frames.step (State.fltRefused_frames ..)); exact rfl)
      | ((with_reducible apply Frames.step (State.fwCommit_frames ..)); exact rfl)
      | ((with_reducible apply Frames.step (State.fwWrite_frames ..)); exact rfl)
      | ((with_reducible apply Frames.step (State.syncT1s_frames ..)); exact rfl)
      | ((with_reducible apply Frames.step (State.writeMode_frames ..)); exact rfl)
      | ((with_reducible apply Frames.put); exact rfl)
      | (fail_if_no_progress ((with_reducible apply Frames.images); exact rfl))
      | dsimp only
      | split
      | with_reducible refine Frames.ofFst (by assumption) ?_
      | with_reducible refine Frames.ofSnd (by assumption) ?_
  have h3 : Frames 0x5045f81fbb59 s y3 := by
    unfold y3
    repeat' first
      | with_reducible assumption
      | with_reducible exact Frames.refl _ _
      | with_reducible apply Frames.ite
      | with_reducible apply Frames.iteSnd
      | with_reducible apply Frames.iteSnd2
      | with_reducible apply Frames.iteFst
      | ((with_reducible apply Frames.step (State.acceptToken_frames ..)); exact rfl)
      | ((with_reducible apply Frames.step (State.ackFaults_frames ..)); exact rfl)
      | ((with_reducible apply Frames.step (State.clearFault_frames ..)); exact rfl)
      | ((with_reducible apply Frames.step (State.dictRestore_frames ..)); exact rfl)
      | ((with_reducible apply Frames.step (State.dictStore_frames ..)); exact rfl)
      | ((with_reducible apply Frames.step (State.errLevel_frames ..)); exact rfl)
      | ((with_reducible apply Frames.step (State.fltRefused_frames ..)); exact rfl)
      | ((with_reducible apply Frames.step (State.fwCommit_frames ..)); exact rfl)
      | ((with_reducible apply Frames.step (State.fwWrite_frames ..)); exact rfl)
      | ((with_reducible apply Frames.step (State.syncT1s_frames ..)); exact rfl)
      | ((with_reducible apply Frames.step (State.writeMode_frames ..)); exact rfl)
      | ((with_reducible apply Frames.put); exact rfl)
      | (fail_if_no_progress ((with_reducible apply Frames.images); exact rfl))
      | dsimp only
      | split
      | with_reducible refine Frames.ofFst (by assumption) ?_
      | with_reducible refine Frames.ofSnd (by assumption) ?_
  have h5 : Frames 0x5045f81fbb59 s y5.2 := by
    unfold y5
    repeat' first
      | with_reducible assumption
      | with_reducible exact Frames.refl _ _
      | with_reducible apply Frames.ite
      | with_reducible apply Frames.iteSnd
      | with_reducible apply Frames.iteSnd2
      | with_reducible apply Frames.iteFst
      | ((with_reducible apply Frames.step (State.fwCommit_frames ..)); exact rfl)
      | dsimp only
      | split
  repeat' first
    | with_reducible assumption
    | with_reducible exact Frames.refl _ _
    | with_reducible apply Frames.ite
    | with_reducible apply Frames.iteSnd
    | with_reducible apply Frames.iteSnd2
    | with_reducible apply Frames.iteFst
    | ((with_reducible apply Frames.step (State.acceptToken_frames ..)); exact rfl)
    | ((with_reducible apply Frames.step (State.ackFaults_frames ..)); exact rfl)
    | ((with_reducible apply Frames.step (State.clearFault_frames ..)); exact rfl)
    | ((with_reducible apply Frames.step (State.dictRestore_frames ..)); exact rfl)
    | ((with_reducible apply Frames.step (State.dictStore_frames ..)); exact rfl)
    | ((with_reducible apply Frames.step (State.errLevel_frames ..)); exact rfl)
    | ((with_reducible apply Frames.step (State.fltRefused_frames ..)); exact rfl)
    | ((with_reducible apply Frames.step (State.fwCommit_frames ..)); exact rfl)
    | ((with_reducible apply Frames.step (State.fwWrite_frames ..)); exact rfl)
    | ((with_reducible apply Frames.step (State.syncT1s_frames ..)); exact rfl)
    | ((with_reducible apply Frames.step (State.writeMode_frames ..)); exact rfl)
    | ((with_reducible apply Frames.put); exact rfl)
    | (fail_if_no_progress ((with_reducible apply Frames.images); exact rfl))
    | dsimp only
    | split
    | with_reducible refine Frames.ofFst (by assumption) ?_
    | with_reducible refine Frames.ofSnd (by assumption) ?_

theorem State.dictTry_frames (s : State) (idx : Nat) (sub : Nat) (type : Option Nat) (off : Nat) (bs : List Byte) :
    Frames 0x5045f81fbb59 s (State.dictTry s idx sub type off bs).2 := by
  unfold State.dictTry
  repeat' first
    | with_reducible assumption
    | with_reducible exact Frames.refl _ _
    | with_reducible apply Frames.ite
    | with_reducible apply Frames.iteSnd
    | with_reducible apply Frames.iteSnd2
    | with_reducible apply Frames.iteFst
    | ((with_reducible apply Frames.step (State.dictApply_frames ..)); exact rfl)
    | split

theorem State.dictWrite_frames (s : State) (source : Nat) (origin : Nat) (idx : Nat) (sub : Nat) (type : Option Nat) (off : Nat) (bs : List Byte) :
    Frames 0x5045f81fbb59 s (State.dictWrite s source origin idx sub type off bs).2 := by
  unfold State.dictWrite
  extract_lets y0 y1 y2
  have h0 : Frames 0x5045f81fbb59 s y0.2 := by
    unfold y0
    repeat' first
      | with_reducible assumption
      | with_reducible exact Frames.refl _ _
      | with_reducible apply Frames.ite
      | with_reducible apply Frames.iteSnd
      | with_reducible apply Frames.iteSnd2
      | with_reducible apply Frames.iteFst
      | ((with_reducible apply Frames.step (State.dictTry_frames ..)); exact rfl)
      | dsimp only
      | split
  repeat' first
    | with_reducible assumption
    | with_reducible exact Frames.refl _ _
    | with_reducible apply Frames.ite
    | with_reducible apply Frames.iteSnd
    | with_reducible apply Frames.iteSnd2
    | with_reducible apply Frames.iteFst
    | ((with_reducible apply Frames.step (State.journalAdd_frames ..)); exact rfl)
    | dsimp only
    | split

theorem State.keepResponse_frames (s : State) (k : T1sKept) :
    Frames 0x1000 s (State.keepResponse s k) := by
  unfold State.keepResponse
  repeat' first
    | with_reducible assumption
    | with_reducible exact Frames.refl _ _
    | with_reducible apply Frames.ite
    | (fail_if_no_progress ((with_reducible apply Frames.dict); exact rfl))
    | split

theorem State.t1sAnswer_frames (s : State) (r : T1sResponse) :
    Frames 0x1000 s (State.t1sAnswer s r) := by
  unfold State.t1sAnswer
  repeat' first
    | with_reducible assumption
    | with_reducible exact Frames.refl _ _
    | with_reducible apply Frames.ite
    | (fail_if_no_progress ((with_reducible apply Frames.dict); exact rfl))
    | split

theorem State.t1sServe_frames {m : Nat} {s : State} {q : T1sRequest} {op : Nat} {run : State → T1sResponse × State}
    (hm : 0x20001010 &&& m = 0x20001010) (h : ∀ t, Frames m t (run t).2) : Frames m s (s.t1sServe q op run) := by
  have hr : Frames m s (run s).2 := h s
  unfold State.t1sServe
  refine Frames.ite (Frames.refl _ _) ?_
  split
  · exact Frames.mono (l := 0x20001010) (Frames.mono (State.emit_frames ..) rfl) hm
  · refine Frames.ite ?_ ?_
    · refine Frames.mono (l := 0x20001010) ?_ hm
      refine Frames.step (State.emit_frames ..) rfl ?_
      exact Frames.bump rfl (Frames.refl _ _)
    · refine Frames.trans hr (Frames.mono (l := 0x20001010) ?_ hm)
      exact Frames.step (State.keepResponse_frames ..) rfl (Frames.mono (State.t1sAnswer_frames ..) rfl)

theorem State.t1sReadRun_frames (q : T1sRequest) (s : State) :
    Frames 0x0 s (State.t1sReadRun q s).2 := by
  unfold State.t1sReadRun
  extract_lets y0 y1 y2
  try clear_value y0
  repeat' first
    | with_reducible assumption
    | with_reducible exact Frames.refl _ _
    | with_reducible apply Frames.ite
    | with_reducible apply Frames.iteSnd
    | with_reducible apply Frames.iteSnd2
    | with_reducible apply Frames.iteFst
    | dsimp only
    | split

theorem execT1sRead_frames (req : T1sRequest) (s : State) :
    FramesOut 0x20001010 s (execT1sRead req s) := by
  unfold execT1sRead
  with_reducible apply FramesOut.next
  with_reducible refine Frames.trans ?_ (State.t1sServe_frames ?_ (fun _ => ?_))
  on_goal 2 => exact rfl
  repeat' first
    | with_reducible assumption
    | with_reducible exact Frames.refl _ _
    | with_reducible apply FramesOut.next
    | with_reducible apply Frames.ite
    | with_reducible apply FramesOut.ite
    | ((with_reducible apply Frames.step (State.t1sReadRun_frames ..)); exact rfl)
    | split

theorem State.t1sWriteRun_frames (q : T1sRequest) (s : State) :
    Frames 0x5045f81fbb59 s (State.t1sWriteRun q s).2 := by
  unfold State.t1sWriteRun
  extract_lets y0
  have h0 : Frames 0x5045f81fbb59 s y0.2 := by
    unfold y0
    repeat' first
      | with_reducible assumption
      | with_reducible exact Frames.refl _ _
      | with_reducible apply Frames.ite
      | ((with_reducible apply Frames.step (State.dictWrite_frames ..)); exact rfl)
      | dsimp only
      | split
  repeat' first
    | with_reducible assumption
    | with_reducible exact Frames.refl _ _
    | with_reducible apply Frames.ite
    | split

theorem execT1sWrite_frames (req : T1sRequest) (s : State) :
    FramesOut 0x5045f81fbb59 s (execT1sWrite req s) := by
  unfold execT1sWrite
  with_reducible apply FramesOut.next
  with_reducible refine Frames.trans ?_ (State.t1sServe_frames ?_ (fun _ => ?_))
  on_goal 2 => exact rfl
  repeat' first
    | with_reducible assumption
    | with_reducible exact Frames.refl _ _
    | with_reducible apply FramesOut.next
    | with_reducible apply Frames.ite
    | with_reducible apply FramesOut.ite
    | ((with_reducible apply Frames.step (State.t1sWriteRun_frames ..)); exact rfl)
    | split

theorem State.discoverRun_frames (q : T1sRequest) (s : State) :
    Frames 0x0 s (State.discoverRun q s).2 := by
  unfold State.discoverRun
  repeat' first
    | with_reducible assumption
    | with_reducible exact Frames.refl _ _
    | with_reducible apply Frames.ite
    | split

theorem execDiscover_frames (req : T1sRequest) (s : State) :
    FramesOut 0x20001010 s (execDiscover req s) := by
  unfold execDiscover
  with_reducible apply FramesOut.next
  with_reducible refine Frames.trans ?_ (State.t1sServe_frames ?_ (fun _ => ?_))
  on_goal 2 => exact rfl
  repeat' first
    | with_reducible assumption
    | with_reducible exact Frames.refl _ _
    | with_reducible apply FramesOut.next
    | with_reducible apply Frames.ite
    | with_reducible apply FramesOut.ite
    | ((with_reducible apply Frames.step (State.discoverRun_frames ..)); exact rfl)
    | split

theorem State.unknownOpRun_frames (q : T1sRequest) (s : State) :
    Frames 0x0 s (State.unknownOpRun q s).2 := by
  unfold State.unknownOpRun
  repeat' first
    | with_reducible assumption
    | with_reducible exact Frames.refl _ _
    | with_reducible apply Frames.ite
    | split

theorem execT1sUnknownOp_frames (req : T1sRequest) (s : State) :
    FramesOut 0x20001010 s (execT1sUnknownOp req s) := by
  unfold execT1sUnknownOp
  repeat' first
    | with_reducible assumption
    | with_reducible exact Frames.refl _ _
    | with_reducible apply FramesOut.next
    | with_reducible apply Frames.ite
    | with_reducible apply FramesOut.ite
    | ((with_reducible apply Frames.step (State.unknownOpRun_frames ..)); exact rfl)
    | split
    | ((with_reducible refine Frames.trans ?_ (State.t1sServe_frames ?_ (fun _ => ?_))); on_goal 2 => exact rfl)

theorem execKeptFlashWrite_frames (s : State) :
    FramesOut 0x1000 s (execKeptFlashWrite s) := by
  unfold execKeptFlashWrite
  repeat' first
    | with_reducible assumption
    | with_reducible exact Frames.refl _ _
    | with_reducible apply FramesOut.next
    | with_reducible apply Frames.ite
    | with_reducible apply FramesOut.ite
    | (fail_if_no_progress ((with_reducible apply Frames.dict); exact rfl))
    | split

theorem State.lampAnswer_frames (s : State) (ambient : Nat) (r : LampReply) :
    Frames 0x20001000 s (State.lampAnswer s ambient r) := by
  unfold State.lampAnswer
  extract_lets y0 y1
  have h0 : Frames 0x20001000 s y0 := by
    unfold y0
    repeat' first
      | with_reducible assumption
      | with_reducible exact Frames.refl _ _
      | with_reducible apply Frames.ite
      | ((with_reducible apply Frames.put); exact rfl)
      | dsimp only
      | split
  repeat' first
    | with_reducible assumption
    | with_reducible exact Frames.refl _ _
    | with_reducible apply Frames.ite
    | (fail_if_no_progress ((with_reducible apply Frames.dict); exact rfl))
    | split

theorem State.lampAccept_frames (s : State) (ambient : Nat) (r : LampReply) :
    Frames 0x20001000 s (State.lampAccept s ambient r) := by
  unfold State.lampAccept
  repeat' first
    | with_reducible assumption
    | with_reducible exact Frames.refl _ _
    | with_reducible apply Frames.ite
    | ((with_reducible apply Frames.step (State.lampAnswer_frames ..)); exact rfl)
    | ((with_reducible apply Frames.bump); exact rfl)
    | split

theorem execIdentify_frames (ambient : BitVec 8) (s : State) :
    FramesOut 0x20001000 s (execIdentify ambient s) := by
  unfold execIdentify
  repeat' first
    | with_reducible assumption
    | with_reducible exact Frames.refl _ _
    | with_reducible apply FramesOut.next
    | with_reducible apply Frames.ite
    | with_reducible apply FramesOut.ite
    | ((with_reducible apply Frames.step (State.lampAccept_frames ..)); exact rfl)
    | split

theorem execReadSummary_frames (ambient : BitVec 8) (s : State) :
    FramesOut 0x20001000 s (execReadSummary ambient s) := by
  unfold execReadSummary
  repeat' first
    | with_reducible assumption
    | with_reducible exact Frames.refl _ _
    | with_reducible apply FramesOut.next
    | with_reducible apply Frames.ite
    | with_reducible apply FramesOut.ite
    | ((with_reducible apply Frames.step (State.lampAccept_frames ..)); exact rfl)
    | split

theorem execTagForReplacement_frames (workOrder : BitVec 32) (ambient : BitVec 8) (s : State) :
    FramesOut 0x5045f81fbb59 s (execTagForReplacement workOrder ambient s) := by
  unfold execTagForReplacement
  repeat' first
    | with_reducible assumption
    | with_reducible exact Frames.refl _ _
    | with_reducible apply FramesOut.next
    | with_reducible apply Frames.ite
    | with_reducible apply FramesOut.ite
    | ((with_reducible apply Frames.step (State.dictWrite_frames ..)); exact rfl)
    | ((with_reducible apply Frames.step (State.lampAccept_frames ..)); exact rfl)
    | with_reducible apply Frames.iteSnd
    | with_reducible apply Frames.iteSnd2
    | with_reducible apply Frames.iteFst
    | dsimp only
    | split

theorem execHeadlampReject_frames (reason : Fin 5) (ambient : BitVec 8) (s : State) :
    FramesOut 0x20001000 s (execHeadlampReject reason ambient s) := by
  unfold execHeadlampReject
  repeat' first
    | with_reducible assumption
    | with_reducible exact Frames.refl _ _
    | with_reducible apply FramesOut.next
    | with_reducible apply Frames.ite
    | with_reducible apply FramesOut.ite
    | ((with_reducible apply Frames.step (State.lampAnswer_frames ..)); exact rfl)
    | split

theorem execHeadlampReply_frames (s : State) :
    FramesOut 0x20001010 s (execHeadlampReply s) := by
  unfold execHeadlampReply
  repeat' first
    | with_reducible assumption
    | with_reducible exact Frames.refl _ _
    | with_reducible apply FramesOut.next
    | with_reducible apply Frames.ite
    | with_reducible apply FramesOut.ite
    | ((with_reducible apply Frames.step (State.emit_frames ..)); exact rfl)
    | ((with_reducible apply Frames.put); exact rfl)
    | ((with_reducible apply Frames.bump); exact rfl)
    | (fail_if_no_progress ((with_reducible apply Frames.dict); exact rfl))
    | dsimp only
    | split

end Sys2Proof.Machine
end

