-- ==== Sys2Proof/Laws/FramesFusion.lean ====
section
/-! SUPPORT. What the definitions of Machine/Fusion.lean can change: one lemma for each that answers a state. -/

namespace Sys2Proof.Machine

theorem State.trvSync_frames (s : State) (d : Fin 4) (j : Fin 22) :
    Frames 0x20000000000 s (State.trvSync s d j) := by
  unfold State.trvSync
  repeat' first
    | with_reducible assumption
    | with_reducible exact Frames.refl _ _
    | with_reducible apply Frames.ite
    | ((with_reducible apply Frames.put); exact rfl)
    | split

theorem State.trvSyncDie_frames (s : State) (d : Fin 4) :
    Frames 0x20000000000 s (State.trvSyncDie s d) := by
  unfold State.trvSyncDie
  repeat' first
    | with_reducible assumption
    | with_reducible exact Frames.refl _ _
    | with_reducible apply Frames.ite
    | ((with_reducible apply Frames.foldl); intro _ _)
    | ((with_reducible apply Frames.foldlSnd); intro _ _)
    | ((with_reducible apply Frames.step (State.trvSync_frames ..)); exact rfl)
    | split

theorem State.fbufPublish_frames (s : State) (d : Fin 4) (b : Fin 256) (vs : List Nat) :
    Frames 0x60002000000 s (State.fbufPublish s d b vs) := by
  unfold State.fbufPublish
  repeat' first
    | with_reducible assumption
    | with_reducible exact Frames.refl _ _
    | with_reducible apply Frames.ite
    | ((with_reducible apply Frames.step (State.optSync_frames ..)); exact rfl)
    | ((with_reducible apply Frames.step (State.trvSyncDie_frames ..)); exact rfl)
    | ((with_reducible apply Frames.put); exact rfl)
    | dsimp only
    | split

theorem execFusionPublish_frames (d : Fin 4) (b : Fin 256) (counts : List (BitVec 32)) (s : State) :
    FramesOut 0x60002000000 s (execFusionPublish d b counts s) := by
  unfold execFusionPublish
  repeat' first
    | with_reducible assumption
    | with_reducible exact Frames.refl _ _
    | with_reducible apply FramesOut.next
    | with_reducible apply Frames.ite
    | with_reducible apply FramesOut.ite
    | ((with_reducible apply Frames.step (State.fbufPublish_frames ..)); exact rfl)
    | split

theorem execFusionCountWrite_frames (d : Fin 4) (b : Fin 256) (count : BitVec 32) (counts : List (BitVec 32)) (s : State) :
    FramesOut 0x60002000000 s (execFusionCountWrite d b count counts s) := by
  unfold execFusionCountWrite
  repeat' first
    | with_reducible assumption
    | with_reducible exact Frames.refl _ _
    | with_reducible apply FramesOut.next
    | with_reducible apply Frames.ite
    | with_reducible apply FramesOut.ite
    | ((with_reducible apply Frames.step (State.fbufPublish_frames ..)); exact rfl)
    | ((with_reducible apply Frames.put); exact rfl)
    | split

end Sys2Proof.Machine
end

