-- ==== Sys2Proof/Laws/FramesKv.lean ====
section
/-! SUPPORT. What the definitions of Machine/Kv.lean can change: one lemma for each that answers a state. -/

namespace Sys2Proof.Machine

theorem State.setKv_frames (s : State) (k : KvState) :
    Frames 0x200000 s (State.setKv s k) := by
  unfold State.setKv
  repeat' first
    | with_reducible assumption
    | with_reducible exact Frames.refl _ _
    | with_reducible apply Frames.ite
    | (fail_if_no_progress ((with_reducible apply Frames.kv); exact rfl))
    | split

theorem State.kvBook_frames (s : State) (pool : Nat) (src : Nat) (dst : Nat) :
    Frames 0x100000000 s (State.kvBook s pool src dst) := by
  unfold State.kvBook
  extract_lets y0 y1 y2
  repeat' first
    | with_reducible assumption
    | with_reducible exact Frames.refl _ _
    | with_reducible apply Frames.ite
    | ((with_reducible apply Frames.set); exact rfl)
    | dsimp only
    | split

theorem State.kvTrain_frames (s : State) (pool : Nat) (train : Bool) (up : Bool) :
    Frames 0x100000000 s (State.kvTrain s pool train up) := by
  unfold State.kvTrain
  repeat' first
    | with_reducible assumption
    | with_reducible exact Frames.refl _ _
    | with_reducible apply Frames.ite
    | ((with_reducible apply Frames.put); exact rfl)
    | dsimp only
    | split

theorem State.kvTake_frames (s : State) (pool : Nat) (frame : Nat) (moving : Bool) (train : Bool) :
    Frames 0x100200000 s (State.kvTake s pool frame moving train) := by
  unfold State.kvTake
  extract_lets y0 y1
  repeat' first
    | with_reducible assumption
    | with_reducible exact Frames.refl _ _
    | with_reducible apply Frames.ite
    | ((with_reducible apply Frames.step (State.kvBook_frames ..)); exact rfl)
    | ((with_reducible apply Frames.step (State.kvTrain_frames ..)); exact rfl)
    | ((with_reducible apply Frames.step (State.setKv_frames ..)); exact rfl)
    | dsimp only
    | split

theorem State.kvShift_frames (s : State) (pool : Nat) (frame : Nat) (moving : Bool) :
    Frames 0x100200000 s (State.kvShift s pool frame moving) := by
  unfold State.kvShift
  repeat' first
    | with_reducible assumption
    | with_reducible exact Frames.refl _ _
    | with_reducible apply Frames.ite
    | ((with_reducible apply Frames.step (State.kvBook_frames ..)); exact rfl)
    | ((with_reducible apply Frames.step (State.setKv_frames ..)); exact rfl)
    | split

theorem State.kvFree_frames (s : State) (pool : Nat) (frame : Nat) :
    Frames 0x100200000 s (State.kvFree s pool frame) := by
  unfold State.kvFree
  repeat' first
    | with_reducible assumption
    | with_reducible exact Frames.refl _ _
    | with_reducible apply Frames.ite
    | ((with_reducible apply Frames.step (State.kvBook_frames ..)); exact rfl)
    | ((with_reducible apply Frames.step (State.kvTrain_frames ..)); exact rfl)
    | ((with_reducible apply Frames.step (State.setKv_frames ..)); exact rfl)
    | split

theorem State.seqPut_frames (s : State) (n : Nat) (off : Nat) (len : Nat) (v : Nat) :
    Frames 0x100000010801 s (State.seqPut s n off len v) := by
  unfold State.seqPut
  repeat' first
    | with_reducible assumption
    | with_reducible exact Frames.refl _ _
    | with_reducible apply Frames.ite
    | ((with_reducible apply Frames.step (State.writeMem_frames ..)); exact rfl)
    | split

theorem State.setSeqState_frames (s : State) (n : Nat) (v : Nat) :
    Frames 0x100000010801 s (State.setSeqState s n v) := by
  unfold State.setSeqState
  repeat' first
    | with_reducible assumption
    | with_reducible exact Frames.refl _ _
    | with_reducible apply Frames.ite
    | ((with_reducible apply Frames.step (State.seqPut_frames ..)); exact rfl)
    | split

theorem State.seqInflightAdd_frames (s : State) (n : Nat) (up : Bool) :
    Frames 0x100000010801 s (State.seqInflightAdd s n up) := by
  unfold State.seqInflightAdd
  repeat' first
    | with_reducible assumption
    | with_reducible exact Frames.refl _ _
    | with_reducible apply Frames.ite
    | ((with_reducible apply Frames.step (State.seqPut_frames ..)); exact rfl)
    | split

theorem State.setPte_frames (s : State) (n : Nat) (l : Nat) (p : Nat) (e : Pte) :
    Frames 0x100000010801 s (State.setPte s n l p e) := by
  unfold State.setPte
  repeat' first
    | with_reducible assumption
    | with_reducible exact Frames.refl _ _
    | with_reducible apply Frames.ite
    | ((with_reducible apply Frames.step (State.writeMem_frames ..)); exact rfl)
    | split

theorem State.kvEvent_frames (s0 : State) (n : Nat) (code : Nat) :
    Frames 0x104100098801 s0 (State.kvEvent s0 n code) := by
  unfold State.kvEvent
  extract_lets y0 y1 y2
  have h0 : Frames 0x104100098801 s0 y0 := by
    unfold y0
    repeat' first
      | with_reducible assumption
      | with_reducible exact Frames.refl _ _
      | with_reducible apply Frames.ite
      | (fail_if_no_progress ((with_reducible apply Frames.job); exact rfl))
      | dsimp only
      | split
  have h2 : Frames 0x104100098801 s0 y2 := by
    unfold y2
    repeat' first
      | with_reducible assumption
      | with_reducible exact Frames.refl _ _
      | with_reducible apply Frames.ite
      | ((with_reducible apply Frames.step (State.writeMem_frames ..)); exact rfl)
      | ((with_reducible apply Frames.put); exact rfl)
      | ((with_reducible apply Frames.bump); exact rfl)
      | dsimp only
      | split
  repeat' first
    | with_reducible assumption
    | with_reducible exact Frames.refl _ _
    | with_reducible apply Frames.ite
    | ((with_reducible apply Frames.step (State.notify_frames ..)); exact rfl)
    | dsimp only
    | split

theorem State.kvPost_frames (s : State) (q : Fin 8) (n : Nat) (l : Nat) (p : Nat) (dstPool : Nat) (dstFrame : Nat) :
    Frames 0x100300210801 s (State.kvPost s q n l p dstPool dstFrame) := by
  unfold State.kvPost
  extract_lets y0 y1 y2 y3 y4 y5 y6 y7 y8 y9 y10 y11
  have h2 : Frames 0x100300210801 s y2 := by
    unfold y2
    repeat' first
      | with_reducible assumption
      | with_reducible exact Frames.refl _ _
      | with_reducible apply Frames.ite
      | ((with_reducible apply Frames.step (State.kvShift_frames ..)); exact rfl)
      | ((with_reducible apply Frames.step (State.kvTake_frames ..)); exact rfl)
      | dsimp only
      | split
  have h3 : Frames 0x100300210801 s y3 := by
    unfold y3
    repeat' first
      | with_reducible assumption
      | with_reducible exact Frames.refl _ _
      | with_reducible apply Frames.ite
      | ((with_reducible apply Frames.step (State.seqInflightAdd_frames ..)); exact rfl)
      | ((with_reducible apply Frames.step (State.setPte_frames ..)); exact rfl)
      | dsimp only
      | split
  have h6 : Frames 0x100300210801 s y6 := by
    unfold y6
    repeat' first
      | with_reducible assumption
      | with_reducible exact Frames.refl _ _
      | with_reducible apply Frames.ite
      | ((with_reducible apply Frames.step (State.writeMem_frames ..)); exact rfl)
      | dsimp only
      | split
  have h10 : Frames 0x100300210801 s y10 := by
    unfold y10
    repeat' first
      | with_reducible assumption
      | with_reducible exact Frames.refl _ _
      | with_reducible apply Frames.ite
      | ((with_reducible apply Frames.step (State.writeMem_frames ..)); exact rfl)
      | ((with_reducible apply Frames.put); exact rfl)
      | dsimp only
      | split
  repeat' first
    | with_reducible assumption
    | with_reducible exact Frames.refl _ _
    | with_reducible apply Frames.ite
    | ((with_reducible apply Frames.step (State.setKv_frames ..)); exact rfl)
    | dsimp only
    | split

theorem State.kvDropMove_frames (s : State) (m : KvMove) :
    Frames 0x100000210801 s (State.kvDropMove s m) := by
  unfold State.kvDropMove
  extract_lets y0 y1 y2
  have h1 : Frames 0x100000210801 s y1 := by
    unfold y1
    repeat' first
      | with_reducible assumption
      | with_reducible exact Frames.refl _ _
      | with_reducible apply Frames.ite
      | ((with_reducible apply Frames.step (State.seqInflightAdd_frames ..)); exact rfl)
      | ((with_reducible apply Frames.step (State.setKv_frames ..)); exact rfl)
      | dsimp only
      | split
  repeat' first
    | with_reducible assumption
    | with_reducible exact Frames.refl _ _
    | with_reducible apply Frames.ite
    | ((with_reducible apply Frames.step (State.seqInflightAdd_frames ..)); exact rfl)
    | ((with_reducible apply Frames.step (State.setKv_frames ..)); exact rfl)
    | ((with_reducible apply Frames.step (State.setPte_frames ..)); exact rfl)
    | dsimp only
    | split

theorem State.kvCancelMove_frames (s : State) (m : KvMove) :
    Frames 0x100100210801 s (State.kvCancelMove s m) := by
  unfold State.kvCancelMove
  extract_lets y0
  have h0 : Frames 0x100100210801 s y0 := by
    unfold y0
    repeat' first
      | with_reducible assumption
      | with_reducible exact Frames.refl _ _
      | with_reducible apply Frames.ite
      | ((with_reducible apply Frames.step (State.writeMem_frames ..)); exact rfl)
      | dsimp only
      | split
  repeat' first
    | with_reducible assumption
    | with_reducible exact Frames.refl _ _
    | with_reducible apply Frames.ite
    | ((with_reducible apply Frames.step (State.kvDropMove_frames ..)); exact rfl)
    | ((with_reducible apply Frames.step (State.kvFree_frames ..)); exact rfl)
    | ((with_reducible apply Frames.step (State.kvShift_frames ..)); exact rfl)
    | split

theorem State.kvCancelUntaken_frames (s : State) (n : Nat) :
    Frames 0x100100210801 s (State.kvCancelUntaken s n) := by
  unfold State.kvCancelUntaken
  repeat' first
    | with_reducible assumption
    | with_reducible exact Frames.refl _ _
    | with_reducible apply Frames.ite
    | ((with_reducible apply Frames.foldl); intro _ _)
    | ((with_reducible apply Frames.foldlSnd); intro _ _)
    | ((with_reducible apply Frames.step (State.kvCancelMove_frames ..)); exact rfl)
    | split

theorem State.kvRelease_frames (n : Nat) (s : State) (x : Nat × Nat) :
    Frames 0x100100210801 s (State.kvRelease n s x) := by
  unfold State.kvRelease
  extract_lets y0 y1
  have h1 : Frames 0x100100210801 s y1 := by
    unfold y1
    repeat' first
      | with_reducible assumption
      | with_reducible exact Frames.refl _ _
      | with_reducible apply Frames.ite
      | ((with_reducible apply Frames.step (State.setPte_frames ..)); exact rfl)
      | dsimp only
      | split
  repeat' first
    | with_reducible assumption
    | with_reducible exact Frames.refl _ _
    | with_reducible apply Frames.ite
    | ((with_reducible apply Frames.step (State.kvFree_frames ..)); exact rfl)
    | with_reducible apply Frames.iteSnd
    | with_reducible apply Frames.iteSnd2
    | with_reducible apply Frames.iteFst
    | dsimp only
    | split

theorem State.kvDropGrants_frames (s : State) (n : Nat) :
    Frames 0x100200000 s (State.kvDropGrants s n) := by
  unfold State.kvDropGrants
  extract_lets y0 y1 y2
  try clear_value y0
  have h1 : Frames 0x100200000 s y1 := by
    unfold y1
    repeat' first
      | with_reducible assumption
      | with_reducible exact Frames.refl _ _
      | with_reducible apply Frames.ite
      | ((with_reducible apply Frames.foldl); intro _ _)
      | ((with_reducible apply Frames.foldlSnd); intro _ _)
      | ((with_reducible apply Frames.step (State.kvFree_frames ..)); exact rfl)
      | dsimp only
      | split
  repeat' first
    | with_reducible assumption
    | with_reducible exact Frames.refl _ _
    | with_reducible apply Frames.ite
    | ((with_reducible apply Frames.step (State.setKv_frames ..)); exact rfl)
    | dsimp only
    | split

theorem State.kvEndCancel_frames (s : State) (n : Nat) (code : Nat) :
    Frames 0x104100098801 s (State.kvEndCancel s n code) := by
  unfold State.kvEndCancel
  repeat' first
    | with_reducible assumption
    | with_reducible exact Frames.refl _ _
    | with_reducible apply Frames.ite
    | ((with_reducible apply Frames.step (State.kvEvent_frames ..)); exact rfl)
    | ((with_reducible apply Frames.step (State.setSeqState_frames ..)); exact rfl)
    | split

theorem State.kvCancel_frames (s : State) (n : Nat) (code : Nat) :
    Frames 0x104100298801 s (State.kvCancel s n code) := by
  unfold State.kvCancel
  extract_lets y0 y1 y2
  have h0 : Frames 0x104100298801 s y0 := by
    unfold y0
    repeat' first
      | with_reducible assumption
      | with_reducible exact Frames.refl _ _
      | with_reducible apply Frames.ite
      | ((with_reducible apply Frames.step (State.kvCancelUntaken_frames ..)); exact rfl)
      | ((with_reducible apply Frames.step (State.kvDropGrants_frames ..)); exact rfl)
      | dsimp only
      | split
  have h1 : Frames 0x104100298801 s y1 := by
    unfold y1
    repeat' first
      | with_reducible assumption
      | with_reducible exact Frames.refl _ _
      | with_reducible apply Frames.ite
      | ((with_reducible apply Frames.foldl); intro _ _)
      | ((with_reducible apply Frames.foldlSnd); intro _ _)
      | ((with_reducible apply Frames.step (State.kvRelease_frames ..)); exact rfl)
      | dsimp only
      | split
  repeat' first
    | with_reducible assumption
    | with_reducible exact Frames.refl _ _
    | with_reducible apply Frames.ite
    | ((with_reducible apply Frames.step (State.kvEndCancel_frames ..)); exact rfl)
    | ((with_reducible apply Frames.step (State.setKv_frames ..)); exact rfl)
    | ((with_reducible apply Frames.step (State.setSeqState_frames ..)); exact rfl)
    | split

theorem State.kvAlloc_frames (s : State) (pool : Nat) :
    Frames 0x8 s (State.kvAlloc s pool).2 := by
  unfold State.kvAlloc
  repeat' first
    | with_reducible assumption
    | with_reducible exact Frames.refl _ _
    | with_reducible apply Frames.ite
    | ((with_reducible apply Frames.step (State.tookFree_frames ..)); exact rfl)
    | split

theorem State.kvPumpOut_frames (n : Nat) (s : State) (a1 : List (Nat × Nat)) :
    Frames 0x104300298809 s (State.kvPumpOut n s a1) := by
  fun_induction State.kvPumpOut n s a1
  all_goals
    repeat' first
      | with_reducible assumption
      | with_reducible exact Frames.refl _ _
      | with_reducible apply Frames.ite
      | with_reducible apply Frames.iteSnd
      | with_reducible apply Frames.iteSnd2
      | with_reducible apply Frames.iteFst
      | ((with_reducible apply Frames.step (State.kvAlloc_frames ..)); exact rfl)
      | ((with_reducible apply Frames.step (State.kvCancel_frames ..)); exact rfl)
      | ((with_reducible apply Frames.step (State.kvPost_frames ..)); exact rfl)
      | with_reducible refine Frames.trans ?_ (by assumption)
      | dsimp only
      | split

theorem State.kvPumpIn_frames (n : Nat) (s : State) (a1 : List (Nat × Nat)) :
    Frames 0x100300210809 s (State.kvPumpIn n s a1) := by
  fun_induction State.kvPumpIn n s a1
  all_goals
    repeat' first
      | with_reducible assumption
      | with_reducible exact Frames.refl _ _
      | with_reducible apply Frames.ite
      | with_reducible apply Frames.iteSnd
      | with_reducible apply Frames.iteSnd2
      | with_reducible apply Frames.iteFst
      | ((with_reducible apply Frames.step (State.kvAlloc_frames ..)); exact rfl)
      | ((with_reducible apply Frames.step (State.kvPost_frames ..)); exact rfl)
      | with_reducible refine Frames.trans ?_ (by assumption)
      | dsimp only
      | split

theorem State.kvSettle_frames (s : State) (n : Nat) :
    Frames 0x104300298809 s (State.kvSettle s n) := by
  unfold State.kvSettle
  extract_lets y0 y1 y2 y3 y4
  have h1 : Frames 0x104300298809 s y1 := by
    unfold y1
    repeat' first
      | with_reducible assumption
      | with_reducible exact Frames.refl _ _
      | with_reducible apply Frames.ite
      | ((with_reducible apply Frames.step (State.kvEndCancel_frames ..)); exact rfl)
      | ((with_reducible apply Frames.step (State.kvEvent_frames ..)); exact rfl)
      | ((with_reducible apply Frames.step (State.kvPumpIn_frames ..)); exact rfl)
      | ((with_reducible apply Frames.step (State.kvPumpOut_frames ..)); exact rfl)
      | ((with_reducible apply Frames.step (State.setKv_frames ..)); exact rfl)
      | ((with_reducible apply Frames.step (State.setSeqState_frames ..)); exact rfl)
      | with_reducible apply Frames.iteSnd
      | with_reducible apply Frames.iteSnd2
      | with_reducible apply Frames.iteFst
      | dsimp only
      | split
  have h3 : Frames 0x104300298809 s y3 := by
    unfold y3
    repeat' first
      | with_reducible assumption
      | with_reducible exact Frames.refl _ _
      | with_reducible apply Frames.ite
      | ((with_reducible apply Frames.step (State.kvEndCancel_frames ..)); exact rfl)
      | ((with_reducible apply Frames.step (State.kvEvent_frames ..)); exact rfl)
      | ((with_reducible apply Frames.step (State.kvPumpIn_frames ..)); exact rfl)
      | ((with_reducible apply Frames.step (State.kvPumpOut_frames ..)); exact rfl)
      | ((with_reducible apply Frames.step (State.setKv_frames ..)); exact rfl)
      | ((with_reducible apply Frames.step (State.setSeqState_frames ..)); exact rfl)
      | with_reducible apply Frames.iteSnd
      | with_reducible apply Frames.iteSnd2
      | with_reducible apply Frames.iteFst
      | dsimp only
      | split
  have h4 : Frames 0x104300298809 s y4 := by
    unfold y4
    repeat' first
      | with_reducible assumption
      | with_reducible exact Frames.refl _ _
      | with_reducible apply Frames.ite
      | ((with_reducible apply Frames.step (State.kvEndCancel_frames ..)); exact rfl)
      | ((with_reducible apply Frames.step (State.kvEvent_frames ..)); exact rfl)
      | ((with_reducible apply Frames.step (State.kvPumpIn_frames ..)); exact rfl)
      | ((with_reducible apply Frames.step (State.kvPumpOut_frames ..)); exact rfl)
      | ((with_reducible apply Frames.step (State.setKv_frames ..)); exact rfl)
      | ((with_reducible apply Frames.step (State.setSeqState_frames ..)); exact rfl)
      | with_reducible apply Frames.iteSnd
      | with_reducible apply Frames.iteSnd2
      | with_reducible apply Frames.iteFst
      | dsimp only
      | split
  repeat' first
    | with_reducible assumption
    | with_reducible exact Frames.refl _ _
    | with_reducible apply Frames.ite
    | ((with_reducible apply Frames.step (State.kvEndCancel_frames ..)); exact rfl)
    | ((with_reducible apply Frames.step (State.kvEvent_frames ..)); exact rfl)
    | ((with_reducible apply Frames.step (State.kvPumpIn_frames ..)); exact rfl)
    | ((with_reducible apply Frames.step (State.kvPumpOut_frames ..)); exact rfl)
    | ((with_reducible apply Frames.step (State.setKv_frames ..)); exact rfl)
    | ((with_reducible apply Frames.step (State.setSeqState_frames ..)); exact rfl)
    | with_reducible apply Frames.iteSnd
    | with_reducible apply Frames.iteSnd2
    | with_reducible apply Frames.iteFst
    | dsimp only
    | split

theorem State.kvServeOwed_frames (s : State) (a1 : List Nat) :
    Frames 0x100200008 s (State.kvServeOwed s a1) := by
  fun_induction State.kvServeOwed s a1
  all_goals
    repeat' first
      | with_reducible assumption
      | with_reducible exact Frames.refl _ _
      | with_reducible apply Frames.ite
      | ((with_reducible apply Frames.step (State.kvAlloc_frames ..)); exact rfl)
      | with_reducible refine Frames.trans ?_ (by assumption)
      | ((with_reducible apply Frames.step (State.kvTake_frames ..)); exact rfl)
      | ((with_reducible apply Frames.step (State.setKv_frames ..)); exact rfl)
      | with_reducible apply Frames.iteSnd
      | with_reducible apply Frames.iteSnd2
      | with_reducible apply Frames.iteFst
      | dsimp only
      | split

theorem State.kvPostPlanned_frames (s : State) (a1 : List KvPlanned) :
    Frames 0x100300210809 s (State.kvPostPlanned s a1) := by
  fun_induction State.kvPostPlanned s a1
  all_goals
    repeat' first
      | with_reducible assumption
      | with_reducible exact Frames.refl _ _
      | with_reducible apply Frames.ite
      | ((with_reducible apply Frames.step (State.kvAlloc_frames ..)); exact rfl)
      | ((with_reducible apply Frames.step (State.kvPost_frames ..)); exact rfl)
      | with_reducible refine Frames.trans ?_ (by assumption)
      | ((with_reducible apply Frames.step (State.setKv_frames ..)); exact rfl)
      | ((with_reducible apply Frames.step (State.tookFree_frames ..)); exact rfl)
      | with_reducible apply Frames.iteSnd
      | with_reducible apply Frames.iteSnd2
      | with_reducible apply Frames.iteFst
      | dsimp only
      | split

theorem State.kvProgress_frames (s : State) :
    Frames 0x104300298809 s (State.kvProgress s) := by
  unfold State.kvProgress
  extract_lets y0 y1
  have h0 : Frames 0x104300298809 s y0 := by
    unfold y0
    repeat' first
      | with_reducible assumption
      | with_reducible exact Frames.refl _ _
      | with_reducible apply Frames.ite
      | ((with_reducible apply Frames.step (State.kvServeOwed_frames ..)); exact rfl)
      | dsimp only
      | split
  have h1 : Frames 0x104300298809 s y1 := by
    unfold y1
    repeat' first
      | with_reducible assumption
      | with_reducible exact Frames.refl _ _
      | with_reducible apply Frames.ite
      | ((with_reducible apply Frames.step (State.kvPostPlanned_frames ..)); exact rfl)
      | dsimp only
      | split
  repeat' first
    | with_reducible assumption
    | with_reducible exact Frames.refl _ _
    | with_reducible apply Frames.ite
    | ((with_reducible apply Frames.foldl); intro _ _)
    | ((with_reducible apply Frames.foldlSnd); intro _ _)
    | ((with_reducible apply Frames.step (State.kvSettle_frames ..)); exact rfl)
    | split

theorem State.kvSwapOut_frames (s : State) (n : Nat) :
    Frames 0x104300298809 s (State.kvSwapOut s n) := by
  unfold State.kvSwapOut
  repeat' first
    | with_reducible assumption
    | with_reducible exact Frames.refl _ _
    | with_reducible apply Frames.ite
    | ((with_reducible apply Frames.step (State.kvCancelUntaken_frames ..)); exact rfl)
    | ((with_reducible apply Frames.step (State.kvDropGrants_frames ..)); exact rfl)
    | ((with_reducible apply Frames.step (State.kvSettle_frames ..)); exact rfl)
    | ((with_reducible apply Frames.step (State.setSeqState_frames ..)); exact rfl)
    | split

theorem State.kvVictim_frames (s : State) (n : Nat) :
    Frames 0x104300298809 s (State.kvVictim s n) := by
  unfold State.kvVictim
  extract_lets y0
  have h0 : Frames 0x104300298809 s y0 := by
    unfold y0
    repeat' first
      | with_reducible assumption
      | with_reducible exact Frames.refl _ _
      | with_reducible apply Frames.ite
      | ((with_reducible apply Frames.step (State.kvSwapOut_frames ..)); exact rfl)
      | dsimp only
      | split
  repeat' first
    | with_reducible assumption
    | with_reducible exact Frames.refl _ _
    | with_reducible apply Frames.ite
    | ((with_reducible apply Frames.step (State.kvEvent_frames ..)); exact rfl)
    | split

theorem State.kvEnable_frames (s : State) (en : Bool) :
    Frames 0x100200000 s (State.kvEnable s en) := by
  unfold State.kvEnable
  extract_lets y0 y1
  have h1 : Frames 0x100200000 s y1 := by
    unfold y1
    repeat' first
      | with_reducible assumption
      | with_reducible exact Frames.refl _ _
      | with_reducible apply Frames.ite
      | ((with_reducible apply Frames.put); exact rfl)
      | dsimp only
      | split
  repeat' first
    | with_reducible assumption
    | with_reducible exact Frames.refl _ _
    | with_reducible apply Frames.ite
    | ((with_reducible apply Frames.foldl); intro _ _)
    | ((with_reducible apply Frames.foldlSnd); intro _ _)
    | ((with_reducible apply Frames.step (State.setKv_frames ..)); exact rfl)
    | ((with_reducible apply Frames.put); exact rfl)
    | ((with_reducible apply Frames.set); exact rfl)
    | dsimp only
    | split

theorem execKvEnable_frames (en : Bool) (s : State) :
    FramesOut 0x100200000 s (execKvEnable en s) := by
  unfold execKvEnable
  repeat' first
    | with_reducible assumption
    | with_reducible exact Frames.refl _ _
    | with_reducible apply FramesOut.next
    | with_reducible apply Frames.ite
    | with_reducible apply FramesOut.ite
    | ((with_reducible apply Frames.step (State.kvEnable_frames ..)); exact rfl)
    | split

theorem State.kvStatus_frames (s : State) (n : Nat) (result : Nat) :
    Frames 0x100000000 s (State.kvStatus s n result) := by
  unfold State.kvStatus
  repeat' first
    | with_reducible assumption
    | with_reducible exact Frames.refl _ _
    | with_reducible apply Frames.ite
    | ((with_reducible apply Frames.set); exact rfl)
    | split

theorem State.kvCommand_frames {m : Nat} {s : State} {n : Nat} {act : Nat → Nat × State} (hm : 0x104300298809 &&& m = 0x104300298809)
    (h : ∀ k, Frames m s (act k).2) : Frames m s (s.kvCommand n act) := by
  have hr : Frames m s (act (s.seqState n)).2 := h _
  unfold State.kvCommand
  refine Frames.ite (Frames.refl _ _) (Frames.ite ?_ (Frames.ite ?_ ?_))
  · exact Frames.mono (l := 0x104300298809) (Frames.mono (State.kvStatus_frames ..) rfl) hm
  · exact Frames.mono (l := 0x104300298809) (Frames.mono (State.kvStatus_frames ..) rfl) hm
  · dsimp only
    refine Frames.ite (Frames.trans hr (Frames.mono (l := 0x104300298809) ?_ hm)) (Frames.mono (l := 0x104300298809) (Frames.mono (State.kvStatus_frames ..) rfl) hm)
    exact Frames.step (State.kvStatus_frames ..) rfl (Frames.mono (State.kvProgress_frames ..) rfl)

theorem State.kvAdmit_frames (s : State) (n : Nat) :
    Frames 0x104300298809 s (State.kvAdmit s n) := by
  unfold State.kvAdmit
  repeat' first
    | with_reducible assumption
    | with_reducible exact Frames.refl _ _
    | with_reducible apply Frames.ite
    | ((with_reducible apply Frames.step (State.seqPut_frames ..)); exact rfl)
    | ((with_reducible apply Frames.step (State.setSeqState_frames ..)); exact rfl)
    | split
    | ((with_reducible refine Frames.trans ?_ (State.kvCommand_frames ?_ (fun _ => ?_))); on_goal 2 => exact rfl)

theorem State.kvCancelCommand_frames (s : State) (n : Nat) :
    Frames 0x104300298809 s (State.kvCancelCommand s n) := by
  unfold State.kvCancelCommand
  repeat' first
    | with_reducible assumption
    | with_reducible exact Frames.refl _ _
    | with_reducible apply Frames.ite
    | ((with_reducible apply Frames.step (State.kvCancel_frames ..)); exact rfl)
    | split
    | ((with_reducible refine Frames.trans ?_ (State.kvCommand_frames ?_ (fun _ => ?_))); on_goal 2 => exact rfl)

theorem State.kvPreempt_frames (s : State) (n : Nat) :
    Frames 0x104300298809 s (State.kvPreempt s n) := by
  unfold State.kvPreempt
  repeat' first
    | with_reducible assumption
    | with_reducible exact Frames.refl _ _
    | with_reducible apply Frames.ite
    | ((with_reducible apply Frames.step (State.kvSwapOut_frames ..)); exact rfl)
    | split
    | ((with_reducible refine Frames.trans ?_ (State.kvCommand_frames ?_ (fun _ => ?_))); on_goal 2 => exact rfl)

theorem State.kvMakeRoom_frames {n need : Nat} {l : List Nat} {s t : State} (h : State.kvMakeRoom n need l s = some t) :
    Frames 0x104300298809 s t := by
  induction l generalizing s with
  | nil =>
    unfold State.kvMakeRoom at h
    split at h
    · cases h
      exact Frames.refl _ _
    · cases h
  | cons v vs ih =>
    unfold State.kvMakeRoom at h
    split at h
    · cases h
      exact Frames.refl _ _
    · split at h
      · exact Frames.trans (State.kvVictim_frames ..) (ih h)
      · cases h

theorem State.kvResume_frames (s : State) (n : Nat) :
    Frames 0x104300298809 s (State.kvResume s n) := by
  unfold State.kvResume
  repeat' first
    | with_reducible assumption
    | with_reducible exact Frames.refl _ _
    | (fail_if_no_progress extract_lets)
    | with_reducible apply Frames.ite
    | ((with_reducible apply Frames.step (State.kvCancelUntaken_frames ..)); exact rfl)
    | ((with_reducible refine Frames.trans ?_ (Frames.mono (State.kvMakeRoom_frames (by assumption)) ?_)); on_goal 2 => exact rfl)
    | ((with_reducible apply Frames.step (State.kvSettle_frames ..)); exact rfl)
    | ((with_reducible apply Frames.step (State.setSeqState_frames ..)); exact rfl)
    | with_reducible apply Frames.iteSnd
    | with_reducible apply Frames.iteSnd2
    | with_reducible apply Frames.iteFst
    | split
    | ((with_reducible refine Frames.trans ?_ (State.kvCommand_frames ?_ (fun _ => ?_))); on_goal 2 => exact rfl)

theorem execAdmit_frames (n : BitVec 16) (s : State) :
    FramesOut 0x104300298809 s (execAdmit n s) := by
  unfold execAdmit
  repeat' first
    | with_reducible assumption
    | with_reducible exact Frames.refl _ _
    | with_reducible apply FramesOut.next
    | with_reducible apply Frames.ite
    | with_reducible apply FramesOut.ite
    | ((with_reducible apply Frames.step (State.kvAdmit_frames ..)); exact rfl)
    | split

theorem execResume_frames (n : BitVec 16) (s : State) :
    FramesOut 0x104300298809 s (execResume n s) := by
  unfold execResume
  repeat' first
    | with_reducible assumption
    | with_reducible exact Frames.refl _ _
    | with_reducible apply FramesOut.next
    | with_reducible apply Frames.ite
    | with_reducible apply FramesOut.ite
    | ((with_reducible apply Frames.step (State.kvResume_frames ..)); exact rfl)
    | split

theorem execCancel_frames (n : BitVec 16) (s : State) :
    FramesOut 0x104300298809 s (execCancel n s) := by
  unfold execCancel
  repeat' first
    | with_reducible assumption
    | with_reducible exact Frames.refl _ _
    | with_reducible apply FramesOut.next
    | with_reducible apply Frames.ite
    | with_reducible apply FramesOut.ite
    | ((with_reducible apply Frames.step (State.kvCancelCommand_frames ..)); exact rfl)
    | split

theorem execPreempt_frames (n : BitVec 16) (s : State) :
    FramesOut 0x104300298809 s (execPreempt n s) := by
  unfold execPreempt
  repeat' first
    | with_reducible assumption
    | with_reducible exact Frames.refl _ _
    | with_reducible apply FramesOut.next
    | with_reducible apply Frames.ite
    | with_reducible apply FramesOut.ite
    | ((with_reducible apply Frames.step (State.kvPreempt_frames ..)); exact rfl)
    | split

theorem State.kvStepVictims_frames (need : List Nat) (a0 : List Nat) (s : State) :
    Frames 0x104300298809 s (State.kvStepVictims need a0 s).2 := by
  fun_induction State.kvStepVictims need a0 s
  all_goals
    repeat' first
      | with_reducible assumption
      | with_reducible exact Frames.refl _ _
      | with_reducible apply Frames.ite
      | with_reducible apply Frames.iteSnd
      | with_reducible apply Frames.iteSnd2
      | with_reducible apply Frames.iteFst
      | with_reducible refine Frames.trans ?_ (by assumption)
      | ((with_reducible apply Frames.step (State.kvVictim_frames ..)); exact rfl)
      | split

theorem State.kvStepAllocate_frames (s : State) (entering : List Nat) :
    Frames 0x104300298809 s (State.kvStepAllocate s entering) := by
  unfold State.kvStepAllocate
  extract_lets y0 y1 y2
  have h1 : Frames 0x104300298809 s y1.2 := by
    unfold y1
    repeat' first
      | with_reducible assumption
      | with_reducible exact Frames.refl _ _
      | with_reducible apply Frames.ite
      | ((with_reducible apply Frames.step (State.kvStepVictims_frames ..)); exact rfl)
      | dsimp only
      | split
  repeat' first
    | with_reducible assumption
    | with_reducible exact Frames.refl _ _
    | with_reducible apply Frames.ite
    | ((with_reducible apply Frames.step (State.kvProgress_frames ..)); exact rfl)
    | ((with_reducible apply Frames.step (State.setKv_frames ..)); exact rfl)
    | dsimp only
    | split

theorem execKvStepAllocation_frames (entering : List (BitVec 16)) (s : State) :
    FramesOut 0x104300298809 s (execKvStepAllocation entering s) := by
  unfold execKvStepAllocation
  repeat' first
    | with_reducible assumption
    | with_reducible exact Frames.refl _ _
    | with_reducible apply FramesOut.next
    | with_reducible apply Frames.ite
    | with_reducible apply FramesOut.ite
    | ((with_reducible apply Frames.step (State.kvStepAllocate_frames ..)); exact rfl)
    | split

theorem State.kvSwapFailed_frames (s : State) (m : KvMove) :
    Frames 0x104100298801 s (State.kvSwapFailed s m) := by
  unfold State.kvSwapFailed
  extract_lets y0 y1
  have h0 : Frames 0x104100298801 s y0 := by
    unfold y0
    repeat' first
      | with_reducible assumption
      | with_reducible exact Frames.refl _ _
      | with_reducible apply Frames.ite
      | ((with_reducible apply Frames.step (State.ucc_frames ..)); exact rfl)
      | dsimp only
      | split
  repeat' first
    | with_reducible assumption
    | with_reducible exact Frames.refl _ _
    | with_reducible apply Frames.ite
    | ((with_reducible apply Frames.step (State.kvCancel_frames ..)); exact rfl)
    | ((with_reducible apply Frames.step (State.setKv_frames ..)); exact rfl)
    | split

theorem State.kvMoveEnds_frames (s : State) (m : KvMove) (status : Nat) :
    Frames 0x104100298801 s (State.kvMoveEnds s m status) := by
  unfold State.kvMoveEnds
  extract_lets y0 y1 y2 y3
  have h1 : Frames 0x104100298801 s y1 := by
    unfold y1
    repeat' first
      | with_reducible assumption
      | with_reducible exact Frames.refl _ _
      | with_reducible apply Frames.ite
      | ((with_reducible apply Frames.step (State.kvDropMove_frames ..)); exact rfl)
      | dsimp only
      | split
  have h3 : Frames 0x104100298801 s y3 := by
    unfold y3
    repeat' first
      | with_reducible assumption
      | with_reducible exact Frames.refl _ _
      | with_reducible apply Frames.ite
      | ((with_reducible apply Frames.step (State.setPte_frames ..)); exact rfl)
      | dsimp only
      | split
  repeat' first
    | with_reducible assumption
    | with_reducible exact Frames.refl _ _
    | with_reducible apply Frames.ite
    | ((with_reducible apply Frames.step (State.kvDropMove_frames ..)); exact rfl)
    | ((with_reducible apply Frames.step (State.kvFree_frames ..)); exact rfl)
    | ((with_reducible apply Frames.step (State.kvShift_frames ..)); exact rfl)
    | ((with_reducible apply Frames.step (State.kvSwapFailed_frames ..)); exact rfl)
    | dsimp only
    | split

theorem execKvMoveComplete_frames (tag : BitVec 32) (s : State) :
    FramesOut 0x104300298809 s (execKvMoveComplete tag s) := by
  unfold execKvMoveComplete
  repeat' first
    | with_reducible assumption
    | with_reducible exact Frames.refl _ _
    | with_reducible apply FramesOut.next
    | with_reducible apply Frames.ite
    | with_reducible apply FramesOut.ite
    | ((with_reducible apply Frames.step (State.kvMoveEnds_frames ..)); exact rfl)
    | ((with_reducible apply Frames.step (State.kvProgress_frames ..)); exact rfl)
    | dsimp only
    | split

end Sys2Proof.Machine
end

