-- ==== Sys2Proof/Laws/FramesOperands.lean ====
section
/-! SUPPORT. What the definitions of Machine/Operands.lean can change: one lemma for each that answers a state. -/

namespace Sys2Proof.Machine

theorem State.foreignHit_frames {s t : State} {d : Fin 4} {owner : Nat} {rs : List (Nat × Nat)}
    (h : s.foreignHit d owner rs = some t) : Frames 0x100000000000 s t := by
  unfold State.foreignHit at h
  split at h
  · cases h
    exact State.ledgeViolation_frames ..
  · cases h

theorem State.settle_frames (s : State) (d : Fin 4) (o : Nat) (bs : List Byte) :
    Frames 0x8 s (State.settle s d o bs).2 := by
  unfold State.settle
  extract_lets y0
  try clear_value y0
  repeat' first
    | with_reducible assumption
    | with_reducible exact Frames.refl _ _
    | with_reducible apply Frames.ite
    | with_reducible apply Frames.iteSnd
    | with_reducible apply Frames.iteSnd2
    | with_reducible apply Frames.iteFst
    | ((with_reducible apply Frames.step (State.tookFrees_frames ..)); exact rfl)
    | dsimp only
    | split

theorem State.readRanges_frames (d : Fin 4) (owner : Nat) (s : State) (a1 : List (Nat × Nat)) :
    Frames 0x100000000808 s (State.readRanges d owner s a1).2.2 := by
  fun_induction State.readRanges d owner s a1
  all_goals
    repeat' first
      | with_reducible assumption
      | with_reducible exact Frames.refl _ _
      | with_reducible apply Frames.ite
      | ((with_reducible apply Frames.step (State.readBytes_frames ..)); exact rfl)
      | with_reducible refine Frames.trans ?_ (by assumption)
      | ((with_reducible apply Frames.step (State.settle_frames ..)); exact rfl)
      | dsimp only
      | split

theorem State.writeRuns_frames (d : Fin 4) (owner : Nat) (s : State) (a1 : List (Nat × List Byte)) :
    Frames 0x100000010801 s (State.writeRuns d owner s a1) := by
  fun_induction State.writeRuns d owner s a1
  all_goals
    repeat' first
      | with_reducible assumption
      | with_reducible exact Frames.refl _ _
      | with_reducible apply Frames.ite
      | ((with_reducible apply Frames.step (State.writeMem_frames ..)); exact rfl)
      | with_reducible refine Frames.trans ?_ (by assumption)
      | split

theorem State.readTile_frames (s : State) (d : Fin 4) (owner : Nat) (t : TileSlot) :
    Frames 0x100000000808 s (State.readTile s d owner t).2.2 := by
  unfold State.readTile
  extract_lets y0 y1 y2
  have h0 : Frames 0x100000000808 s y0.2.2 := by
    unfold y0
    repeat' first
      | with_reducible assumption
      | with_reducible exact Frames.refl _ _
      | with_reducible apply Frames.ite
      | with_reducible apply Frames.iteSnd
      | with_reducible apply Frames.iteSnd2
      | with_reducible apply Frames.iteFst
      | ((with_reducible apply Frames.step (State.readRanges_frames ..)); exact rfl)
      | dsimp only
      | split
  repeat' first
    | with_reducible assumption
    | with_reducible exact Frames.refl _ _
    | with_reducible apply Frames.ite
    | with_reducible apply Frames.iteSnd
    | with_reducible apply Frames.iteSnd2
    | with_reducible apply Frames.iteFst
    | dsimp only
    | split

theorem State.readU32s_frames (s : State) (d : Fin 4) (owner : Nat) (t : TileSlot) :
    Frames 0x100000000808 s (State.readU32s s d owner t).2.2 := by
  unfold State.readU32s
  extract_lets y0
  have h0 : Frames 0x100000000808 s y0.2.2 := by
    unfold y0
    repeat' first
      | with_reducible assumption
      | with_reducible exact Frames.refl _ _
      | with_reducible apply Frames.ite
      | ((with_reducible apply Frames.step (State.readRanges_frames ..)); exact rfl)
      | dsimp only
      | split
  repeat' first
    | with_reducible assumption
    | with_reducible exact Frames.refl _ _
    | with_reducible apply Frames.ite
    | split

end Sys2Proof.Machine
end

