-- ==== Sys2Proof/Laws/FramesTensor.lean ====
section
/-! SUPPORT. What the definitions of Machine/Tensor.lean can change: one lemma for each that answers a state. -/

namespace Sys2Proof.Machine

theorem State.setTcCore_frames (s : State) (d : Fin 4) (k : Fin 11) (c : TcCore) :
    Frames 0x400000 s (State.setTcCore s d k c) := by
  unfold State.setTcCore
  repeat' first
    | with_reducible assumption
    | with_reducible exact Frames.refl _ _
    | with_reducible apply Frames.ite
    | ((with_reducible apply Frames.set); exact rfl)
    | (fail_if_no_progress ((with_reducible apply Frames.tensor); exact rfl))
    | split

theorem State.tcRecord_frames (s : State) (d : Fin 4) (k : Fin 11) (code : Nat) (pc : Nat) (slot : Nat) :
    Frames 0x8000000000 s (State.tcRecord s d k code pc slot) := by
  unfold State.tcRecord
  repeat' first
    | with_reducible assumption
    | with_reducible exact Frames.refl _ _
    | with_reducible apply Frames.ite
    | ((with_reducible apply Frames.put); exact rfl)
    | ((with_reducible apply Frames.set); exact rfl)
    | split

theorem State.tcStop_frames (s : State) (d : Fin 4) (k : Fin 11) (code : Nat) (pc : Nat) (slot : Nat) (addr : Nat) (detail : Nat) :
    Frames 0xc000000800 s (State.tcStop s d k code pc slot addr detail) := by
  unfold State.tcStop
  extract_lets y0
  have h0 : Frames 0xc000000800 s y0 := by
    unfold y0
    repeat' first
      | with_reducible assumption
      | with_reducible exact Frames.refl _ _
      | with_reducible apply Frames.ite
      | ((with_reducible apply Frames.step (State.tcRecord_frames ..)); exact rfl)
      | ((with_reducible apply Frames.put); exact rfl)
      | dsimp only
      | split
  repeat' first
    | with_reducible assumption
    | with_reducible exact Frames.refl _ _
    | with_reducible apply Frames.ite
    | ((with_reducible apply Frames.step (State.irq_frames ..)); exact rfl)
    | ((with_reducible apply Frames.step (State.ucc_frames ..)); exact rfl)
    | split

theorem State.tcNf_frames (s : State) (d : Fin 4) (k : Fin 11) (cause : Nat) (pc : Nat) :
    Frames 0x8000000000 s (State.tcNf s d k cause pc) := by
  unfold State.tcNf
  repeat' first
    | with_reducible assumption
    | with_reducible exact Frames.refl _ _
    | with_reducible apply Frames.ite
    | ((with_reducible apply Frames.put); exact rfl)
    | split

theorem State.tcNfIf_frames (s : State) (b : Bool) (d : Fin 4) (k : Fin 11) (cause : Nat) (pc : Nat) :
    Frames 0x8000000000 s (State.tcNfIf s b d k cause pc) := by
  unfold State.tcNfIf
  repeat' first
    | with_reducible assumption
    | with_reducible exact Frames.refl _ _
    | with_reducible apply Frames.ite
    | ((with_reducible apply Frames.step (State.tcNf_frames ..)); exact rfl)
    | split

theorem State.tcSatIf_frames (s : State) (b : Bool) (d : Fin 4) (k : Fin 11) :
    Frames 0x8000000000 s (State.tcSatIf s b d k) := by
  unfold State.tcSatIf
  repeat' first
    | with_reducible assumption
    | with_reducible exact Frames.refl _ _
    | with_reducible apply Frames.ite
    | ((with_reducible apply Frames.put); exact rfl)
    | split

theorem State.tcBadRead_frames (s : State) (bad : Option Nat) (d : Fin 4) (k : Fin 11) (pc : Nat) :
    Frames 0x8000000000 s (State.tcBadRead s bad d k pc) := by
  unfold State.tcBadRead
  repeat' first
    | with_reducible assumption
    | with_reducible exact Frames.refl _ _
    | with_reducible apply Frames.ite
    | ((with_reducible apply Frames.step (State.tcNf_frames ..)); exact rfl)
    | ((with_reducible apply Frames.step (State.tcRecord_frames ..)); exact rfl)
    | split

theorem State.tcStart_frames (s : State) (d : Fin 4) (k : Fin 11) (op : TcOp) :
    Frames 0x8000400000 s (State.tcStart s d k op) := by
  unfold State.tcStart
  repeat' first
    | with_reducible assumption
    | with_reducible exact Frames.refl _ _
    | with_reducible apply Frames.ite
    | ((with_reducible apply Frames.step (State.setTcCore_frames ..)); exact rfl)
    | ((with_reducible apply Frames.put); exact rfl)
    | split

theorem State.tcIssued_frames (s : State) (d : Fin 4) (k : Fin 11) :
    Frames 0x8000000000 s (State.tcIssued s d k) := by
  unfold State.tcIssued
  repeat' first
    | with_reducible assumption
    | with_reducible exact Frames.refl _ _
    | with_reducible apply Frames.ite
    | ((with_reducible apply Frames.put); exact rfl)
    | ((with_reducible apply Frames.addf); exact rfl)
    | split

theorem State.tcIssue_frames {m : Nat} {s : State} {d : Fin 4} {k : Fin 11} {op : Nat} {check : TcInstr → TcFault}
    {run : TcInstr → Nat → State → State} (hm : 0xc000000800 &&& m = 0xc000000800) (h : ∀ i pc t, Frames m t (run i pc t)) :
    Frames m s (s.tcIssue d k op check run) := by
  unfold State.tcIssue
  refine Frames.ite ?_ (Frames.refl _ _)
  split
  · exact Frames.refl _ _
  · extract_lets pc
    refine Frames.ite (Frames.mono (l := 0xc000000800) (Frames.mono (State.tcStop_frames ..) rfl) hm)
      (Frames.ite (Frames.refl _ _) (Frames.ite ?_ (Frames.refl _ _)))
    split
    · exact Frames.mono (l := 0xc000000800) (Frames.mono (State.tcStop_frames ..) rfl) hm
    · exact Frames.trans (Frames.mono (l := 0xc000000800) (Frames.mono (State.tcIssued_frames ..) rfl) hm) (h _ _ _)

theorem State.readGroup_frames (d : Fin 4) (k : Fin 11) (s : State) (a1 : List Nat) :
    Frames 0x100000000808 s (State.readGroup d k s a1).2.2 := by
  fun_induction State.readGroup d k s a1
  all_goals
    repeat' first
      | with_reducible assumption
      | with_reducible exact Frames.refl _ _
      | with_reducible apply Frames.ite
      | with_reducible apply Frames.iteSnd
      | with_reducible apply Frames.iteSnd2
      | with_reducible apply Frames.iteFst
      | with_reducible refine Frames.trans ?_ (by assumption)
      | ((with_reducible apply Frames.step (State.readTile_frames ..)); exact rfl)
      | dsimp only
      | split

theorem execTcNop_frames (d : Fin 4) (k : Fin 11) (s : State) :
    FramesOut 0xc000400800 s (execTcNop d k s) := by
  unfold execTcNop
  with_reducible apply FramesOut.next
  with_reducible refine Frames.trans ?_ (State.tcIssue_frames ?_ (fun _ _ _ => ?_))
  on_goal 2 => exact rfl
  repeat' first
    | with_reducible assumption
    | with_reducible exact Frames.refl _ _
    | with_reducible apply FramesOut.next
    | with_reducible apply Frames.ite
    | with_reducible apply FramesOut.ite
    | ((with_reducible apply Frames.step (State.setTcCore_frames ..)); exact rfl)
    | split

theorem execHalt_frames (d : Fin 4) (k : Fin 11) (s : State) :
    FramesOut 0xc000000800 s (execHalt d k s) := by
  unfold execHalt
  with_reducible apply FramesOut.next
  with_reducible refine Frames.trans ?_ (State.tcIssue_frames ?_ (fun _ _ _ => ?_))
  on_goal 2 => exact rfl
  repeat' first
    | with_reducible assumption
    | with_reducible exact Frames.refl _ _
    | with_reducible apply FramesOut.next
    | with_reducible apply Frames.ite
    | with_reducible apply FramesOut.ite
    | ((with_reducible apply Frames.step (State.irq_frames ..)); exact rfl)
    | ((with_reducible apply Frames.put); exact rfl)
    | split

theorem execFence_frames (d : Fin 4) (k : Fin 11) (s : State) :
    FramesOut 0xc000000800 s (execFence d k s) := by
  unfold execFence
  with_reducible apply FramesOut.next
  with_reducible refine Frames.trans ?_ (State.tcIssue_frames ?_ (fun _ _ _ => ?_))
  on_goal 2 => exact rfl
  repeat' first
    | with_reducible assumption
    | with_reducible exact Frames.refl _ _
    | with_reducible apply FramesOut.next
    | with_reducible apply Frames.ite
    | with_reducible apply FramesOut.ite
    | split

theorem execWaitSeq_frames (d : Fin 4) (k : Fin 11) (s : State) :
    FramesOut 0xc000000800 s (execWaitSeq d k s) := by
  unfold execWaitSeq
  with_reducible apply FramesOut.next
  with_reducible refine Frames.trans ?_ (State.tcIssue_frames ?_ (fun _ _ _ => ?_))
  on_goal 2 => exact rfl
  repeat' first
    | with_reducible assumption
    | with_reducible exact Frames.refl _ _
    | with_reducible apply FramesOut.next
    | with_reducible apply Frames.ite
    | with_reducible apply FramesOut.ite
    | split

theorem execPostSeq_frames (d : Fin 4) (k : Fin 11) (s : State) :
    FramesOut 0x6c002000800 s (execPostSeq d k s) := by
  unfold execPostSeq
  with_reducible apply FramesOut.next
  with_reducible refine Frames.trans ?_ (State.tcIssue_frames ?_ (fun _ _ _ => ?_))
  on_goal 2 => exact rfl
  repeat' first
    | with_reducible assumption
    | with_reducible exact Frames.refl _ _
    | with_reducible apply FramesOut.next
    | with_reducible apply Frames.ite
    | with_reducible apply FramesOut.ite
    | ((with_reducible apply Frames.step (State.fbufPublish_frames ..)); exact rfl)
    | split

theorem execWaitOwn_frames (d : Fin 4) (k : Fin 11) (s : State) :
    FramesOut 0xc000000800 s (execWaitOwn d k s) := by
  unfold execWaitOwn
  with_reducible apply FramesOut.next
  with_reducible refine Frames.trans ?_ (State.tcIssue_frames ?_ (fun _ _ _ => ?_))
  on_goal 2 => exact rfl
  repeat' first
    | with_reducible assumption
    | with_reducible exact Frames.refl _ _
    | with_reducible apply FramesOut.next
    | with_reducible apply Frames.ite
    | with_reducible apply FramesOut.ite
    | split

theorem execSwpw_frames (d : Fin 4) (k : Fin 11) (s : State) :
    FramesOut 0xc000400800 s (execSwpw d k s) := by
  unfold execSwpw
  with_reducible apply FramesOut.next
  with_reducible refine Frames.trans ?_ (State.tcIssue_frames ?_ (fun _ _ _ => ?_))
  on_goal 2 => exact rfl
  repeat' first
    | with_reducible assumption
    | with_reducible exact Frames.refl _ _
    | with_reducible apply FramesOut.next
    | with_reducible apply Frames.ite
    | with_reducible apply FramesOut.ite
    | ((with_reducible apply Frames.step (State.setTcCore_frames ..)); exact rfl)
    | split

theorem execLdw_frames (d : Fin 4) (k : Fin 11) (s : State) :
    FramesOut 0x10c000400808 s (execLdw d k s) := by
  unfold execLdw
  with_reducible apply FramesOut.next
  with_reducible refine Frames.trans ?_ (State.tcIssue_frames ?_ (fun _ _ _ => ?_))
  on_goal 2 => exact rfl
  repeat' first
    | with_reducible assumption
    | with_reducible exact Frames.refl _ _
    | (fail_if_no_progress extract_lets)
    | with_reducible apply FramesOut.next
    | with_reducible apply Frames.ite
    | with_reducible apply FramesOut.ite
    | ((with_reducible refine Frames.trans ?_ (Frames.mono (State.foreignHit_frames (by assumption)) ?_)); on_goal 2 => exact rfl)
    | ((with_reducible apply Frames.step (State.readGroup_frames ..)); exact rfl)
    | ((with_reducible apply Frames.step (State.setTcCore_frames ..)); exact rfl)
    | ((with_reducible apply Frames.step (State.tcBadRead_frames ..)); exact rfl)
    | ((with_reducible apply Frames.step (State.tcNfIf_frames ..)); exact rfl)
    | ((with_reducible apply Frames.step (State.tcStart_frames ..)); exact rfl)
    | ((with_reducible apply Frames.step (State.tcStop_frames ..)); exact rfl)
    | split

theorem State.bankRows_frames (s : State) (b : Bank) :
    Frames 0x8 s (State.bankRows s b).2 := by
  unfold State.bankRows
  repeat' first
    | with_reducible assumption
    | with_reducible exact Frames.refl _ _
    | with_reducible apply Frames.ite
    | with_reducible apply Frames.iteSnd
    | with_reducible apply Frames.iteSnd2
    | with_reducible apply Frames.iteFst
    | ((with_reducible apply Frames.step (State.tookFrees_frames ..)); exact rfl)
    | split

theorem execMm_frames (d : Fin 4) (k : Fin 11) (s : State) :
    FramesOut 0x10c000400808 s (execMm d k s) := by
  unfold execMm
  with_reducible apply FramesOut.next
  with_reducible refine Frames.trans ?_ (State.tcIssue_frames ?_ (fun _ _ _ => ?_))
  on_goal 2 => exact rfl
  repeat' first
    | with_reducible assumption
    | with_reducible exact Frames.refl _ _
    | (fail_if_no_progress extract_lets)
    | with_reducible apply FramesOut.next
    | with_reducible apply Frames.ite
    | with_reducible apply FramesOut.ite
    | ((with_reducible apply Frames.step (State.bankRows_frames ..)); exact rfl)
    | ((with_reducible refine Frames.trans ?_ (Frames.mono (State.foreignHit_frames (by assumption)) ?_)); on_goal 2 => exact rfl)
    | ((with_reducible apply Frames.step (State.readGroup_frames ..)); exact rfl)
    | ((with_reducible apply Frames.step (State.setTcCore_frames ..)); exact rfl)
    | ((with_reducible apply Frames.step (State.tcBadRead_frames ..)); exact rfl)
    | ((with_reducible apply Frames.step (State.tcNfIf_frames ..)); exact rfl)
    | ((with_reducible apply Frames.step (State.tcStart_frames ..)); exact rfl)
    | ((with_reducible apply Frames.step (State.tcStop_frames ..)); exact rfl)
    | with_reducible apply Frames.iteSnd
    | with_reducible apply Frames.iteSnd2
    | with_reducible apply Frames.iteFst
    | split

theorem execDrain_frames (d : Fin 4) (k : Fin 11) (s : State) :
    FramesOut 0x10c000410809 s (execDrain d k s) := by
  unfold execDrain
  with_reducible apply FramesOut.next
  with_reducible refine Frames.trans ?_ (State.tcIssue_frames ?_ (fun _ _ _ => ?_))
  on_goal 2 => exact rfl
  repeat' first
    | with_reducible assumption
    | with_reducible exact Frames.refl _ _
    | (fail_if_no_progress extract_lets)
    | with_reducible apply FramesOut.next
    | with_reducible apply Frames.ite
    | with_reducible apply FramesOut.ite
    | ((with_reducible apply Frames.step (State.bankRows_frames ..)); exact rfl)
    | ((with_reducible refine Frames.trans ?_ (Frames.mono (State.foreignHit_frames (by assumption)) ?_)); on_goal 2 => exact rfl)
    | ((with_reducible apply Frames.step (State.setTcCore_frames ..)); exact rfl)
    | ((with_reducible apply Frames.step (State.tcNfIf_frames ..)); exact rfl)
    | ((with_reducible apply Frames.step (State.tcSatIf_frames ..)); exact rfl)
    | ((with_reducible apply Frames.step (State.tcStart_frames ..)); exact rfl)
    | ((with_reducible apply Frames.step (State.tcStop_frames ..)); exact rfl)
    | ((with_reducible apply Frames.step (State.tookFrees_frames ..)); exact rfl)
    | ((with_reducible apply Frames.step (State.writeRuns_frames ..)); exact rfl)
    | with_reducible apply Frames.iteSnd
    | with_reducible apply Frames.iteSnd2
    | with_reducible apply Frames.iteFst
    | split

theorem execSmax_frames (d : Fin 4) (k : Fin 11) (s : State) :
    FramesOut 0x10c000410809 s (execSmax d k s) := by
  unfold execSmax
  with_reducible apply FramesOut.next
  with_reducible refine Frames.trans ?_ (State.tcIssue_frames ?_ (fun _ _ _ => ?_))
  on_goal 2 => exact rfl
  repeat' first
    | with_reducible assumption
    | with_reducible exact Frames.refl _ _
    | (fail_if_no_progress extract_lets)
    | with_reducible apply FramesOut.next
    | with_reducible apply Frames.ite
    | with_reducible apply FramesOut.ite
    | ((with_reducible apply Frames.step (State.bankRows_frames ..)); exact rfl)
    | ((with_reducible refine Frames.trans ?_ (Frames.mono (State.foreignHit_frames (by assumption)) ?_)); on_goal 2 => exact rfl)
    | ((with_reducible apply Frames.step (State.tcNfIf_frames ..)); exact rfl)
    | ((with_reducible apply Frames.step (State.tcSatIf_frames ..)); exact rfl)
    | ((with_reducible apply Frames.step (State.tcStart_frames ..)); exact rfl)
    | ((with_reducible apply Frames.step (State.tcStop_frames ..)); exact rfl)
    | ((with_reducible apply Frames.step (State.writeRuns_frames ..)); exact rfl)
    | with_reducible apply Frames.iteSnd
    | with_reducible apply Frames.iteSnd2
    | with_reducible apply Frames.iteFst
    | split

theorem execTcRun_frames (d : Fin 4) (k : Fin 11) (s : State) :
    FramesOut 0x8000000000 s (execTcRun d k s) := by
  unfold execTcRun
  repeat' first
    | with_reducible assumption
    | with_reducible exact Frames.refl _ _
    | with_reducible apply FramesOut.next
    | with_reducible apply Frames.ite
    | with_reducible apply FramesOut.ite
    | ((with_reducible apply Frames.put); exact rfl)
    | split

theorem State.tcStopWrite_frames (s : State) (d : Fin 4) (k : Fin 11) :
    Frames 0x8000000000 s (State.tcStopWrite s d k) := by
  unfold State.tcStopWrite
  repeat' first
    | with_reducible assumption
    | with_reducible exact Frames.refl _ _
    | with_reducible apply Frames.ite
    | ((with_reducible apply Frames.put); exact rfl)
    | split

theorem execTcStop_frames (d : Fin 4) (k : Fin 11) (s : State) :
    FramesOut 0x8000000000 s (execTcStop d k s) := by
  unfold execTcStop
  repeat' first
    | with_reducible assumption
    | with_reducible exact Frames.refl _ _
    | with_reducible apply FramesOut.next
    | with_reducible apply Frames.ite
    | with_reducible apply FramesOut.ite
    | ((with_reducible apply Frames.step (State.tcStopWrite_frames ..)); exact rfl)
    | split

theorem execTcStopDone_frames (d : Fin 4) (k : Fin 11) (s : State) :
    FramesOut 0x8000000000 s (execTcStopDone d k s) := by
  unfold execTcStopDone
  repeat' first
    | with_reducible assumption
    | with_reducible exact Frames.refl _ _
    | with_reducible apply FramesOut.next
    | with_reducible apply Frames.ite
    | with_reducible apply FramesOut.ite
    | ((with_reducible apply Frames.put); exact rfl)
    | split

theorem State.tcLimit_frames (s : State) (d : Fin 4) (k : Fin 11) (v : Nat) :
    Frames 0x8000000000 s (State.tcLimit s d k v) := by
  unfold State.tcLimit
  repeat' first
    | with_reducible assumption
    | with_reducible exact Frames.refl _ _
    | with_reducible apply Frames.ite
    | ((with_reducible apply Frames.put); exact rfl)
    | split

theorem execTcProgLimitAdvance_frames (d : Fin 4) (k : Fin 11) (index : BitVec 16) (s : State) :
    FramesOut 0x8000000000 s (execTcProgLimitAdvance d k index s) := by
  unfold execTcProgLimitAdvance
  repeat' first
    | with_reducible assumption
    | with_reducible exact Frames.refl _ _
    | with_reducible apply FramesOut.next
    | with_reducible apply Frames.ite
    | with_reducible apply FramesOut.ite
    | ((with_reducible apply Frames.step (State.tcLimit_frames ..)); exact rfl)
    | split

theorem execTcWaitTimeout_frames (d : Fin 4) (k : Fin 11) (s : State) :
    FramesOut 0xc000000800 s (execTcWaitTimeout d k s) := by
  unfold execTcWaitTimeout
  repeat' first
    | with_reducible assumption
    | with_reducible exact Frames.refl _ _
    | with_reducible apply FramesOut.next
    | with_reducible apply Frames.ite
    | with_reducible apply FramesOut.ite
    | ((with_reducible apply Frames.step (State.tcStop_frames ..)); exact rfl)
    | split

theorem execTcRemapWrite_frames (d : Fin 4) (map : BitVec 44) (s : State) :
    FramesOut 0x18020000000 s (execTcRemapWrite d map s) := by
  unfold execTcRemapWrite
  extract_lets y0 y1
  have h1 : Frames 0x18020000000 s y1 := by
    unfold y1
    repeat' first
      | with_reducible assumption
      | with_reducible exact Frames.refl _ _
      | with_reducible apply FramesOut.next
      | with_reducible apply Frames.ite
      | with_reducible apply FramesOut.ite
      | ((with_reducible apply Frames.step (State.remapIds_frames ..)); exact rfl)
      | ((with_reducible apply Frames.put); exact rfl)
      | dsimp only
      | split
  repeat' first
    | with_reducible assumption
    | with_reducible exact Frames.refl _ _
    | with_reducible apply FramesOut.next
    | with_reducible apply Frames.ite
    | with_reducible apply FramesOut.ite
    | ((with_reducible apply Frames.step (State.setShape_frames ..)); exact rfl)
    | ((with_reducible apply Frames.put); exact rfl)
    | dsimp only
    | split

end Sys2Proof.Machine
end

