-- ==== Sys2Proof/Laws/FramesTensorKv.lean ====
section
/-! SUPPORT. What the definitions of Machine/TensorKv.lean can change: one lemma for each that answers a state. -/

namespace Sys2Proof.Machine

theorem State.putPageRow_frames (s : State) (d : Fin 4) (k : Fin 11) (a : Nat) (fp8 : Bool) (head : Nat) (tok : Nat) (value : Bool) (xs : List Nat) :
    Frames 0x100000010801 s (State.putPageRow s d k a fp8 head tok value xs) := by
  unfold State.putPageRow
  extract_lets y0 y1
  try clear_value y0
  repeat' first
    | with_reducible assumption
    | with_reducible exact Frames.refl _ _
    | with_reducible apply Frames.ite
    | ((with_reducible apply Frames.step (State.writeMem_frames ..)); exact rfl)
    | dsimp only
    | split

theorem State.pageFrame_frames (s : State) (n : Nat) :
    Frames 0x100200008 s (State.pageFrame s n).2 := by
  unfold State.pageFrame
  repeat' first
    | with_reducible assumption
    | with_reducible exact Frames.refl _ _
    | with_reducible apply Frames.ite
    | ((with_reducible apply Frames.step (State.kvAlloc_frames ..)); exact rfl)
    | ((with_reducible apply Frames.step (State.kvTake_frames ..)); exact rfl)
    | ((with_reducible apply Frames.step (State.setKv_frames ..)); exact rfl)
    | dsimp only
    | split

theorem State.startPage_frames (s : State) (d : Fin 4) (k : Fin 11) (n : Nat) (l : Nat) (p : Nat) (fp8 : Bool) :
    Frames 0x100100210809 s (State.startPage s d k n l p fp8) := by
  unfold State.startPage
  extract_lets y0 y1 y2 y3 y4
  have h0 : Frames 0x100100210809 s y0.2 := by
    unfold y0
    repeat' first
      | with_reducible assumption
      | with_reducible exact Frames.refl _ _
      | with_reducible apply Frames.ite
      | ((with_reducible apply Frames.step (State.pageFrame_frames ..)); exact rfl)
      | dsimp only
      | split
  have h4 : Frames 0x100100210809 s y4 := by
    unfold y4
    repeat' first
      | with_reducible assumption
      | with_reducible exact Frames.refl _ _
      | with_reducible apply Frames.ite
      | ((with_reducible apply Frames.step (State.setPte_frames ..)); exact rfl)
      | dsimp only
      | split
  repeat' first
    | with_reducible assumption
    | with_reducible exact Frames.refl _ _
    | with_reducible apply Frames.ite
    | ((with_reducible apply Frames.step (State.writeMem_frames ..)); exact rfl)
    | dsimp only
    | split

theorem State.fillPage_frames (s : State) (d : Fin 4) (k : Fin 11) (pc : Nat) (n : Nat) (l : Nat) (p : Nat) :
    Frames 0x108000010801 s (State.fillPage s d k pc n l p) := by
  unfold State.fillPage
  extract_lets y0 y1 y2 y3 y4 y5 y6
  have h4 : Frames 0x108000010801 s y4 := by
    unfold y4
    repeat' first
      | with_reducible assumption
      | with_reducible exact Frames.refl _ _
      | with_reducible apply Frames.ite
      | ((with_reducible apply Frames.step (State.tcNfIf_frames ..)); exact rfl)
      | dsimp only
      | split
  have h5 : Frames 0x108000010801 s y5 := by
    unfold y5
    repeat' first
      | with_reducible assumption
      | with_reducible exact Frames.refl _ _
      | with_reducible apply Frames.ite
      | ((with_reducible apply Frames.foldl); intro _ _)
      | ((with_reducible apply Frames.foldlSnd); intro _ _)
      | ((with_reducible apply Frames.step (State.writeMem_frames ..)); exact rfl)
      | dsimp only
      | split
  repeat' first
    | with_reducible assumption
    | with_reducible exact Frames.refl _ _
    | with_reducible apply Frames.ite
    | ((with_reducible apply Frames.step (State.setPte_frames ..)); exact rfl)
    | ((with_reducible apply Frames.step (State.writeMem_frames ..)); exact rfl)
    | dsimp only
    | split

theorem State.appendRow_frames (s : State) (d : Fin 4) (k : Fin 11) (pc : Nat) (q : KvSlot) (fp8 : Bool) (pos : Nat) (keys : List Nat) (vals : List Nat) :
    Frames 0x108100210809 s (State.appendRow s d k pc q fp8 pos keys vals) := by
  unfold State.appendRow
  extract_lets y0 y1 y2 y3 y4 y5 y6 y7
  have h2 : Frames 0x108100210809 s y2 := by
    unfold y2
    repeat' first
      | with_reducible assumption
      | with_reducible exact Frames.refl _ _
      | with_reducible apply Frames.ite
      | ((with_reducible apply Frames.step (State.startPage_frames ..)); exact rfl)
      | dsimp only
      | split
  have h6 : Frames 0x108100210809 s y6 := by
    unfold y6
    repeat' first
      | with_reducible assumption
      | with_reducible exact Frames.refl _ _
      | with_reducible apply Frames.ite
      | ((with_reducible apply Frames.foldl); intro _ _)
      | ((with_reducible apply Frames.foldlSnd); intro _ _)
      | ((with_reducible apply Frames.step (State.putPageRow_frames ..)); exact rfl)
      | dsimp only
      | split
  have h7 : Frames 0x108100210809 s y7 := by
    unfold y7
    repeat' first
      | with_reducible assumption
      | with_reducible exact Frames.refl _ _
      | with_reducible apply Frames.ite
      | ((with_reducible apply Frames.step (State.writeMem_frames ..)); exact rfl)
      | dsimp only
      | split
  repeat' first
    | with_reducible assumption
    | with_reducible exact Frames.refl _ _
    | with_reducible apply Frames.ite
    | ((with_reducible apply Frames.step (State.fillPage_frames ..)); exact rfl)
    | dsimp only
    | split

theorem State.appendRows_frames (d : Fin 4) (k : Fin 11) (pc : Nat) (q : KvSlot) (fp8 : Bool) (s : State) (a1 : Nat) (a2 : List (List Nat × List Nat)) :
    Frames 0x108100210809 s (State.appendRows d k pc q fp8 s a1 a2) := by
  fun_induction State.appendRows d k pc q fp8 s a1 a2
  all_goals
    repeat' first
      | with_reducible assumption
      | with_reducible exact Frames.refl _ _
      | with_reducible apply Frames.ite
      | ((with_reducible apply Frames.step (State.appendRow_frames ..)); exact rfl)
      | with_reducible refine Frames.trans ?_ (by assumption)
      | split

theorem execKvAppend_frames (d : Fin 4) (k : Fin 11) (s : State) :
    FramesOut 0x10c100610809 s (execKvAppend d k s) := by
  unfold execKvAppend
  with_reducible apply FramesOut.next
  with_reducible refine Frames.trans ?_ (State.tcIssue_frames ?_ (fun _ _ _ => ?_))
  on_goal 2 => exact rfl
  repeat' first
    | with_reducible assumption
    | with_reducible exact Frames.refl _ _
    | (fail_if_no_progress extract_lets)
    | with_reducible apply FramesOut.next
    | with_reducible apply Frames.ite
    | with_reducible apply FramesOut.ite
    | ((with_reducible apply Frames.step (State.appendRows_frames ..)); exact rfl)
    | ((with_reducible refine Frames.trans ?_ (Frames.mono (State.foreignHit_frames (by assumption)) ?_)); on_goal 2 => exact rfl)
    | ((with_reducible apply Frames.step (State.readRanges_frames ..)); exact rfl)
    | ((with_reducible apply Frames.step (State.tcBadRead_frames ..)); exact rfl)
    | ((with_reducible apply Frames.step (State.tcNfIf_frames ..)); exact rfl)
    | ((with_reducible apply Frames.step (State.tcStart_frames ..)); exact rfl)
    | ((with_reducible apply Frames.step (State.tcStop_frames ..)); exact rfl)
    | with_reducible apply Frames.iteSnd
    | with_reducible apply Frames.iteSnd2
    | with_reducible apply Frames.iteFst
    | split

theorem execKvSelect_frames (d : Fin 4) (k : Fin 11) (s : State) :
    FramesOut 0x10c000410809 s (execKvSelect d k s) := by
  unfold execKvSelect
  with_reducible apply FramesOut.next
  with_reducible refine Frames.trans ?_ (State.tcIssue_frames ?_ (fun _ _ _ => ?_))
  on_goal 2 => exact rfl
  repeat' first
    | with_reducible assumption
    | with_reducible exact Frames.refl _ _
    | (fail_if_no_progress extract_lets)
    | with_reducible apply FramesOut.next
    | with_reducible apply Frames.ite
    | with_reducible apply FramesOut.ite
    | ((with_reducible apply Frames.foldl); intro _ _)
    | ((with_reducible apply Frames.foldlSnd); intro _ _)
    | ((with_reducible refine Frames.trans ?_ (Frames.mono (State.foreignHit_frames (by assumption)) ?_)); on_goal 2 => exact rfl)
    | ((with_reducible apply Frames.step (State.readTile_frames ..)); exact rfl)
    | ((with_reducible apply Frames.step (State.readU32s_frames ..)); exact rfl)
    | ((with_reducible apply Frames.step (State.tcBadRead_frames ..)); exact rfl)
    | ((with_reducible apply Frames.step (State.tcNfIf_frames ..)); exact rfl)
    | ((with_reducible apply Frames.step (State.tcStart_frames ..)); exact rfl)
    | ((with_reducible apply Frames.step (State.tcStop_frames ..)); exact rfl)
    | ((with_reducible apply Frames.step (State.writeMem_frames ..)); exact rfl)
    | with_reducible apply Frames.iteSnd
    | with_reducible apply Frames.iteSnd2
    | with_reducible apply Frames.iteFst
    | split

theorem State.feederStop_frames (s : State) (d : Fin 4) (k : Fin 11) (code : Nat) (pc : Nat) (slot : Nat) (addr : Nat) (n : Nat) (l : Nat) (p : Nat) :
    Frames 0x10c300298809 s (State.feederStop s d k code pc slot addr n l p) := by
  unfold State.feederStop
  extract_lets y0
  have h0 : Frames 0x10c300298809 s y0 := by
    unfold y0
    repeat' first
      | with_reducible assumption
      | with_reducible exact Frames.refl _ _
      | with_reducible apply Frames.ite
      | ((with_reducible apply Frames.step (State.tcStop_frames ..)); exact rfl)
      | dsimp only
      | split
  repeat' first
    | with_reducible assumption
    | with_reducible exact Frames.refl _ _
    | with_reducible apply Frames.ite
    | ((with_reducible apply Frames.step (State.kvCancel_frames ..)); exact rfl)
    | ((with_reducible apply Frames.step (State.kvProgress_frames ..)); exact rfl)
    | split

theorem State.feederRecord_frames (s : State) (d : Fin 4) (k : Fin 11) (pc : Nat) (slot : Nat) (n : Nat) (l : Nat) (x : Nat × Nat) :
    Frames 0x8000000800 s (State.feederRecord s d k pc slot n l x) := by
  unfold State.feederRecord
  repeat' first
    | with_reducible assumption
    | with_reducible exact Frames.refl _ _
    | with_reducible apply Frames.ite
    | ((with_reducible apply Frames.step (State.tcNf_frames ..)); exact rfl)
    | ((with_reducible apply Frames.step (State.tcRecord_frames ..)); exact rfl)
    | ((with_reducible apply Frames.step (State.ucc_frames ..)); exact rfl)
    | split

theorem State.feederBad_frames (s : State) (d : Fin 4) (k : Fin 11) (pc : Nat) (slot : Nat) (h : Nat) (n : Nat) (l : Nat) (pages : List Nat) :
    Frames 0x10c300298809 s (State.feederBad s d k pc slot h n l pages) := by
  unfold State.feederBad
  extract_lets y0 y1
  try clear_value y0
  have h1 : Frames 0x10c300298809 s y1 := by
    unfold y1
    repeat' first
      | with_reducible assumption
      | with_reducible exact Frames.refl _ _
      | with_reducible apply Frames.ite
      | ((with_reducible apply Frames.foldl); intro _ _)
      | ((with_reducible apply Frames.foldlSnd); intro _ _)
      | ((with_reducible apply Frames.step (State.feederRecord_frames ..)); exact rfl)
      | dsimp only
      | split
  repeat' first
    | with_reducible assumption
    | with_reducible exact Frames.refl _ _
    | with_reducible apply Frames.ite
    | ((with_reducible apply Frames.step (State.kvCancel_frames ..)); exact rfl)
    | ((with_reducible apply Frames.step (State.kvProgress_frames ..)); exact rfl)
    | dsimp only
    | split

theorem State.feederStalls_frames (s : State) (d : Fin 4) (k : Fin 11) (n : Nat) (l : Nat) (pages : List Nat) :
    Frames 0x10000 s (State.feederStalls s d k n l pages) := by
  unfold State.feederStalls
  repeat' first
    | with_reducible assumption
    | with_reducible exact Frames.refl _ _
    | with_reducible apply Frames.ite
    | ((with_reducible apply Frames.step (State.stallBursts_frames ..)); exact rfl)
    | split

theorem execKvAttn_frames (d : Fin 4) (k : Fin 11) (s : State) :
    FramesOut 0x10c300698809 s (execKvAttn d k s) := by
  unfold execKvAttn
  with_reducible apply FramesOut.next
  with_reducible refine Frames.trans ?_ (State.tcIssue_frames ?_ (fun _ _ _ => ?_))
  on_goal 2 => exact rfl
  repeat' first
    | with_reducible assumption
    | with_reducible exact Frames.refl _ _
    | (fail_if_no_progress extract_lets)
    | with_reducible apply FramesOut.next
    | with_reducible apply Frames.ite
    | with_reducible apply FramesOut.ite
    | ((with_reducible apply Frames.foldl); intro _ _)
    | ((with_reducible apply Frames.foldlSnd); intro _ _)
    | ((with_reducible apply Frames.step (State.feederBad_frames ..)); exact rfl)
    | ((with_reducible apply Frames.step (State.feederStalls_frames ..)); exact rfl)
    | ((with_reducible apply Frames.step (State.feederStop_frames ..)); exact rfl)
    | ((with_reducible refine Frames.trans ?_ (Frames.mono (State.foreignHit_frames (by assumption)) ?_)); on_goal 2 => exact rfl)
    | ((with_reducible apply Frames.step (State.readTile_frames ..)); exact rfl)
    | ((with_reducible apply Frames.step (State.readU32s_frames ..)); exact rfl)
    | ((with_reducible apply Frames.step (State.tcBadRead_frames ..)); exact rfl)
    | ((with_reducible apply Frames.step (State.tcNfIf_frames ..)); exact rfl)
    | ((with_reducible apply Frames.step (State.tcStart_frames ..)); exact rfl)
    | ((with_reducible apply Frames.step (State.tcStop_frames ..)); exact rfl)
    | ((with_reducible apply Frames.step (State.writeMem_frames ..)); exact rfl)
    | ((with_reducible apply Frames.step (State.writeRuns_frames ..)); exact rfl)
    | with_reducible apply Frames.iteSnd
    | with_reducible apply Frames.iteSnd2
    | with_reducible apply Frames.iteFst
    | split

theorem execKvAttnBwd_frames (d : Fin 4) (k : Fin 11) (s : State) :
    FramesOut 0x10c300698809 s (execKvAttnBwd d k s) := by
  unfold execKvAttnBwd
  with_reducible apply FramesOut.next
  with_reducible refine Frames.trans ?_ (State.tcIssue_frames ?_ (fun _ _ _ => ?_))
  on_goal 2 => exact rfl
  repeat' first
    | with_reducible assumption
    | with_reducible exact Frames.refl _ _
    | (fail_if_no_progress extract_lets)
    | with_reducible apply FramesOut.next
    | with_reducible apply Frames.ite
    | with_reducible apply FramesOut.ite
    | ((with_reducible apply Frames.step (State.feederBad_frames ..)); exact rfl)
    | ((with_reducible apply Frames.step (State.feederStalls_frames ..)); exact rfl)
    | ((with_reducible apply Frames.step (State.feederStop_frames ..)); exact rfl)
    | ((with_reducible refine Frames.trans ?_ (Frames.mono (State.foreignHit_frames (by assumption)) ?_)); on_goal 2 => exact rfl)
    | ((with_reducible apply Frames.step (State.readTile_frames ..)); exact rfl)
    | ((with_reducible apply Frames.step (State.readU32s_frames ..)); exact rfl)
    | ((with_reducible apply Frames.step (State.tcBadRead_frames ..)); exact rfl)
    | ((with_reducible apply Frames.step (State.tcNfIf_frames ..)); exact rfl)
    | ((with_reducible apply Frames.step (State.tcStart_frames ..)); exact rfl)
    | ((with_reducible apply Frames.step (State.tcStop_frames ..)); exact rfl)
    | ((with_reducible apply Frames.step (State.writeRuns_frames ..)); exact rfl)
    | with_reducible apply Frames.iteSnd
    | with_reducible apply Frames.iteSnd2
    | with_reducible apply Frames.iteFst
    | split

theorem execKvMove_frames (d : Fin 4) (k : Fin 11) (s : State) :
    FramesOut 0x10c300698809 s (execKvMove d k s) := by
  unfold execKvMove
  with_reducible apply FramesOut.next
  with_reducible refine Frames.trans ?_ (State.tcIssue_frames ?_ (fun _ _ _ => ?_))
  on_goal 2 => exact rfl
  repeat' first
    | with_reducible assumption
    | with_reducible exact Frames.refl _ _
    | (fail_if_no_progress extract_lets)
    | with_reducible apply FramesOut.next
    | with_reducible apply Frames.ite
    | with_reducible apply FramesOut.ite
    | ((with_reducible apply Frames.step (State.kvProgress_frames ..)); exact rfl)
    | ((with_reducible apply Frames.step (State.setKv_frames ..)); exact rfl)
    | ((with_reducible apply Frames.step (State.tcStart_frames ..)); exact rfl)
    | ((with_reducible apply Frames.step (State.tcStop_frames ..)); exact rfl)
    | split

theorem State.appendDone_frames (s : State) (op : TcOp) :
    Frames 0x100000010801 s (State.appendDone s op) := by
  unfold State.appendDone
  extract_lets y0
  repeat' first
    | with_reducible assumption
    | with_reducible exact Frames.refl _ _
    | with_reducible apply Frames.ite
    | ((with_reducible apply Frames.step (State.seqPut_frames ..)); exact rfl)
    | dsimp only
    | split

theorem State.tcFinish_frames (s : State) (d : Fin 4) (k : Fin 11) (op : TcOp) :
    Frames 0x8000400000 s (State.tcFinish s d k op) := by
  unfold State.tcFinish
  extract_lets y0 y1
  repeat' first
    | with_reducible assumption
    | with_reducible exact Frames.refl _ _
    | with_reducible apply Frames.ite
    | ((with_reducible apply Frames.step (State.setTcCore_frames ..)); exact rfl)
    | ((with_reducible apply Frames.put); exact rfl)
    | dsimp only
    | split

theorem execTcOpComplete_frames (d : Fin 4) (k : Fin 11) (pc : BitVec 16) (s : State) :
    FramesOut 0x108000410801 s (execTcOpComplete d k pc s) := by
  unfold execTcOpComplete
  repeat' first
    | with_reducible assumption
    | with_reducible exact Frames.refl _ _
    | with_reducible apply FramesOut.next
    | with_reducible apply Frames.ite
    | with_reducible apply FramesOut.ite
    | ((with_reducible apply Frames.step (State.appendDone_frames ..)); exact rfl)
    | ((with_reducible apply Frames.step (State.tcFinish_frames ..)); exact rfl)
    | split

end Sys2Proof.Machine
end

