-- ==== Sys2Proof/Laws/FramesTraverse.lean ====
section
/-! SUPPORT. What the definitions of Machine/Traverse.lean can change: one lemma for each that answers a state. -/

namespace Sys2Proof.Machine

theorem State.trvRecord_frames (s : State) (d : Fin 4) (j : Fin 22) (code : Nat) (pc : Nat) (level : Nat) :
    Frames 0x20000000000 s (State.trvRecord s d j code pc level) := by
  unfold State.trvRecord
  repeat' first
    | with_reducible assumption
    | with_reducible exact Frames.refl _ _
    | with_reducible apply Frames.ite
    | ((with_reducible apply Frames.put); exact rfl)
    | ((with_reducible apply Frames.set); exact rfl)
    | split

theorem State.trvStop_frames (s : State) (d : Fin 4) (j : Fin 22) (code : Nat) (pc : Nat) (level : Nat) (addr : Nat) :
    Frames 0x24000000800 s (State.trvStop s d j code pc level addr) := by
  unfold State.trvStop
  extract_lets y0
  have h0 : Frames 0x24000000800 s y0 := by
    unfold y0
    repeat' first
      | with_reducible assumption
      | with_reducible exact Frames.refl _ _
      | with_reducible apply Frames.ite
      | ((with_reducible apply Frames.step (State.trvRecord_frames ..)); exact rfl)
      | ((with_reducible apply Frames.put); exact rfl)
      | dsimp only
      | split
  repeat' first
    | with_reducible assumption
    | with_reducible exact Frames.refl _ _
    | with_reducible apply Frames.ite
    | ((with_reducible apply Frames.step (State.irq_frames ..)); exact rfl)
    | ((with_reducible apply Frames.step (State.trvSync_frames ..)); exact rfl)
    | ((with_reducible apply Frames.step (State.ucc_frames ..)); exact rfl)
    | split

theorem State.setTrvRuns_frames (s : State) (d : Fin 4) (j : Fin 22) (l : List TrvRun) :
    Frames 0x20000800000 s (State.setTrvRuns s d j l) := by
  unfold State.setTrvRuns
  extract_lets y0 y1
  have h0 : Frames 0x20000800000 s y0 := by
    unfold y0
    repeat' first
      | with_reducible assumption
      | with_reducible exact Frames.refl _ _
      | with_reducible apply Frames.ite
      | ((with_reducible apply Frames.set); exact rfl)
      | (fail_if_no_progress ((with_reducible apply Frames.trv); exact rfl))
      | dsimp only
      | split
  repeat' first
    | with_reducible assumption
    | with_reducible exact Frames.refl _ _
    | with_reducible apply Frames.ite
    | ((with_reducible apply Frames.put); exact rfl)
    | dsimp only
    | split

theorem State.trvFail_frames (s : State) (d : Fin 4) (j : Fin 22) (code : Nat) (pc : Nat) (level : Nat) (addr : Nat) :
    Frames 0x24000800800 s (State.trvFail s d j code pc level addr) := by
  unfold State.trvFail
  repeat' first
    | with_reducible assumption
    | with_reducible exact Frames.refl _ _
    | with_reducible apply Frames.ite
    | ((with_reducible apply Frames.step (State.setTrvRuns_frames ..)); exact rfl)
    | ((with_reducible apply Frames.step (State.trvStop_frames ..)); exact rfl)
    | split

theorem State.trvStops_frames (d : Fin 4) (j : Fin 22) (a0 : List TrvRun) (s : State) :
    Frames 0x24000000800 s (State.trvStops d j a0 s) := by
  fun_induction State.trvStops d j a0 s
  all_goals
    repeat' first
      | with_reducible assumption
      | with_reducible exact Frames.refl _ _
      | with_reducible apply Frames.ite
      | ((with_reducible apply Frames.step (State.trvStop_frames ..)); exact rfl)
      | with_reducible refine Frames.trans ?_ (by assumption)
      | split

theorem State.trvSettle_frames (s : State) (d : Fin 4) (j : Fin 22) (l : List TrvRun) :
    Frames 0x24000800800 s (State.trvSettle s d j l) := by
  unfold State.trvSettle
  repeat' first
    | with_reducible assumption
    | with_reducible exact Frames.refl _ _
    | with_reducible apply Frames.ite
    | ((with_reducible apply Frames.step (State.setTrvRuns_frames ..)); exact rfl)
    | ((with_reducible apply Frames.step (State.trvStops_frames ..)); exact rfl)
    | split

theorem State.trvStarted_frames (s : State) (d : Fin 4) (j : Fin 22) :
    Frames 0x20000000000 s (State.trvStarted s d j) := by
  unfold State.trvStarted
  repeat' first
    | with_reducible assumption
    | with_reducible exact Frames.refl _ _
    | with_reducible apply Frames.ite
    | ((with_reducible apply Frames.step (State.trvSync_frames ..)); exact rfl)
    | ((with_reducible apply Frames.put); exact rfl)
    | split

theorem State.trvIssue_frames {m : Nat} {s : State} {d : Fin 4} {j : Fin 22} {op : Nat} {run : TrvDesc → Nat → State → State}
    (hm : 0x24000800800 &&& m = 0x24000800800) (h : ∀ w pc t, Frames m t (run w pc t)) : Frames m s (s.trvIssue d j op run) := by
  unfold State.trvIssue
  refine Frames.ite ?_ (Frames.refl _ _)
  extract_lets w pc
  exact Frames.ite (Frames.mono (l := 0x24000800800) (Frames.mono (State.trvFail_frames ..) rfl) hm)
    (Frames.ite (Frames.refl _ _) (h _ _ _))

theorem State.trvPublish_frames (s : State) (d : Fin 4) (j : Fin 22) (w : TrvDesc) :
    Frames 0x60002000000 s (State.trvPublish s d j w) := by
  unfold State.trvPublish
  extract_lets y0
  repeat' first
    | with_reducible assumption
    | with_reducible exact Frames.refl _ _
    | with_reducible apply Frames.ite
    | ((with_reducible apply Frames.foldl); intro _ _)
    | ((with_reducible apply Frames.foldlSnd); intro _ _)
    | ((with_reducible apply Frames.step (State.fbufPublish_frames ..)); exact rfl)
    | with_reducible apply Frames.iteSnd
    | with_reducible apply Frames.iteSnd2
    | with_reducible apply Frames.iteFst
    | dsimp only
    | split

theorem State.trvDone_frames (s : State) (d : Fin 4) (j : Fin 22) (b : Bool) :
    Frames 0x24000000000 s (State.trvDone s d j b) := by
  unfold State.trvDone
  repeat' first
    | with_reducible assumption
    | with_reducible exact Frames.refl _ _
    | with_reducible apply Frames.ite
    | ((with_reducible apply Frames.step (State.irq_frames ..)); exact rfl)
    | ((with_reducible apply Frames.put); exact rfl)
    | split

theorem execTrvNop_frames (d : Fin 4) (j : Fin 22) (s : State) :
    FramesOut 0x24000800800 s (execTrvNop d j s) := by
  unfold execTrvNop
  with_reducible apply FramesOut.next
  with_reducible refine Frames.trans ?_ (State.trvIssue_frames ?_ (fun _ _ _ => ?_))
  on_goal 2 => exact rfl
  repeat' first
    | with_reducible assumption
    | with_reducible exact Frames.refl _ _
    | with_reducible apply FramesOut.next
    | with_reducible apply Frames.ite
    | with_reducible apply FramesOut.ite
    | ((with_reducible apply Frames.step (State.setTrvRuns_frames ..)); exact rfl)
    | ((with_reducible apply Frames.step (State.trvFail_frames ..)); exact rfl)
    | ((with_reducible apply Frames.step (State.trvStarted_frames ..)); exact rfl)
    | split

theorem execTrvFence_frames (d : Fin 4) (j : Fin 22) (s : State) :
    FramesOut 0x64002800800 s (execTrvFence d j s) := by
  unfold execTrvFence
  with_reducible apply FramesOut.next
  with_reducible refine Frames.trans ?_ (State.trvIssue_frames ?_ (fun _ _ _ => ?_))
  on_goal 2 => exact rfl
  repeat' first
    | with_reducible assumption
    | with_reducible exact Frames.refl _ _
    | with_reducible apply FramesOut.next
    | with_reducible apply Frames.ite
    | with_reducible apply FramesOut.ite
    | ((with_reducible apply Frames.step (State.trvDone_frames ..)); exact rfl)
    | ((with_reducible apply Frames.step (State.trvFail_frames ..)); exact rfl)
    | ((with_reducible apply Frames.step (State.trvPublish_frames ..)); exact rfl)
    | ((with_reducible apply Frames.step (State.trvStarted_frames ..)); exact rfl)
    | split

theorem execTrvHalt_frames (d : Fin 4) (j : Fin 22) (s : State) :
    FramesOut 0x64002800800 s (execTrvHalt d j s) := by
  unfold execTrvHalt
  with_reducible apply FramesOut.next
  with_reducible refine Frames.trans ?_ (State.trvIssue_frames ?_ (fun _ _ _ => ?_))
  on_goal 2 => exact rfl
  repeat' first
    | with_reducible assumption
    | with_reducible exact Frames.refl _ _
    | with_reducible apply FramesOut.next
    | with_reducible apply Frames.ite
    | with_reducible apply FramesOut.ite
    | ((with_reducible apply Frames.step (State.trvDone_frames ..)); exact rfl)
    | ((with_reducible apply Frames.step (State.trvFail_frames ..)); exact rfl)
    | ((with_reducible apply Frames.step (State.trvPublish_frames ..)); exact rfl)
    | ((with_reducible apply Frames.step (State.trvStarted_frames ..)); exact rfl)
    | ((with_reducible apply Frames.step (State.trvSync_frames ..)); exact rfl)
    | ((with_reducible apply Frames.put); exact rfl)
    | split

theorem State.startMove_frames (d : Fin 4) (j : Fin 22) (w : TrvDesc) (pc : Nat) (t : State) :
    Frames 0x24000818800 t (State.startMove d j w pc t) := by
  unfold State.startMove
  repeat' first
    | with_reducible assumption
    | with_reducible exact Frames.refl _ _
    | with_reducible apply Frames.ite
    | ((with_reducible apply Frames.step (State.setTrvRuns_frames ..)); exact rfl)
    | ((with_reducible apply Frames.step (State.trvFail_frames ..)); exact rfl)
    | ((with_reducible apply Frames.step (State.trvStarted_frames ..)); exact rfl)
    | (fail_if_no_progress ((with_reducible apply Frames.pcie_tiers); exact rfl; exact rfl))
    | dsimp only
    | split

theorem execCopy_frames (d : Fin 4) (j : Fin 22) (s : State) :
    FramesOut 0x24000818800 s (execCopy d j s) := by
  unfold execCopy
  with_reducible apply FramesOut.next
  with_reducible refine Frames.trans ?_ (State.trvIssue_frames ?_ (fun _ _ _ => ?_))
  on_goal 2 => exact rfl
  repeat' first
    | with_reducible assumption
    | with_reducible exact Frames.refl _ _
    | with_reducible apply FramesOut.next
    | with_reducible apply Frames.ite
    | with_reducible apply FramesOut.ite
    | ((with_reducible apply Frames.step (State.startMove_frames ..)); exact rfl)
    | split

theorem execFill_frames (d : Fin 4) (j : Fin 22) (s : State) :
    FramesOut 0x24000818800 s (execFill d j s) := by
  unfold execFill
  with_reducible apply FramesOut.next
  with_reducible refine Frames.trans ?_ (State.trvIssue_frames ?_ (fun _ _ _ => ?_))
  on_goal 2 => exact rfl
  repeat' first
    | with_reducible assumption
    | with_reducible exact Frames.refl _ _
    | with_reducible apply FramesOut.next
    | with_reducible apply Frames.ite
    | with_reducible apply FramesOut.ite
    | ((with_reducible apply Frames.step (State.startMove_frames ..)); exact rfl)
    | split

theorem State.runRead_frames (d : Fin 4) (j : Fin 22) (a0 : Nat) (s : State) (a2 : Nat) (a3 : Nat) (a4 : MoveOut) :
    Frames 0x100000000808 s (State.runRead d j a0 s a2 a3 a4).2.2 := by
  fun_induction State.runRead d j a0 s a2 a3 a4
  all_goals
    repeat' first
      | with_reducible assumption
      | with_reducible exact Frames.refl _ _
      | with_reducible apply Frames.ite
      | with_reducible apply Frames.iteSnd
      | with_reducible apply Frames.iteSnd2
      | with_reducible apply Frames.iteFst
      | ((with_reducible apply Frames.step (State.readBlock_frames ..)); exact rfl)
      | with_reducible refine Frames.trans ?_ (by assumption)
      | dsimp only
      | split

theorem State.moveReads_frames (d : Fin 4) (j : Fin 22) (w : TrvDesc) (n : Nat) (a0 : List (Int × Int)) (s : State) (a2 : MoveOut) :
    Frames 0x100000000808 s (State.moveReads d j w n a0 s a2).2.2 := by
  fun_induction State.moveReads d j w n a0 s a2
  all_goals
    repeat' first
      | with_reducible assumption
      | with_reducible exact Frames.refl _ _
      | with_reducible apply Frames.ite
      | with_reducible apply Frames.iteSnd
      | with_reducible apply Frames.iteSnd2
      | with_reducible apply Frames.iteFst
      | with_reducible refine Frames.trans ?_ (by assumption)
      | ((with_reducible apply Frames.step (State.runRead_frames ..)); exact rfl)
      | dsimp only
      | split

theorem State.mixReads_frames (w : TrvDesc) (a0 : List (Int × Int)) (a1 : List (List Byte)) (a2 : List (List Byte)) (s : State) :
    Frames 0x8 s (State.mixReads w a0 a1 a2 s).2 := by
  fun_induction State.mixReads w a0 a1 a2 s
  all_goals
    repeat' first
      | with_reducible assumption
      | with_reducible exact Frames.refl _ _
      | with_reducible apply Frames.ite
      | with_reducible refine Frames.trans ?_ (by assumption)
      | ((with_reducible apply Frames.step (State.tookFrees_frames ..)); exact rfl)
      | dsimp only
      | split

theorem State.moveOut_frames (d : Fin 4) (j : Fin 22) (a0 : List (Nat × List Byte)) (s : State) :
    Frames 0x100000010801 s (State.moveOut d j a0 s) := by
  fun_induction State.moveOut d j a0 s
  all_goals
    repeat' first
      | with_reducible assumption
      | with_reducible exact Frames.refl _ _
      | with_reducible apply Frames.ite
      | with_reducible refine Frames.trans ?_ (by assumption)
      | ((with_reducible apply Frames.step (State.writeMem_frames ..)); exact rfl)
      | split

theorem State.scatter_frames (d : Fin 4) (j : Fin 22) (a0 : List (Nat × Byte)) (s : State) :
    Frames 0x120000010809 s (State.scatter d j a0 s) := by
  fun_induction State.scatter d j a0 s
  all_goals
    repeat' first
      | with_reducible assumption
      | with_reducible exact Frames.refl _ _
      | with_reducible apply Frames.ite
      | with_reducible apply Frames.iteSnd
      | with_reducible apply Frames.iteSnd2
      | with_reducible apply Frames.iteFst
      | with_reducible refine Frames.trans ?_ (by assumption)
      | ((with_reducible apply Frames.step (State.tookFree_frames ..)); exact rfl)
      | ((with_reducible apply Frames.step (State.writeMem_frames ..)); exact rfl)
      | ((with_reducible apply Frames.addf); exact rfl)
      | dsimp only
      | split

theorem State.trvLimitWrite_frames (s : State) (d : Fin 4) (j : Fin 22) (v : Nat) :
    Frames 0x20000000000 s (State.trvLimitWrite s d j v) := by
  unfold State.trvLimitWrite
  repeat' first
    | with_reducible assumption
    | with_reducible exact Frames.refl _ _
    | with_reducible apply Frames.ite
    | ((with_reducible apply Frames.step (State.trvSync_frames ..)); exact rfl)
    | ((with_reducible apply Frames.put); exact rfl)
    | split

theorem State.targetWrite_frames (s : State) (a : Nat) (v : Nat) :
    Frames 0x28000000000 s (State.targetWrite s a v) := by
  unfold State.targetWrite
  repeat' first
    | with_reducible assumption
    | with_reducible exact Frames.refl _ _
    | with_reducible apply Frames.ite
    | ((with_reducible apply Frames.step (State.tcLimit_frames ..)); exact rfl)
    | ((with_reducible apply Frames.step (State.trvLimitWrite_frames ..)); exact rfl)
    | ((with_reducible apply Frames.set); exact rfl)
    | split

theorem State.targetRuns_frames (s : State) (t : TrvTarget) (rs : List (Nat × List Byte)) :
    Frames 0x128000020000 s (State.targetRuns s t rs) := by
  unfold State.targetRuns
  repeat' first
    | with_reducible assumption
    | with_reducible exact Frames.refl _ _
    | with_reducible apply Frames.ite
    | ((with_reducible apply Frames.foldl); intro _ _)
    | ((with_reducible apply Frames.foldlSnd); intro _ _)
    | ((with_reducible apply Frames.step (State.targetWrite_frames ..)); exact rfl)
    | ((with_reducible apply Frames.step (State.writeGives_frames ..)); exact rfl)
    | with_reducible apply Frames.iteSnd
    | with_reducible apply Frames.iteSnd2
    | with_reducible apply Frames.iteFst
    | split

theorem State.countBytes_frames (s : State) (d : Fin 4) (j : Fin 22) (rs : List (Nat × List Byte)) :
    Frames 0x20000000000 s (State.countBytes s d j rs) := by
  unfold State.countBytes
  repeat' first
    | with_reducible assumption
    | with_reducible exact Frames.refl _ _
    | with_reducible apply Frames.ite
    | ((with_reducible apply Frames.addf); exact rfl)
    | split

theorem State.foreignWrite_frames (s : State) (j : Fin 22) (a : Nat) :
    Frames 0x100000000000 s (State.foreignWrite s j a) := by
  unfold State.foreignWrite
  repeat' first
    | with_reducible assumption
    | with_reducible exact Frames.refl _ _
    | with_reducible apply Frames.ite
    | ((with_reducible apply Frames.step (State.ledgeViolation_frames ..)); exact rfl)
    | split

theorem State.finishWrites_frames (s : State) (d : Fin 4) (j : Fin 22) (w : TrvDesc) (outs : List (Nat × List Byte)) (failed : Bool) :
    Frames 0x128000030809 s (State.finishWrites s d j w outs failed).1 := by
  unfold State.finishWrites
  extract_lets y0
  try clear_value y0
  repeat' first
    | with_reducible assumption
    | with_reducible exact Frames.refl _ _
    | with_reducible apply Frames.ite
    | with_reducible apply Frames.iteSnd
    | with_reducible apply Frames.iteSnd2
    | with_reducible apply Frames.iteFst
    | ((with_reducible apply Frames.step (State.countBytes_frames ..)); exact rfl)
    | ((with_reducible apply Frames.step (State.foreignWrite_frames ..)); exact rfl)
    | ((with_reducible apply Frames.step (State.moveOut_frames ..)); exact rfl)
    | ((with_reducible apply Frames.step (State.scatter_frames ..)); exact rfl)
    | ((with_reducible apply Frames.step (State.targetRuns_frames ..)); exact rfl)
    | dsimp only
    | split

theorem State.finishMove_frames (s : State) (d : Fin 4) (j : Fin 22) (r : TrvRun) :
    Frames 0x128000030809 s (State.finishMove s d j r).1 := by
  unfold State.finishMove
  extract_lets y0 y1 y2 y3 y4 y5 y6 y7
  try clear_value y2
  try clear_value y3
  have h4 : Frames 0x128000030809 s y4.2.2 := by
    unfold y4
    repeat' first
      | with_reducible assumption
      | with_reducible exact Frames.refl _ _
      | with_reducible apply Frames.ite
      | ((with_reducible apply Frames.step (State.moveReads_frames ..)); exact rfl)
      | dsimp only
      | split
  have h5 : Frames 0x128000030809 s y5.2 := by
    unfold y5
    repeat' first
      | with_reducible assumption
      | with_reducible exact Frames.refl _ _
      | with_reducible apply Frames.ite
      | ((with_reducible apply Frames.step (State.mixReads_frames ..)); exact rfl)
      | dsimp only
      | split
  have h6 : Frames 0x128000030809 s y6 := by
    unfold y6
    repeat' first
      | with_reducible assumption
      | with_reducible exact Frames.refl _ _
      | with_reducible apply Frames.ite
      | with_reducible apply Frames.iteSnd
      | with_reducible apply Frames.iteSnd2
      | with_reducible apply Frames.iteFst
      | ((with_reducible apply Frames.step (State.trvRecord_frames ..)); exact rfl)
      | dsimp only
      | split
  try clear_value y7
  repeat' first
    | with_reducible assumption
    | with_reducible exact Frames.refl _ _
    | with_reducible apply Frames.ite
    | with_reducible apply Frames.iteSnd
    | with_reducible apply Frames.iteSnd2
    | with_reducible apply Frames.iteFst
    | ((with_reducible apply Frames.step (State.finishWrites_frames ..)); exact rfl)
    | ((with_reducible apply Frames.step (State.scatter_frames ..)); exact rfl)
    | dsimp only
    | split

theorem execTrvDescComplete_frames (d : Fin 4) (j : Fin 22) (s : State) :
    FramesOut 0x16c002838809 s (execTrvDescComplete d j s) := by
  unfold execTrvDescComplete
  extract_lets y0
  repeat' first
    | with_reducible assumption
    | with_reducible exact Frames.refl _ _
    | with_reducible apply FramesOut.next
    | with_reducible apply Frames.ite
    | with_reducible apply FramesOut.ite
    | ((with_reducible apply Frames.step (State.finishMove_frames ..)); exact rfl)
    | ((with_reducible apply Frames.step (State.hostSettled_frames ..)); exact rfl)
    | ((with_reducible apply Frames.step (State.trvDone_frames ..)); exact rfl)
    | ((with_reducible apply Frames.step (State.trvPublish_frames ..)); exact rfl)
    | ((with_reducible apply Frames.step (State.trvSettle_frames ..)); exact rfl)
    | with_reducible apply Frames.iteSnd
    | with_reducible apply Frames.iteSnd2
    | with_reducible apply Frames.iteFst
    | dsimp only
    | split

theorem execTrvRun_frames (d : Fin 4) (j : Fin 22) (s : State) :
    FramesOut 0x20000000000 s (execTrvRun d j s) := by
  unfold execTrvRun
  repeat' first
    | with_reducible assumption
    | with_reducible exact Frames.refl _ _
    | with_reducible apply FramesOut.next
    | with_reducible apply Frames.ite
    | with_reducible apply FramesOut.ite
    | ((with_reducible apply Frames.step (State.trvSync_frames ..)); exact rfl)
    | ((with_reducible apply Frames.put); exact rfl)
    | split

theorem State.trvStopWrite_frames (s : State) (d : Fin 4) (j : Fin 22) :
    Frames 0x20000000000 s (State.trvStopWrite s d j) := by
  unfold State.trvStopWrite
  repeat' first
    | with_reducible assumption
    | with_reducible exact Frames.refl _ _
    | with_reducible apply Frames.ite
    | ((with_reducible apply Frames.step (State.trvSync_frames ..)); exact rfl)
    | ((with_reducible apply Frames.put); exact rfl)
    | split

theorem execTrvStop_frames (d : Fin 4) (j : Fin 22) (s : State) :
    FramesOut 0x20000000000 s (execTrvStop d j s) := by
  unfold execTrvStop
  repeat' first
    | with_reducible assumption
    | with_reducible exact Frames.refl _ _
    | with_reducible apply FramesOut.next
    | with_reducible apply Frames.ite
    | with_reducible apply FramesOut.ite
    | ((with_reducible apply Frames.step (State.trvStopWrite_frames ..)); exact rfl)
    | split

theorem execTrvStopDone_frames (d : Fin 4) (j : Fin 22) (s : State) :
    FramesOut 0x20000000000 s (execTrvStopDone d j s) := by
  unfold execTrvStopDone
  repeat' first
    | with_reducible assumption
    | with_reducible exact Frames.refl _ _
    | with_reducible apply FramesOut.next
    | with_reducible apply Frames.ite
    | with_reducible apply FramesOut.ite
    | ((with_reducible apply Frames.put); exact rfl)
    | split

theorem execTrvLimitAdvance_frames (d : Fin 4) (j : Fin 22) (index : BitVec 9) (s : State) :
    FramesOut 0x20000000000 s (execTrvLimitAdvance d j index s) := by
  unfold execTrvLimitAdvance
  repeat' first
    | with_reducible assumption
    | with_reducible exact Frames.refl _ _
    | with_reducible apply FramesOut.next
    | with_reducible apply Frames.ite
    | with_reducible apply FramesOut.ite
    | ((with_reducible apply Frames.step (State.trvLimitWrite_frames ..)); exact rfl)
    | split

theorem State.trvAdvance_frames (s : State) (d : Fin 4) (j : Fin 22) :
    Frames 0x20000000000 s (State.trvAdvance s d j) := by
  unfold State.trvAdvance
  repeat' first
    | with_reducible assumption
    | with_reducible exact Frames.refl _ _
    | with_reducible apply Frames.ite
    | ((with_reducible apply Frames.step (State.trvLimitWrite_frames ..)); exact rfl)
    | split

theorem execTrvWaitTimeout_frames (d : Fin 4) (j : Fin 22) (s : State) :
    FramesOut 0x24000800800 s (execTrvWaitTimeout d j s) := by
  unfold execTrvWaitTimeout
  repeat' first
    | with_reducible assumption
    | with_reducible exact Frames.refl _ _
    | with_reducible apply FramesOut.next
    | with_reducible apply Frames.ite
    | with_reducible apply FramesOut.ite
    | ((with_reducible apply Frames.step (State.trvFail_frames ..)); exact rfl)
    | split

end Sys2Proof.Machine
end

