-- ==== Sys2Proof/Laws/FramesMedia.lean ====
section
/-! SUPPORT. What the definitions of Machine/Media.lean can change: one lemma for each that answers a state. -/

namespace Sys2Proof.Machine

theorem State.unitWrite_frames (s : State) (r : Requester) (owner : Nat) (rows : List (Nat × List Byte)) :
    Frames 0x100000010809 s (State.unitWrite s r owner rows).2 := by
  unfold State.unitWrite
  repeat' first
    | with_reducible assumption
    | with_reducible exact Frames.refl _ _
    | with_reducible apply Frames.ite
    | ((with_reducible apply Frames.foldl); intro _ _)
    | ((with_reducible apply Frames.foldlSnd); intro _ _)
    | ((with_reducible apply Frames.step (State.ledgeViolation_frames ..)); exact rfl)
    | ((with_reducible apply Frames.step (State.tookFrees_frames ..)); exact rfl)
    | ((with_reducible apply Frames.step (State.writeMem_frames ..)); exact rfl)
    | dsimp only
    | split

theorem State.unitUndefined_frames (s : State) (r : Requester) (owner : Nat) (rows : List (Nat × List Byte)) :
    Frames 0x100000010809 s (State.unitUndefined s r owner rows) := by
  unfold State.unitUndefined
  repeat' first
    | with_reducible assumption
    | with_reducible exact Frames.refl _ _
    | with_reducible apply Frames.ite
    | ((with_reducible apply Frames.step (State.tookFrees_frames ..)); exact rfl)
    | ((with_reducible apply Frames.step (State.unitWrite_frames ..)); exact rfl)
    | split

theorem State.noteSample_frames (s : State) (sample : Nat) :
    Frames 0x100000 s (State.noteSample s sample) := by
  unfold State.noteSample
  repeat' first
    | with_reducible assumption
    | with_reducible exact Frames.refl _ _
    | with_reducible apply Frames.ite
    | (fail_if_no_progress ((with_reducible apply Frames.input); exact rfl))
    | split

theorem State.snoop_frames (s : State) (point : Nat) (tag : Nat) (bytes : List Byte) :
    Frames 0x100000 s (State.snoop s point tag bytes) := by
  unfold State.snoop
  repeat' first
    | with_reducible assumption
    | with_reducible exact Frames.refl _ _
    | with_reducible apply Frames.ite
    | (fail_if_no_progress ((with_reducible apply Frames.input); exact rfl))
    | split

theorem State.completeInput_frames (s : State) (r : Requester) (x : InputJob) (src : Fin 64) (vec : Nat) :
    Frames 0x124000018801 s (State.completeInput s r x src vec) := by
  unfold State.completeInput
  extract_lets y0 y1 y2
  have h1 : Frames 0x124000018801 s y1 := by
    unfold y1
    repeat' first
      | with_reducible assumption
      | with_reducible exact Frames.refl _ _
      | with_reducible apply Frames.ite
      | ((with_reducible apply Frames.step (State.writeMem_frames ..)); exact rfl)
      | dsimp only
      | split
  have h2 : Frames 0x124000018801 s y2 := by
    unfold y2
    repeat' first
      | with_reducible assumption
      | with_reducible exact Frames.refl _ _
      | with_reducible apply Frames.ite
      | ((with_reducible apply Frames.step (State.trvAdvance_frames ..)); exact rfl)
      | dsimp only
      | split
  repeat' first
    | with_reducible assumption
    | with_reducible exact Frames.refl _ _
    | with_reducible apply Frames.ite
    | ((with_reducible apply Frames.step (State.irq_frames ..)); exact rfl)
    | ((with_reducible apply Frames.step (State.notify_frames ..)); exact rfl)
    | dsimp only
    | split

theorem State.mediaBusy_frames (s : State) :
    Frames 0x400000000 s (State.mediaBusy s) := by
  unfold State.mediaBusy
  repeat' first
    | with_reducible assumption
    | with_reducible exact Frames.refl _ _
    | with_reducible apply Frames.ite
    | ((with_reducible apply Frames.put); exact rfl)
    | split

theorem State.poolSync_frames (s : State) (e : Fin 2) :
    Frames 0x400000000 s (State.poolSync s e) := by
  unfold State.poolSync
  extract_lets y0
  repeat' first
    | with_reducible assumption
    | with_reducible exact Frames.refl _ _
    | with_reducible apply Frames.ite
    | ((with_reducible apply Frames.put); exact rfl)
    | dsimp only
    | split

theorem State.medTaken_frames (s : State) (q : Fin 8) :
    Frames 0x400000000 s (State.medTaken s q) := by
  unfold State.medTaken
  repeat' first
    | with_reducible assumption
    | with_reducible exact Frames.refl _ _
    | with_reducible apply Frames.ite
    | ((with_reducible apply Frames.put); exact rfl)
    | split

theorem State.unreadable_frames (s : State) (r : Requester) (x : DecDesc) (out : DecodeOut) :
    Frames 0x100000010809 s (State.unreadable s r x out).2 := by
  unfold State.unreadable
  repeat' first
    | with_reducible assumption
    | with_reducible exact Frames.refl _ _
    | with_reducible apply Frames.ite
    | ((with_reducible apply Frames.step (State.unitUndefined_frames ..)); exact rfl)
    | split

theorem State.runDecode_frames (s : State) (q : Fin 8) (unit : Nat) (buffers : Nat) (rows : Nat) (x : DecDesc) (out : DecodeOut) (good : Bool) :
    Frames 0x100400110809 s (State.runDecode s q unit buffers rows x out good) := by
  unfold State.runDecode
  extract_lets y0 y1 y2 y3 y4 y5 y6 y7 y8 y9 y10
  have h1 : Frames 0x100400110809 s y1.2 := by
    unfold y1
    repeat' first
      | with_reducible assumption
      | with_reducible exact Frames.refl _ _
      | with_reducible apply Frames.ite
      | ((with_reducible apply Frames.step (State.stallBursts_frames ..)); exact rfl)
      | ((with_reducible apply Frames.step (State.unreadable_frames ..)); exact rfl)
      | (fail_if_no_progress ((with_reducible apply Frames.input); exact rfl))
      | with_reducible apply Frames.iteSnd
      | with_reducible apply Frames.iteSnd2
      | with_reducible apply Frames.iteFst
      | dsimp only
      | split
  have h3 : Frames 0x100400110809 s y3.2 := by
    unfold y3
    repeat' first
      | with_reducible assumption
      | with_reducible exact Frames.refl _ _
      | with_reducible apply Frames.ite
      | ((with_reducible apply Frames.step (State.stallBursts_frames ..)); exact rfl)
      | ((with_reducible apply Frames.step (State.unitWrite_frames ..)); exact rfl)
      | (fail_if_no_progress ((with_reducible apply Frames.input); exact rfl))
      | with_reducible apply Frames.iteSnd
      | with_reducible apply Frames.iteSnd2
      | with_reducible apply Frames.iteFst
      | dsimp only
      | split
  have h4 : Frames 0x100400110809 s y4.2 := by
    unfold y4
    repeat' first
      | with_reducible assumption
      | with_reducible exact Frames.refl _ _
      | with_reducible apply Frames.ite
      | ((with_reducible apply Frames.step (State.stallBursts_frames ..)); exact rfl)
      | ((with_reducible apply Frames.step (State.unitWrite_frames ..)); exact rfl)
      | (fail_if_no_progress ((with_reducible apply Frames.input); exact rfl))
      | with_reducible apply Frames.iteSnd
      | with_reducible apply Frames.iteSnd2
      | with_reducible apply Frames.iteFst
      | dsimp only
      | split
  have h7 : Frames 0x100400110809 s y7 := by
    unfold y7
    repeat' first
      | with_reducible assumption
      | with_reducible exact Frames.refl _ _
      | with_reducible apply Frames.ite
      | ((with_reducible apply Frames.step (State.snoop_frames ..)); exact rfl)
      | ((with_reducible apply Frames.step (State.stallBursts_frames ..)); exact rfl)
      | (fail_if_no_progress ((with_reducible apply Frames.input); exact rfl))
      | with_reducible apply Frames.iteSnd
      | with_reducible apply Frames.iteSnd2
      | with_reducible apply Frames.iteFst
      | dsimp only
      | split
  have h10 : Frames 0x100400110809 s y10 := by
    unfold y10
    repeat' first
      | with_reducible assumption
      | with_reducible exact Frames.refl _ _
      | with_reducible apply Frames.ite
      | ((with_reducible apply Frames.step (State.stallBursts_frames ..)); exact rfl)
      | (fail_if_no_progress ((with_reducible apply Frames.input); exact rfl))
      | with_reducible apply Frames.iteSnd
      | with_reducible apply Frames.iteSnd2
      | with_reducible apply Frames.iteFst
      | dsimp only
      | split
  repeat' first
    | with_reducible assumption
    | with_reducible exact Frames.refl _ _
    | with_reducible apply Frames.ite
    | ((with_reducible apply Frames.step (State.mediaBusy_frames ..)); exact rfl)
    | ((with_reducible apply Frames.step (State.poolSync_frames ..)); exact rfl)
    | ((with_reducible apply Frames.step (State.stallBursts_frames ..)); exact rfl)
    | (fail_if_no_progress ((with_reducible apply Frames.input); exact rfl))
    | with_reducible apply Frames.iteSnd
    | with_reducible apply Frames.iteSnd2
    | with_reducible apply Frames.iteFst
    | dsimp only
    | split

theorem State.readSample_frames (s : State) (q : Nat) (unit : Nat) (x : DecDesc) :
    Frames 0x100000000808 s (State.readSample s q unit x).2.2 := by
  unfold State.readSample
  extract_lets y0
  have h0 : Frames 0x100000000808 s y0.2.2 := by
    unfold y0
    repeat' first
      | with_reducible assumption
      | with_reducible exact Frames.refl _ _
      | with_reducible apply Frames.ite
      | ((with_reducible apply Frames.step (State.readBytes_frames ..)); exact rfl)
      | dsimp only
      | split
  repeat' first
    | with_reducible assumption
    | with_reducible exact Frames.refl _ _
    | with_reducible apply Frames.ite
    | split

theorem execVideoDecode_frames (s : State) :
    FramesOut 0x100400118809 s (execVideoDecode s) := by
  unfold execVideoDecode
  repeat' first
    | with_reducible assumption
    | with_reducible exact Frames.refl _ _
    | (fail_if_no_progress extract_lets)
    | with_reducible apply FramesOut.next
    | with_reducible apply Frames.ite
    | with_reducible apply FramesOut.ite
    | ((with_reducible apply Frames.step (State.medTaken_frames ..)); exact rfl)
    | ((with_reducible apply Frames.step (State.noteSample_frames ..)); exact rfl)
    | ((with_reducible apply Frames.step (State.readSample_frames ..)); exact rfl)
    | ((with_reducible apply Frames.step (State.runDecode_frames ..)); exact rfl)
    | with_reducible apply Frames.iteSnd
    | with_reducible apply Frames.iteSnd2
    | with_reducible apply Frames.iteFst
    | split
    | ((with_reducible refine Frames.trans ?_ (State.awaitAccess_frames ?_ ?_ (fun _ => ?_))); (on_goal 2 => exact rfl); (on_goal 2 => exact rfl))

theorem execImageDecode_frames (s : State) :
    FramesOut 0x100400118809 s (execImageDecode s) := by
  unfold execImageDecode
  repeat' first
    | with_reducible assumption
    | with_reducible exact Frames.refl _ _
    | (fail_if_no_progress extract_lets)
    | with_reducible apply FramesOut.next
    | with_reducible apply Frames.ite
    | with_reducible apply FramesOut.ite
    | ((with_reducible apply Frames.step (State.medTaken_frames ..)); exact rfl)
    | ((with_reducible apply Frames.step (State.noteSample_frames ..)); exact rfl)
    | ((with_reducible apply Frames.step (State.readSample_frames ..)); exact rfl)
    | ((with_reducible apply Frames.step (State.runDecode_frames ..)); exact rfl)
    | with_reducible apply Frames.iteSnd
    | with_reducible apply Frames.iteSnd2
    | with_reducible apply Frames.iteFst
    | split
    | ((with_reducible refine Frames.trans ?_ (State.awaitAccess_frames ?_ ?_ (fun _ => ?_))); (on_goal 2 => exact rfl); (on_goal 2 => exact rfl))

theorem execAudioDecode_frames (s : State) :
    FramesOut 0x100400118809 s (execAudioDecode s) := by
  unfold execAudioDecode
  repeat' first
    | with_reducible assumption
    | with_reducible exact Frames.refl _ _
    | (fail_if_no_progress extract_lets)
    | with_reducible apply FramesOut.next
    | with_reducible apply Frames.ite
    | with_reducible apply FramesOut.ite
    | ((with_reducible apply Frames.step (State.medTaken_frames ..)); exact rfl)
    | ((with_reducible apply Frames.step (State.noteSample_frames ..)); exact rfl)
    | ((with_reducible apply Frames.step (State.readSample_frames ..)); exact rfl)
    | ((with_reducible apply Frames.step (State.runDecode_frames ..)); exact rfl)
    | with_reducible apply Frames.iteSnd
    | with_reducible apply Frames.iteSnd2
    | with_reducible apply Frames.iteFst
    | split
    | ((with_reducible refine Frames.trans ?_ (State.awaitAccess_frames ?_ ?_ (fun _ => ?_))); (on_goal 2 => exact rfl); (on_goal 2 => exact rfl))

theorem State.setEnc_frames (s : State) (n : Nat) (e : EncStream) :
    Frames 0x100000 s (State.setEnc s n e) := by
  unfold State.setEnc
  repeat' first
    | with_reducible assumption
    | with_reducible exact Frames.refl _ _
    | with_reducible apply Frames.ite
    | ((with_reducible apply Frames.set); exact rfl)
    | (fail_if_no_progress ((with_reducible apply Frames.input); exact rfl))
    | split

theorem State.putChunk_frames (s : State) (n : Nat) (f : EncFrame) (place : Nat × Bool) :
    Frames 0x104400018801 s (State.putChunk s n f place) := by
  unfold State.putChunk
  extract_lets y0 y1 y2 y3 y4 y5 y6 y7 y8
  have h5 : Frames 0x104400018801 s y5 := by
    unfold y5
    repeat' first
      | with_reducible assumption
      | with_reducible exact Frames.refl _ _
      | with_reducible apply Frames.ite
      | ((with_reducible apply Frames.step (State.writeMem_frames ..)); exact rfl)
      | with_reducible apply Frames.iteSnd
      | with_reducible apply Frames.iteSnd2
      | with_reducible apply Frames.iteFst
      | dsimp only
      | split
  have h6 : Frames 0x104400018801 s y6 := by
    unfold y6
    repeat' first
      | with_reducible assumption
      | with_reducible exact Frames.refl _ _
      | with_reducible apply Frames.ite
      | ((with_reducible apply Frames.step (State.writeMem_frames ..)); exact rfl)
      | dsimp only
      | split
  have h7 : Frames 0x104400018801 s y7 := by
    unfold y7
    repeat' first
      | with_reducible assumption
      | with_reducible exact Frames.refl _ _
      | with_reducible apply Frames.ite
      | ((with_reducible apply Frames.put); exact rfl)
      | dsimp only
      | split
  have h8 : Frames 0x104400018801 s y8 := by
    unfold y8
    repeat' first
      | with_reducible assumption
      | with_reducible exact Frames.refl _ _
      | with_reducible apply Frames.ite
      | ((with_reducible apply Frames.step (State.stallBursts_frames ..)); exact rfl)
      | dsimp only
      | split
  repeat' first
    | with_reducible assumption
    | with_reducible exact Frames.refl _ _
    | with_reducible apply Frames.ite
    | ((with_reducible apply Frames.step (State.notify_frames ..)); exact rfl)
    | dsimp only
    | split

theorem State.encodeEnds_frames (s : State) (n : Nat) (f : EncFrame) :
    Frames 0x100400110801 s (State.encodeEnds s n f) := by
  unfold State.encodeEnds
  extract_lets y0 y1 y2
  have h2 : Frames 0x100400110801 s y2 := by
    unfold y2
    repeat' first
      | with_reducible assumption
      | with_reducible exact Frames.refl _ _
      | with_reducible apply Frames.ite
      | ((with_reducible apply Frames.step (State.setEnc_frames ..)); exact rfl)
      | ((with_reducible apply Frames.step (State.writeMem_frames ..)); exact rfl)
      | dsimp only
      | split
  repeat' first
    | with_reducible assumption
    | with_reducible exact Frames.refl _ _
    | with_reducible apply Frames.ite
    | ((with_reducible apply Frames.step (State.mediaBusy_frames ..)); exact rfl)
    | ((with_reducible apply Frames.addf); exact rfl)
    | dsimp only
    | split

theorem State.placeRow_frames (s : State) (n : Nat) (f : EncFrame) :
    Frames 0x104400118801 s (State.placeRow s n f) := by
  unfold State.placeRow
  repeat' first
    | with_reducible assumption
    | with_reducible exact Frames.refl _ _
    | with_reducible apply Frames.ite
    | ((with_reducible apply Frames.step (State.encodeEnds_frames ..)); exact rfl)
    | ((with_reducible apply Frames.step (State.putChunk_frames ..)); exact rfl)
    | ((with_reducible apply Frames.step (State.setEnc_frames ..)); exact rfl)
    | ((with_reducible apply Frames.bump); exact rfl)
    | dsimp only
    | split

theorem State.codeRow_frames (s : State) (n : Nat) :
    Frames 0x104400118809 s (State.codeRow s n) := by
  unfold State.codeRow
  repeat' first
    | with_reducible assumption
    | with_reducible exact Frames.refl _ _
    | with_reducible apply Frames.ite
    | ((with_reducible apply Frames.step (State.placeRow_frames ..)); exact rfl)
    | ((with_reducible apply Frames.step (State.tookFree_frames ..)); exact rfl)
    | split

theorem State.takeRow_frames (s : State) (e : Nat) :
    Frames 0x104400118809 s (State.takeRow s e) := by
  unfold State.takeRow
  repeat' first
    | with_reducible assumption
    | with_reducible exact Frames.refl _ _
    | with_reducible apply Frames.ite
    | ((with_reducible apply Frames.step (State.codeRow_frames ..)); exact rfl)
    | (fail_if_no_progress ((with_reducible apply Frames.input); exact rfl))
    | split

theorem State.takeRows_frames (e : Nat) (a0 : Nat) (s : State) :
    Frames 0x104400118809 s (State.takeRows e a0 s) := by
  fun_induction State.takeRows e a0 s
  all_goals
    repeat' first
      | with_reducible assumption
      | with_reducible exact Frames.refl _ _
      | with_reducible apply Frames.ite
      | ((with_reducible apply Frames.step (State.takeRow_frames ..)); exact rfl)
      | with_reducible refine Frames.trans ?_ (by assumption)
      | split

theorem State.encodeRefused_frames (s : State) (e : Nat) (x : EncDesc) (status : Nat) :
    Frames 0x100000010801 s (State.encodeRefused s e x status) := by
  unfold State.encodeRefused
  repeat' first
    | with_reducible assumption
    | with_reducible exact Frames.refl _ _
    | with_reducible apply Frames.ite
    | ((with_reducible apply Frames.step (State.writeMem_frames ..)); exact rfl)
    | split

theorem State.encStats_frames (s : State) (eng : Nat) (x : EncDesc) (e : EncStream) (bytes : List Byte) :
    Frames 0x100000010801 s (State.encStats s eng x e bytes) := by
  unfold State.encStats
  repeat' first
    | with_reducible assumption
    | with_reducible exact Frames.refl _ _
    | with_reducible apply Frames.ite
    | ((with_reducible apply Frames.foldl); intro _ _)
    | ((with_reducible apply Frames.foldlSnd); intro _ _)
    | ((with_reducible apply Frames.step (State.writeMem_frames ..)); exact rfl)
    | split

theorem State.encodeBegins_frames (s : State) (n : Nat) (eng : Nat) (x : EncDesc) (key : Bool) (e : EncStream) :
    Frames 0x100400110809 s (State.encodeBegins s n eng x key e) := by
  unfold State.encodeBegins
  extract_lets y0 y1 y2
  have h0 : Frames 0x100400110809 s y0.2.2 := by
    unfold y0
    repeat' first
      | with_reducible assumption
      | with_reducible exact Frames.refl _ _
      | with_reducible apply Frames.ite
      | ((with_reducible apply Frames.step (State.readBytes_frames ..)); exact rfl)
      | dsimp only
      | split
  have h1 : Frames 0x100400110809 s y1.2.2 := by
    unfold y1
    repeat' first
      | with_reducible assumption
      | with_reducible exact Frames.refl _ _
      | with_reducible apply Frames.ite
      | ((with_reducible apply Frames.step (State.readBytes_frames ..)); exact rfl)
      | dsimp only
      | split
  repeat' first
    | with_reducible assumption
    | with_reducible exact Frames.refl _ _
    | with_reducible apply Frames.ite
    | ((with_reducible apply Frames.step (State.encStats_frames ..)); exact rfl)
    | ((with_reducible apply Frames.step (State.encodeRefused_frames ..)); exact rfl)
    | ((with_reducible apply Frames.step (State.mediaBusy_frames ..)); exact rfl)
    | ((with_reducible apply Frames.step (State.setEnc_frames ..)); exact rfl)
    | ((with_reducible apply Frames.step (State.stallBursts_frames ..)); exact rfl)
    | with_reducible apply Frames.iteSnd
    | with_reducible apply Frames.iteSnd2
    | with_reducible apply Frames.iteFst
    | dsimp only
    | split

theorem State.encodeTake_frames (s : State) (q : Fin 8) :
    Frames 0x100400110809 s (State.encodeTake s q) := by
  unfold State.encodeTake
  extract_lets y0 y1
  repeat' first
    | with_reducible assumption
    | with_reducible exact Frames.refl _ _
    | with_reducible apply Frames.ite
    | ((with_reducible apply Frames.step (State.encodeBegins_frames ..)); exact rfl)
    | ((with_reducible apply Frames.step (State.encodeRefused_frames ..)); exact rfl)
    | ((with_reducible apply Frames.step (State.medTaken_frames ..)); exact rfl)
    | dsimp only
    | split

theorem execVideoEncode_frames (q : EncodePass) (s : State) :
    FramesOut 0x104400118809 s (execVideoEncode q s) := by
  unfold execVideoEncode
  repeat' first
    | with_reducible assumption
    | with_reducible exact Frames.refl _ _
    | with_reducible apply FramesOut.next
    | with_reducible apply Frames.ite
    | with_reducible apply FramesOut.ite
    | ((with_reducible apply Frames.step (State.encodeTake_frames ..)); exact rfl)
    | ((with_reducible apply Frames.step (State.takeRows_frames ..)); exact rfl)
    | dsimp only
    | split

theorem execEncStallResume_frames (n : Fin 5) (s : State) :
    FramesOut 0x104400118801 s (execEncStallResume n s) := by
  unfold execEncStallResume
  repeat' first
    | with_reducible assumption
    | with_reducible exact Frames.refl _ _
    | with_reducible apply FramesOut.next
    | with_reducible apply Frames.ite
    | with_reducible apply FramesOut.ite
    | ((with_reducible apply Frames.step (State.placeRow_frames ..)); exact rfl)
    | split

theorem execMedRequestComplete_frames (q : Fin 3) (unit : Fin 8) (s : State) :
    FramesOut 0x124400118801 s (execMedRequestComplete q unit s) := by
  unfold execMedRequestComplete
  repeat' first
    | with_reducible assumption
    | with_reducible exact Frames.refl _ _
    | with_reducible apply FramesOut.next
    | with_reducible apply Frames.ite
    | with_reducible apply FramesOut.ite
    | ((with_reducible apply Frames.step (State.completeInput_frames ..)); exact rfl)
    | ((with_reducible apply Frames.step (State.mediaBusy_frames ..)); exact rfl)
    | ((with_reducible apply Frames.step (State.poolSync_frames ..)); exact rfl)
    | ((with_reducible apply Frames.bump); exact rfl)
    | (fail_if_no_progress ((with_reducible apply Frames.input); exact rfl))
    | dsimp only
    | split

theorem State.cancelQueue_frames (q : Fin 8) (a0 : Nat) (s : State) :
    Frames 0x100400010801 s (State.cancelQueue q a0 s) := by
  fun_induction State.cancelQueue q a0 s
  all_goals
    repeat' first
      | with_reducible assumption
      | with_reducible exact Frames.refl _ _
      | with_reducible apply Frames.ite
      | with_reducible refine Frames.trans ?_ (by assumption)
      | ((with_reducible apply Frames.step (State.medTaken_frames ..)); exact rfl)
      | ((with_reducible apply Frames.step (State.writeMem_frames ..)); exact rfl)
      | dsimp only
      | split

theorem State.mediaCancel_frames (s : State) :
    Frames 0x100400010801 s (State.mediaCancel s) := by
  unfold State.mediaCancel
  repeat' first
    | with_reducible assumption
    | with_reducible exact Frames.refl _ _
    | with_reducible apply Frames.ite
    | ((with_reducible apply Frames.foldl); intro _ _)
    | ((with_reducible apply Frames.foldlSnd); intro _ _)
    | ((with_reducible apply Frames.step (State.cancelQueue_frames ..)); exact rfl)
    | split

theorem execMedDisable_frames (s : State) :
    FramesOut 0x100400010801 s (execMedDisable s) := by
  unfold execMedDisable
  repeat' first
    | with_reducible assumption
    | with_reducible exact Frames.refl _ _
    | with_reducible apply FramesOut.next
    | with_reducible apply Frames.ite
    | with_reducible apply FramesOut.ite
    | ((with_reducible apply Frames.step (State.mediaCancel_frames ..)); exact rfl)
    | ((with_reducible apply Frames.put); exact rfl)
    | split

end Sys2Proof.Machine
end

