-- ==== Sys2Proof/Laws/FramesText.lean ====
section
/-! SUPPORT. What the definitions of Machine/Text.lean can change: one lemma for each that answers a state. -/

namespace Sys2Proof.Machine

theorem chkCfg_block (e : Fin 21) : (chkCfg e).block = .chk := by unfold chkCfg; split <;> rfl
theorem chkState_block (e : Fin 21) : (chkState e).block = .chk := by unfold chkState; split <;> rfl
theorem chkResult_block (e : Fin 21) : (chkResult e).block = .chk := by unfold chkResult; split <;> rfl
theorem chkBytes_block (e : Fin 21) : (chkBytes e).block = .chk := by unfold chkBytes; split <;> rfl

theorem State.tokNode_frames (s : State) (u : Nat) (i : Nat) :
    Frames 0x100000000808 s (State.tokNode s u i).2.2 := by
  unfold State.tokNode
  extract_lets y0
  have h0 : Frames 0x100000000808 s y0.2.2 := by
    unfold y0
    repeat' first
      | with_reducible assumption
      | with_reducible exact Frames.refl _ _
      | with_reducible apply Frames.ite
      | ((with_reducible apply Frames.step (State.readBytes_frames ..)); exact rfl)
      | dsimp only
      | split
  repeat' first
    | with_reducible assumption
    | with_reducible exact Frames.refl _ _
    | with_reducible apply Frames.ite
    | split

theorem State.findChild_frames (u : Nat) (label : Nat) (a0 : Nat) (s : State) (a2 : Nat) :
    Frames 0x100000000808 s (State.findChild u label a0 s a2).2 := by
  fun_induction State.findChild u label a0 s a2
  all_goals
    repeat' first
      | with_reducible assumption
      | with_reducible exact Frames.refl _ _
      | with_reducible apply Frames.ite
      | with_reducible apply Frames.iteSnd
      | with_reducible apply Frames.iteSnd2
      | with_reducible apply Frames.iteFst
      | with_reducible refine Frames.trans ?_ (by assumption)
      | ((with_reducible apply Frames.step (State.tokNode_frames ..)); exact rfl)
      | dsimp only
      | split

theorem State.childOf_frames (s : State) (u : Nat) (node : List Byte) (label : Nat) :
    Frames 0x100000000808 s (State.childOf s u node label).2 := by
  unfold State.childOf
  repeat' first
    | with_reducible assumption
    | with_reducible exact Frames.refl _ _
    | with_reducible apply Frames.ite
    | with_reducible apply Frames.iteSnd
    | with_reducible apply Frames.iteSnd2
    | with_reducible apply Frames.iteFst
    | ((with_reducible apply Frames.step (State.findChild_frames ..)); exact rfl)
    | split

theorem State.longest_frames (u : Nat) (a0 : List Byte) (s : State) (a2 : List Byte) (a3 : Nat) (a4 : Nat × Nat) :
    Frames 0x100000000808 s (State.longest u a0 s a2 a3 a4).2 := by
  fun_induction State.longest u a0 s a2 a3 a4
  all_goals
    repeat' first
      | with_reducible assumption
      | with_reducible exact Frames.refl _ _
      | with_reducible apply Frames.ite
      | with_reducible apply Frames.iteSnd
      | with_reducible apply Frames.iteSnd2
      | with_reducible apply Frames.iteFst
      | ((with_reducible apply Frames.step (State.childOf_frames ..)); exact rfl)
      | with_reducible refine Frames.trans ?_ (by assumption)
      | dsimp only
      | split

theorem State.tokenRun_frames (u : Nat) (maxTokens : Nat) (a0 : Nat) (s : State) (a2 : List Byte) (a3 : TokRun) :
    Frames 0x100000000808 s (State.tokenRun u maxTokens a0 s a2 a3).2 := by
  induction a0 generalizing s a2 a3 with
  | zero => exact Frames.refl _ _
  | succ n ih =>
    unfold State.tokenRun
    split
    · exact Frames.refl _ _
    · refine Frames.iteSnd (Frames.refl _ _) ?_
      extract_lets root p best
      have hr : Frames 0x100000000808 s root.2.2 := Frames.mono (State.tokNode_frames ..) rfl
      have hp : Frames 0x100000000808 s p.2 := by
        unfold p
        split
        · exact Frames.step (State.longest_frames ..) rfl hr
        · exact hr
      clear_value p
      split
      · exact hp
      · split <;> exact hp.trans (ih ..)

theorem State.tokenRuns_frames (u : Nat) (maxTokens : Nat) (a0 : List (Bool × List Byte)) (s : State) (a2 : TokRun) :
    Frames 0x100000000808 s (State.tokenRuns u maxTokens a0 s a2).2 := by
  fun_induction State.tokenRuns u maxTokens a0 s a2
  all_goals
    repeat' first
      | with_reducible assumption
      | with_reducible exact Frames.refl _ _
      | with_reducible apply Frames.ite
      | with_reducible apply Frames.iteSnd
      | with_reducible apply Frames.iteSnd2
      | with_reducible apply Frames.iteFst
      | ((with_reducible apply Frames.step (State.tokenRun_frames ..)); exact rfl)
      | with_reducible refine Frames.trans ?_ (by assumption)
      | dsimp only
      | split

theorem State.tokTaken_frames (s : State) :
    Frames 0x800000000 s (State.tokTaken s) := by
  unfold State.tokTaken
  repeat' first
    | with_reducible assumption
    | with_reducible exact Frames.refl _ _
    | with_reducible apply Frames.ite
    | ((with_reducible apply Frames.put); exact rfl)
    | split

theorem State.tokJob_frames (s : State) (u : Nat) (x : List Byte) (r : TokRun) (note : Nat) :
    Frames 0x100000 s (State.tokJob s u x r note) := by
  unfold State.tokJob
  repeat' first
    | with_reducible assumption
    | with_reducible exact Frames.refl _ _
    | with_reducible apply Frames.ite
    | (fail_if_no_progress ((with_reducible apply Frames.input); exact rfl))
    | split

theorem State.tokenize_frames (s : State) (u : Nat) (x : List Byte) (bytes : List Byte) :
    Frames 0x100000110809 s (State.tokenize s u x bytes) := by
  unfold State.tokenize
  extract_lets y0 y1 y2 y3 y4 y5 y6 y7
  have h2 : Frames 0x100000110809 s y2.2 := by
    unfold y2
    repeat' first
      | with_reducible assumption
      | with_reducible exact Frames.refl _ _
      | with_reducible apply Frames.ite
      | ((with_reducible apply Frames.step (State.snoop_frames ..)); exact rfl)
      | ((with_reducible apply Frames.step (State.tokenRuns_frames ..)); exact rfl)
      | with_reducible apply Frames.iteSnd
      | with_reducible apply Frames.iteSnd2
      | with_reducible apply Frames.iteFst
      | dsimp only
      | split
  have h6 : Frames 0x100000110809 s y6.2 := by
    unfold y6
    repeat' first
      | with_reducible assumption
      | with_reducible exact Frames.refl _ _
      | with_reducible apply Frames.ite
      | ((with_reducible apply Frames.step (State.unitWrite_frames ..)); exact rfl)
      | with_reducible apply Frames.iteSnd
      | with_reducible apply Frames.iteSnd2
      | with_reducible apply Frames.iteFst
      | dsimp only
      | split
  repeat' first
    | with_reducible assumption
    | with_reducible exact Frames.refl _ _
    | with_reducible apply Frames.ite
    | ((with_reducible apply Frames.step (State.snoop_frames ..)); exact rfl)
    | ((with_reducible apply Frames.step (State.tokJob_frames ..)); exact rfl)
    | ((with_reducible apply Frames.step (State.unitUndefined_frames ..)); exact rfl)
    | with_reducible apply Frames.iteSnd
    | with_reducible apply Frames.iteSnd2
    | with_reducible apply Frames.iteFst
    | dsimp only
    | split

theorem execTokenize_frames (s : State) :
    FramesOut 0x100800118809 s (execTokenize s) := by
  unfold execTokenize
  repeat' first
    | with_reducible assumption
    | with_reducible exact Frames.refl _ _
    | (fail_if_no_progress extract_lets)
    | with_reducible apply FramesOut.next
    | with_reducible apply Frames.ite
    | with_reducible apply FramesOut.ite
    | ((with_reducible apply Frames.step (State.noteSample_frames ..)); exact rfl)
    | ((with_reducible apply Frames.step (State.readBytes_frames ..)); exact rfl)
    | ((with_reducible apply Frames.step (State.tokJob_frames ..)); exact rfl)
    | ((with_reducible apply Frames.step (State.tokTaken_frames ..)); exact rfl)
    | ((with_reducible apply Frames.step (State.tokenize_frames ..)); exact rfl)
    | ((with_reducible apply Frames.step (State.unitUndefined_frames ..)); exact rfl)
    | with_reducible apply Frames.iteSnd
    | with_reducible apply Frames.iteSnd2
    | with_reducible apply Frames.iteFst
    | split
    | ((with_reducible refine Frames.trans ?_ (State.awaitAccess_frames ?_ ?_ (fun _ => ?_))); (on_goal 2 => exact rfl); (on_goal 2 => exact rfl))

theorem execTokRequestComplete_frames (unit : Fin 4) (s : State) :
    FramesOut 0x124800118801 s (execTokRequestComplete unit s) := by
  unfold execTokRequestComplete
  repeat' first
    | with_reducible assumption
    | with_reducible exact Frames.refl _ _
    | with_reducible apply FramesOut.next
    | with_reducible apply Frames.ite
    | with_reducible apply FramesOut.ite
    | ((with_reducible apply Frames.step (State.completeInput_frames ..)); exact rfl)
    | ((with_reducible apply Frames.bump); exact rfl)
    | (fail_if_no_progress ((with_reducible apply Frames.input); exact rfl))
    | dsimp only
    | split

theorem State.tokCancelGo_frames (a0 : Nat) (s : State) :
    Frames 0x100800010801 s (State.tokCancelGo a0 s) := by
  fun_induction State.tokCancelGo a0 s
  all_goals
    repeat' first
      | with_reducible assumption
      | with_reducible exact Frames.refl _ _
      | with_reducible apply Frames.ite
      | with_reducible refine Frames.trans ?_ (by assumption)
      | ((with_reducible apply Frames.step (State.tokTaken_frames ..)); exact rfl)
      | ((with_reducible apply Frames.step (State.writeMem_frames ..)); exact rfl)
      | dsimp only
      | split

theorem State.tokCancel_frames (s : State) :
    Frames 0x100800010801 s (State.tokCancel s) := by
  unfold State.tokCancel
  repeat' first
    | with_reducible assumption
    | with_reducible exact Frames.refl _ _
    | with_reducible apply Frames.ite
    | ((with_reducible apply Frames.step (State.tokCancelGo_frames ..)); exact rfl)
    | split

theorem execTokDisable_frames (s : State) :
    FramesOut 0x100800010801 s (execTokDisable s) := by
  unfold execTokDisable
  repeat' first
    | with_reducible assumption
    | with_reducible exact Frames.refl _ _
    | with_reducible apply FramesOut.next
    | with_reducible apply Frames.ite
    | with_reducible apply FramesOut.ite
    | ((with_reducible apply Frames.step (State.tokCancel_frames ..)); exact rfl)
    | ((with_reducible apply Frames.put); exact rfl)
    | split

theorem State.augTaken_frames (s : State) :
    Frames 0x1000000000 s (State.augTaken s) := by
  unfold State.augTaken
  repeat' first
    | with_reducible assumption
    | with_reducible exact Frames.refl _ _
    | with_reducible apply Frames.ite
    | ((with_reducible apply Frames.put); exact rfl)
    | split

theorem execAugFill_frames (s : State) :
    FramesOut 0x101000110809 s (execAugFill s) := by
  unfold execAugFill
  repeat' first
    | with_reducible assumption
    | with_reducible exact Frames.refl _ _
    | with_reducible apply FramesOut.next
    | with_reducible apply Frames.ite
    | with_reducible apply FramesOut.ite
    | ((with_reducible apply Frames.step (State.augTaken_frames ..)); exact rfl)
    | ((with_reducible apply Frames.step (State.snoop_frames ..)); exact rfl)
    | ((with_reducible apply Frames.step (State.unitWrite_frames ..)); exact rfl)
    | (fail_if_no_progress ((with_reducible apply Frames.input); exact rfl))
    | with_reducible apply Frames.iteSnd
    | with_reducible apply Frames.iteSnd2
    | with_reducible apply Frames.iteFst
    | dsimp only
    | split

theorem execAugRequestComplete_frames (unit : Fin 4) (s : State) :
    FramesOut 0x124000118801 s (execAugRequestComplete unit s) := by
  unfold execAugRequestComplete
  repeat' first
    | with_reducible assumption
    | with_reducible exact Frames.refl _ _
    | with_reducible apply FramesOut.next
    | with_reducible apply Frames.ite
    | with_reducible apply FramesOut.ite
    | ((with_reducible apply Frames.step (State.completeInput_frames ..)); exact rfl)
    | (fail_if_no_progress ((with_reducible apply Frames.input); exact rfl))
    | split

theorem State.augCancelGo_frames (a0 : Nat) (s : State) :
    Frames 0x101000010801 s (State.augCancelGo a0 s) := by
  fun_induction State.augCancelGo a0 s
  all_goals
    repeat' first
      | with_reducible assumption
      | with_reducible exact Frames.refl _ _
      | with_reducible apply Frames.ite
      | with_reducible refine Frames.trans ?_ (by assumption)
      | ((with_reducible apply Frames.step (State.augTaken_frames ..)); exact rfl)
      | ((with_reducible apply Frames.step (State.writeMem_frames ..)); exact rfl)
      | split

theorem State.augCancel_frames (s : State) :
    Frames 0x101000010801 s (State.augCancel s) := by
  unfold State.augCancel
  repeat' first
    | with_reducible assumption
    | with_reducible exact Frames.refl _ _
    | with_reducible apply Frames.ite
    | ((with_reducible apply Frames.step (State.augCancelGo_frames ..)); exact rfl)
    | split

theorem State.chkFold_frames (s : State) (e : Fin 21) (bs : List Byte) :
    Frames 0x2000000000 s (State.chkFold s e bs) := by
  unfold State.chkFold
  extract_lets y0 y1
  repeat' first
    | with_reducible assumption
    | with_reducible exact Frames.refl _ _
    | with_reducible apply Frames.ite
    | ((with_reducible apply Frames.set); exact rfl)
    | ((with_reducible apply Frames.set); (simp only [chkCfg_block, chkState_block, chkResult_block, chkBytes_block]; exact rfl))
    | dsimp only
    | split

theorem State.chkTake_frames (s : State) (e : Fin 21) (x : SnoopStream) :
    Frames 0x2000100000 s (State.chkTake s e x) := by
  unfold State.chkTake
  repeat' first
    | with_reducible assumption
    | with_reducible exact Frames.refl _ _
    | with_reducible apply Frames.ite
    | ((with_reducible apply Frames.put); exact rfl)
    | ((with_reducible apply Frames.put); (simp only [chkCfg_block, chkState_block, chkResult_block, chkBytes_block]; exact rfl))
    | ((with_reducible apply Frames.set); exact rfl)
    | ((with_reducible apply Frames.set); (simp only [chkCfg_block, chkState_block, chkResult_block, chkBytes_block]; exact rfl))
    | (fail_if_no_progress ((with_reducible apply Frames.input); exact rfl))
    | dsimp only
    | split

theorem execChkStreamOpen_frames (point : Fin 5) (tag : BitVec 16) (s : State) :
    FramesOut 0x2000100000 s (execChkStreamOpen point tag s) := by
  unfold execChkStreamOpen
  repeat' first
    | with_reducible assumption
    | with_reducible exact Frames.refl _ _
    | with_reducible apply FramesOut.next
    | with_reducible apply Frames.ite
    | with_reducible apply FramesOut.ite
    | ((with_reducible apply Frames.foldl); intro _ _)
    | ((with_reducible apply Frames.foldlSnd); intro _ _)
    | ((with_reducible apply Frames.step (State.chkTake_frames ..)); exact rfl)
    | (fail_if_no_progress ((with_reducible apply Frames.input); exact rfl))
    | dsimp only
    | split

theorem State.chkClose_frames (s : State) (h : SnoopHeld) :
    Frames 0x2000000000 s (State.chkClose s h) := by
  unfold State.chkClose
  extract_lets y0 y1 y2 y3 y4
  have h1 : Frames 0x2000000000 s y1 := by
    unfold y1
    repeat' first
      | with_reducible assumption
      | with_reducible exact Frames.refl _ _
      | with_reducible apply Frames.ite
      | ((with_reducible apply Frames.step (State.chkFold_frames ..)); exact rfl)
      | dsimp only
      | split
  have h3 : Frames 0x2000000000 s y3 := by
    unfold y3
    repeat' first
      | with_reducible assumption
      | with_reducible exact Frames.refl _ _
      | with_reducible apply Frames.ite
      | ((with_reducible apply Frames.set); exact rfl)
      | ((with_reducible apply Frames.set); (simp only [chkCfg_block, chkState_block, chkResult_block, chkBytes_block]; exact rfl))
      | dsimp only
      | split
  have h4 : Frames 0x2000000000 s y4 := by
    unfold y4
    repeat' first
      | with_reducible assumption
      | with_reducible exact Frames.refl _ _
      | with_reducible apply Frames.ite
      | ((with_reducible apply Frames.put); exact rfl)
      | ((with_reducible apply Frames.put); (simp only [chkCfg_block, chkState_block, chkResult_block, chkBytes_block]; exact rfl))
      | dsimp only
      | split
  repeat' first
    | with_reducible assumption
    | with_reducible exact Frames.refl _ _
    | with_reducible apply Frames.ite
    | ((with_reducible apply Frames.put); exact rfl)
    | ((with_reducible apply Frames.put); (simp only [chkCfg_block, chkState_block, chkResult_block, chkBytes_block]; exact rfl))
    | dsimp only
    | split

theorem execChkStreamClose_frames (point : Fin 5) (tag : BitVec 16) (s : State) :
    FramesOut 0x2000100000 s (execChkStreamClose point tag s) := by
  unfold execChkStreamClose
  repeat' first
    | with_reducible assumption
    | with_reducible exact Frames.refl _ _
    | with_reducible apply FramesOut.next
    | with_reducible apply Frames.ite
    | with_reducible apply FramesOut.ite
    | ((with_reducible apply Frames.foldl); intro _ _)
    | ((with_reducible apply Frames.foldlSnd); intro _ _)
    | ((with_reducible apply Frames.step (State.chkClose_frames ..)); exact rfl)
    | (fail_if_no_progress ((with_reducible apply Frames.input); exact rfl))
    | dsimp only
    | split

theorem execChkStateWrite_frames (e : Fin 21) (isBytes : Bool) (v : Word) (upto : Nat) (s : State) :
    FramesOut 0x2000100000 s (execChkStateWrite e isBytes v upto s) := by
  unfold execChkStateWrite
  repeat' first
    | with_reducible assumption
    | with_reducible exact Frames.refl _ _
    | with_reducible apply FramesOut.next
    | with_reducible apply Frames.ite
    | with_reducible apply FramesOut.ite
    | ((with_reducible apply Frames.step (State.chkFold_frames ..)); exact rfl)
    | ((with_reducible apply Frames.set); exact rfl)
    | ((with_reducible apply Frames.set); (simp only [chkCfg_block, chkState_block, chkResult_block, chkBytes_block]; exact rfl))
    | (fail_if_no_progress ((with_reducible apply Frames.input); exact rfl))
    | dsimp only
    | split

end Sys2Proof.Machine
end

