-- ==== Sys2Proof/Laws/FramesDetect.lean ====
section
/-! SUPPORT. What the definitions of Machine/Detect.lean can change: one lemma for each that answers a state. -/

namespace Sys2Proof.Machine

theorem State.detRun_frames (s : State) (x : List Byte) :
    Frames 0x100000010809 s (State.detRun s x).2.2 := by
  unfold State.detRun
  extract_lets y0 y1 y2 y3 y4 y5 y6 y7 y8 y9
  have h0 : Frames 0x100000010809 s y0.2.2 := by
    unfold y0
    repeat' first
      | with_reducible assumption
      | with_reducible exact Frames.refl _ _
      | with_reducible apply Frames.ite
      | ((with_reducible apply Frames.step (State.readBytes_frames ..)); exact rfl)
      | dsimp only
      | split
  have h1 : Frames 0x100000010809 s y1.2.2 := by
    unfold y1
    repeat' first
      | with_reducible assumption
      | with_reducible exact Frames.refl _ _
      | with_reducible apply Frames.ite
      | ((with_reducible apply Frames.step (State.readBytes_frames ..)); exact rfl)
      | dsimp only
      | split
  have h2 : Frames 0x100000010809 s y2.2.2 := by
    unfold y2
    repeat' first
      | with_reducible assumption
      | with_reducible exact Frames.refl _ _
      | with_reducible apply Frames.ite
      | ((with_reducible apply Frames.step (State.readBytes_frames ..)); exact rfl)
      | dsimp only
      | split
  try clear_value y7
  have h9 : Frames 0x100000010809 s y9 := by
    unfold y9
    repeat' first
      | with_reducible assumption
      | with_reducible exact Frames.refl _ _
      | with_reducible apply Frames.ite
      | ((with_reducible apply Frames.step (State.writeMem_frames ..)); exact rfl)
      | dsimp only
      | split
  repeat' first
    | with_reducible assumption
    | with_reducible exact Frames.refl _ _
    | with_reducible apply Frames.ite
    | with_reducible apply Frames.iteSnd
    | with_reducible apply Frames.iteSnd2
    | with_reducible apply Frames.iteFst
    | dsimp only
    | split

theorem State.detServe_frames (s : State) (at_ : Nat) (x : List Byte) :
    Frames 0x100000010809 s (State.detServe s at_ x).2.2 := by
  unfold State.detServe
  extract_lets y0
  have h0 : Frames 0x100000010809 s y0.2.2 := by
    unfold y0
    repeat' first
      | with_reducible assumption
      | with_reducible exact Frames.refl _ _
      | with_reducible apply Frames.ite
      | ((with_reducible apply Frames.step (State.readBytes_frames ..)); exact rfl)
      | dsimp only
      | split
  repeat' first
    | with_reducible assumption
    | with_reducible exact Frames.refl _ _
    | with_reducible apply Frames.ite
    | with_reducible apply Frames.iteSnd
    | with_reducible apply Frames.iteSnd2
    | with_reducible apply Frames.iteFst
    | ((with_reducible apply Frames.step (State.detRun_frames ..)); exact rfl)
    | split

theorem execDetRequest_frames (s : State) :
    FramesOut 0x100001018809 s (execDetRequest s) := by
  unfold execDetRequest
  repeat' first
    | with_reducible assumption
    | with_reducible exact Frames.refl _ _
    | (fail_if_no_progress extract_lets)
    | with_reducible apply FramesOut.next
    | with_reducible apply Frames.ite
    | with_reducible apply FramesOut.ite
    | ((with_reducible apply Frames.step (State.detServe_frames ..)); exact rfl)
    | (fail_if_no_progress ((with_reducible apply Frames.det); exact rfl))
    | with_reducible apply Frames.iteSnd
    | with_reducible apply Frames.iteSnd2
    | with_reducible apply Frames.iteFst
    | split
    | ((with_reducible refine Frames.trans ?_ (State.awaitBasecamp_frames ?_ ?_ (fun _ => ?_))); (on_goal 2 => exact rfl); (on_goal 2 => exact rfl))

theorem execDetRequestDone_frames (s : State) :
    FramesOut 0x104001018801 s (execDetRequestDone s) := by
  unfold execDetRequestDone
  repeat' first
    | with_reducible assumption
    | with_reducible exact Frames.refl _ _
    | with_reducible apply FramesOut.next
    | with_reducible apply Frames.ite
    | with_reducible apply FramesOut.ite
    | ((with_reducible apply Frames.step (State.irq_frames ..)); exact rfl)
    | ((with_reducible apply Frames.step (State.msix_frames ..)); exact rfl)
    | ((with_reducible apply Frames.step (State.writeMem_frames ..)); exact rfl)
    | ((with_reducible apply Frames.put); exact rfl)
    | (fail_if_no_progress ((with_reducible apply Frames.det); exact rfl))
    | dsimp only
    | split

theorem State.detCancelGo_frames (a0 : Nat) (s : State) (a2 : Nat) :
    Frames 0x100000010801 s (State.detCancelGo a0 s a2) := by
  fun_induction State.detCancelGo a0 s a2
  all_goals
    repeat' first
      | with_reducible assumption
      | with_reducible exact Frames.refl _ _
      | with_reducible apply Frames.ite
      | with_reducible refine Frames.trans ?_ (by assumption)
      | ((with_reducible apply Frames.step (State.writeMem_frames ..)); exact rfl)
      | split

theorem State.detCancel_frames (s : State) :
    Frames 0x104001010801 s (State.detCancel s) := by
  unfold State.detCancel
  extract_lets y0
  repeat' first
    | with_reducible assumption
    | with_reducible exact Frames.refl _ _
    | with_reducible apply Frames.ite
    | ((with_reducible apply Frames.step (State.detCancelGo_frames ..)); exact rfl)
    | ((with_reducible apply Frames.put); exact rfl)
    | (fail_if_no_progress ((with_reducible apply Frames.det); exact rfl))
    | dsimp only
    | split

end Sys2Proof.Machine
end

