-- ==== Sys2Proof/Laws/FramesOptim.lean ====
section
/-! SUPPORT. What the definitions of Machine/Optim.lean can change: one lemma for each that answers a state. -/

namespace Sys2Proof.Machine

theorem State.laneNf_frames (s : State) (d : Fin 4) (b : Bool) (cause : Nat) :
    Frames 0x2000000 s (State.laneNf s d b cause) := by
  unfold State.laneNf
  extract_lets y0
  repeat' first
    | with_reducible assumption
    | with_reducible exact Frames.refl _ _
    | with_reducible apply Frames.ite
    | ((with_reducible apply Frames.step (State.setOptDie_frames ..)); exact rfl)
    | dsimp only
    | split

theorem State.laneSat_frames (s : State) (d : Fin 4) (b : Bool) :
    Frames 0x2000000 s (State.laneSat s d b) := by
  unfold State.laneSat
  repeat' first
    | with_reducible assumption
    | with_reducible exact Frames.refl _ _
    | with_reducible apply Frames.ite
    | ((with_reducible apply Frames.step (State.setOptDie_frames ..)); exact rfl)
    | split

theorem State.optRecord_frames (s : State) (d : Fin 4) (code : Nat) (entry : Nat) :
    Frames 0x80000000000 s (State.optRecord s d code entry) := by
  unfold State.optRecord
  repeat' first
    | with_reducible assumption
    | with_reducible exact Frames.refl _ _
    | with_reducible apply Frames.ite
    | ((with_reducible apply Frames.put); exact rfl)
    | ((with_reducible apply Frames.set); exact rfl)
    | split

theorem State.optStop_frames (s : State) (d : Fin 4) (code : Nat) (entry : Nat) :
    Frames 0x84002000800 s (State.optStop s d code entry) := by
  unfold State.optStop
  extract_lets y0 y1 y2
  have h0 : Frames 0x84002000800 s y0 := by
    unfold y0
    repeat' first
      | with_reducible assumption
      | with_reducible exact Frames.refl _ _
      | with_reducible apply Frames.ite
      | ((with_reducible apply Frames.step (State.optRecord_frames ..)); exact rfl)
      | ((with_reducible apply Frames.step (State.setOptDie_frames ..)); exact rfl)
      | ((with_reducible apply Frames.put); exact rfl)
      | dsimp only
      | split
  have h2 : Frames 0x84002000800 s y2 := by
    unfold y2
    repeat' first
      | with_reducible assumption
      | with_reducible exact Frames.refl _ _
      | with_reducible apply Frames.ite
      | ((with_reducible apply Frames.step (State.setOptDie_frames ..)); exact rfl)
      | ((with_reducible apply Frames.put); exact rfl)
      | dsimp only
      | split
  repeat' first
    | with_reducible assumption
    | with_reducible exact Frames.refl _ _
    | with_reducible apply Frames.ite
    | ((with_reducible apply Frames.step (State.irq_frames ..)); exact rfl)
    | ((with_reducible apply Frames.step (State.setOptDie_frames ..)); exact rfl)
    | ((with_reducible apply Frames.step (State.ucc_frames ..)); exact rfl)
    | ((with_reducible apply Frames.put); exact rfl)
    | dsimp only
    | split

theorem State.optBadRead_frames (s : State) (d : Fin 4) (b : Bool) (entry : Nat) :
    Frames 0x80002000000 s (State.optBadRead s d b entry) := by
  unfold State.optBadRead
  repeat' first
    | with_reducible assumption
    | with_reducible exact Frames.refl _ _
    | with_reducible apply Frames.ite
    | ((with_reducible apply Frames.step (State.laneNf_frames ..)); exact rfl)
    | ((with_reducible apply Frames.step (State.optRecord_frames ..)); exact rfl)
    | split

theorem State.readReals_frames (s : State) (d : Fin 4) (fmt : Nat) (addr : Nat) (n : Nat) :
    Frames 0x100000000808 s (State.readReals s d fmt addr n).2.2 := by
  unfold State.readReals
  extract_lets y0
  have h0 : Frames 0x100000000808 s y0.2.2 := by
    unfold y0
    repeat' first
      | with_reducible assumption
      | with_reducible exact Frames.refl _ _
      | with_reducible apply Frames.ite
      | ((with_reducible apply Frames.step (State.readBytes_frames ..)); exact rfl)
      | dsimp only
      | split
  repeat' first
    | with_reducible assumption
    | with_reducible exact Frames.refl _ _
    | with_reducible apply Frames.ite
    | with_reducible apply Frames.iteSnd
    | with_reducible apply Frames.iteSnd2
    | with_reducible apply Frames.iteFst
    | split

theorem State.writeReals_frames (s : State) (d : Fin 4) (fmt : Nat) (addr : Nat) (xs : List Nat) :
    Frames 0x100002010801 s (State.writeReals s d fmt addr xs) := by
  unfold State.writeReals
  repeat' first
    | with_reducible assumption
    | with_reducible exact Frames.refl _ _
    | with_reducible apply Frames.ite
    | ((with_reducible apply Frames.step (State.laneNf_frames ..)); exact rfl)
    | ((with_reducible apply Frames.step (State.writeMem_frames ..)); exact rfl)
    | split

theorem State.setLaneDrawn_frames (s : State) (d : Fin 4) (cycle : Nat) :
    Frames 0x400000 s (State.setLaneDrawn s d cycle) := by
  unfold State.setLaneDrawn
  repeat' first
    | with_reducible assumption
    | with_reducible exact Frames.refl _ _
    | with_reducible apply Frames.ite
    | ((with_reducible apply Frames.set); exact rfl)
    | (fail_if_no_progress ((with_reducible apply Frames.tensor); exact rfl))
    | split

theorem State.markQuantised_frames (s : State) (d : Fin 4) (i : Nat) :
    Frames 0x2000000 s (State.markQuantised s d i) := by
  unfold State.markQuantised
  repeat' first
    | with_reducible assumption
    | with_reducible exact Frames.refl _ _
    | with_reducible apply Frames.ite
    | ((with_reducible apply Frames.step (State.setOptDie_frames ..)); exact rfl)
    | split

theorem State.optPublish_frames (s : State) (d : Fin 4) (buf : Nat) (k : Nat) :
    Frames 0x60002000000 s (State.optPublish s d buf k) := by
  unfold State.optPublish
  repeat' first
    | with_reducible assumption
    | with_reducible exact Frames.refl _ _
    | with_reducible apply Frames.ite
    | ((with_reducible apply Frames.step (State.fbufPublish_frames ..)); exact rfl)
    | split

theorem execGradQuantise_frames (d : Fin 4) (entry : BitVec 16) (s : State) :
    FramesOut 0x1e0002410809 s (execGradQuantise d entry s) := by
  unfold execGradQuantise
  extract_lets y0 y1 y2 y3 y4 y5 y6 y7 y8 y9 y10 y11 y12 y13
  have h2 : Frames 0x1e0002410809 s y2.2.2 := by
    unfold y2
    repeat' first
      | with_reducible assumption
      | with_reducible exact Frames.refl _ _
      | with_reducible apply FramesOut.next
      | with_reducible apply Frames.ite
      | with_reducible apply FramesOut.ite
      | ((with_reducible apply Frames.step (State.readReals_frames ..)); exact rfl)
      | with_reducible apply Frames.iteSnd
      | with_reducible apply Frames.iteSnd2
      | with_reducible apply Frames.iteFst
      | dsimp only
      | split
  have h3 : Frames 0x1e0002410809 s y3.2.2 := by
    unfold y3
    repeat' first
      | with_reducible assumption
      | with_reducible exact Frames.refl _ _
      | with_reducible apply FramesOut.next
      | with_reducible apply Frames.ite
      | with_reducible apply FramesOut.ite
      | ((with_reducible apply Frames.step (State.readReals_frames ..)); exact rfl)
      | with_reducible apply Frames.iteSnd
      | with_reducible apply Frames.iteSnd2
      | with_reducible apply Frames.iteFst
      | dsimp only
      | split
  have h10 : Frames 0x1e0002410809 s y10 := by
    unfold y10
    repeat' first
      | with_reducible assumption
      | with_reducible exact Frames.refl _ _
      | with_reducible apply FramesOut.next
      | with_reducible apply Frames.ite
      | with_reducible apply FramesOut.ite
      | ((with_reducible apply Frames.step (State.optBadRead_frames ..)); exact rfl)
      | ((with_reducible apply Frames.step (State.setLaneDrawn_frames ..)); exact rfl)
      | ((with_reducible apply Frames.step (State.tookFrees_frames ..)); exact rfl)
      | with_reducible apply Frames.iteSnd
      | with_reducible apply Frames.iteSnd2
      | with_reducible apply Frames.iteFst
      | dsimp only
      | split
  have h11 : Frames 0x1e0002410809 s y11 := by
    unfold y11
    repeat' first
      | with_reducible assumption
      | with_reducible exact Frames.refl _ _
      | with_reducible apply FramesOut.next
      | with_reducible apply Frames.ite
      | with_reducible apply FramesOut.ite
      | ((with_reducible apply Frames.step (State.writeMem_frames ..)); exact rfl)
      | with_reducible apply Frames.iteSnd
      | with_reducible apply Frames.iteSnd2
      | with_reducible apply Frames.iteFst
      | dsimp only
      | split
  have h12 : Frames 0x1e0002410809 s y12 := by
    unfold y12
    repeat' first
      | with_reducible assumption
      | with_reducible exact Frames.refl _ _
      | with_reducible apply FramesOut.next
      | with_reducible apply Frames.ite
      | with_reducible apply FramesOut.ite
      | ((with_reducible apply Frames.step (State.writeMem_frames ..)); exact rfl)
      | with_reducible apply Frames.iteSnd
      | with_reducible apply Frames.iteSnd2
      | with_reducible apply Frames.iteFst
      | dsimp only
      | split
  have h13 : Frames 0x1e0002410809 s y13 := by
    unfold y13
    repeat' first
      | with_reducible assumption
      | with_reducible exact Frames.refl _ _
      | with_reducible apply FramesOut.next
      | with_reducible apply Frames.ite
      | with_reducible apply FramesOut.ite
      | ((with_reducible apply Frames.step (State.laneNf_frames ..)); exact rfl)
      | with_reducible apply Frames.iteSnd
      | with_reducible apply Frames.iteSnd2
      | with_reducible apply Frames.iteFst
      | dsimp only
      | split
  repeat' first
    | with_reducible assumption
    | with_reducible exact Frames.refl _ _
    | with_reducible apply FramesOut.next
    | with_reducible apply Frames.ite
    | with_reducible apply FramesOut.ite
    | ((with_reducible apply Frames.step (State.markQuantised_frames ..)); exact rfl)
    | ((with_reducible apply Frames.step (State.optPublish_frames ..)); exact rfl)
    | with_reducible apply Frames.iteSnd
    | with_reducible apply Frames.iteSnd2
    | with_reducible apply Frames.iteFst
    | dsimp only
    | split

theorem execFallbackPublish_frames (d : Fin 4) (entry : BitVec 16) (s : State) :
    FramesOut 0x60002000000 s (execFallbackPublish d entry s) := by
  unfold execFallbackPublish
  extract_lets y0
  repeat' first
    | with_reducible assumption
    | with_reducible exact Frames.refl _ _
    | with_reducible apply FramesOut.next
    | with_reducible apply Frames.ite
    | with_reducible apply FramesOut.ite
    | ((with_reducible apply Frames.step (State.markQuantised_frames ..)); exact rfl)
    | ((with_reducible apply Frames.step (State.optPublish_frames ..)); exact rfl)
    | dsimp only
    | split

theorem State.putAll_frames {m : Nat} {s t : State} {r : Fin 4 → Reg} {f : Fld} {v : Nat}
    (hm : ∀ i, (r i).block.inMask m = true) (h : Frames m s t) : Frames m s (t.putAll r f v) := by
  unfold State.putAll
  exact Frames.foldl (fun _ _ => Frames.put (hm _) (Frames.refl _ _)) h

theorem State.optPhase_frames (s : State) (p : Nat) :
    Frames 0x80000000000 s (State.optPhase s p) := by
  unfold State.optPhase
  repeat' first
    | with_reducible assumption
    | with_reducible exact Frames.refl _ _
    | with_reducible apply Frames.ite
    | ((with_reducible refine State.putAll_frames ?_ ?_); on_goal 1 => exact fun _ => rfl)
    | split

theorem State.setStep_frames (s : State) (t : StepState) :
    Frames 0x2000000 s (State.setStep s t) := by
  unfold State.setStep
  repeat' first
    | with_reducible assumption
    | with_reducible exact Frames.refl _ _
    | with_reducible apply Frames.ite
    | (fail_if_no_progress ((with_reducible apply Frames.opt); exact rfl))
    | split

theorem State.tryVote_frames (s : State) :
    Frames 0x80002000000 s (State.tryVote s) := by
  unfold State.tryVote
  repeat' first
    | with_reducible assumption
    | with_reducible exact Frames.refl _ _
    | with_reducible apply Frames.ite
    | ((with_reducible apply Frames.step (State.optPhase_frames ..)); exact rfl)
    | ((with_reducible refine State.putAll_frames ?_ ?_); on_goal 1 => exact fun _ => rfl)
    | ((with_reducible apply Frames.step (State.setStep_frames ..)); exact rfl)
    | dsimp only
    | split

theorem State.entryDone_frames (s : State) (d : Fin 4) (i : Nat) :
    Frames 0xe0002000000 s (State.entryDone s d i) := by
  unfold State.entryDone
  extract_lets y0 y1
  have h1 : Frames 0xe0002000000 s y1 := by
    unfold y1
    repeat' first
      | with_reducible assumption
      | with_reducible exact Frames.refl _ _
      | with_reducible apply Frames.ite
      | ((with_reducible apply Frames.step (State.setOptDie_frames ..)); exact rfl)
      | dsimp only
      | split
  repeat' first
    | with_reducible assumption
    | with_reducible exact Frames.refl _ _
    | with_reducible apply Frames.ite
    | ((with_reducible apply Frames.step (State.optPublish_frames ..)); exact rfl)
    | ((with_reducible apply Frames.step (State.tryVote_frames ..)); exact rfl)
    | ((with_reducible apply Frames.put); exact rfl)
    | dsimp only
    | split

theorem State.readGrad_frames (s : State) (d : Fin 4) (x : LayerEntry) :
    Frames 0x100000000808 s (State.readGrad s d x).2.2 := by
  unfold State.readGrad
  extract_lets y0
  have h0 : Frames 0x100000000808 s y0.2.2 := by
    unfold y0
    repeat' first
      | with_reducible assumption
      | with_reducible exact Frames.refl _ _
      | with_reducible apply Frames.ite
      | ((with_reducible apply Frames.step (State.readReals_frames ..)); exact rfl)
      | dsimp only
      | split
  repeat' first
    | with_reducible assumption
    | with_reducible exact Frames.refl _ _
    | with_reducible apply Frames.ite
    | with_reducible apply Frames.iteSnd
    | with_reducible apply Frames.iteSnd2
    | with_reducible apply Frames.iteFst
    | split

theorem State.normGather_frames (s : State) (d : Fin 4) :
    Frames 0x6000000 s (State.normGather s d) := by
  unfold State.normGather
  repeat' first
    | with_reducible assumption
    | with_reducible exact Frames.refl _ _
    | with_reducible apply Frames.ite
    | ((with_reducible apply Frames.foldl); intro _ _)
    | ((with_reducible apply Frames.foldlSnd); intro _ _)
    | ((with_reducible apply Frames.step (State.setColDie_frames ..)); exact rfl)
    | ((with_reducible apply Frames.step (State.setOptDie_frames ..)); exact rfl)
    | with_reducible apply Frames.iteSnd
    | with_reducible apply Frames.iteSnd2
    | with_reducible apply Frames.iteFst
    | dsimp only
    | split

theorem State.takeEntry_frames (s : State) (d : Fin 4) (i : Nat) :
    Frames 0x180006000818 s (State.takeEntry s d i) := by
  unfold State.takeEntry
  extract_lets y0 y1 y2 y3 y4 y5
  have h0 : Frames 0x180006000818 s y0.2.2 := by
    unfold y0
    repeat' first
      | with_reducible assumption
      | with_reducible exact Frames.refl _ _
      | with_reducible apply Frames.ite
      | ((with_reducible apply Frames.step (State.readGrad_frames ..)); exact rfl)
      | ((with_reducible apply Frames.step (State.setOptDie_frames ..)); exact rfl)
      | dsimp only
      | split
  have h2 : Frames 0x180006000818 s y2 := by
    unfold y2
    repeat' first
      | with_reducible assumption
      | with_reducible exact Frames.refl _ _
      | with_reducible apply Frames.ite
      | ((with_reducible apply Frames.step (State.optBadRead_frames ..)); exact rfl)
      | ((with_reducible apply Frames.step (State.setOptDie_frames ..)); exact rfl)
      | dsimp only
      | split
  have h4 : Frames 0x180006000818 s y4 := by
    unfold y4
    repeat' first
      | with_reducible assumption
      | with_reducible exact Frames.refl _ _
      | with_reducible apply Frames.ite
      | ((with_reducible apply Frames.step (State.setOptDie_frames ..)); exact rfl)
      | ((with_reducible apply Frames.put); exact rfl)
      | dsimp only
      | split
  have h5 : Frames 0x180006000818 s y5 := by
    unfold y5
    repeat' first
      | with_reducible assumption
      | with_reducible exact Frames.refl _ _
      | with_reducible apply Frames.ite
      | ((with_reducible apply Frames.step (State.setOptDie_frames ..)); exact rfl)
      | ((with_reducible apply Frames.put); exact rfl)
      | dsimp only
      | split
  repeat' first
    | with_reducible assumption
    | with_reducible exact Frames.refl _ _
    | with_reducible apply Frames.ite
    | ((with_reducible apply Frames.step (State.emit_frames ..)); exact rfl)
    | ((with_reducible apply Frames.step (State.normGather_frames ..)); exact rfl)
    | ((with_reducible apply Frames.step (State.setOptDie_frames ..)); exact rfl)
    | with_reducible apply Frames.iteSnd
    | with_reducible apply Frames.iteSnd2
    | with_reducible apply Frames.iteFst
    | dsimp only
    | split

theorem State.readTensors_frames (d : Fin 4) (s : State) (a1 : List (Nat × Nat × Nat)) :
    Frames 0x100000000808 s (State.readTensors d s a1).2.2 := by
  fun_induction State.readTensors d s a1
  all_goals
    repeat' first
      | with_reducible assumption
      | with_reducible exact Frames.refl _ _
      | with_reducible apply Frames.ite
      | ((with_reducible apply Frames.step (State.readBytes_frames ..)); exact rfl)
      | with_reducible refine Frames.trans ?_ (by assumption)
      | dsimp only
      | split

theorem State.writeSpaced_frames (d : Fin 4) (s : State) (a1 : Nat) (a2 : List (List Byte)) :
    Frames 0x100000010801 s (State.writeSpaced d s a1 a2) := by
  fun_induction State.writeSpaced d s a1 a2
  all_goals
    repeat' first
      | with_reducible assumption
      | with_reducible exact Frames.refl _ _
      | with_reducible apply Frames.ite
      | ((with_reducible apply Frames.step (State.writeMem_frames ..)); exact rfl)
      | with_reducible refine Frames.trans ?_ (by assumption)
      | split

theorem State.logCopy_frames (s : State) (d : Fin 4) (i : Nat) (norm : Nat) :
    Frames 0x100002010809 s (State.logCopy s d i norm).2 := by
  unfold State.logCopy
  extract_lets y0 y1 y2 y3 y4 y5 y6 y7
  try clear_value y0
  have h1 : Frames 0x100002010809 s y1.2.2 := by
    unfold y1
    repeat' first
      | with_reducible assumption
      | with_reducible exact Frames.refl _ _
      | with_reducible apply Frames.ite
      | ((with_reducible apply Frames.step (State.readTensors_frames ..)); exact rfl)
      | dsimp only
      | split
  have h3 : Frames 0x100002010809 s y3 := by
    unfold y3
    repeat' first
      | with_reducible assumption
      | with_reducible exact Frames.refl _ _
      | with_reducible apply Frames.ite
      | ((with_reducible apply Frames.step (State.writeSpaced_frames ..)); exact rfl)
      | dsimp only
      | split
  have h6 : Frames 0x100002010809 s y6 := by
    unfold y6
    repeat' first
      | with_reducible assumption
      | with_reducible exact Frames.refl _ _
      | with_reducible apply Frames.ite
      | ((with_reducible apply Frames.step (State.writeMem_frames ..)); exact rfl)
      | dsimp only
      | split
  repeat' first
    | with_reducible assumption
    | with_reducible exact Frames.refl _ _
    | with_reducible apply Frames.ite
    | with_reducible apply Frames.iteSnd
    | with_reducible apply Frames.iteSnd2
    | with_reducible apply Frames.iteFst
    | ((with_reducible apply Frames.step (State.setOptDie_frames ..)); exact rfl)
    | dsimp only
    | split

theorem State.readSpaced_frames (d : Fin 4) (s : State) (a1 : Nat) (a2 : List (Nat × Nat × Nat)) :
    Frames 0x100000000808 s (State.readSpaced d s a1 a2).2.2 := by
  fun_induction State.readSpaced d s a1 a2
  all_goals
    repeat' first
      | with_reducible assumption
      | with_reducible exact Frames.refl _ _
      | with_reducible apply Frames.ite
      | ((with_reducible apply Frames.step (State.readBytes_frames ..)); exact rfl)
      | with_reducible refine Frames.trans ?_ (by assumption)
      | dsimp only
      | split

theorem State.writeBack_frames (d : Fin 4) (s : State) (a1 : List ((Nat × Nat × Nat) × List Byte)) :
    Frames 0x100000010801 s (State.writeBack d s a1) := by
  fun_induction State.writeBack d s a1
  all_goals
    repeat' first
      | with_reducible assumption
      | with_reducible exact Frames.refl _ _
      | with_reducible apply Frames.ite
      | with_reducible refine Frames.trans ?_ (by assumption)
      | ((with_reducible apply Frames.step (State.writeMem_frames ..)); exact rfl)
      | split

theorem State.restoreEntry_frames (s : State) (d : Fin 4) (at_ : Nat) :
    Frames 0x100000010809 s (State.restoreEntry s d at_).2 := by
  unfold State.restoreEntry
  extract_lets y0 y1 y2 y3 y4 y5 y6 y7
  have h0 : Frames 0x100000010809 s y0.2.2 := by
    unfold y0
    repeat' first
      | with_reducible assumption
      | with_reducible exact Frames.refl _ _
      | with_reducible apply Frames.ite
      | with_reducible apply Frames.iteSnd
      | with_reducible apply Frames.iteSnd2
      | with_reducible apply Frames.iteFst
      | ((with_reducible apply Frames.step (State.readBytes_frames ..)); exact rfl)
      | dsimp only
      | split
  try clear_value y6
  have h7 : Frames 0x100000010809 s y7.2.2 := by
    unfold y7
    repeat' first
      | with_reducible assumption
      | with_reducible exact Frames.refl _ _
      | with_reducible apply Frames.ite
      | with_reducible apply Frames.iteSnd
      | with_reducible apply Frames.iteSnd2
      | with_reducible apply Frames.iteFst
      | ((with_reducible apply Frames.step (State.readSpaced_frames ..)); exact rfl)
      | dsimp only
      | split
  repeat' first
    | with_reducible assumption
    | with_reducible exact Frames.refl _ _
    | with_reducible apply Frames.ite
    | with_reducible apply Frames.iteSnd
    | with_reducible apply Frames.iteSnd2
    | with_reducible apply Frames.iteFst
    | ((with_reducible apply Frames.step (State.writeBack_frames ..)); exact rfl)
    | dsimp only
    | split

theorem State.restoreDie_frames (d : Fin 4) (s : State) (a1 : List Nat) :
    Frames 0x184002010809 s (State.restoreDie d s a1).2 := by
  fun_induction State.restoreDie d s a1
  all_goals
    repeat' first
      | with_reducible assumption
      | with_reducible exact Frames.refl _ _
      | with_reducible apply Frames.ite
      | with_reducible apply Frames.iteSnd
      | with_reducible apply Frames.iteSnd2
      | with_reducible apply Frames.iteFst
      | ((with_reducible apply Frames.step (State.optStop_frames ..)); exact rfl)
      | with_reducible refine Frames.trans ?_ (by assumption)
      | ((with_reducible apply Frames.step (State.restoreEntry_frames ..)); exact rfl)
      | dsimp only
      | split

theorem State.restoreAll_frames (s : State) (a0 : List (Fin 4)) :
    Frames 0x184002010809 s (State.restoreAll s a0).2 := by
  fun_induction State.restoreAll s a0
  all_goals
    repeat' first
      | with_reducible assumption
      | with_reducible exact Frames.refl _ _
      | with_reducible apply Frames.ite
      | with_reducible refine Frames.trans ?_ (by assumption)
      | ((with_reducible apply Frames.step (State.restoreDie_frames ..)); exact rfl)
      | dsimp only
      | split

theorem State.runElement_frames (s : State) (d : Fin 4) (i : Nat) (g : List Nat) :
    Frames 0x180002410809 s (State.runElement s d i g) := by
  unfold State.runElement
  extract_lets y0 y1 y2 y3 y4 y5 y6 y7 y8 y9 y10 y11 y12 y13 y14 y15 y16 y17 y18 y19
  have h4 : Frames 0x180002410809 s y4.2.2 := by
    unfold y4
    repeat' first
      | with_reducible assumption
      | with_reducible exact Frames.refl _ _
      | with_reducible apply Frames.ite
      | ((with_reducible apply Frames.step (State.readReals_frames ..)); exact rfl)
      | with_reducible apply Frames.iteSnd
      | with_reducible apply Frames.iteSnd2
      | with_reducible apply Frames.iteFst
      | dsimp only
      | split
  have h5 : Frames 0x180002410809 s y5.2.2 := by
    unfold y5
    repeat' first
      | with_reducible assumption
      | with_reducible exact Frames.refl _ _
      | with_reducible apply Frames.ite
      | ((with_reducible apply Frames.step (State.readReals_frames ..)); exact rfl)
      | with_reducible apply Frames.iteSnd
      | with_reducible apply Frames.iteSnd2
      | with_reducible apply Frames.iteFst
      | dsimp only
      | split
  have h6 : Frames 0x180002410809 s y6.2.2 := by
    unfold y6
    repeat' first
      | with_reducible assumption
      | with_reducible exact Frames.refl _ _
      | with_reducible apply Frames.ite
      | ((with_reducible apply Frames.step (State.readReals_frames ..)); exact rfl)
      | with_reducible apply Frames.iteSnd
      | with_reducible apply Frames.iteSnd2
      | with_reducible apply Frames.iteFst
      | dsimp only
      | split
  have h7 : Frames 0x180002410809 s y7 := by
    unfold y7
    repeat' first
      | with_reducible assumption
      | with_reducible exact Frames.refl _ _
      | with_reducible apply Frames.ite
      | dsimp only
      | split
  have h14 : Frames 0x180002410809 s y14 := by
    unfold y14
    repeat' first
      | with_reducible assumption
      | with_reducible exact Frames.refl _ _
      | with_reducible apply Frames.ite
      | ((with_reducible apply Frames.step (State.optBadRead_frames ..)); exact rfl)
      | ((with_reducible apply Frames.step (State.setLaneDrawn_frames ..)); exact rfl)
      | ((with_reducible apply Frames.step (State.tookFrees_frames ..)); exact rfl)
      | dsimp only
      | split
  have h15 : Frames 0x180002410809 s y15 := by
    unfold y15
    repeat' first
      | with_reducible assumption
      | with_reducible exact Frames.refl _ _
      | with_reducible apply Frames.ite
      | ((with_reducible apply Frames.step (State.writeReals_frames ..)); exact rfl)
      | with_reducible apply Frames.iteSnd
      | with_reducible apply Frames.iteSnd2
      | with_reducible apply Frames.iteFst
      | dsimp only
      | split
  have h16 : Frames 0x180002410809 s y16 := by
    unfold y16
    repeat' first
      | with_reducible assumption
      | with_reducible exact Frames.refl _ _
      | with_reducible apply Frames.ite
      | ((with_reducible apply Frames.step (State.writeReals_frames ..)); exact rfl)
      | with_reducible apply Frames.iteSnd
      | with_reducible apply Frames.iteSnd2
      | with_reducible apply Frames.iteFst
      | dsimp only
      | split
  have h17 : Frames 0x180002410809 s y17 := by
    unfold y17
    repeat' first
      | with_reducible assumption
      | with_reducible exact Frames.refl _ _
      | with_reducible apply Frames.ite
      | ((with_reducible apply Frames.step (State.writeReals_frames ..)); exact rfl)
      | with_reducible apply Frames.iteSnd
      | with_reducible apply Frames.iteSnd2
      | with_reducible apply Frames.iteFst
      | dsimp only
      | split
  have h19 : Frames 0x180002410809 s y19 := by
    unfold y19
    repeat' first
      | with_reducible assumption
      | with_reducible exact Frames.refl _ _
      | with_reducible apply Frames.ite
      | ((with_reducible apply Frames.step (State.writeMem_frames ..)); exact rfl)
      | with_reducible apply Frames.iteSnd
      | with_reducible apply Frames.iteSnd2
      | with_reducible apply Frames.iteFst
      | dsimp only
      | split
  repeat' first
    | with_reducible assumption
    | with_reducible exact Frames.refl _ _
    | with_reducible apply Frames.ite
    | ((with_reducible apply Frames.step (State.laneNf_frames ..)); exact rfl)
    | ((with_reducible apply Frames.step (State.laneSat_frames ..)); exact rfl)
    | dsimp only
    | split

theorem State.keepResidual_frames (s : State) (d : Fin 4) (i : Nat) :
    Frames 0x180002010809 s (State.keepResidual s d i) := by
  unfold State.keepResidual
  extract_lets y0 y1
  have h1 : Frames 0x180002010809 s y1.2.2 := by
    unfold y1
    repeat' first
      | with_reducible assumption
      | with_reducible exact Frames.refl _ _
      | with_reducible apply Frames.ite
      | ((with_reducible apply Frames.step (State.readBytes_frames ..)); exact rfl)
      | dsimp only
      | split
  repeat' first
    | with_reducible assumption
    | with_reducible exact Frames.refl _ _
    | with_reducible apply Frames.ite
    | ((with_reducible apply Frames.step (State.optBadRead_frames ..)); exact rfl)
    | ((with_reducible apply Frames.step (State.writeMem_frames ..)); exact rfl)
    | with_reducible apply Frames.iteSnd
    | with_reducible apply Frames.iteSnd2
    | with_reducible apply Frames.iteFst
    | dsimp only
    | split

theorem State.copyWeights_frames (s : State) (d : Fin 4) (i : Nat) (w : List Nat) :
    Frames 0x100002010801 s (State.copyWeights s d i w) := by
  unfold State.copyWeights
  extract_lets y0 y1
  repeat' first
    | with_reducible assumption
    | with_reducible exact Frames.refl _ _
    | with_reducible apply Frames.ite
    | ((with_reducible apply Frames.step (State.laneNf_frames ..)); exact rfl)
    | ((with_reducible apply Frames.step (State.laneSat_frames ..)); exact rfl)
    | ((with_reducible apply Frames.step (State.writeMem_frames ..)); exact rfl)
    | dsimp only
    | split

end Sys2Proof.Machine
end

