-- ==== Sys2Proof/Laws/FramesOptStep.lean ====
section
/-! SUPPORT. What the definitions of Machine/OptStep.lean can change: one lemma for each that answers a state. -/

namespace Sys2Proof.Machine

theorem State.readArea_frames (s : State) (d : Fin 4) (k : Fin 11) (entry : Nat) :
    Frames 0x180002000808 s (State.readArea s d k entry) := by
  unfold State.readArea
  extract_lets y0 y1
  try clear_value y0
  have h1 : Frames 0x180002000808 s y1.2.2 := by
    unfold y1
    repeat' first
      | with_reducible assumption
      | with_reducible exact Frames.refl _ _
      | with_reducible apply Frames.ite
      | ((with_reducible apply Frames.step (State.readBytes_frames ..)); exact rfl)
      | dsimp only
      | split
  repeat' first
    | with_reducible assumption
    | with_reducible exact Frames.refl _ _
    | with_reducible apply Frames.ite
    | ((with_reducible apply Frames.step (State.optBadRead_frames ..)); exact rfl)
    | with_reducible apply Frames.iteSnd
    | with_reducible apply Frames.iteSnd2
    | with_reducible apply Frames.iteFst
    | dsimp only
    | split

theorem State.fillArea_frames (s : State) (d : Fin 4) (k : Fin 11) :
    Frames 0x100000010809 s (State.fillArea s d k) := by
  unfold State.fillArea
  extract_lets y0
  try clear_value y0
  repeat' first
    | with_reducible assumption
    | with_reducible exact Frames.refl _ _
    | with_reducible apply Frames.ite
    | ((with_reducible apply Frames.step (State.tookFrees_frames ..)); exact rfl)
    | ((with_reducible apply Frames.step (State.writeMem_frames ..)); exact rfl)
    | dsimp only
    | split

theorem State.chargeLoan_frames (s : State) (d : Fin 4) (k : Fin 11) (cycles : Nat) :
    Frames 0x400000 s (State.chargeLoan s d k cycles) := by
  unfold State.chargeLoan
  extract_lets y0
  repeat' first
    | with_reducible assumption
    | with_reducible exact Frames.refl _ _
    | with_reducible apply Frames.ite
    | ((with_reducible apply Frames.step (State.setTcCore_frames ..)); exact rfl)
    | dsimp only
    | split

theorem State.useCores_frames (s : State) (d : Fin 4) (entry : Nat) (nf : Nat) (cycles : Nat) (ks : List (Fin 11)) :
    Frames 0x18c002410809 s (State.useCores s d entry nf cycles ks).2 := by
  unfold State.useCores
  repeat' first
    | with_reducible assumption
    | with_reducible exact Frames.refl _ _
    | with_reducible apply Frames.ite
    | ((with_reducible apply Frames.step (State.chargeLoan_frames ..)); exact rfl)
    | ((with_reducible apply Frames.step (State.fillArea_frames ..)); exact rfl)
    | ((with_reducible refine Frames.trans ?_ (Frames.mono (State.foreignHit_frames (by assumption)) ?_)); on_goal 2 => exact rfl)
    | ((with_reducible apply Frames.step (State.optStop_frames ..)); exact rfl)
    | ((with_reducible apply Frames.step (State.readArea_frames ..)); exact rfl)
    | ((with_reducible apply Frames.step (State.tcNfIf_frames ..)); exact rfl)
    | ((with_reducible apply Frames.step (State.useCores_frames ..)); exact rfl)
    | split

theorem State.subProduct_frames (s : State) (d : Fin 4) (entry : Nat) (nf : Nat) (macs : Nat) :
    Frames 0x18c002410809 s (State.subProduct s d entry nf macs).2 := by
  unfold State.subProduct
  repeat' first
    | with_reducible assumption
    | with_reducible exact Frames.refl _ _
    | with_reducible apply Frames.ite
    | ((with_reducible apply Frames.step (State.useCores_frames ..)); exact rfl)
    | split

theorem State.lendReturn_frames (s : State) (d : Fin 4) (k : Fin 11) :
    Frames 0x8000400008 s (State.lendReturn s d k) := by
  unfold State.lendReturn
  extract_lets y0 y1 y2 y3 y4
  have h2 : Frames 0x8000400008 s y2 := by
    unfold y2
    repeat' first
      | with_reducible assumption
      | with_reducible exact Frames.refl _ _
      | with_reducible apply Frames.ite
      | ((with_reducible apply Frames.step (State.setTcCore_frames ..)); exact rfl)
      | ((with_reducible apply Frames.step (State.tookFrees_frames ..)); exact rfl)
      | dsimp only
      | split
  have h3 : Frames 0x8000400008 s y3 := by
    unfold y3
    repeat' first
      | with_reducible assumption
      | with_reducible exact Frames.refl _ _
      | with_reducible apply Frames.ite
      | ((with_reducible apply Frames.foldl); intro _ _)
      | ((with_reducible apply Frames.foldlSnd); intro _ _)
      | ((with_reducible apply Frames.step (State.tookFree_frames ..)); exact rfl)
      | ((with_reducible apply Frames.set); exact rfl)
      | dsimp only
      | split
  have h4 : Frames 0x8000400008 s y4 := by
    unfold y4
    repeat' first
      | with_reducible assumption
      | with_reducible exact Frames.refl _ _
      | with_reducible apply Frames.ite
      | ((with_reducible apply Frames.put); exact rfl)
      | dsimp only
      | split
  repeat' first
    | with_reducible assumption
    | with_reducible exact Frames.refl _ _
    | with_reducible apply Frames.ite
    | ((with_reducible apply Frames.put); exact rfl)
    | dsimp only
    | split

theorem execLend_frames (d : Fin 4) (k : Fin 11) (s : State) :
    FramesOut 0xc000400800 s (execLend d k s) := by
  unfold execLend
  with_reducible apply FramesOut.next
  with_reducible refine Frames.trans ?_ (State.tcIssue_frames ?_ (fun _ _ _ => ?_))
  on_goal 2 => exact rfl
  repeat' first
    | with_reducible assumption
    | with_reducible exact Frames.refl _ _
    | with_reducible apply FramesOut.next
    | with_reducible apply Frames.ite
    | with_reducible apply FramesOut.ite
    | ((with_reducible apply Frames.step (State.tcStart_frames ..)); exact rfl)
    | ((with_reducible apply Frames.put); exact rfl)
    | split

theorem execLendReturn_frames (d : Fin 4) (k : Fin 11) (s : State) :
    FramesOut 0x8000400008 s (execLendReturn d k s) := by
  unfold execLendReturn
  repeat' first
    | with_reducible assumption
    | with_reducible exact Frames.refl _ _
    | with_reducible apply FramesOut.next
    | with_reducible apply Frames.ite
    | with_reducible apply FramesOut.ite
    | ((with_reducible apply Frames.step (State.lendReturn_frames ..)); exact rfl)
    | split

theorem State.boundaryReturn_frames (s : State) (d : Fin 4) :
    Frames 0x8000400008 s (State.boundaryReturn s d) := by
  unfold State.boundaryReturn
  repeat' first
    | with_reducible assumption
    | with_reducible exact Frames.refl _ _
    | with_reducible apply Frames.ite
    | ((with_reducible apply Frames.foldl); intro _ _)
    | ((with_reducible apply Frames.foldlSnd); intro _ _)
    | ((with_reducible apply Frames.step (State.lendReturn_frames ..)); exact rfl)
    | split

theorem State.teamSum_frames (s : State) (d : Fin 4) (r : OptRun) :
    Frames 0x100000000808 s (State.teamSum s d r).2 := by
  unfold State.teamSum
  repeat' first
    | with_reducible assumption
    | with_reducible exact Frames.refl _ _
    | with_reducible apply Frames.ite
    | with_reducible apply Frames.iteSnd
    | with_reducible apply Frames.iteSnd2
    | with_reducible apply Frames.iteFst
    | ((with_reducible apply Frames.step (State.readReals_frames ..)); exact rfl)
    | dsimp only
    | split

theorem State.leaveProduct_frames (s : State) (d : Fin 4) (entry : Nat) (p : Mat) :
    Frames 0x100002010801 s (State.leaveProduct s d entry p) := by
  unfold State.leaveProduct
  repeat' first
    | with_reducible assumption
    | with_reducible exact Frames.refl _ _
    | with_reducible apply Frames.ite
    | ((with_reducible apply Frames.step (State.writeReals_frames ..)); exact rfl)
    | split

theorem State.postProduct_frames (s : State) (d : Fin 4) (r : OptRun) (k : Nat) (mat : Mat) (p : Mat) :
    Frames 0x160002010801 s (State.postProduct s d r k mat p) := by
  unfold State.postProduct
  extract_lets y0 y1
  have h0 : Frames 0x160002010801 s y0 := by
    unfold y0
    repeat' first
      | with_reducible assumption
      | with_reducible exact Frames.refl _ _
      | with_reducible apply Frames.ite
      | ((with_reducible apply Frames.step (State.leaveProduct_frames ..)); exact rfl)
      | dsimp only
      | split
  repeat' first
    | with_reducible assumption
    | with_reducible exact Frames.refl _ _
    | with_reducible apply Frames.ite
    | ((with_reducible apply Frames.step (State.optPublish_frames ..)); exact rfl)
    | ((with_reducible apply Frames.step (State.setOptDie_frames ..)); exact rfl)
    | split

theorem State.finishMatrix_frames (s : State) (d : Fin 4) (r : OptRun) (w : List Nat) :
    Frames 0x1e0002010809 s (State.finishMatrix s d r w) := by
  unfold State.finishMatrix
  extract_lets y0
  have h0 : Frames 0x1e0002010809 s y0 := by
    unfold y0
    repeat' first
      | with_reducible assumption
      | with_reducible exact Frames.refl _ _
      | with_reducible apply Frames.ite
      | ((with_reducible apply Frames.step (State.writeReals_frames ..)); exact rfl)
      | dsimp only
      | split
  repeat' first
    | with_reducible assumption
    | with_reducible exact Frames.refl _ _
    | with_reducible apply Frames.ite
    | ((with_reducible apply Frames.step (State.copyWeights_frames ..)); exact rfl)
    | ((with_reducible apply Frames.step (State.entryDone_frames ..)); exact rfl)
    | ((with_reducible apply Frames.step (State.keepResidual_frames ..)); exact rfl)
    | split

theorem State.startMatrix_frames (s : State) (d : Fin 4) (r : OptRun) :
    Frames 0x1ec002410809 s (State.startMatrix s d r) := by
  unfold State.startMatrix
  extract_lets y0 y1 y2 y3 y4 y5 y6 y7 y8 y9
  have h1 : Frames 0x1ec002410809 s y1.2.2 := by
    unfold y1
    repeat' first
      | with_reducible assumption
      | with_reducible exact Frames.refl _ _
      | with_reducible apply Frames.ite
      | ((with_reducible apply Frames.step (State.readGrad_frames ..)); exact rfl)
      | dsimp only
      | split
  have h2 : Frames 0x1ec002410809 s y2 := by
    unfold y2
    repeat' first
      | with_reducible assumption
      | with_reducible exact Frames.refl _ _
      | with_reducible apply Frames.ite
      | ((with_reducible apply Frames.step (State.optBadRead_frames ..)); exact rfl)
      | dsimp only
      | split
  have h3 : Frames 0x1ec002410809 s y3.2.2 := by
    unfold y3
    repeat' first
      | with_reducible assumption
      | with_reducible exact Frames.refl _ _
      | with_reducible apply Frames.ite
      | ((with_reducible apply Frames.step (State.readReals_frames ..)); exact rfl)
      | dsimp only
      | split
  have h6 : Frames 0x1ec002410809 s y6 := by
    unfold y6
    repeat' first
      | with_reducible assumption
      | with_reducible exact Frames.refl _ _
      | with_reducible apply Frames.ite
      | ((with_reducible apply Frames.step (State.laneNf_frames ..)); exact rfl)
      | ((with_reducible apply Frames.step (State.writeReals_frames ..)); exact rfl)
      | dsimp only
      | split
  have h9 : Frames 0x1ec002410809 s y9.2 := by
    unfold y9
    repeat' first
      | with_reducible assumption
      | with_reducible exact Frames.refl _ _
      | with_reducible apply Frames.ite
      | ((with_reducible apply Frames.step (State.laneNf_frames ..)); exact rfl)
      | ((with_reducible apply Frames.step (State.subProduct_frames ..)); exact rfl)
      | dsimp only
      | split
  repeat' first
    | with_reducible assumption
    | with_reducible exact Frames.refl _ _
    | with_reducible apply Frames.ite
    | ((with_reducible apply Frames.step (State.postProduct_frames ..)); exact rfl)
    | with_reducible apply Frames.iteSnd
    | with_reducible apply Frames.iteSnd2
    | with_reducible apply Frames.iteFst
    | dsimp only
    | split

theorem State.newtonSchulz_frames (s : State) (d : Fin 4) (r : OptRun) :
    Frames 0x1ec002410809 s (State.newtonSchulz s d r) := by
  unfold State.newtonSchulz
  extract_lets y0 y1 y2 y3 y4 y5 y6 y7 y8 y9 y10 y11 y12 y13 y14 y15 y16 y17
  have h2 : Frames 0x1ec002410809 s y2.2 := by
    unfold y2
    repeat' first
      | with_reducible assumption
      | with_reducible exact Frames.refl _ _
      | with_reducible apply Frames.ite
      | ((with_reducible apply Frames.step (State.teamSum_frames ..)); exact rfl)
      | with_reducible apply Frames.iteSnd
      | with_reducible apply Frames.iteSnd2
      | with_reducible apply Frames.iteFst
      | dsimp only
      | split
  have h4 : Frames 0x1ec002410809 s y4.2.2 := by
    unfold y4
    repeat' first
      | with_reducible assumption
      | with_reducible exact Frames.refl _ _
      | with_reducible apply Frames.ite
      | ((with_reducible apply Frames.step (State.readReals_frames ..)); exact rfl)
      | with_reducible apply Frames.iteSnd
      | with_reducible apply Frames.iteSnd2
      | with_reducible apply Frames.iteFst
      | dsimp only
      | split
  have h10 : Frames 0x1ec002410809 s y10 := by
    unfold y10
    repeat' first
      | with_reducible assumption
      | with_reducible exact Frames.refl _ _
      | with_reducible apply Frames.ite
      | ((with_reducible apply Frames.step (State.laneNf_frames ..)); exact rfl)
      | with_reducible apply Frames.iteSnd
      | with_reducible apply Frames.iteSnd2
      | with_reducible apply Frames.iteFst
      | dsimp only
      | split
  have h12 : Frames 0x1ec002410809 s y12.2.2 := by
    unfold y12
    repeat' first
      | with_reducible assumption
      | with_reducible exact Frames.refl _ _
      | with_reducible apply Frames.ite
      | ((with_reducible apply Frames.step (State.readReals_frames ..)); exact rfl)
      | with_reducible apply Frames.iteSnd
      | with_reducible apply Frames.iteSnd2
      | with_reducible apply Frames.iteFst
      | dsimp only
      | split
  have h15 : Frames 0x1ec002410809 s y15.2 := by
    unfold y15
    repeat' first
      | with_reducible assumption
      | with_reducible exact Frames.refl _ _
      | with_reducible apply Frames.ite
      | ((with_reducible apply Frames.step (State.finishMatrix_frames ..)); exact rfl)
      | ((with_reducible apply Frames.step (State.laneNf_frames ..)); exact rfl)
      | ((with_reducible apply Frames.step (State.postProduct_frames ..)); exact rfl)
      | ((with_reducible apply Frames.step (State.readReals_frames ..)); exact rfl)
      | ((with_reducible apply Frames.step (State.subProduct_frames ..)); exact rfl)
      | ((with_reducible apply Frames.step (State.teamSum_frames ..)); exact rfl)
      | with_reducible apply Frames.iteSnd
      | with_reducible apply Frames.iteSnd2
      | with_reducible apply Frames.iteFst
      | dsimp only
      | split
  have h17 : Frames 0x1ec002410809 s y17.2 := by
    unfold y17
    repeat' first
      | with_reducible assumption
      | with_reducible exact Frames.refl _ _
      | with_reducible apply Frames.ite
      | ((with_reducible apply Frames.step (State.finishMatrix_frames ..)); exact rfl)
      | ((with_reducible apply Frames.step (State.laneNf_frames ..)); exact rfl)
      | ((with_reducible apply Frames.step (State.postProduct_frames ..)); exact rfl)
      | ((with_reducible apply Frames.step (State.readReals_frames ..)); exact rfl)
      | ((with_reducible apply Frames.step (State.subProduct_frames ..)); exact rfl)
      | ((with_reducible apply Frames.step (State.teamSum_frames ..)); exact rfl)
      | with_reducible apply Frames.iteSnd
      | with_reducible apply Frames.iteSnd2
      | with_reducible apply Frames.iteFst
      | dsimp only
      | split
  repeat' first
    | with_reducible assumption
    | with_reducible exact Frames.refl _ _
    | with_reducible apply Frames.ite
    | ((with_reducible apply Frames.step (State.finishMatrix_frames ..)); exact rfl)
    | ((with_reducible apply Frames.step (State.postProduct_frames ..)); exact rfl)
    | ((with_reducible apply Frames.step (State.subProduct_frames ..)); exact rfl)
    | with_reducible apply Frames.iteSnd
    | with_reducible apply Frames.iteSnd2
    | with_reducible apply Frames.iteFst
    | dsimp only
    | split

theorem State.writeRoots_frames (s : State) (d : Fin 4) (x : LayerEntry) (left : Mat) (right : Mat) :
    Frames 0x100002010801 s (State.writeRoots s d x left right) := by
  unfold State.writeRoots
  repeat' first
    | with_reducible assumption
    | with_reducible exact Frames.refl _ _
    | with_reducible apply Frames.ite
    | ((with_reducible apply Frames.step (State.writeReals_frames ..)); exact rfl)
    | split

theorem State.precondition_frames (s : State) (d : Fin 4) (r : OptRun) :
    Frames 0x1ec002410809 s (State.precondition s d r) := by
  unfold State.precondition
  extract_lets y0 y1 y2 y3 y4 y5 y6 y7 y8 y9 y10 y11 y12 y13 y14 y15 y16 y17 y18 y19
  have h1 : Frames 0x1ec002410809 s y1.2 := by
    unfold y1
    repeat' first
      | with_reducible assumption
      | with_reducible exact Frames.refl _ _
      | with_reducible apply Frames.ite
      | ((with_reducible apply Frames.step (State.teamSum_frames ..)); exact rfl)
      | dsimp only
      | split
  have h5 : Frames 0x1ec002410809 s y5.2.2 := by
    unfold y5
    repeat' first
      | with_reducible assumption
      | with_reducible exact Frames.refl _ _
      | with_reducible apply Frames.ite
      | ((with_reducible apply Frames.step (State.readReals_frames ..)); exact rfl)
      | dsimp only
      | split
  have h6 : Frames 0x1ec002410809 s y6.2.2 := by
    unfold y6
    repeat' first
      | with_reducible assumption
      | with_reducible exact Frames.refl _ _
      | with_reducible apply Frames.ite
      | ((with_reducible apply Frames.step (State.readReals_frames ..)); exact rfl)
      | dsimp only
      | split
  have h9 : Frames 0x1ec002410809 s y9 := by
    unfold y9
    repeat' first
      | with_reducible assumption
      | with_reducible exact Frames.refl _ _
      | with_reducible apply Frames.ite
      | ((with_reducible apply Frames.step (State.writeReals_frames ..)); exact rfl)
      | dsimp only
      | split
  have h11 : Frames 0x1ec002410809 s y11 := by
    unfold y11
    repeat' first
      | with_reducible assumption
      | with_reducible exact Frames.refl _ _
      | with_reducible apply Frames.ite
      | ((with_reducible apply Frames.step (State.writeRoots_frames ..)); exact rfl)
      | dsimp only
      | split
  have h12 : Frames 0x1ec002410809 s y12.2.2 := by
    unfold y12
    repeat' first
      | with_reducible assumption
      | with_reducible exact Frames.refl _ _
      | with_reducible apply Frames.ite
      | ((with_reducible apply Frames.step (State.readReals_frames ..)); exact rfl)
      | dsimp only
      | split
  have h13 : Frames 0x1ec002410809 s y13.2.2 := by
    unfold y13
    repeat' first
      | with_reducible assumption
      | with_reducible exact Frames.refl _ _
      | with_reducible apply Frames.ite
      | ((with_reducible apply Frames.step (State.readReals_frames ..)); exact rfl)
      | dsimp only
      | split
  have h14 : Frames 0x1ec002410809 s y14.2.2 := by
    unfold y14
    repeat' first
      | with_reducible assumption
      | with_reducible exact Frames.refl _ _
      | with_reducible apply Frames.ite
      | ((with_reducible apply Frames.step (State.readReals_frames ..)); exact rfl)
      | dsimp only
      | split
  have h18 : Frames 0x1ec002410809 s y18 := by
    unfold y18
    repeat' first
      | with_reducible assumption
      | with_reducible exact Frames.refl _ _
      | with_reducible apply Frames.ite
      | ((with_reducible apply Frames.step (State.laneNf_frames ..)); exact rfl)
      | dsimp only
      | split
  have h19 : Frames 0x1ec002410809 s y19.2 := by
    unfold y19
    repeat' first
      | with_reducible assumption
      | with_reducible exact Frames.refl _ _
      | with_reducible apply Frames.ite
      | ((with_reducible apply Frames.step (State.subProduct_frames ..)); exact rfl)
      | dsimp only
      | split
  repeat' first
    | with_reducible assumption
    | with_reducible exact Frames.refl _ _
    | with_reducible apply Frames.ite
    | ((with_reducible apply Frames.step (State.finishMatrix_frames ..)); exact rfl)
    | with_reducible apply Frames.iteSnd
    | with_reducible apply Frames.iteSnd2
    | with_reducible apply Frames.iteFst
    | dsimp only
    | split

theorem State.checkEntry_frames (s : State) (d : Fin 4) (r : OptRun) (total : Nat) :
    Frames 0x1e4002010809 s (State.checkEntry s d r total) := by
  unfold State.checkEntry
  extract_lets y0 y1 y2 y3 y4
  have h2 : Frames 0x1e4002010809 s y2 := by
    unfold y2
    repeat' first
      | with_reducible assumption
      | with_reducible exact Frames.refl _ _
      | with_reducible apply Frames.ite
      | ((with_reducible apply Frames.put); exact rfl)
      | dsimp only
      | split
  have h3 : Frames 0x1e4002010809 s y3.2 := by
    unfold y3
    repeat' first
      | with_reducible assumption
      | with_reducible exact Frames.refl _ _
      | with_reducible apply Frames.ite
      | ((with_reducible apply Frames.step (State.logCopy_frames ..)); exact rfl)
      | dsimp only
      | split
  repeat' first
    | with_reducible assumption
    | with_reducible exact Frames.refl _ _
    | with_reducible apply Frames.ite
    | ((with_reducible apply Frames.step (State.entryDone_frames ..)); exact rfl)
    | ((with_reducible apply Frames.step (State.optStop_frames ..)); exact rfl)
    | ((with_reducible apply Frames.step (State.setOptDie_frames ..)); exact rfl)
    | ((with_reducible apply Frames.step (State.stallBursts_frames ..)); exact rfl)
    | ((with_reducible apply Frames.put); exact rfl)
    | with_reducible apply Frames.iteSnd
    | with_reducible apply Frames.iteSnd2
    | with_reducible apply Frames.iteFst
    | dsimp only
    | split

theorem State.updateEntry_frames (s : State) (d : Fin 4) (r : OptRun) :
    Frames 0x1ec002410809 s (State.updateEntry s d r) := by
  unfold State.updateEntry
  extract_lets y0 y1
  have h1 : Frames 0x1ec002410809 s y1.2.2 := by
    unfold y1
    repeat' first
      | with_reducible assumption
      | with_reducible exact Frames.refl _ _
      | with_reducible apply Frames.ite
      | ((with_reducible apply Frames.step (State.readGrad_frames ..)); exact rfl)
      | dsimp only
      | split
  repeat' first
    | with_reducible assumption
    | with_reducible exact Frames.refl _ _
    | with_reducible apply Frames.ite
    | ((with_reducible apply Frames.step (State.entryDone_frames ..)); exact rfl)
    | ((with_reducible apply Frames.step (State.keepResidual_frames ..)); exact rfl)
    | ((with_reducible apply Frames.step (State.optBadRead_frames ..)); exact rfl)
    | ((with_reducible apply Frames.step (State.runElement_frames ..)); exact rfl)
    | ((with_reducible apply Frames.step (State.startMatrix_frames ..)); exact rfl)
    | with_reducible apply Frames.iteSnd
    | with_reducible apply Frames.iteSnd2
    | with_reducible apply Frames.iteFst
    | dsimp only
    | split

theorem execEntryApply_frames (d : Fin 4) (s : State) :
    FramesOut 0x1ec006410819 s (execEntryApply d s) := by
  unfold execEntryApply
  repeat' first
    | with_reducible assumption
    | with_reducible exact Frames.refl _ _
    | with_reducible apply FramesOut.next
    | with_reducible apply Frames.ite
    | with_reducible apply FramesOut.ite
    | ((with_reducible apply Frames.step (State.boundaryReturn_frames ..)); exact rfl)
    | ((with_reducible apply Frames.step (State.checkEntry_frames ..)); exact rfl)
    | ((with_reducible apply Frames.step (State.newtonSchulz_frames ..)); exact rfl)
    | ((with_reducible apply Frames.step (State.precondition_frames ..)); exact rfl)
    | ((with_reducible apply Frames.step (State.takeEntry_frames ..)); exact rfl)
    | ((with_reducible apply Frames.step (State.updateEntry_frames ..)); exact rfl)
    | dsimp only
    | split

theorem State.passRun_frames (s : State) (d : Fin 4) (i : Nat) :
    Frames 0x180002410809 s (State.passRun s d i) := by
  unfold State.passRun
  extract_lets y0 y1
  have h1 : Frames 0x180002410809 s y1.2.2 := by
    unfold y1
    repeat' first
      | with_reducible assumption
      | with_reducible exact Frames.refl _ _
      | with_reducible apply Frames.ite
      | ((with_reducible apply Frames.step (State.readReals_frames ..)); exact rfl)
      | dsimp only
      | split
  repeat' first
    | with_reducible assumption
    | with_reducible exact Frames.refl _ _
    | with_reducible apply Frames.ite
    | ((with_reducible apply Frames.step (State.optBadRead_frames ..)); exact rfl)
    | ((with_reducible apply Frames.step (State.runElement_frames ..)); exact rfl)
    | with_reducible apply Frames.iteSnd
    | with_reducible apply Frames.iteSnd2
    | with_reducible apply Frames.iteFst
    | dsimp only
    | split

theorem execPassEntry_frames (d : Fin 4) (entry : BitVec 16) (s : State) :
    FramesOut 0x1e0002410809 s (execPassEntry d entry s) := by
  unfold execPassEntry
  extract_lets y0 y1
  repeat' first
    | with_reducible assumption
    | with_reducible exact Frames.refl _ _
    | with_reducible apply FramesOut.next
    | with_reducible apply Frames.ite
    | with_reducible apply FramesOut.ite
    | ((with_reducible apply Frames.step (State.entryDone_frames ..)); exact rfl)
    | ((with_reducible apply Frames.step (State.markQuantised_frames ..)); exact rfl)
    | ((with_reducible apply Frames.step (State.passRun_frames ..)); exact rfl)
    | ((with_reducible apply Frames.put); exact rfl)
    | dsimp only
    | split

theorem State.markDie_frames (node : Nat) (s : State) (d : Fin 4) :
    Frames 0x88002400000 s (State.markDie node s d) := by
  unfold State.markDie
  extract_lets y0 y1 y2 y3
  have h0 : Frames 0x88002400000 s y0 := by
    unfold y0
    repeat' first
      | with_reducible assumption
      | with_reducible exact Frames.refl _ _
      | with_reducible apply Frames.ite
      | ((with_reducible apply Frames.foldl); intro _ _)
      | ((with_reducible apply Frames.foldlSnd); intro _ _)
      | ((with_reducible apply Frames.step (State.setTcCore_frames ..)); exact rfl)
      | ((with_reducible apply Frames.set); exact rfl)
      | dsimp only
      | split
  have h1 : Frames 0x88002400000 s y1 := by
    unfold y1
    repeat' first
      | with_reducible assumption
      | with_reducible exact Frames.refl _ _
      | with_reducible apply Frames.ite
      | ((with_reducible apply Frames.step (State.setOptDie_frames ..)); exact rfl)
      | ((with_reducible apply Frames.put); exact rfl)
      | ((with_reducible apply Frames.addf); exact rfl)
      | dsimp only
      | split
  repeat' first
    | with_reducible assumption
    | with_reducible exact Frames.refl _ _
    | with_reducible apply Frames.ite
    | ((with_reducible apply Frames.set); exact rfl)
    | (fail_if_no_progress ((with_reducible apply Frames.tensor); exact rfl))
    | dsimp only
    | split

theorem State.tryMark_frames (s : State) :
    Frames 0x188002490809 s (State.tryMark s) := by
  unfold State.tryMark
  repeat' first
    | with_reducible assumption
    | with_reducible exact Frames.refl _ _
    | with_reducible apply Frames.ite
    | ((with_reducible apply Frames.foldl); intro _ _)
    | ((with_reducible apply Frames.foldlSnd); intro _ _)
    | ((with_reducible apply Frames.step (State.markDie_frames ..)); exact rfl)
    | ((with_reducible apply Frames.step (State.optPhase_frames ..)); exact rfl)
    | ((with_reducible apply Frames.step (State.optSync_frames ..)); exact rfl)
    | ((with_reducible refine State.putAll_frames ?_ ?_); on_goal 1 => exact fun _ => rfl)
    | ((with_reducible apply Frames.step (State.setStep_frames ..)); exact rfl)
    | ((with_reducible apply Frames.step (State.tookFree_frames ..)); exact rfl)
    | ((with_reducible apply Frames.step (State.writeMem_frames ..)); exact rfl)
    | (fail_if_no_progress ((with_reducible apply Frames.job); exact rfl))
    | dsimp only
    | split

theorem execMark_frames (d : Fin 4) (s : State) :
    FramesOut 0x188002490809 s (execMark d s) := by
  unfold execMark
  repeat' first
    | with_reducible assumption
    | with_reducible exact Frames.refl _ _
    | with_reducible apply FramesOut.next
    | with_reducible apply Frames.ite
    | with_reducible apply FramesOut.ite
    | ((with_reducible refine State.putAll_frames ?_ ?_); on_goal 1 => exact fun _ => rfl)
    | ((with_reducible apply Frames.step (State.setStep_frames ..)); exact rfl)
    | ((with_reducible apply Frames.step (State.tryMark_frames ..)); exact rfl)
    | split

theorem execStepEnd_frames (d : Fin 4) (s : State) :
    FramesOut 0x80002000000 s (execStepEnd d s) := by
  unfold execStepEnd
  repeat' first
    | with_reducible assumption
    | with_reducible exact Frames.refl _ _
    | with_reducible apply FramesOut.next
    | with_reducible apply Frames.ite
    | with_reducible apply FramesOut.ite
    | ((with_reducible refine State.putAll_frames ?_ ?_); on_goal 1 => exact fun _ => rfl)
    | ((with_reducible apply Frames.step (State.setStep_frames ..)); exact rfl)
    | ((with_reducible apply Frames.step (State.tryVote_frames ..)); exact rfl)
    | split

theorem State.writeCommit_frames (s : State) (l : Fin 4) :
    Frames 0x100002010801 s (State.writeCommit s l) := by
  unfold State.writeCommit
  extract_lets y0 y1
  repeat' first
    | with_reducible assumption
    | with_reducible exact Frames.refl _ _
    | with_reducible apply Frames.ite
    | ((with_reducible apply Frames.step (State.setStep_frames ..)); exact rfl)
    | ((with_reducible apply Frames.step (State.writeMem_frames ..)); exact rfl)
    | dsimp only
    | split

theorem State.mirrorSend_frames (s : State) (g : Nat) (step : Nat) :
    Frames 0x600018010010 s (State.mirrorSend s g step) := by
  unfold State.mirrorSend
  extract_lets y0 y1 y2
  repeat' first
    | with_reducible assumption
    | with_reducible exact Frames.refl _ _
    | with_reducible apply Frames.ite
    | ((with_reducible apply Frames.step (State.stallBursts_frames ..)); exact rfl)
    | ((with_reducible apply Frames.step (State.submit_frames ..)); exact rfl)
    | dsimp only
    | split

theorem State.mirrorBegin_frames (s : State) (step : Nat) :
    Frames 0x600098050810 s (State.mirrorBegin s step) := by
  unfold State.mirrorBegin
  extract_lets y0 y1 y2 y3
  have h1 : Frames 0x600098050810 s y1 := by
    unfold y1
    repeat' first
      | with_reducible assumption
      | with_reducible exact Frames.refl _ _
      | with_reducible apply Frames.ite
      | ((with_reducible apply Frames.put); exact rfl)
      | (fail_if_no_progress ((with_reducible apply Frames.restart); exact rfl))
      | dsimp only
      | split
  have h3 : Frames 0x600098050810 s y3 := by
    unfold y3
    repeat' first
      | with_reducible assumption
      | with_reducible exact Frames.refl _ _
      | with_reducible apply Frames.ite
      | (fail_if_no_progress ((with_reducible apply Frames.restart); exact rfl))
      | dsimp only
      | split
  repeat' first
    | with_reducible assumption
    | with_reducible exact Frames.refl _ _
    | with_reducible apply Frames.ite
    | ((with_reducible apply Frames.step (State.abandonMirror_frames ..)); exact rfl)
    | ((with_reducible apply Frames.step (State.mirrorSend_frames ..)); exact rfl)
    | (fail_if_no_progress ((with_reducible apply Frames.restart); exact rfl))
    | dsimp only
    | split

theorem State.mirrorStart_frames (s : State) (step : Nat) :
    Frames 0x600098050810 s (State.mirrorStart s step) := by
  unfold State.mirrorStart
  repeat' first
    | with_reducible assumption
    | with_reducible exact Frames.refl _ _
    | with_reducible apply Frames.ite
    | ((with_reducible apply Frames.step (State.mirrorBegin_frames ..)); exact rfl)
    | split

theorem State.mirrorRenew_frames (s : State) (d : Fin 4) :
    Frames 0x600098050810 s (State.mirrorRenew s d) := by
  unfold State.mirrorRenew
  repeat' first
    | with_reducible assumption
    | with_reducible exact Frames.refl _ _
    | with_reducible apply Frames.ite
    | ((with_reducible apply Frames.step (State.abandonMirror_frames ..)); exact rfl)
    | ((with_reducible apply Frames.step (State.mirrorBegin_frames ..)); exact rfl)
    | split

theorem State.optBusy_frames (s : State) (on : Bool) :
    Frames 0x80000000000 s (State.optBusy s on) := by
  unfold State.optBusy
  repeat' first
    | with_reducible assumption
    | with_reducible exact Frames.refl _ _
    | with_reducible apply Frames.ite
    | ((with_reducible refine State.putAll_frames ?_ ?_); on_goal 1 => exact fun _ => rfl)
    | split

theorem State.outcome_frames (s : State) (retracted : Bool) :
    Frames 0x18c002490809 s (State.outcome s retracted) := by
  unfold State.outcome
  extract_lets y0 y1 y2 y3 y4 y5 y6 y7
  have h0 : Frames 0x18c002490809 s y0 := by
    unfold y0
    repeat' first
      | with_reducible assumption
      | with_reducible exact Frames.refl _ _
      | with_reducible apply Frames.ite
      | ((with_reducible apply Frames.foldl); intro _ _)
      | ((with_reducible apply Frames.foldlSnd); intro _ _)
      | ((with_reducible apply Frames.step (State.irq_frames ..)); exact rfl)
      | ((with_reducible apply Frames.step (State.optBusy_frames ..)); exact rfl)
      | ((with_reducible apply Frames.step (State.setStep_frames ..)); exact rfl)
      | ((with_reducible apply Frames.put); exact rfl)
      | (fail_if_no_progress ((with_reducible apply Frames.job); exact rfl))
      | dsimp only
      | split
  have h2 : Frames 0x18c002490809 s y2 := by
    unfold y2
    repeat' first
      | with_reducible assumption
      | with_reducible exact Frames.refl _ _
      | with_reducible apply Frames.ite
      | ((with_reducible apply Frames.step (State.setStep_frames ..)); exact rfl)
      | ((with_reducible apply Frames.put); exact rfl)
      | (fail_if_no_progress ((with_reducible apply Frames.job); exact rfl))
      | dsimp only
      | split
  have h4 : Frames 0x18c002490809 s y4 := by
    unfold y4
    repeat' first
      | with_reducible assumption
      | with_reducible exact Frames.refl _ _
      | with_reducible apply Frames.ite
      | ((with_reducible apply Frames.step (State.setStep_frames ..)); exact rfl)
      | (fail_if_no_progress ((with_reducible apply Frames.job); exact rfl))
      | dsimp only
      | split
  have h5 : Frames 0x18c002490809 s y5 := by
    unfold y5
    repeat' first
      | with_reducible assumption
      | with_reducible exact Frames.refl _ _
      | with_reducible apply Frames.ite
      | ((with_reducible apply Frames.foldl); intro _ _)
      | ((with_reducible apply Frames.foldlSnd); intro _ _)
      | ((with_reducible apply Frames.step (State.irq_frames ..)); exact rfl)
      | ((with_reducible apply Frames.step (State.optBusy_frames ..)); exact rfl)
      | ((with_reducible apply Frames.step (State.setStep_frames ..)); exact rfl)
      | ((with_reducible apply Frames.step (State.tryMark_frames ..)); exact rfl)
      | ((with_reducible apply Frames.put); exact rfl)
      | (fail_if_no_progress ((with_reducible apply Frames.job); exact rfl))
      | dsimp only
      | split
  have h7 : Frames 0x18c002490809 s y7 := by
    unfold y7
    repeat' first
      | with_reducible assumption
      | with_reducible exact Frames.refl _ _
      | with_reducible apply Frames.ite
      | ((with_reducible apply Frames.step (State.setStep_frames ..)); exact rfl)
      | ((with_reducible apply Frames.put); exact rfl)
      | (fail_if_no_progress ((with_reducible apply Frames.job); exact rfl))
      | dsimp only
      | split
  repeat' first
    | with_reducible assumption
    | with_reducible exact Frames.refl _ _
    | with_reducible apply Frames.ite
    | ((with_reducible apply Frames.step (State.setStep_frames ..)); exact rfl)
    | ((with_reducible apply Frames.step (State.tryMark_frames ..)); exact rfl)
    | (fail_if_no_progress ((with_reducible apply Frames.job); exact rfl))
    | dsimp only
    | split

theorem State.limitEnd_frames (s : State) (ends : Bool) :
    Frames 0x4000080000 s (State.limitEnd s ends) := by
  unfold State.limitEnd
  repeat' first
    | with_reducible assumption
    | with_reducible exact Frames.refl _ _
    | with_reducible apply Frames.ite
    | ((with_reducible apply Frames.step (State.beginEnd_frames ..)); exact rfl)
    | split

theorem State.commitCounters_frames (s : State) (l : Fin 4) :
    Frames 0x80000000000 s (State.commitCounters s l) := by
  unfold State.commitCounters
  extract_lets y0 y1 y2 y3
  have h3 : Frames 0x80000000000 s y3 := by
    unfold y3
    repeat' first
      | with_reducible assumption
      | with_reducible exact Frames.refl _ _
      | with_reducible apply Frames.ite
      | ((with_reducible refine State.putAll_frames ?_ ?_); on_goal 1 => exact fun _ => rfl)
      | dsimp only
      | split
  repeat' first
    | with_reducible assumption
    | with_reducible exact Frames.refl _ _
    | with_reducible apply Frames.ite
    | ((with_reducible refine State.putAll_frames ?_ ?_); on_goal 1 => exact fun _ => rfl)
    | dsimp only
    | split

theorem State.retractCounters_frames (s : State) (l : Fin 4) :
    Frames 0x80000000000 s (State.retractCounters s l) := by
  unfold State.retractCounters
  extract_lets y0 y1 y2
  have h2 : Frames 0x80000000000 s y2 := by
    unfold y2
    repeat' first
      | with_reducible assumption
      | with_reducible exact Frames.refl _ _
      | with_reducible apply Frames.ite
      | ((with_reducible refine State.putAll_frames ?_ ?_); on_goal 1 => exact fun _ => rfl)
      | dsimp only
      | split
  repeat' first
    | with_reducible assumption
    | with_reducible exact Frames.refl _ _
    | with_reducible apply Frames.ite
    | ((with_reducible refine State.putAll_frames ?_ ?_); on_goal 1 => exact fun _ => rfl)
    | dsimp only
    | split

theorem execJobVerdict_frames (s : State) :
    FramesOut 0x78c09a4d0819 s (execJobVerdict s) := by
  unfold execJobVerdict
  repeat' first
    | with_reducible assumption
    | with_reducible exact Frames.refl _ _
    | with_reducible apply FramesOut.next
    | with_reducible apply Frames.ite
    | with_reducible apply FramesOut.ite
    | ((with_reducible apply Frames.step (State.beginEnd_frames ..)); exact rfl)
    | ((with_reducible apply Frames.step (State.commitCounters_frames ..)); exact rfl)
    | ((with_reducible apply Frames.step (State.limitEnd_frames ..)); exact rfl)
    | ((with_reducible apply Frames.step (State.mirrorStart_frames ..)); exact rfl)
    | ((with_reducible apply Frames.step (State.optBusy_frames ..)); exact rfl)
    | ((with_reducible apply Frames.step (State.optPhase_frames ..)); exact rfl)
    | ((with_reducible apply Frames.step (State.outcome_frames ..)); exact rfl)
    | ((with_reducible apply Frames.step (State.setStep_frames ..)); exact rfl)
    | ((with_reducible apply Frames.step (State.writeCommit_frames ..)); exact rfl)
    | dsimp only
    | split

theorem execRetractRestoreDone_frames (s : State) :
    FramesOut 0x18c002490809 s (execRetractRestoreDone s) := by
  unfold execRetractRestoreDone
  repeat' first
    | with_reducible assumption
    | with_reducible exact Frames.refl _ _
    | with_reducible apply FramesOut.next
    | with_reducible apply Frames.ite
    | with_reducible apply FramesOut.ite
    | ((with_reducible apply Frames.step (State.correctedEvent_frames ..)); exact rfl)
    | ((with_reducible apply Frames.step (State.limitEnd_frames ..)); exact rfl)
    | ((with_reducible apply Frames.step (State.optBusy_frames ..)); exact rfl)
    | ((with_reducible apply Frames.step (State.optStop_frames ..)); exact rfl)
    | ((with_reducible apply Frames.step (State.outcome_frames ..)); exact rfl)
    | ((with_reducible apply Frames.step (State.restoreAll_frames ..)); exact rfl)
    | ((with_reducible apply Frames.step (State.retractCounters_frames ..)); exact rfl)
    | ((with_reducible apply Frames.step (State.setStep_frames ..)); exact rfl)
    | ((with_reducible apply Frames.step (State.writeCommit_frames ..)); exact rfl)
    | with_reducible apply Frames.iteSnd
    | with_reducible apply Frames.iteSnd2
    | with_reducible apply Frames.iteFst
    | dsimp only
    | split

theorem execOptWaitTimeout_frames (d : Fin 4) (s : State) :
    FramesOut 0x84002000800 s (execOptWaitTimeout d s) := by
  unfold execOptWaitTimeout
  extract_lets y0 y1
  repeat' first
    | with_reducible assumption
    | with_reducible exact Frames.refl _ _
    | with_reducible apply FramesOut.next
    | with_reducible apply Frames.ite
    | with_reducible apply FramesOut.ite
    | ((with_reducible apply Frames.step (State.optStop_frames ..)); exact rfl)
    | dsimp only
    | split

end Sys2Proof.Machine
end

