-- ==== Sys2Proof/Laws/FramesCollect.lean ====
section
/-! SUPPORT. What the definitions of Machine/Collect.lean can change: one lemma for each that answers a state. -/

namespace Sys2Proof.Machine

theorem State.colSync_frames (s : State) (d : Fin 4) :
    Frames 0x200000000000 s (State.colSync s d) := by
  unfold State.colSync
  extract_lets y0 y1 y2 y3
  have h3 : Frames 0x200000000000 s y3 := by
    unfold y3
    repeat' first
      | with_reducible assumption
      | with_reducible exact Frames.refl _ _
      | with_reducible apply Frames.ite
      | ((with_reducible apply Frames.foldl); intro _ _)
      | ((with_reducible apply Frames.foldlSnd); intro _ _)
      | ((with_reducible apply Frames.put); exact rfl)
      | dsimp only
      | split
  repeat' first
    | with_reducible assumption
    | with_reducible exact Frames.refl _ _
    | with_reducible apply Frames.ite
    | ((with_reducible apply Frames.foldl); intro _ _)
    | ((with_reducible apply Frames.foldlSnd); intro _ _)
    | ((with_reducible apply Frames.put); exact rfl)
    | dsimp only
    | split

theorem State.colRecord_frames (s : State) (d : Fin 4) (code : Nat) (desc : Nat) (group : Nat) :
    Frames 0x200000000000 s (State.colRecord s d code desc group) := by
  unfold State.colRecord
  repeat' first
    | with_reducible assumption
    | with_reducible exact Frames.refl _ _
    | with_reducible apply Frames.ite
    | ((with_reducible apply Frames.put); exact rfl)
    | ((with_reducible apply Frames.set); exact rfl)
    | split

theorem State.colUnhold_frames (s : State) (d : Fin 4) :
    Frames 0xc000010 s (State.colUnhold s d) := by
  unfold State.colUnhold
  repeat' first
    | with_reducible assumption
    | with_reducible exact Frames.refl _ _
    | with_reducible apply Frames.ite
    | ((with_reducible apply Frames.foldl); intro _ _)
    | ((with_reducible apply Frames.foldlSnd); intro _ _)
    | ((with_reducible apply Frames.step (State.releaseUnits_frames ..)); exact rfl)
    | ((with_reducible apply Frames.step (State.setColDie_frames ..)); exact rfl)
    | split

theorem State.colAbandon_frames (s : State) (d : Fin 4) :
    Frames 0x20001c000010 s (State.colAbandon s d) := by
  unfold State.colAbandon
  extract_lets y0 y1
  have h1 : Frames 0x20001c000010 s y1 := by
    unfold y1
    repeat' first
      | with_reducible assumption
      | with_reducible exact Frames.refl _ _
      | with_reducible apply Frames.ite
      | ((with_reducible apply Frames.step (State.forget_frames ..)); exact rfl)
      | ((with_reducible apply Frames.step (State.setColDie_frames ..)); exact rfl)
      | dsimp only
      | split
  repeat' first
    | with_reducible assumption
    | with_reducible exact Frames.refl _ _
    | with_reducible apply Frames.ite
    | ((with_reducible apply Frames.step (State.colSync_frames ..)); exact rfl)
    | ((with_reducible apply Frames.step (State.colUnhold_frames ..)); exact rfl)
    | ((with_reducible apply Frames.step (State.forget_frames ..)); exact rfl)
    | ((with_reducible apply Frames.step (State.setColDie_frames ..)); exact rfl)
    | ((with_reducible apply Frames.put); exact rfl)
    | dsimp only
    | split

theorem State.colStop_frames (s : State) (d : Fin 4) (code : Nat) (desc : Nat) (group : Nat) :
    Frames 0x38c01e490819 s (State.colStop s d code desc group) := by
  unfold State.colStop
  extract_lets y0
  have h0 : Frames 0x38c01e490819 s y0 := by
    unfold y0
    repeat' first
      | with_reducible assumption
      | with_reducible exact Frames.refl _ _
      | with_reducible apply Frames.ite
      | ((with_reducible apply Frames.step (State.colAbandon_frames ..)); exact rfl)
      | ((with_reducible apply Frames.step (State.colRecord_frames ..)); exact rfl)
      | ((with_reducible apply Frames.put); exact rfl)
      | dsimp only
      | split
  repeat' first
    | with_reducible assumption
    | with_reducible exact Frames.refl _ _
    | with_reducible apply Frames.ite
    | ((with_reducible apply Frames.step (State.irq_frames ..)); exact rfl)
    | ((with_reducible apply Frames.step (State.tryMark_frames ..)); exact rfl)
    | ((with_reducible apply Frames.step (State.ucc_frames ..)); exact rfl)
    | split

theorem State.colBadRead_frames (s : State) (d : Fin 4) (run : ColRun) :
    Frames 0x200002000000 s (State.colBadRead s d run) := by
  unfold State.colBadRead
  repeat' first
    | with_reducible assumption
    | with_reducible exact Frames.refl _ _
    | with_reducible apply Frames.ite
    | ((with_reducible apply Frames.step (State.colRecord_frames ..)); exact rfl)
    | ((with_reducible apply Frames.step (State.laneNf_frames ..)); exact rfl)
    | split

theorem State.dropNorms_frames (s : State) (d : Fin 4) :
    Frames 0x4000000 s (State.dropNorms s d) := by
  unfold State.dropNorms
  repeat' first
    | with_reducible assumption
    | with_reducible exact Frames.refl _ _
    | with_reducible apply Frames.ite
    | ((with_reducible apply Frames.step (State.setColDie_frames ..)); exact rfl)
    | split

theorem State.colRead_frames (s : State) (d : Fin 4) (run : ColRun) (a : Nat) (n : Nat) :
    Frames 0x38c01e490819 s (State.colRead s d run a n).2 := by
  unfold State.colRead
  extract_lets y0
  have h0 : Frames 0x38c01e490819 s y0.2.2 := by
    unfold y0
    repeat' first
      | with_reducible assumption
      | with_reducible exact Frames.refl _ _
      | with_reducible apply Frames.ite
      | ((with_reducible apply Frames.step (State.readBytes_frames ..)); exact rfl)
      | dsimp only
      | split
  repeat' first
    | with_reducible assumption
    | with_reducible exact Frames.refl _ _
    | with_reducible apply Frames.ite
    | ((with_reducible apply Frames.step (State.colBadRead_frames ..)); exact rfl)
    | ((with_reducible apply Frames.step (State.colStop_frames ..)); exact rfl)
    | split

theorem State.colWrite_frames (s : State) (d : Fin 4) (run : ColRun) (a : Nat) (bs : List Byte) :
    Frames 0x38c01e490819 s (State.colWrite s d run a bs).2 := by
  unfold State.colWrite
  extract_lets y0 y1
  have h0 : Frames 0x38c01e490819 s y0.2 := by
    unfold y0
    repeat' first
      | with_reducible assumption
      | with_reducible exact Frames.refl _ _
      | with_reducible apply Frames.ite
      | ((with_reducible apply Frames.step (State.writeBytes_frames ..)); exact rfl)
      | dsimp only
      | split
  repeat' first
    | with_reducible assumption
    | with_reducible exact Frames.refl _ _
    | with_reducible apply Frames.ite
    | with_reducible apply Frames.iteSnd
    | with_reducible apply Frames.iteSnd2
    | with_reducible apply Frames.iteFst
    | ((with_reducible apply Frames.step (State.colStop_frames ..)); exact rfl)
    | ((with_reducible apply Frames.step (State.setColDie_frames ..)); exact rfl)
    | split

theorem State.setRun_frames (s : State) (d : Fin 4) (r : ColRun) :
    Frames 0x4000000 s (State.setRun s d r) := by
  unfold State.setRun
  extract_lets y0
  repeat' first
    | with_reducible assumption
    | with_reducible exact Frames.refl _ _
    | with_reducible apply Frames.ite
    | ((with_reducible apply Frames.step (State.setColDie_frames ..)); exact rfl)
    | dsimp only
    | split

theorem State.takeUnit_frames (s : State) (d : Fin 4) (u : ColUnit) :
    Frames 0x200004000000 s (State.takeUnit s d u) := by
  unfold State.takeUnit
  repeat' first
    | with_reducible assumption
    | with_reducible exact Frames.refl _ _
    | with_reducible apply Frames.ite
    | ((with_reducible apply Frames.step (State.colRecord_frames ..)); exact rfl)
    | ((with_reducible apply Frames.step (State.setColDie_frames ..)); exact rfl)
    | split

theorem State.dropUnits_frames (s : State) (d : Fin 4) (desc : Nat) (level : Nat) :
    Frames 0x4000000 s (State.dropUnits s d desc level) := by
  unfold State.dropUnits
  extract_lets y0
  repeat' first
    | with_reducible assumption
    | with_reducible exact Frames.refl _ _
    | with_reducible apply Frames.ite
    | ((with_reducible apply Frames.step (State.setColDie_frames ..)); exact rfl)
    | dsimp only
    | split

theorem State.rxSettle_frames (s : State) (d : Fin 4) :
    Frames 0xc000010 s (State.rxSettle s d) := by
  unfold State.rxSettle
  repeat' first
    | with_reducible assumption
    | with_reducible exact Frames.refl _ _
    | with_reducible apply Frames.ite
    | ((with_reducible apply Frames.step (State.colUnhold_frames ..)); exact rfl)
    | split

theorem State.submitAll_frames (s : State) (d : Fin 4) (rs : List (List RopeReq)) :
    Frames 0x600018000010 s (State.submitAll s d rs) := by
  unfold State.submitAll
  repeat' first
    | with_reducible assumption
    | with_reducible exact Frames.refl _ _
    | with_reducible apply Frames.ite
    | ((with_reducible apply Frames.step (State.submit_frames ..)); exact rfl)
    | split

theorem State.enterLevel_frames (s : State) (d : Fin 4) (run : ColRun) (g : Group) (l : Nat) (part : Nat → List Byte) :
    Frames 0x60001c000010 s (State.enterLevel s d run g l part) := by
  unfold State.enterLevel
  extract_lets y0 y1 y2 y3
  have h1 : Frames 0x60001c000010 s y1 := by
    unfold y1
    repeat' first
      | with_reducible assumption
      | with_reducible exact Frames.refl _ _
      | with_reducible apply Frames.ite
      | ((with_reducible apply Frames.step (State.setColDie_frames ..)); exact rfl)
      | ((with_reducible apply Frames.step (State.setRun_frames ..)); exact rfl)
      | dsimp only
      | split
  have h3 : Frames 0x60001c000010 s y3 := by
    unfold y3
    repeat' first
      | with_reducible assumption
      | with_reducible exact Frames.refl _ _
      | with_reducible apply Frames.ite
      | ((with_reducible apply Frames.step (State.setColDie_frames ..)); exact rfl)
      | dsimp only
      | split
  repeat' first
    | with_reducible assumption
    | with_reducible exact Frames.refl _ _
    | with_reducible apply Frames.ite
    | ((with_reducible apply Frames.step (State.setColDie_frames ..)); exact rfl)
    | ((with_reducible apply Frames.step (State.submitAll_frames ..)); exact rfl)
    | dsimp only
    | split

theorem State.sendReturn_frames (s : State) (d : Fin 4) (run : ColRun) (g : Group) (l : Nat) :
    Frames 0x78c01e490819 s (State.sendReturn s d run g l).2 := by
  unfold State.sendReturn
  extract_lets y0 y1 y2 y3
  try clear_value y0
  have h3 : Frames 0x78c01e490819 s y3.2 := by
    unfold y3
    repeat' first
      | with_reducible assumption
      | with_reducible exact Frames.refl _ _
      | with_reducible apply Frames.ite
      | ((with_reducible apply Frames.step (State.colRead_frames ..)); exact rfl)
      | dsimp only
      | split
  repeat' first
    | with_reducible assumption
    | with_reducible exact Frames.refl _ _
    | with_reducible apply Frames.ite
    | ((with_reducible apply Frames.step (State.submitAll_frames ..)); exact rfl)
    | dsimp only
    | split

theorem State.returnGo_frames (d : Fin 4) (g : Group) (a0 : Nat) (s : State) (a2 : ColRun) :
    Frames 0x78c01e490819 s (State.returnGo d g a0 s a2) := by
  fun_induction State.returnGo d g a0 s a2
  all_goals
    repeat' first
      | with_reducible assumption
      | with_reducible exact Frames.refl _ _
      | with_reducible apply Frames.ite
      | with_reducible refine Frames.trans ?_ (by assumption)
      | ((with_reducible apply Frames.step (State.sendReturn_frames ..)); exact rfl)
      | ((with_reducible apply Frames.step (State.setRun_frames ..)); exact rfl)
      | with_reducible apply Frames.iteSnd
      | with_reducible apply Frames.iteSnd2
      | with_reducible apply Frames.iteFst
      | dsimp only
      | split

theorem State.reduceFinal_frames (s : State) (d : Fin 4) (run : ColRun) (g : Group) (codes : List Nat) :
    Frames 0x78c01e490819 s (State.reduceFinal s d run g codes) := by
  unfold State.reduceFinal
  extract_lets y0 y1 y2 y3 y4
  try clear_value y1
  have h3 : Frames 0x78c01e490819 s y3.2 := by
    unfold y3
    repeat' first
      | with_reducible assumption
      | with_reducible exact Frames.refl _ _
      | with_reducible apply Frames.ite
      | ((with_reducible apply Frames.step (State.colWrite_frames ..)); exact rfl)
      | with_reducible apply Frames.iteSnd
      | with_reducible apply Frames.iteSnd2
      | with_reducible apply Frames.iteFst
      | dsimp only
      | split
  have h4 : Frames 0x78c01e490819 s y4.2 := by
    unfold y4
    repeat' first
      | with_reducible assumption
      | with_reducible exact Frames.refl _ _
      | with_reducible apply Frames.ite
      | ((with_reducible apply Frames.step (State.sendReturn_frames ..)); exact rfl)
      | with_reducible apply Frames.iteSnd
      | with_reducible apply Frames.iteSnd2
      | with_reducible apply Frames.iteFst
      | dsimp only
      | split
  repeat' first
    | with_reducible assumption
    | with_reducible exact Frames.refl _ _
    | with_reducible apply Frames.ite
    | ((with_reducible apply Frames.step (State.returnGo_frames ..)); exact rfl)
    | ((with_reducible apply Frames.step (State.setRun_frames ..)); exact rfl)
    | with_reducible apply Frames.iteSnd
    | with_reducible apply Frames.iteSnd2
    | with_reducible apply Frames.iteFst
    | dsimp only
    | split

theorem State.reduceGo_frames (d : Fin 4) (g : Group) (a0 : Nat) (s : State) (a2 : ColRun) :
    Frames 0x78c01e490819 s (State.reduceGo d g a0 s a2) := by
  fun_induction State.reduceGo d g a0 s a2
  all_goals
    repeat' first
      | with_reducible assumption
      | with_reducible exact Frames.refl _ _
      | with_reducible apply Frames.ite
      | ((with_reducible apply Frames.step (State.dropUnits_frames ..)); exact rfl)
      | ((with_reducible apply Frames.step (State.enterLevel_frames ..)); exact rfl)
      | ((with_reducible apply Frames.step (State.laneNf_frames ..)); exact rfl)
      | ((with_reducible apply Frames.step (State.reduceFinal_frames ..)); exact rfl)
      | with_reducible refine Frames.trans ?_ (by assumption)
      | with_reducible apply Frames.iteSnd
      | with_reducible apply Frames.iteSnd2
      | with_reducible apply Frames.iteFst
      | dsimp only
      | split

theorem State.reduceStart_frames (s : State) (d : Fin 4) (run : ColRun) (g : Group) :
    Frames 0x78c01e490819 s (State.reduceStart s d run g) := by
  unfold State.reduceStart
  extract_lets y0 y1
  have h1 : Frames 0x78c01e490819 s y1.2 := by
    unfold y1
    repeat' first
      | with_reducible assumption
      | with_reducible exact Frames.refl _ _
      | with_reducible apply Frames.ite
      | ((with_reducible apply Frames.step (State.colRead_frames ..)); exact rfl)
      | dsimp only
      | split
  repeat' first
    | with_reducible assumption
    | with_reducible exact Frames.refl _ _
    | with_reducible apply Frames.ite
    | ((with_reducible apply Frames.step (State.enterLevel_frames ..)); exact rfl)
    | dsimp only
    | split

theorem State.gatherSend_frames (s : State) (d : Fin 4) (run : ColRun) (g : Group) (l : Nat) :
    Frames 0x78c01e490819 s (State.gatherSend s d run g l).2 := by
  unfold State.gatherSend
  extract_lets y0 y1 y2 y3
  try clear_value y0
  have h3 : Frames 0x78c01e490819 s y3.2 := by
    unfold y3
    repeat' first
      | with_reducible assumption
      | with_reducible exact Frames.refl _ _
      | with_reducible apply Frames.ite
      | ((with_reducible apply Frames.step (State.colRead_frames ..)); exact rfl)
      | dsimp only
      | split
  repeat' first
    | with_reducible assumption
    | with_reducible exact Frames.refl _ _
    | with_reducible apply Frames.ite
    | ((with_reducible apply Frames.step (State.submitAll_frames ..)); exact rfl)
    | dsimp only
    | split

theorem State.gatherGo_frames (d : Fin 4) (g : Group) (a0 : Nat) (s : State) (a2 : ColRun) :
    Frames 0x78c01e490819 s (State.gatherGo d g a0 s a2) := by
  fun_induction State.gatherGo d g a0 s a2
  all_goals
    repeat' first
      | with_reducible assumption
      | with_reducible exact Frames.refl _ _
      | with_reducible apply Frames.ite
      | with_reducible refine Frames.trans ?_ (by assumption)
      | ((with_reducible apply Frames.step (State.gatherSend_frames ..)); exact rfl)
      | ((with_reducible apply Frames.step (State.setRun_frames ..)); exact rfl)
      | with_reducible apply Frames.iteSnd
      | with_reducible apply Frames.iteSnd2
      | with_reducible apply Frames.iteFst
      | dsimp only
      | split

theorem State.gatherStart_frames (s : State) (d : Fin 4) (run : ColRun) (g : Group) :
    Frames 0x78c01e490819 s (State.gatherStart s d run g) := by
  unfold State.gatherStart
  extract_lets y0 y1 y2
  have h1 : Frames 0x78c01e490819 s y1.2 := by
    unfold y1
    repeat' first
      | with_reducible assumption
      | with_reducible exact Frames.refl _ _
      | with_reducible apply Frames.ite
      | ((with_reducible apply Frames.step (State.colRead_frames ..)); exact rfl)
      | dsimp only
      | split
  repeat' first
    | with_reducible assumption
    | with_reducible exact Frames.refl _ _
    | with_reducible apply Frames.ite
    | ((with_reducible apply Frames.step (State.colWrite_frames ..)); exact rfl)
    | ((with_reducible apply Frames.step (State.gatherSend_frames ..)); exact rfl)
    | ((with_reducible apply Frames.step (State.setRun_frames ..)); exact rfl)
    | with_reducible apply Frames.iteSnd
    | with_reducible apply Frames.iteSnd2
    | with_reducible apply Frames.iteFst
    | dsimp only
    | split

theorem State.sendStart_frames (s : State) (d : Fin 4) (run : ColRun) (g : Group) :
    Frames 0x78c01e490819 s (State.sendStart s d run g) := by
  unfold State.sendStart
  extract_lets y0
  have h0 : Frames 0x78c01e490819 s y0.2 := by
    unfold y0
    repeat' first
      | with_reducible assumption
      | with_reducible exact Frames.refl _ _
      | with_reducible apply Frames.ite
      | ((with_reducible apply Frames.step (State.colRead_frames ..)); exact rfl)
      | dsimp only
      | split
  repeat' first
    | with_reducible assumption
    | with_reducible exact Frames.refl _ _
    | with_reducible apply Frames.ite
    | ((with_reducible apply Frames.step (State.setRun_frames ..)); exact rfl)
    | ((with_reducible apply Frames.step (State.submit_frames ..)); exact rfl)
    | split

theorem State.voteKnown_frames (s : State) (d : Fin 4) (run : ColRun) (g : Group) (v : Bool) :
    Frames 0x60001e000010 s (State.voteKnown s d run g v) := by
  unfold State.voteKnown
  extract_lets y0 y1 y2 y3 y4
  have h2 : Frames 0x60001e000010 s y2 := by
    unfold y2
    repeat' first
      | with_reducible assumption
      | with_reducible exact Frames.refl _ _
      | with_reducible apply Frames.ite
      | ((with_reducible apply Frames.step (State.dropUnits_frames ..)); exact rfl)
      | ((with_reducible apply Frames.step (State.setRun_frames ..)); exact rfl)
      | dsimp only
      | split
  have h3 : Frames 0x60001e000010 s y3 := by
    unfold y3
    repeat' first
      | with_reducible assumption
      | with_reducible exact Frames.refl _ _
      | with_reducible apply Frames.ite
      | ((with_reducible apply Frames.step (State.submitAll_frames ..)); exact rfl)
      | dsimp only
      | split
  repeat' first
    | with_reducible assumption
    | with_reducible exact Frames.refl _ _
    | with_reducible apply Frames.ite
    | ((with_reducible apply Frames.step (State.setStep_frames ..)); exact rfl)
    | dsimp only
    | split

theorem State.voteGo_frames (d : Fin 4) (g : Group) (a0 : Nat) (s : State) (a2 : ColRun) :
    Frames 0x78c01e490819 s (State.voteGo d g a0 s a2) := by
  fun_induction State.voteGo d g a0 s a2
  all_goals
    repeat' first
      | with_reducible assumption
      | with_reducible exact Frames.refl _ _
      | with_reducible apply Frames.ite
      | ((with_reducible apply Frames.step (State.colStop_frames ..)); exact rfl)
      | ((with_reducible apply Frames.step (State.dropUnits_frames ..)); exact rfl)
      | ((with_reducible apply Frames.step (State.setRun_frames ..)); exact rfl)
      | ((with_reducible apply Frames.step (State.submit_frames ..)); exact rfl)
      | with_reducible refine Frames.trans ?_ (by assumption)
      | ((with_reducible apply Frames.step (State.voteKnown_frames ..)); exact rfl)
      | dsimp only
      | split

theorem State.voteStart_frames (s : State) (d : Fin 4) (run : ColRun) (g : Group) (v : Bool) :
    Frames 0x78c01e490819 s (State.voteStart s d run g v) := by
  unfold State.voteStart
  extract_lets y0
  repeat' first
    | with_reducible assumption
    | with_reducible exact Frames.refl _ _
    | with_reducible apply Frames.ite
    | ((with_reducible apply Frames.step (State.setRun_frames ..)); exact rfl)
    | ((with_reducible apply Frames.step (State.voteGo_frames ..)); exact rfl)
    | dsimp only
    | split

theorem State.barrierStart_frames (s : State) (d : Fin 4) (run : ColRun) (g : Group) :
    Frames 0x78c01e490819 s (State.barrierStart s d run g) := by
  unfold State.barrierStart
  repeat' first
    | with_reducible assumption
    | with_reducible exact Frames.refl _ _
    | with_reducible apply Frames.ite
    | ((with_reducible apply Frames.step (State.voteStart_frames ..)); exact rfl)
    | ((with_reducible apply Frames.put); exact rfl)
    | split

theorem State.runAdvance_frames (s : State) (d : Fin 4) (run : ColRun) :
    Frames 0x78c01e490819 s (State.runAdvance s d run) := by
  unfold State.runAdvance
  repeat' first
    | with_reducible assumption
    | with_reducible exact Frames.refl _ _
    | with_reducible apply Frames.ite
    | ((with_reducible apply Frames.step (State.barrierStart_frames ..)); exact rfl)
    | ((with_reducible apply Frames.step (State.gatherGo_frames ..)); exact rfl)
    | ((with_reducible apply Frames.step (State.reduceGo_frames ..)); exact rfl)
    | ((with_reducible apply Frames.step (State.returnGo_frames ..)); exact rfl)
    | ((with_reducible apply Frames.step (State.setRun_frames ..)); exact rfl)
    | ((with_reducible apply Frames.step (State.voteGo_frames ..)); exact rfl)
    | split

theorem State.colAdvance_frames (s : State) (d : Fin 4) :
    Frames 0x78c01e490819 s (State.colAdvance s d) := by
  unfold State.colAdvance
  repeat' first
    | with_reducible assumption
    | with_reducible exact Frames.refl _ _
    | with_reducible apply Frames.ite
    | ((with_reducible apply Frames.foldl); intro _ _)
    | ((with_reducible apply Frames.foldlSnd); intro _ _)
    | ((with_reducible apply Frames.step (State.colSync_frames ..)); exact rfl)
    | ((with_reducible apply Frames.step (State.runAdvance_frames ..)); exact rfl)
    | ((with_reducible apply Frames.step (State.rxSettle_frames ..)); exact rfl)
    | split

theorem State.verifyMap_frames (s : State) (d : Fin 4) :
    Frames 0x38c01e490819 s (State.verifyMap s d) := by
  unfold State.verifyMap
  extract_lets y0 y1
  repeat' first
    | with_reducible assumption
    | with_reducible exact Frames.refl _ _
    | with_reducible apply Frames.ite
    | ((with_reducible apply Frames.step (State.colStop_frames ..)); exact rfl)
    | ((with_reducible apply Frames.step (State.setColDie_frames ..)); exact rfl)
    | dsimp only
    | split

theorem State.colBegin_frames (s : State) (d : Fin 4) (run : ColRun) :
    Frames 0x78c01e490819 s (State.colBegin s d run) := by
  unfold State.colBegin
  repeat' first
    | with_reducible assumption
    | with_reducible exact Frames.refl _ _
    | with_reducible apply Frames.ite
    | ((with_reducible apply Frames.step (State.colRead_frames ..)); exact rfl)
    | ((with_reducible apply Frames.step (State.colWrite_frames ..)); exact rfl)
    | ((with_reducible apply Frames.step (State.gatherStart_frames ..)); exact rfl)
    | ((with_reducible apply Frames.step (State.reduceStart_frames ..)); exact rfl)
    | ((with_reducible apply Frames.step (State.sendStart_frames ..)); exact rfl)
    | ((with_reducible apply Frames.step (State.setRun_frames ..)); exact rfl)
    | ((with_reducible apply Frames.step (State.submit_frames ..)); exact rfl)
    | ((with_reducible apply Frames.step (State.voteStart_frames ..)); exact rfl)
    | ((with_reducible apply Frames.put); exact rfl)
    | with_reducible apply Frames.iteSnd
    | with_reducible apply Frames.iteSnd2
    | with_reducible apply Frames.iteFst
    | dsimp only
    | split

theorem State.colStart_frames (s : State) (d : Fin 4) (op : Nat) :
    Frames 0x78c01e490819 s (State.colStart s d op) := by
  unfold State.colStart
  repeat' first
    | with_reducible assumption
    | with_reducible exact Frames.refl _ _
    | with_reducible apply Frames.ite
    | ((with_reducible apply Frames.step (State.colAdvance_frames ..)); exact rfl)
    | ((with_reducible apply Frames.step (State.colBegin_frames ..)); exact rfl)
    | ((with_reducible apply Frames.step (State.colStop_frames ..)); exact rfl)
    | ((with_reducible apply Frames.step (State.setColDie_frames ..)); exact rfl)
    | ((with_reducible apply Frames.step (State.stallBursts_frames ..)); exact rfl)
    | ((with_reducible apply Frames.step (State.verifyMap_frames ..)); exact rfl)
    | dsimp only
    | split

theorem execReduce_frames (d : Fin 4) (s : State) :
    FramesOut 0x78c01e490819 s (execReduce d s) := by
  unfold execReduce
  repeat' first
    | with_reducible assumption
    | with_reducible exact Frames.refl _ _
    | with_reducible apply FramesOut.next
    | with_reducible apply Frames.ite
    | with_reducible apply FramesOut.ite
    | ((with_reducible apply Frames.step (State.colStart_frames ..)); exact rfl)
    | split

theorem execReduceScatter_frames (d : Fin 4) (s : State) :
    FramesOut 0x78c01e490819 s (execReduceScatter d s) := by
  unfold execReduceScatter
  repeat' first
    | with_reducible assumption
    | with_reducible exact Frames.refl _ _
    | with_reducible apply FramesOut.next
    | with_reducible apply Frames.ite
    | with_reducible apply FramesOut.ite
    | ((with_reducible apply Frames.step (State.colStart_frames ..)); exact rfl)
    | split

theorem execGather_frames (d : Fin 4) (s : State) :
    FramesOut 0x78c01e490819 s (execGather d s) := by
  unfold execGather
  repeat' first
    | with_reducible assumption
    | with_reducible exact Frames.refl _ _
    | with_reducible apply FramesOut.next
    | with_reducible apply Frames.ite
    | with_reducible apply FramesOut.ite
    | ((with_reducible apply Frames.step (State.colStart_frames ..)); exact rfl)
    | split

theorem execSend_frames (d : Fin 4) (s : State) :
    FramesOut 0x78c01e490819 s (execSend d s) := by
  unfold execSend
  repeat' first
    | with_reducible assumption
    | with_reducible exact Frames.refl _ _
    | with_reducible apply FramesOut.next
    | with_reducible apply Frames.ite
    | with_reducible apply FramesOut.ite
    | ((with_reducible apply Frames.step (State.colStart_frames ..)); exact rfl)
    | split

theorem execRecv_frames (d : Fin 4) (s : State) :
    FramesOut 0x78c01e490819 s (execRecv d s) := by
  unfold execRecv
  repeat' first
    | with_reducible assumption
    | with_reducible exact Frames.refl _ _
    | with_reducible apply FramesOut.next
    | with_reducible apply Frames.ite
    | with_reducible apply FramesOut.ite
    | ((with_reducible apply Frames.step (State.colStart_frames ..)); exact rfl)
    | split

theorem execVote_frames (d : Fin 4) (s : State) :
    FramesOut 0x78c01e490819 s (execVote d s) := by
  unfold execVote
  repeat' first
    | with_reducible assumption
    | with_reducible exact Frames.refl _ _
    | with_reducible apply FramesOut.next
    | with_reducible apply Frames.ite
    | with_reducible apply FramesOut.ite
    | ((with_reducible apply Frames.step (State.colStart_frames ..)); exact rfl)
    | split

theorem execSwitch_frames (d : Fin 4) (s : State) :
    FramesOut 0x78c01e490819 s (execSwitch d s) := by
  unfold execSwitch
  repeat' first
    | with_reducible assumption
    | with_reducible exact Frames.refl _ _
    | with_reducible apply FramesOut.next
    | with_reducible apply Frames.ite
    | with_reducible apply FramesOut.ite
    | ((with_reducible apply Frames.step (State.colStart_frames ..)); exact rfl)
    | split

theorem execReshard_frames (d : Fin 4) (s : State) :
    FramesOut 0x78c01e490819 s (execReshard d s) := by
  unfold execReshard
  repeat' first
    | with_reducible assumption
    | with_reducible exact Frames.refl _ _
    | with_reducible apply FramesOut.next
    | with_reducible apply Frames.ite
    | with_reducible apply FramesOut.ite
    | ((with_reducible apply Frames.step (State.colStart_frames ..)); exact rfl)
    | split

theorem State.colDone_frames (s : State) (d : Fin 4) (run : ColRun) :
    Frames 0x264006000000 s (State.colDone s d run) := by
  unfold State.colDone
  extract_lets y0 y1 y2 y3 y4 y5 y6
  try clear_value y3
  have h4 : Frames 0x264006000000 s y4 := by
    unfold y4
    repeat' first
      | with_reducible assumption
      | with_reducible exact Frames.refl _ _
      | with_reducible apply Frames.ite
      | ((with_reducible apply Frames.step (State.setColDie_frames ..)); exact rfl)
      | dsimp only
      | split
  have h5 : Frames 0x264006000000 s y5 := by
    unfold y5
    repeat' first
      | with_reducible assumption
      | with_reducible exact Frames.refl _ _
      | with_reducible apply Frames.ite
      | ((with_reducible apply Frames.step (State.fbufPublish_frames ..)); exact rfl)
      | dsimp only
      | split
  have h6 : Frames 0x264006000000 s y6 := by
    unfold y6
    repeat' first
      | with_reducible assumption
      | with_reducible exact Frames.refl _ _
      | with_reducible apply Frames.ite
      | ((with_reducible apply Frames.step (State.irq_frames ..)); exact rfl)
      | ((with_reducible apply Frames.put); exact rfl)
      | dsimp only
      | split
  repeat' first
    | with_reducible assumption
    | with_reducible exact Frames.refl _ _
    | with_reducible apply Frames.ite
    | ((with_reducible apply Frames.step (State.colSync_frames ..)); exact rfl)
    | dsimp only
    | split

theorem execColDescComplete_frames (d : Fin 4) (index : BitVec 16) (s : State) :
    FramesOut 0x7ec01e490819 s (execColDescComplete d index s) := by
  unfold execColDescComplete
  repeat' first
    | with_reducible assumption
    | with_reducible exact Frames.refl _ _
    | with_reducible apply FramesOut.next
    | with_reducible apply Frames.ite
    | with_reducible apply FramesOut.ite
    | ((with_reducible apply Frames.step (State.colAdvance_frames ..)); exact rfl)
    | ((with_reducible apply Frames.step (State.colDone_frames ..)); exact rfl)
    | split

theorem State.enterPhase_frames (s : State) (d : Fin 4) (ph : Nat) :
    Frames 0x38c01e490819 s (State.enterPhase s d ph) := by
  unfold State.enterPhase
  extract_lets y0 y1
  have h0 : Frames 0x38c01e490819 s y0 := by
    unfold y0
    repeat' first
      | with_reducible assumption
      | with_reducible exact Frames.refl _ _
      | with_reducible apply Frames.ite
      | ((with_reducible apply Frames.put); exact rfl)
      | dsimp only
      | split
  repeat' first
    | with_reducible assumption
    | with_reducible exact Frames.refl _ _
    | with_reducible apply Frames.ite
    | ((with_reducible apply Frames.step (State.colSync_frames ..)); exact rfl)
    | ((with_reducible apply Frames.step (State.setColDie_frames ..)); exact rfl)
    | ((with_reducible apply Frames.step (State.verifyMap_frames ..)); exact rfl)
    | split

theorem State.contribute_frames (s : State) (d : Fin 4) (phase : Nat) (desc : Nat) (level : Nat) (digit : Nat) (off : Nat) (bs : List Byte) :
    Frames 0x78c01e490819 s (State.contribute s d phase desc level digit off bs) := by
  unfold State.contribute
  repeat' first
    | with_reducible assumption
    | with_reducible exact Frames.refl _ _
    | with_reducible apply Frames.ite
    | ((with_reducible apply Frames.foldl); intro _ _)
    | ((with_reducible apply Frames.foldlSnd); intro _ _)
    | ((with_reducible apply Frames.step (State.colAdvance_frames ..)); exact rfl)
    | ((with_reducible apply Frames.step (State.takeUnit_frames ..)); exact rfl)
    | split

theorem execReduceContrib_frames (d : Fin 4) (desc : BitVec 16) (level : Fin 4) (digit : Fin 64) (off : BitVec 48) (bytes : List Byte) (s : State) :
    FramesOut 0x78c01e490819 s (execReduceContrib d desc level digit off bytes s) := by
  unfold execReduceContrib
  repeat' first
    | with_reducible assumption
    | with_reducible exact Frames.refl _ _
    | with_reducible apply FramesOut.next
    | with_reducible apply Frames.ite
    | with_reducible apply FramesOut.ite
    | ((with_reducible apply Frames.step (State.contribute_frames ..)); exact rfl)
    | split

theorem execNormPartial_frames (d : Fin 4) (entry : BitVec 16) (rank : Fin 8) (value : BitVec 32) (s : State) :
    FramesOut 0x6000000 s (execNormPartial d entry rank value s) := by
  unfold execNormPartial
  repeat' first
    | with_reducible assumption
    | with_reducible exact Frames.refl _ _
    | with_reducible apply FramesOut.next
    | with_reducible apply Frames.ite
    | with_reducible apply FramesOut.ite
    | ((with_reducible apply Frames.step (State.normGather_frames ..)); exact rfl)
    | ((with_reducible apply Frames.step (State.setColDie_frames ..)); exact rfl)
    | with_reducible apply Frames.iteSnd
    | with_reducible apply Frames.iteSnd2
    | with_reducible apply Frames.iteFst
    | dsimp only
    | split

theorem State.joinResult_frames (s : State) (d : Fin 4) (result : Nat) (diff : Nat) :
    Frames 0x200004000000 s (State.joinResult s d result diff) := by
  unfold State.joinResult
  extract_lets y0 y1
  have h0 : Frames 0x200004000000 s y0 := by
    unfold y0
    repeat' first
      | with_reducible assumption
      | with_reducible exact Frames.refl _ _
      | with_reducible apply Frames.ite
      | ((with_reducible apply Frames.put); exact rfl)
      | dsimp only
      | split
  repeat' first
    | with_reducible assumption
    | with_reducible exact Frames.refl _ _
    | with_reducible apply Frames.ite
    | ((with_reducible apply Frames.step (State.setColDie_frames ..)); exact rfl)
    | split

theorem State.tryJoin_frames (s : State) (d : Fin 4) :
    Frames 0x200004000000 s (State.tryJoin s d) := by
  unfold State.tryJoin
  repeat' first
    | with_reducible assumption
    | with_reducible exact Frames.refl _ _
    | with_reducible apply Frames.ite
    | ((with_reducible apply Frames.step (State.joinResult_frames ..)); exact rfl)
    | dsimp only
    | split

theorem execJoin_frames (d : Fin 4) (s : State) :
    FramesOut 0x60000c000010 s (execJoin d s) := by
  unfold execJoin
  repeat' first
    | with_reducible assumption
    | with_reducible exact Frames.refl _ _
    | with_reducible apply FramesOut.next
    | with_reducible apply Frames.ite
    | with_reducible apply FramesOut.ite
    | ((with_reducible apply Frames.foldl); intro _ _)
    | ((with_reducible apply Frames.foldlSnd); intro _ _)
    | ((with_reducible apply Frames.step (State.joinResult_frames ..)); exact rfl)
    | ((with_reducible apply Frames.step (State.sendHello_frames ..)); exact rfl)
    | ((with_reducible apply Frames.step (State.setColDie_frames ..)); exact rfl)
    | ((with_reducible apply Frames.step (State.tryJoin_frames ..)); exact rfl)
    | ((with_reducible apply Frames.put); exact rfl)
    | dsimp only
    | split

theorem execJoinTimeout_frames (d : Fin 4) (s : State) :
    FramesOut 0x200004000000 s (execJoinTimeout d s) := by
  unfold execJoinTimeout
  repeat' first
    | with_reducible assumption
    | with_reducible exact Frames.refl _ _
    | with_reducible apply FramesOut.next
    | with_reducible apply Frames.ite
    | with_reducible apply FramesOut.ite
    | ((with_reducible apply Frames.step (State.joinResult_frames ..)); exact rfl)
    | split

theorem execColWaitTimeout_frames (d : Fin 4) (s : State) :
    FramesOut 0x38c01e490819 s (execColWaitTimeout d s) := by
  unfold execColWaitTimeout
  repeat' first
    | with_reducible assumption
    | with_reducible exact Frames.refl _ _
    | with_reducible apply FramesOut.next
    | with_reducible apply Frames.ite
    | with_reducible apply FramesOut.ite
    | ((with_reducible apply Frames.step (State.colStop_frames ..)); exact rfl)
    | split

theorem execColStop_frames (d : Fin 4) (s : State) :
    FramesOut 0x200000000000 s (execColStop d s) := by
  unfold execColStop
  repeat' first
    | with_reducible assumption
    | with_reducible exact Frames.refl _ _
    | with_reducible apply FramesOut.next
    | with_reducible apply Frames.ite
    | with_reducible apply FramesOut.ite
    | ((with_reducible apply Frames.step (State.colSync_frames ..)); exact rfl)
    | ((with_reducible apply Frames.put); exact rfl)
    | split

end Sys2Proof.Machine
end

