-- ==== Sys2Proof/Laws/FramesRope.lean ====
section
/-! SUPPORT. What the definitions of Machine/Rope.lean can change: one lemma for each that answers a state. -/

namespace Sys2Proof.Machine

theorem State.dropTeamBit_frames (s : State) (p : Fin 16) :
    Frames 0x4020008010 s (State.dropTeamBit s p) := by
  unfold State.dropTeamBit
  repeat' first
    | with_reducible assumption
    | with_reducible exact Frames.refl _ _
    | with_reducible apply Frames.ite
    | ((with_reducible apply Frames.step (State.setLevel_frames ..)); exact rfl)
    | ((with_reducible apply Frames.step (State.setShape_frames ..)); exact rfl)
    | dsimp only
    | split

theorem State.discardFrames_frames (s : State) (l : List TxFrame) :
    Frames 0x8000010 s (State.discardFrames s l) := by
  unfold State.discardFrames
  repeat' first
    | with_reducible assumption
    | with_reducible exact Frames.refl _ _
    | with_reducible apply Frames.ite
    | ((with_reducible apply Frames.foldl); intro _ _)
    | ((with_reducible apply Frames.foldlSnd); intro _ _)
    | ((with_reducible apply Frames.step (State.leftBuffer_frames ..)); exact rfl)
    | split

theorem State.portDown_frames (s : State) (p : Fin 16) (st : Nat) :
    Frames 0xe04038008010 s (State.portDown s p st) := by
  unfold State.portDown
  extract_lets y0 y1
  have h1 : Frames 0xe04038008010 s y1 := by
    unfold y1
    repeat' first
      | with_reducible assumption
      | with_reducible exact Frames.refl _ _
      | with_reducible apply Frames.ite
      | ((with_reducible apply Frames.step (State.setPort_frames ..)); exact rfl)
      | dsimp only
      | split
  repeat' first
    | with_reducible assumption
    | with_reducible exact Frames.refl _ _
    | with_reducible apply Frames.ite
    | ((with_reducible apply Frames.step (State.discardFrames_frames ..)); exact rfl)
    | ((with_reducible apply Frames.step (State.drainAll_frames ..)); exact rfl)
    | ((with_reducible apply Frames.step (State.dropTeamBit_frames ..)); exact rfl)
    | ((with_reducible apply Frames.put); exact rfl)
    | dsimp only
    | split

theorem State.portFresh_frames (s : State) (p : Fin 16) :
    Frames 0x400008000000 s (State.portFresh s p) := by
  unfold State.portFresh
  extract_lets y0 y1
  have h0 : Frames 0x400008000000 s y0 := by
    unfold y0
    repeat' first
      | with_reducible assumption
      | with_reducible exact Frames.refl _ _
      | with_reducible apply Frames.ite
      | ((with_reducible apply Frames.foldl); intro _ _)
      | ((with_reducible apply Frames.foldlSnd); intro _ _)
      | ((with_reducible apply Frames.put); exact rfl)
      | dsimp only
      | split
  repeat' first
    | with_reducible assumption
    | with_reducible exact Frames.refl _ _
    | with_reducible apply Frames.ite
    | ((with_reducible apply Frames.step (State.setPort_frames ..)); exact rfl)
    | ((with_reducible apply Frames.set); exact rfl)
    | split

theorem State.lanesFresh_frames (s : State) (p : Fin 16) (foms : Nat) :
    Frames 0x400000000000 s (State.lanesFresh s p foms) := by
  unfold State.lanesFresh
  repeat' first
    | with_reducible assumption
    | with_reducible exact Frames.refl _ _
    | with_reducible apply Frames.ite
    | ((with_reducible apply Frames.foldl); intro _ _)
    | ((with_reducible apply Frames.foldlSnd); intro _ _)
    | ((with_reducible apply Frames.set); exact rfl)
    | split

theorem State.portUp_frames (s : State) (p : Fin 16) (foms : Nat) :
    Frames 0xe00018000010 s (State.portUp s p foms) := by
  unfold State.portUp
  extract_lets y0 y1
  have h0 : Frames 0xe00018000010 s y0 := by
    unfold y0
    repeat' first
      | with_reducible assumption
      | with_reducible exact Frames.refl _ _
      | with_reducible apply Frames.ite
      | ((with_reducible apply Frames.step (State.lanesFresh_frames ..)); exact rfl)
      | ((with_reducible apply Frames.step (State.portFresh_frames ..)); exact rfl)
      | ((with_reducible apply Frames.put); exact rfl)
      | dsimp only
      | split
  have h1 : Frames 0xe00018000010 s y1 := by
    unfold y1
    repeat' first
      | with_reducible assumption
      | with_reducible exact Frames.refl _ _
      | with_reducible apply Frames.ite
      | ((with_reducible apply Frames.put); exact rfl)
      | dsimp only
      | split
  repeat' first
    | with_reducible assumption
    | with_reducible exact Frames.refl _ _
    | with_reducible apply Frames.ite
    | ((with_reducible apply Frames.step (State.drainAll_frames ..)); exact rfl)
    | ((with_reducible apply Frames.step (State.sendHello_frames ..)); exact rfl)
    | ((with_reducible apply Frames.step (State.unpark_frames ..)); exact rfl)
    | split

theorem execPortUp_frames (p : Fin 16) (foms : BitVec 32) (s : State) :
    FramesOut 0xe00018000010 s (execPortUp p foms s) := by
  unfold execPortUp
  repeat' first
    | with_reducible assumption
    | with_reducible exact Frames.refl _ _
    | with_reducible apply FramesOut.next
    | with_reducible apply Frames.ite
    | with_reducible apply FramesOut.ite
    | ((with_reducible apply Frames.step (State.portUp_frames ..)); exact rfl)
    | split

theorem execPortBringupTimeout_frames (p : Fin 16) (s : State) :
    FramesOut 0x404020008010 s (execPortBringupTimeout p s) := by
  unfold execPortBringupTimeout
  repeat' first
    | with_reducible assumption
    | with_reducible exact Frames.refl _ _
    | with_reducible apply FramesOut.next
    | with_reducible apply Frames.ite
    | with_reducible apply FramesOut.ite
    | ((with_reducible apply Frames.step (State.dropTeamBit_frames ..)); exact rfl)
    | ((with_reducible apply Frames.put); exact rfl)
    | split

theorem State.retrain_frames (s : State) (p : Fin 16) :
    Frames 0xe04038008010 s (State.retrain s p) := by
  unfold State.retrain
  repeat' first
    | with_reducible assumption
    | with_reducible exact Frames.refl _ _
    | with_reducible apply Frames.ite
    | ((with_reducible apply Frames.step (State.portDown_frames ..)); exact rfl)
    | ((with_reducible apply Frames.put); exact rfl)
    | split

theorem execRetrain_frames (p : Fin 16) (s : State) :
    FramesOut 0xe04038008010 s (execRetrain p s) := by
  unfold execRetrain
  repeat' first
    | with_reducible assumption
    | with_reducible exact Frames.refl _ _
    | with_reducible apply FramesOut.next
    | with_reducible apply Frames.ite
    | with_reducible apply FramesOut.ite
    | ((with_reducible apply Frames.step (State.retrain_frames ..)); exact rfl)
    | split

theorem execRetrainDone_frames (p : Fin 16) (foms : BitVec 32) (s : State) :
    FramesOut 0xe00018000010 s (execRetrainDone p foms s) := by
  unfold execRetrainDone
  repeat' first
    | with_reducible assumption
    | with_reducible exact Frames.refl _ _
    | with_reducible apply FramesOut.next
    | with_reducible apply Frames.ite
    | with_reducible apply FramesOut.ite
    | ((with_reducible apply Frames.step (State.portUp_frames ..)); exact rfl)
    | split

theorem State.portEnable_frames (s : State) (p : Fin 16) (old : Nat) :
    Frames 0xe04038008010 s (State.portEnable s p old) := by
  unfold State.portEnable
  extract_lets y0
  repeat' first
    | with_reducible assumption
    | with_reducible exact Frames.refl _ _
    | with_reducible apply Frames.ite
    | ((with_reducible apply Frames.step (State.portDown_frames ..)); exact rfl)
    | ((with_reducible apply Frames.put); exact rfl)
    | dsimp only
    | split

theorem State.laneLost_frames (s : State) (p : Fin 16) (l : Fin 4) (partnerDrops : Bool) :
    Frames 0xe04038008810 s (State.laneLost s p l partnerDrops).2 := by
  unfold State.laneLost
  extract_lets y0 y1
  have h1 : Frames 0xe04038008810 s y1 := by
    unfold y1
    repeat' first
      | with_reducible assumption
      | with_reducible exact Frames.refl _ _
      | with_reducible apply Frames.ite
      | ((with_reducible apply Frames.put); exact rfl)
      | dsimp only
      | split
  repeat' first
    | with_reducible assumption
    | with_reducible exact Frames.refl _ _
    | with_reducible apply Frames.ite
    | with_reducible apply Frames.iteSnd
    | with_reducible apply Frames.iteSnd2
    | with_reducible apply Frames.iteFst
    | ((with_reducible apply Frames.step (State.correctedEvent_frames ..)); exact rfl)
    | ((with_reducible apply Frames.step (State.portDown_frames ..)); exact rfl)
    | ((with_reducible apply Frames.put); exact rfl)
    | dsimp only
    | split

theorem State.sendLane_frames (s : State) (p : Fin 16) (kind : Nat) (lane : Nat) (value : Nat) :
    Frames 0x400008000010 s (State.sendLane s p kind lane value) := by
  unfold State.sendLane
  repeat' first
    | with_reducible assumption
    | with_reducible exact Frames.refl _ _
    | with_reducible apply Frames.ite
    | ((with_reducible apply Frames.step (State.send_frames ..)); exact rfl)
    | split

theorem State.moveLane_frames (s : State) (p : Fin 16) :
    Frames 0x8000000 s (State.moveLane s p) := by
  unfold State.moveLane
  repeat' first
    | with_reducible assumption
    | with_reducible exact Frames.refl _ _
    | with_reducible apply Frames.ite
    | ((with_reducible apply Frames.step (State.setPort_frames ..)); exact rfl)
    | split

theorem execLaneFail_frames (p : Fin 16) (l : Fin 4) (partnerDrops : Bool) (s : State) :
    FramesOut 0xe04038008810 s (execLaneFail p l partnerDrops s) := by
  unfold execLaneFail
  repeat' first
    | with_reducible assumption
    | with_reducible exact Frames.refl _ _
    | with_reducible apply FramesOut.next
    | with_reducible apply Frames.ite
    | with_reducible apply FramesOut.ite
    | ((with_reducible apply Frames.step (State.laneLost_frames ..)); exact rfl)
    | ((with_reducible apply Frames.step (State.moveLane_frames ..)); exact rfl)
    | ((with_reducible apply Frames.step (State.sendLane_frames ..)); exact rfl)
    | ((with_reducible apply Frames.step (State.setPort_frames ..)); exact rfl)
    | with_reducible apply Frames.iteSnd
    | with_reducible apply Frames.iteSnd2
    | with_reducible apply Frames.iteFst
    | dsimp only
    | split

theorem State.respond_frames (s : State) (p : Fin 16) (via : Nat) (f : RopeFrame) (type : Nat) (status : Nat) (payload : List Byte) :
    Frames 0x400008000010 s (State.respond s p via f type status payload) := by
  unfold State.respond
  extract_lets y0
  repeat' first
    | with_reducible assumption
    | with_reducible exact Frames.refl _ _
    | with_reducible apply Frames.ite
    | ((with_reducible apply Frames.step (State.send_frames ..)); exact rfl)
    | dsimp only
    | split

theorem State.setDedup_frames (s : State) (d : Fin 4) (es : List DedupEntry) :
    Frames 0x800010000000 s (State.setDedup s d es) := by
  unfold State.setDedup
  repeat' first
    | with_reducible assumption
    | with_reducible exact Frames.refl _ _
    | with_reducible apply Frames.ite
    | ((with_reducible apply Frames.step (State.setRopeDie_frames ..)); exact rfl)
    | ((with_reducible apply Frames.put); exact rfl)
    | split

theorem State.serveWrite_frames (s : State) (p : Fin 16) (d : Fin 4) (f : RopeFrame) :
    Frames 0x78c01e490819 s (State.serveWrite s p d f).2 := by
  unfold State.serveWrite
  extract_lets y0 y1 y2 y3
  have h0 : Frames 0x78c01e490819 s y0.2 := by
    unfold y0
    repeat' first
      | with_reducible assumption
      | with_reducible exact Frames.refl _ _
      | with_reducible apply Frames.ite
      | ((with_reducible apply Frames.step (State.writeBytes_frames ..)); exact rfl)
      | dsimp only
      | split
  have h3 : Frames 0x78c01e490819 s y3 := by
    unfold y3
    repeat' first
      | with_reducible assumption
      | with_reducible exact Frames.refl _ _
      | with_reducible apply Frames.ite
      | with_reducible apply Frames.iteSnd
      | with_reducible apply Frames.iteSnd2
      | with_reducible apply Frames.iteFst
      | ((with_reducible apply Frames.step (State.setColDie_frames ..)); exact rfl)
      | dsimp only
      | split
  repeat' first
    | with_reducible assumption
    | with_reducible exact Frames.refl _ _
    | with_reducible apply Frames.ite
    | ((with_reducible apply Frames.step (State.colAdvance_frames ..)); exact rfl)
    | dsimp only
    | split

theorem State.serveReduce_frames (s : State) (d : Fin 4) (f : RopeFrame) :
    Frames 0x78c01e490819 s (State.serveReduce s d f).2 := by
  unfold State.serveReduce
  repeat' first
    | with_reducible assumption
    | with_reducible exact Frames.refl _ _
    | with_reducible apply Frames.ite
    | ((with_reducible apply Frames.step (State.contribute_frames ..)); exact rfl)
    | split

theorem State.leaveBuffer_frames (s : State) (p : Fin 16) (f : RopeFrame) (n : Nat) :
    Frames 0xc000010 s (State.leaveBuffer s p f n) := by
  unfold State.leaveBuffer
  extract_lets y0 y1
  repeat' first
    | with_reducible assumption
    | with_reducible exact Frames.refl _ _
    | with_reducible apply Frames.ite
    | ((with_reducible apply Frames.step (State.releaseUnits_frames ..)); exact rfl)
    | ((with_reducible apply Frames.step (State.setColDie_frames ..)); exact rfl)
    | dsimp only
    | split

theorem State.serveRead_frames (s : State) (p : Fin 16) (via : Nat) (d : Fin 4) (f : RopeFrame) :
    Frames 0x500008000818 s (State.serveRead s p via d f) := by
  unfold State.serveRead
  extract_lets y0 y1
  have h1 : Frames 0x500008000818 s y1.2.2 := by
    unfold y1
    repeat' first
      | with_reducible assumption
      | with_reducible exact Frames.refl _ _
      | with_reducible apply Frames.ite
      | ((with_reducible apply Frames.step (State.readBytes_frames ..)); exact rfl)
      | dsimp only
      | split
  repeat' first
    | with_reducible assumption
    | with_reducible exact Frames.refl _ _
    | with_reducible apply Frames.ite
    | ((with_reducible apply Frames.step (State.respond_frames ..)); exact rfl)
    | with_reducible apply Frames.iteSnd
    | with_reducible apply Frames.iteSnd2
    | with_reducible apply Frames.iteFst
    | dsimp only
    | split

theorem State.serveOnce_frames (s : State) (p : Fin 16) (via : Nat) (d : Fin 4) (f : RopeFrame) :
    Frames 0xf8c01e490819 s (State.serveOnce s p via d f) := by
  unfold State.serveOnce
  repeat' first
    | with_reducible assumption
    | with_reducible exact Frames.refl _ _
    | with_reducible apply Frames.ite
    | ((with_reducible apply Frames.step (State.respond_frames ..)); exact rfl)
    | ((with_reducible apply Frames.step (State.serveReduce_frames ..)); exact rfl)
    | ((with_reducible apply Frames.step (State.serveWrite_frames ..)); exact rfl)
    | ((with_reducible apply Frames.step (State.setDedup_frames ..)); exact rfl)
    | ((with_reducible apply Frames.bump); exact rfl)
    | with_reducible apply Frames.iteSnd
    | with_reducible apply Frames.iteSnd2
    | with_reducible apply Frames.iteFst
    | dsimp only
    | split

theorem State.serveRequest_frames (s : State) (p : Fin 16) (via : Nat) (b : List Byte) :
    Frames 0xf8c01e490819 s (State.serveRequest s p via b) := by
  unfold State.serveRequest
  extract_lets y0 y1 y2
  repeat' first
    | with_reducible assumption
    | with_reducible exact Frames.refl _ _
    | with_reducible apply Frames.ite
    | ((with_reducible apply Frames.step (State.leaveBuffer_frames ..)); exact rfl)
    | ((with_reducible apply Frames.step (State.serveOnce_frames ..)); exact rfl)
    | ((with_reducible apply Frames.step (State.serveRead_frames ..)); exact rfl)
    | ((with_reducible apply Frames.step (State.setPort_frames ..)); exact rfl)
    | dsimp only
    | split

theorem State.serveHeld_frames (s : State) (p : Fin 16) :
    Frames 0xf8c01e490819 s (State.serveHeld s p) := by
  unfold State.serveHeld
  repeat' first
    | with_reducible assumption
    | with_reducible exact Frames.refl _ _
    | with_reducible apply Frames.ite
    | ((with_reducible apply Frames.foldl); intro _ _)
    | ((with_reducible apply Frames.foldlSnd); intro _ _)
    | ((with_reducible apply Frames.step (State.serveRequest_frames ..)); exact rfl)
    | ((with_reducible apply Frames.step (State.setPort_frames ..)); exact rfl)
    | split

theorem State.serveAll_frames (s : State) :
    Frames 0xf8c01e490819 s (State.serveAll s) := by
  unfold State.serveAll
  repeat' first
    | with_reducible assumption
    | with_reducible exact Frames.refl _ _
    | with_reducible apply Frames.ite
    | ((with_reducible apply Frames.foldl); intro _ _)
    | ((with_reducible apply Frames.foldlSnd); intro _ _)
    | ((with_reducible apply Frames.step (State.serveHeld_frames ..)); exact rfl)
    | split

theorem State.seqCheck_frames (s : State) (p : Fin 16) (b : List Byte) :
    Frames 0x400008000010 s (State.seqCheck s p b).2 := by
  unfold State.seqCheck
  repeat' first
    | with_reducible assumption
    | with_reducible exact Frames.refl _ _
    | with_reducible apply Frames.ite
    | with_reducible apply Frames.iteSnd
    | with_reducible apply Frames.iteSnd2
    | with_reducible apply Frames.iteFst
    | ((with_reducible apply Frames.step (State.sendLink_frames ..)); exact rfl)
    | ((with_reducible apply Frames.step (State.setPort_frames ..)); exact rfl)
    | ((with_reducible apply Frames.put); exact rfl)
    | dsimp only
    | split

theorem State.dropOther_frames (s : State) (p : Fin 16) :
    Frames 0x400000000000 s (State.dropOther s p) := by
  unfold State.dropOther
  repeat' first
    | with_reducible assumption
    | with_reducible exact Frames.refl _ _
    | with_reducible apply Frames.ite
    | ((with_reducible apply Frames.bump); exact rfl)
    | split

theorem State.countFec_frames (s : State) (p : Fin 16) (n : Nat × Nat) :
    Frames 0x400000000000 s (State.countFec s p n) := by
  unfold State.countFec
  extract_lets y0 y1
  have h1 : Frames 0x400000000000 s y1 := by
    unfold y1
    repeat' first
      | with_reducible assumption
      | with_reducible exact Frames.refl _ _
      | with_reducible apply Frames.ite
      | ((with_reducible apply Frames.put); exact rfl)
      | dsimp only
      | split
  repeat' first
    | with_reducible assumption
    | with_reducible exact Frames.refl _ _
    | with_reducible apply Frames.ite
    | ((with_reducible apply Frames.put); exact rfl)
    | dsimp only
    | split

theorem State.headerCheck_frames (s : State) (p : Fin 16) (b : List Byte) (misdirected : Bool) :
    Frames 0x400008000010 s (State.headerCheck s p b misdirected).1 := by
  unfold State.headerCheck
  extract_lets y0 y1 y2 y3
  have h3 : Frames 0x400008000010 s y3.2 := by
    unfold y3
    repeat' first
      | with_reducible assumption
      | with_reducible exact Frames.refl _ _
      | with_reducible apply Frames.ite
      | ((with_reducible apply Frames.step (State.seqCheck_frames ..)); exact rfl)
      | dsimp only
      | split
  repeat' first
    | with_reducible assumption
    | with_reducible exact Frames.refl _ _
    | with_reducible apply Frames.ite
    | with_reducible apply Frames.iteSnd
    | with_reducible apply Frames.iteSnd2
    | with_reducible apply Frames.iteFst
    | ((with_reducible apply Frames.step (State.dropOther_frames ..)); exact rfl)
    | ((with_reducible apply Frames.step (State.respond_frames ..)); exact rfl)
    | ((with_reducible apply Frames.step (State.takeLink_frames ..)); exact rfl)
    | ((with_reducible apply Frames.bump); exact rfl)
    | dsimp only
    | split

theorem State.arrive_frames (s : State) (p : Fin 16) (x : RxFrame) :
    Frames 0x400008000010 s (State.arrive s p x).1 := by
  unfold State.arrive
  repeat' first
    | with_reducible assumption
    | with_reducible exact Frames.refl _ _
    | with_reducible apply Frames.ite
    | with_reducible apply Frames.iteSnd
    | with_reducible apply Frames.iteSnd2
    | with_reducible apply Frames.iteFst
    | ((with_reducible apply Frames.step (State.countFec_frames ..)); exact rfl)
    | ((with_reducible apply Frames.step (State.headerCheck_frames ..)); exact rfl)
    | ((with_reducible apply Frames.step (State.sendLink_frames ..)); exact rfl)
    | ((with_reducible apply Frames.bump); exact rfl)
    | dsimp only
    | split

theorem State.onFrame_frames {m : Nat} {s : State} {p : Fin 16} {x : RxFrame} {ty : Nat}
    {k : State → List Byte → RopeFrame → State} (hm : 0x400008000010 &&& m = 0x400008000010) (h : ∀ t b f, Frames m t (k t b f)) :
    Frames m s (s.onFrame p x ty k) := by
  have ha : Frames m s (s.arrive p x).1 := Frames.mono (l := 0x400008000010) (Frames.mono (State.arrive_frames ..) rfl) hm
  unfold State.onFrame
  split
  · rename_i e
    rw [e] at ha
    exact ha
  · rename_i e
    rw [e] at ha
    exact Frames.ite (ha.trans (h _ _ _)) (Frames.refl _ _)

theorem State.onRequest_frames (s : State) (p : Fin 16) (via : Nat) (b : List Byte) (f : RopeFrame) :
    Frames 0xf8c01e490819 s (State.onRequest s p via b f) := by
  unfold State.onRequest
  repeat' first
    | with_reducible assumption
    | with_reducible exact Frames.refl _ _
    | with_reducible apply Frames.ite
    | ((with_reducible apply Frames.step (State.serveRequest_frames ..)); exact rfl)
    | ((with_reducible apply Frames.step (State.takeUnits_frames ..)); exact rfl)
    | split

theorem execRopeRead_frames (p : Fin 16) (x : RxFrame) (s : State) :
    FramesOut 0xf8c01e490819 s (execRopeRead p x s) := by
  unfold execRopeRead
  with_reducible apply FramesOut.next
  with_reducible refine Frames.trans ?_ (State.onFrame_frames ?_ (fun _ _ _ => ?_))
  on_goal 2 => exact rfl
  repeat' first
    | with_reducible assumption
    | with_reducible exact Frames.refl _ _
    | with_reducible apply FramesOut.next
    | with_reducible apply Frames.ite
    | with_reducible apply FramesOut.ite
    | ((with_reducible apply Frames.step (State.onRequest_frames ..)); exact rfl)
    | split

theorem execRopeWrite_frames (p : Fin 16) (x : RxFrame) (s : State) :
    FramesOut 0xf8c01e490819 s (execRopeWrite p x s) := by
  unfold execRopeWrite
  with_reducible apply FramesOut.next
  with_reducible refine Frames.trans ?_ (State.onFrame_frames ?_ (fun _ _ _ => ?_))
  on_goal 2 => exact rfl
  repeat' first
    | with_reducible assumption
    | with_reducible exact Frames.refl _ _
    | with_reducible apply FramesOut.next
    | with_reducible apply Frames.ite
    | with_reducible apply FramesOut.ite
    | ((with_reducible apply Frames.step (State.onRequest_frames ..)); exact rfl)
    | split

theorem execRopeReduce_frames (p : Fin 16) (x : RxFrame) (s : State) :
    FramesOut 0xf8c01e490819 s (execRopeReduce p x s) := by
  unfold execRopeReduce
  with_reducible apply FramesOut.next
  with_reducible refine Frames.trans ?_ (State.onFrame_frames ?_ (fun _ _ _ => ?_))
  on_goal 2 => exact rfl
  repeat' first
    | with_reducible assumption
    | with_reducible exact Frames.refl _ _
    | with_reducible apply FramesOut.next
    | with_reducible apply Frames.ite
    | with_reducible apply FramesOut.ite
    | ((with_reducible apply Frames.step (State.onRequest_frames ..)); exact rfl)
    | split

theorem State.requestFails_frames (s : State) (d : Fin 4) (r : RopeReq) :
    Frames 0xf8c09e4d0819 s (State.requestFails s d r) := by
  unfold State.requestFails
  extract_lets y0
  have h0 : Frames 0xf8c09e4d0819 s y0 := by
    unfold y0
    repeat' first
      | with_reducible assumption
      | with_reducible exact Frames.refl _ _
      | with_reducible apply Frames.ite
      | ((with_reducible apply Frames.step (State.dropOpen_frames ..)); exact rfl)
      | ((with_reducible apply Frames.step (State.raise_frames ..)); exact rfl)
      | ((with_reducible apply Frames.step (State.ucc_frames ..)); exact rfl)
      | dsimp only
      | split
  repeat' first
    | with_reducible assumption
    | with_reducible exact Frames.refl _ _
    | with_reducible apply Frames.ite
    | ((with_reducible apply Frames.step (State.abandonMirror_frames ..)); exact rfl)
    | ((with_reducible apply Frames.step (State.colStop_frames ..)); exact rfl)
    | ((with_reducible apply Frames.step (State.drainAll_frames ..)); exact rfl)
    | split

theorem State.answered_frames (s : State) (d : Fin 4) (r : RopeReq) (status : Nat) (data : List Byte) :
    Frames 0xf8c01e4d0819 s (State.answered s d r status data) := by
  unfold State.answered
  repeat' first
    | with_reducible assumption
    | with_reducible exact Frames.refl _ _
    | with_reducible apply Frames.ite
    | ((with_reducible apply Frames.step (State.colAdvance_frames ..)); exact rfl)
    | ((with_reducible apply Frames.step (State.colStop_frames ..)); exact rfl)
    | ((with_reducible apply Frames.step (State.drainAll_frames ..)); exact rfl)
    | ((with_reducible apply Frames.step (State.writeMem_frames ..)); exact rfl)
    | (fail_if_no_progress ((with_reducible apply Frames.restart); exact rfl))
    | split

theorem State.onAnswer_frames {m : Nat} {s : State} {p : Fin 16} {b : List Byte} {f : RopeFrame}
    {k : State → Fin 4 → RopeReq → State} (hm : 0x800008000010 &&& m = 0x800008000010) (h : ∀ t d r, Frames m t (k t d r)) :
    Frames m s (s.onAnswer p b f k) := by
  unfold State.onAnswer
  extract_lets d s1
  have h1 : Frames m s s1 := Frames.mono (l := 0x800008000010)
    (Frames.step (State.releaseUnits_frames ..) rfl (Frames.mono (State.takeUnits_frames ..) rfl)) hm
  split
  · exact h1.trans (Frames.mono (l := 0x800008000010) (Frames.bump rfl (Frames.refl _ _)) hm)
  · exact h1.trans (h _ _ _)

theorem execReadResp_frames (p : Fin 16) (x : RxFrame) (s : State) :
    FramesOut 0xf8c01e4d0819 s (execReadResp p x s) := by
  unfold execReadResp
  with_reducible apply FramesOut.next
  with_reducible refine Frames.trans ?_ (State.onFrame_frames ?_ (fun _ _ _ => ?_))
  on_goal 2 => exact rfl
  repeat' first
    | with_reducible assumption
    | with_reducible exact Frames.refl _ _
    | with_reducible apply FramesOut.next
    | with_reducible apply Frames.ite
    | with_reducible apply FramesOut.ite
    | ((with_reducible apply Frames.step (State.answered_frames ..)); exact rfl)
    | ((with_reducible apply Frames.step (State.dropOpen_frames ..)); exact rfl)
    | split
    | ((with_reducible refine Frames.trans ?_ (State.onAnswer_frames ?_ (fun _ _ _ => ?_))); on_goal 2 => exact rfl)

theorem execAck_frames (p : Fin 16) (x : RxFrame) (s : State) :
    FramesOut 0xf8c01e4d0819 s (execAck p x s) := by
  unfold execAck
  with_reducible apply FramesOut.next
  with_reducible refine Frames.trans ?_ (State.onFrame_frames ?_ (fun _ _ _ => ?_))
  on_goal 2 => exact rfl
  repeat' first
    | with_reducible assumption
    | with_reducible exact Frames.refl _ _
    | with_reducible apply FramesOut.next
    | with_reducible apply Frames.ite
    | with_reducible apply FramesOut.ite
    | ((with_reducible apply Frames.step (State.answered_frames ..)); exact rfl)
    | ((with_reducible apply Frames.step (State.dropOpen_frames ..)); exact rfl)
    | split
    | ((with_reducible refine Frames.trans ?_ (State.onAnswer_frames ?_ (fun _ _ _ => ?_))); on_goal 2 => exact rfl)

theorem execNack_frames (p : Fin 16) (x : RxFrame) (s : State) :
    FramesOut 0xf8c09e4d0819 s (execNack p x s) := by
  unfold execNack
  with_reducible apply FramesOut.next
  with_reducible refine Frames.trans ?_ (State.onFrame_frames ?_ (fun _ _ _ => ?_))
  on_goal 2 => exact rfl
  repeat' first
    | with_reducible assumption
    | with_reducible exact Frames.refl _ _
    | with_reducible apply FramesOut.next
    | with_reducible apply Frames.ite
    | with_reducible apply FramesOut.ite
    | ((with_reducible apply Frames.step (State.putOpen_frames ..)); exact rfl)
    | ((with_reducible apply Frames.step (State.requestFails_frames ..)); exact rfl)
    | ((with_reducible apply Frames.step (State.resend_frames ..)); exact rfl)
    | with_reducible apply Frames.iteSnd
    | with_reducible apply Frames.iteSnd2
    | with_reducible apply Frames.iteFst
    | split
    | ((with_reducible refine Frames.trans ?_ (State.onAnswer_frames ?_ (fun _ _ _ => ?_))); on_goal 2 => exact rfl)

theorem execDedupFullResend_frames (d : Fin 4) (tag : BitVec 32) (s : State) :
    FramesOut 0xc00018000010 s (execDedupFullResend d tag s) := by
  unfold execDedupFullResend
  repeat' first
    | with_reducible assumption
    | with_reducible exact Frames.refl _ _
    | with_reducible apply FramesOut.next
    | with_reducible apply Frames.ite
    | with_reducible apply FramesOut.ite
    | ((with_reducible apply Frames.step (State.resend_frames ..)); exact rfl)
    | split

theorem execReqTimeout_frames (d : Fin 4) (tag : BitVec 32) (s : State) :
    FramesOut 0xc00018000010 s (execReqTimeout d tag s) := by
  unfold execReqTimeout
  repeat' first
    | with_reducible assumption
    | with_reducible exact Frames.refl _ _
    | with_reducible apply FramesOut.next
    | with_reducible apply Frames.ite
    | with_reducible apply FramesOut.ite
    | ((with_reducible apply Frames.step (State.resend_frames ..)); exact rfl)
    | split

theorem execPathLimit_frames (d : Fin 4) (tag : BitVec 32) (s : State) :
    FramesOut 0xf8c09e4d0819 s (execPathLimit d tag s) := by
  unfold execPathLimit
  repeat' first
    | with_reducible assumption
    | with_reducible exact Frames.refl _ _
    | with_reducible apply FramesOut.next
    | with_reducible apply Frames.ite
    | with_reducible apply FramesOut.ite
    | ((with_reducible apply Frames.step (State.requestFails_frames ..)); exact rfl)
    | split

theorem State.takeCredit_frames (s : State) (p : Fin 16) (v : Nat) (freed : Nat) :
    Frames 0x400008000000 s (State.takeCredit s p v freed) := by
  unfold State.takeCredit
  extract_lets y0 y1
  have h1 : Frames 0x400008000000 s y1 := by
    unfold y1
    repeat' first
      | with_reducible assumption
      | with_reducible exact Frames.refl _ _
      | with_reducible apply Frames.ite
      | ((with_reducible apply Frames.step (State.setPort_frames ..)); exact rfl)
      | ((with_reducible apply Frames.set); exact rfl)
      | dsimp only
      | split
  repeat' first
    | with_reducible assumption
    | with_reducible exact Frames.refl _ _
    | with_reducible apply Frames.ite
    | ((with_reducible apply Frames.put); exact rfl)
    | dsimp only
    | split

theorem State.portGoesOn_frames (s : State) (p : Fin 16) :
    Frames 0xf8c01e490819 s (State.portGoesOn s p) := by
  unfold State.portGoesOn
  repeat' first
    | with_reducible assumption
    | with_reducible exact Frames.refl _ _
    | with_reducible apply Frames.ite
    | ((with_reducible apply Frames.step (State.drainAll_frames ..)); exact rfl)
    | ((with_reducible apply Frames.step (State.pump_frames ..)); exact rfl)
    | ((with_reducible apply Frames.step (State.serveHeld_frames ..)); exact rfl)
    | split

theorem execCredit_frames (p : Fin 16) (x : RxFrame) (s : State) :
    FramesOut 0xf8c01e490819 s (execCredit p x s) := by
  unfold execCredit
  with_reducible apply FramesOut.next
  with_reducible refine Frames.trans ?_ (State.onFrame_frames ?_ (fun _ _ _ => ?_))
  on_goal 2 => exact rfl
  repeat' first
    | with_reducible assumption
    | with_reducible exact Frames.refl _ _
    | with_reducible apply FramesOut.next
    | with_reducible apply Frames.ite
    | with_reducible apply FramesOut.ite
    | ((with_reducible apply Frames.foldl); intro _ _)
    | ((with_reducible apply Frames.foldlSnd); intro _ _)
    | ((with_reducible apply Frames.step (State.portGoesOn_frames ..)); exact rfl)
    | ((with_reducible apply Frames.step (State.takeCredit_frames ..)); exact rfl)
    | split

theorem State.ackReplay_frames (s : State) (p : Fin 16) (seq : Nat) :
    Frames 0x8000000 s (State.ackReplay s p seq) := by
  unfold State.ackReplay
  extract_lets y0 y1
  try clear_value y1
  repeat' first
    | with_reducible assumption
    | with_reducible exact Frames.refl _ _
    | with_reducible apply Frames.ite
    | ((with_reducible apply Frames.step (State.setPort_frames ..)); exact rfl)
    | with_reducible apply Frames.iteSnd
    | with_reducible apply Frames.iteSnd2
    | with_reducible apply Frames.iteFst
    | dsimp only
    | split

theorem State.replayOrRetrain_frames (s : State) (p : Fin 16) :
    Frames 0xe04038008010 s (State.replayOrRetrain s p) := by
  unfold State.replayOrRetrain
  repeat' first
    | with_reducible assumption
    | with_reducible exact Frames.refl _ _
    | with_reducible apply Frames.ite
    | ((with_reducible apply Frames.step (State.replayAll_frames ..)); exact rfl)
    | ((with_reducible apply Frames.step (State.retrain_frames ..)); exact rfl)
    | split

theorem execLink_frames (p : Fin 16) (x : RxFrame) (s : State) :
    FramesOut 0xf8c03e498819 s (execLink p x s) := by
  unfold execLink
  with_reducible apply FramesOut.next
  with_reducible refine Frames.trans ?_ (State.onFrame_frames ?_ (fun _ _ _ => ?_))
  on_goal 2 => exact rfl
  repeat' first
    | with_reducible assumption
    | with_reducible exact Frames.refl _ _
    | (fail_if_no_progress extract_lets)
    | with_reducible apply FramesOut.next
    | with_reducible apply Frames.ite
    | with_reducible apply FramesOut.ite
    | ((with_reducible apply Frames.step (State.ackReplay_frames ..)); exact rfl)
    | ((with_reducible apply Frames.step (State.portGoesOn_frames ..)); exact rfl)
    | ((with_reducible apply Frames.step (State.replayOrRetrain_frames ..)); exact rfl)
    | split

theorem execReplayTimeout_frames (p : Fin 16) (s : State) :
    FramesOut 0xe04038008010 s (execReplayTimeout p s) := by
  unfold execReplayTimeout
  repeat' first
    | with_reducible assumption
    | with_reducible exact Frames.refl _ _
    | with_reducible apply FramesOut.next
    | with_reducible apply Frames.ite
    | with_reducible apply FramesOut.ite
    | ((with_reducible apply Frames.step (State.replayOrRetrain_frames ..)); exact rfl)
    | split

theorem execCreditReportTimer_frames (p : Fin 16) (s : State) :
    FramesOut 0x8000010 s (execCreditReportTimer p s) := by
  unfold execCreditReportTimer
  repeat' first
    | with_reducible assumption
    | with_reducible exact Frames.refl _ _
    | with_reducible apply FramesOut.next
    | with_reducible apply Frames.ite
    | with_reducible apply FramesOut.ite
    | ((with_reducible apply Frames.step (State.sendCredit_frames ..)); exact rfl)
    | split

theorem execLinkAckTimer_frames (p : Fin 16) (s : State) :
    FramesOut 0x8000010 s (execLinkAckTimer p s) := by
  unfold execLinkAckTimer
  repeat' first
    | with_reducible assumption
    | with_reducible exact Frames.refl _ _
    | with_reducible apply FramesOut.next
    | with_reducible apply Frames.ite
    | with_reducible apply FramesOut.ite
    | ((with_reducible apply Frames.step (State.sendLink_frames ..)); exact rfl)
    | split

theorem State.laneNamed_frames (s : State) (p : Fin 16) (l : Fin 4) :
    Frames 0xe04038008810 s (State.laneNamed s p l) := by
  unfold State.laneNamed
  repeat' first
    | with_reducible assumption
    | with_reducible exact Frames.refl _ _
    | with_reducible apply Frames.ite
    | ((with_reducible apply Frames.step (State.laneLost_frames ..)); exact rfl)
    | ((with_reducible apply Frames.step (State.moveLane_frames ..)); exact rfl)
    | ((with_reducible apply Frames.step (State.sendLane_frames ..)); exact rfl)
    | with_reducible apply Frames.iteSnd
    | with_reducible apply Frames.iteSnd2
    | with_reducible apply Frames.iteFst
    | dsimp only
    | split

theorem State.setPreEmphasis_frames (s : State) (p : Fin 16) (l : Nat) (v : Nat) :
    Frames 0x8000000 s (State.setPreEmphasis s p l v) := by
  unfold State.setPreEmphasis
  repeat' first
    | with_reducible assumption
    | with_reducible exact Frames.refl _ _
    | with_reducible apply Frames.ite
    | ((with_reducible apply Frames.step (State.setPort_frames ..)); exact rfl)
    | ((with_reducible apply Frames.set); exact rfl)
    | split

theorem execLane_frames (p : Fin 16) (x : RxFrame) (s : State) :
    FramesOut 0xf8c03e498819 s (execLane p x s) := by
  unfold execLane
  with_reducible apply FramesOut.next
  with_reducible refine Frames.trans ?_ (State.onFrame_frames ?_ (fun _ _ _ => ?_))
  on_goal 2 => exact rfl
  repeat' first
    | with_reducible assumption
    | with_reducible exact Frames.refl _ _
    | with_reducible apply FramesOut.next
    | with_reducible apply Frames.ite
    | with_reducible apply FramesOut.ite
    | ((with_reducible apply Frames.step (State.laneNamed_frames ..)); exact rfl)
    | ((with_reducible apply Frames.step (State.portGoesOn_frames ..)); exact rfl)
    | ((with_reducible apply Frames.step (State.setPort_frames ..)); exact rfl)
    | ((with_reducible apply Frames.step (State.setPreEmphasis_frames ..)); exact rfl)
    | split

theorem State.takeHello_frames (s : State) (p : Fin 16) (f : RopeFrame) :
    Frames 0xe0403c008010 s (State.takeHello s p f) := by
  unfold State.takeHello
  extract_lets y0 y1 y2 y3 y4 y5 y6
  have h4 : Frames 0xe0403c008010 s y4 := by
    unfold y4
    repeat' first
      | with_reducible assumption
      | with_reducible exact Frames.refl _ _
      | with_reducible apply Frames.ite
      | ((with_reducible apply Frames.put); exact rfl)
      | dsimp only
      | split
  have h6 : Frames 0xe0403c008010 s y6 := by
    unfold y6
    repeat' first
      | with_reducible assumption
      | with_reducible exact Frames.refl _ _
      | with_reducible apply Frames.ite
      | ((with_reducible apply Frames.step (State.setPort_frames ..)); exact rfl)
      | dsimp only
      | split
  repeat' first
    | with_reducible assumption
    | with_reducible exact Frames.refl _ _
    | with_reducible apply Frames.ite
    | ((with_reducible apply Frames.foldl); intro _ _)
    | ((with_reducible apply Frames.foldlSnd); intro _ _)
    | ((with_reducible apply Frames.step (State.portDown_frames ..)); exact rfl)
    | ((with_reducible apply Frames.step (State.tryJoin_frames ..)); exact rfl)
    | dsimp only
    | split

theorem execHello_frames (p : Fin 16) (x : RxFrame) (s : State) :
    FramesOut 0xe0403c008010 s (execHello p x s) := by
  unfold execHello
  with_reducible apply FramesOut.next
  with_reducible refine Frames.trans ?_ (State.onFrame_frames ?_ (fun _ _ _ => ?_))
  on_goal 2 => exact rfl
  repeat' first
    | with_reducible assumption
    | with_reducible exact Frames.refl _ _
    | with_reducible apply FramesOut.next
    | with_reducible apply Frames.ite
    | with_reducible apply FramesOut.ite
    | ((with_reducible apply Frames.step (State.takeHello_frames ..)); exact rfl)
    | split

theorem execHelloTimer_frames (p : Fin 16) (s : State) :
    FramesOut 0x400008000010 s (execHelloTimer p s) := by
  unfold execHelloTimer
  repeat' first
    | with_reducible assumption
    | with_reducible exact Frames.refl _ _
    | with_reducible apply FramesOut.next
    | with_reducible apply Frames.ite
    | with_reducible apply FramesOut.ite
    | ((with_reducible apply Frames.step (State.sendHello_frames ..)); exact rfl)
    | split

theorem execRopeRelay_frames (p : Fin 16) (x : RxFrame) (s : State) :
    FramesOut 0x400008000010 s (execRopeRelay p x s) := by
  unfold execRopeRelay
  repeat' first
    | with_reducible assumption
    | with_reducible exact Frames.refl _ _
    | with_reducible apply FramesOut.next
    | with_reducible apply Frames.ite
    | with_reducible apply FramesOut.ite
    | ((with_reducible apply Frames.step (State.arrive_frames ..)); exact rfl)
    | ((with_reducible apply Frames.step (State.releaseUnits_frames ..)); exact rfl)
    | ((with_reducible apply Frames.step (State.send_frames ..)); exact rfl)
    | ((with_reducible apply Frames.step (State.takeUnits_frames ..)); exact rfl)
    | dsimp only
    | split
    | with_reducible refine Frames.ofFst (by assumption) ?_
    | with_reducible refine Frames.ofSnd (by assumption) ?_

theorem State.advertise_frames (s : State) (p : Fin 16) (mac : List Byte) (dst : List Byte) (flags : Nat) :
    Frames 0x10 s (State.advertise s p mac dst flags) := by
  unfold State.advertise
  extract_lets y0 y1 y2 y3
  repeat' first
    | with_reducible assumption
    | with_reducible exact Frames.refl _ _
    | with_reducible apply Frames.ite
    | ((with_reducible apply Frames.step (State.emit_frames ..)); exact rfl)
    | dsimp only
    | split

theorem execNeighborSolicitation_frames (p : Fin 16) (x : RxFrame) (s : State) :
    FramesOut 0x400000000010 s (execNeighborSolicitation p x s) := by
  unfold execNeighborSolicitation
  extract_lets y0 y1 y2 y3
  have h3 : Frames 0x400000000010 s y3 := by
    unfold y3
    repeat' first
      | with_reducible assumption
      | with_reducible exact Frames.refl _ _
      | with_reducible apply FramesOut.next
      | with_reducible apply Frames.ite
      | with_reducible apply FramesOut.ite
      | ((with_reducible apply Frames.step (State.countFec_frames ..)); exact rfl)
      | dsimp only
      | split
  repeat' first
    | with_reducible assumption
    | with_reducible exact Frames.refl _ _
    | with_reducible apply FramesOut.next
    | with_reducible apply Frames.ite
    | with_reducible apply FramesOut.ite
    | ((with_reducible apply Frames.step (State.advertise_frames ..)); exact rfl)
    | dsimp only
    | split

theorem State.announceDie_frames (s : State) (was : Nat × Nat × Nat) (d : Fin 4) :
    Frames 0xc00008000010 s (State.announceDie s was d) := by
  unfold State.announceDie
  extract_lets y0 y1
  have h0 : Frames 0xc00008000010 s y0 := by
    unfold y0
    repeat' first
      | with_reducible assumption
      | with_reducible exact Frames.refl _ _
      | with_reducible apply Frames.ite
      | ((with_reducible apply Frames.foldl); intro _ _)
      | ((with_reducible apply Frames.foldlSnd); intro _ _)
      | ((with_reducible apply Frames.step (State.sendHello_frames ..)); exact rfl)
      | with_reducible apply Frames.iteSnd
      | with_reducible apply Frames.iteSnd2
      | with_reducible apply Frames.iteFst
      | dsimp only
      | split
  have h1 : Frames 0xc00008000010 s y1 := by
    unfold y1
    repeat' first
      | with_reducible assumption
      | with_reducible exact Frames.refl _ _
      | with_reducible apply Frames.ite
      | ((with_reducible apply Frames.foldl); intro _ _)
      | ((with_reducible apply Frames.foldlSnd); intro _ _)
      | ((with_reducible apply Frames.step (State.advertise_frames ..)); exact rfl)
      | dsimp only
      | split
  repeat' first
    | with_reducible assumption
    | with_reducible exact Frames.refl _ _
    | with_reducible apply Frames.ite
    | ((with_reducible apply Frames.set); exact rfl)
    | with_reducible apply Frames.iteSnd
    | with_reducible apply Frames.iteSnd2
    | with_reducible apply Frames.iteFst
    | split

theorem execPriorityPauseFrame_frames (p : Fin 16) (prio : Fin 8) (pause : Bool) (s : State) :
    FramesOut 0xf8c01e490819 s (execPriorityPauseFrame p prio pause s) := by
  unfold execPriorityPauseFrame
  repeat' first
    | with_reducible assumption
    | with_reducible exact Frames.refl _ _
    | with_reducible apply FramesOut.next
    | with_reducible apply Frames.ite
    | with_reducible apply FramesOut.ite
    | ((with_reducible apply Frames.foldl); intro _ _)
    | ((with_reducible apply Frames.foldlSnd); intro _ _)
    | ((with_reducible apply Frames.step (State.portGoesOn_frames ..)); exact rfl)
    | ((with_reducible apply Frames.step (State.setPort_frames ..)); exact rfl)
    | dsimp only
    | split

theorem State.setTimeOfs_frames (s : State) (f : Fld) (v : Nat) :
    Frames 0x800000000000 s (State.setTimeOfs s f v) := by
  unfold State.setTimeOfs
  repeat' first
    | with_reducible assumption
    | with_reducible exact Frames.refl _ _
    | with_reducible apply Frames.ite
    | ((with_reducible refine State.putAll_frames ?_ ?_); on_goal 1 => exact fun _ => rfl)
    | split

theorem execTimeExchange_frames (s : State) :
    FramesOut 0xc00008000010 s (execTimeExchange s) := by
  unfold execTimeExchange
  extract_lets y0
  repeat' first
    | with_reducible assumption
    | with_reducible exact Frames.refl _ _
    | with_reducible apply FramesOut.next
    | with_reducible apply Frames.ite
    | with_reducible apply FramesOut.ite
    | ((with_reducible apply Frames.step (State.send_frames ..)); exact rfl)
    | ((with_reducible apply Frames.step (State.setPort_frames ..)); exact rfl)
    | ((with_reducible apply Frames.step (State.setTimeOfs_frames ..)); exact rfl)
    | dsimp only
    | split

theorem execTime_frames (p : Fin 16) (x : RxFrame) (s : State) :
    FramesOut 0xc00008000010 s (execTime p x s) := by
  unfold execTime
  with_reducible apply FramesOut.next
  with_reducible refine Frames.trans ?_ (State.onFrame_frames ?_ (fun _ _ _ => ?_))
  on_goal 2 => exact rfl
  repeat' first
    | with_reducible assumption
    | with_reducible exact Frames.refl _ _
    | (fail_if_no_progress extract_lets)
    | with_reducible apply FramesOut.next
    | with_reducible apply Frames.ite
    | with_reducible apply FramesOut.ite
    | ((with_reducible apply Frames.step (State.send_frames ..)); exact rfl)
    | ((with_reducible apply Frames.step (State.setPort_frames ..)); exact rfl)
    | ((with_reducible apply Frames.step (State.setTimeOfs_frames ..)); exact rfl)
    | split

theorem execSwitchBarrierDone_frames (d : Fin 4) (s : State) :
    FramesOut 0xfec01e490819 s (execSwitchBarrierDone d s) := by
  unfold execSwitchBarrierDone
  repeat' first
    | with_reducible assumption
    | with_reducible exact Frames.refl _ _
    | with_reducible apply FramesOut.next
    | with_reducible apply Frames.ite
    | with_reducible apply FramesOut.ite
    | ((with_reducible apply Frames.step (State.colDone_frames ..)); exact rfl)
    | ((with_reducible apply Frames.step (State.enterPhase_frames ..)); exact rfl)
    | ((with_reducible apply Frames.step (State.serveAll_frames ..)); exact rfl)
    | split

theorem execReshardBarrierDone_frames (d : Fin 4) (s : State) :
    FramesOut 0xfec09e4d0819 s (execReshardBarrierDone d s) := by
  unfold execReshardBarrierDone
  repeat' first
    | with_reducible assumption
    | with_reducible exact Frames.refl _ _
    | with_reducible apply FramesOut.next
    | with_reducible apply Frames.ite
    | with_reducible apply FramesOut.ite
    | ((with_reducible apply Frames.step (State.colDone_frames ..)); exact rfl)
    | ((with_reducible apply Frames.step (State.colRead_frames ..)); exact rfl)
    | ((with_reducible apply Frames.step (State.colWrite_frames ..)); exact rfl)
    | ((with_reducible apply Frames.step (State.enterPhase_frames ..)); exact rfl)
    | ((with_reducible apply Frames.step (State.mirrorRenew_frames ..)); exact rfl)
    | ((with_reducible apply Frames.step (State.serveAll_frames ..)); exact rfl)
    | ((with_reducible apply Frames.step (State.tryMark_frames ..)); exact rfl)
    | with_reducible apply Frames.iteSnd
    | with_reducible apply Frames.iteSnd2
    | with_reducible apply Frames.iteFst
    | dsimp only
    | split

end Sys2Proof.Machine
end

