-- ==== Sys2Proof/Laws/FramesJob.lean ====
section
/-! SUPPORT. What the definitions of Machine/Job.lean can change: one lemma for each that answers a state. -/

namespace Sys2Proof.Machine

theorem State.endRequest_frames (s : State) :
    Frames 0x4000080000 s (State.endRequest s) := by
  unfold State.endRequest
  repeat' first
    | with_reducible assumption
    | with_reducible exact Frames.refl _ _
    | with_reducible apply Frames.ite
    | ((with_reducible apply Frames.step (State.beginEnd_frames ..)); exact rfl)
    | ((with_reducible apply Frames.put); exact rfl)
    | (fail_if_no_progress ((with_reducible apply Frames.job); exact rfl))
    | dsimp only
    | split

theorem State.abortRequest_frames (s : State) :
    Frames 0x4000080000 s (State.abortRequest s) := by
  unfold State.abortRequest
  repeat' first
    | with_reducible assumption
    | with_reducible exact Frames.refl _ _
    | with_reducible apply Frames.ite
    | ((with_reducible apply Frames.step (State.beginEnd_frames ..)); exact rfl)
    | ((with_reducible apply Frames.put); exact rfl)
    | split

theorem execJobEndRequest_frames (s : State) :
    FramesOut 0x4000080000 s (execJobEndRequest s) := by
  unfold execJobEndRequest
  repeat' first
    | with_reducible assumption
    | with_reducible exact Frames.refl _ _
    | with_reducible apply FramesOut.next
    | with_reducible apply Frames.ite
    | with_reducible apply FramesOut.ite
    | ((with_reducible apply Frames.step (State.endRequest_frames ..)); exact rfl)
    | split

theorem execJobAbort_frames (s : State) :
    FramesOut 0x4000080000 s (execJobAbort s) := by
  unfold execJobAbort
  repeat' first
    | with_reducible assumption
    | with_reducible exact Frames.refl _ _
    | with_reducible apply FramesOut.next
    | with_reducible apply Frames.ite
    | with_reducible apply FramesOut.ite
    | ((with_reducible apply Frames.step (State.abortRequest_frames ..)); exact rfl)
    | split

theorem State.evWrite_frames (s : State) (i : Nat) (count : Nat) (status : Nat) (note : Nat) :
    Frames 0x100000010801 s (State.evWrite s i count status note) := by
  unfold State.evWrite
  repeat' first
    | with_reducible assumption
    | with_reducible exact Frames.refl _ _
    | with_reducible apply Frames.ite
    | ((with_reducible apply Frames.step (State.writeMem_frames ..)); exact rfl)
    | split

theorem State.evEnd_frames (s : State) (e : EvalReq) (status : Nat) :
    Frames 0x100000010801 s (State.evEnd s e status) := by
  unfold State.evEnd
  repeat' first
    | with_reducible assumption
    | with_reducible exact Frames.refl _ _
    | with_reducible apply Frames.ite
    | ((with_reducible apply Frames.step (State.evWrite_frames ..)); exact rfl)
    | split

theorem State.setEvals_frames (s : State) (l : List EvalReq) :
    Frames 0x80000 s (State.setEvals s l) := by
  unfold State.setEvals
  repeat' first
    | with_reducible assumption
    | with_reducible exact Frames.refl _ _
    | with_reducible apply Frames.ite
    | (fail_if_no_progress ((with_reducible apply Frames.job); exact rfl))
    | split

theorem execEvalTake_frames (s : State) :
    FramesOut 0x104000090801 s (execEvalTake s) := by
  unfold execEvalTake
  repeat' first
    | with_reducible assumption
    | with_reducible exact Frames.refl _ _
    | with_reducible apply FramesOut.next
    | with_reducible apply Frames.ite
    | with_reducible apply FramesOut.ite
    | ((with_reducible apply Frames.step (State.evWrite_frames ..)); exact rfl)
    | ((with_reducible apply Frames.step (State.setEvals_frames ..)); exact rfl)
    | ((with_reducible apply Frames.put); exact rfl)
    | dsimp only
    | split

theorem State.evToken_frames (s : State) (t : Nat × Nat) :
    Frames 0x100000090801 s (State.evToken s t) := by
  unfold State.evToken
  repeat' first
    | with_reducible assumption
    | with_reducible exact Frames.refl _ _
    | with_reducible apply Frames.ite
    | ((with_reducible apply Frames.step (State.setEvals_frames ..)); exact rfl)
    | ((with_reducible apply Frames.step (State.writeMem_frames ..)); exact rfl)
    | with_reducible apply Frames.iteSnd
    | with_reducible apply Frames.iteSnd2
    | with_reducible apply Frames.iteFst
    | dsimp only
    | split

theorem State.evRetire_frames (s : State) (e : EvalReq) :
    Frames 0x104300298809 s (State.evRetire s e) := by
  unfold State.evRetire
  repeat' first
    | with_reducible assumption
    | with_reducible exact Frames.refl _ _
    | with_reducible apply Frames.ite
    | ((with_reducible apply Frames.step (State.evEnd_frames ..)); exact rfl)
    | ((with_reducible apply Frames.step (State.kvCancelCommand_frames ..)); exact rfl)
    | ((with_reducible apply Frames.step (State.setEvals_frames ..)); exact rfl)
    | dsimp only
    | split

theorem State.evJoin_frames (a0 : List EvalReq) (s : State) :
    Frames 0x104300298809 s (State.evJoin a0 s) := by
  fun_induction State.evJoin a0 s
  all_goals
    repeat' first
      | with_reducible assumption
      | with_reducible exact Frames.refl _ _
      | with_reducible apply Frames.ite
      | with_reducible refine Frames.trans ?_ (by assumption)
      | ((with_reducible apply Frames.step (State.kvAdmit_frames ..)); exact rfl)
      | ((with_reducible apply Frames.step (State.kvResume_frames ..)); exact rfl)
      | ((with_reducible apply Frames.step (State.seqPut_frames ..)); exact rfl)
      | ((with_reducible apply Frames.step (State.setEvals_frames ..)); exact rfl)
      | dsimp only
      | split

theorem State.evDraw_frames (s : State) (e : EvalReq) :
    Frames 0x10 s (State.evDraw s e) := by
  unfold State.evDraw
  extract_lets y0 y1 y2
  repeat' first
    | with_reducible assumption
    | with_reducible exact Frames.refl _ _
    | with_reducible apply Frames.ite
    | ((with_reducible apply Frames.step (State.emit_frames ..)); exact rfl)
    | dsimp only
    | split

theorem State.evFlag_frames (s : State) :
    Frames 0x80000 s (State.evFlag s) := by
  unfold State.evFlag
  repeat' first
    | with_reducible assumption
    | with_reducible exact Frames.refl _ _
    | with_reducible apply Frames.ite
    | ((with_reducible apply Frames.step (State.setEvals_frames ..)); exact rfl)
    | with_reducible apply Frames.iteSnd
    | with_reducible apply Frames.iteSnd2
    | with_reducible apply Frames.iteFst
    | split

theorem execEvalStepBoundary_frames (tokens : List (Fin 1024 × BitVec 20)) (refresh : Bool) (snap : BitVec 40) (s : State) :
    FramesOut 0x104300298819 s (execEvalStepBoundary tokens refresh snap s) := by
  unfold execEvalStepBoundary
  repeat' first
    | with_reducible assumption
    | with_reducible exact Frames.refl _ _
    | with_reducible apply FramesOut.next
    | with_reducible apply Frames.ite
    | with_reducible apply FramesOut.ite
    | ((with_reducible apply Frames.foldl); intro _ _)
    | ((with_reducible apply Frames.foldlSnd); intro _ _)
    | ((with_reducible apply Frames.step (State.evDraw_frames ..)); exact rfl)
    | ((with_reducible apply Frames.step (State.evFlag_frames ..)); exact rfl)
    | ((with_reducible apply Frames.step (State.evJoin_frames ..)); exact rfl)
    | ((with_reducible apply Frames.step (State.evRetire_frames ..)); exact rfl)
    | ((with_reducible apply Frames.step (State.evToken_frames ..)); exact rfl)
    | ((with_reducible apply Frames.step (State.kvStepAllocate_frames ..)); exact rfl)
    | (fail_if_no_progress ((with_reducible apply Frames.job); exact rfl))
    | with_reducible apply Frames.iteSnd
    | with_reducible apply Frames.iteSnd2
    | with_reducible apply Frames.iteFst
    | dsimp only
    | split

theorem execEvalSliceError_frames (s : State) :
    FramesOut 0x10c300298809 s (execEvalSliceError s) := by
  unfold execEvalSliceError
  repeat' first
    | with_reducible assumption
    | with_reducible exact Frames.refl _ _
    | with_reducible apply FramesOut.next
    | with_reducible apply Frames.ite
    | with_reducible apply FramesOut.ite
    | ((with_reducible apply Frames.foldl); intro _ _)
    | ((with_reducible apply Frames.foldlSnd); intro _ _)
    | ((with_reducible apply Frames.step (State.evEnd_frames ..)); exact rfl)
    | ((with_reducible apply Frames.step (State.kvCancel_frames ..)); exact rfl)
    | ((with_reducible apply Frames.step (State.kvProgress_frames ..)); exact rfl)
    | ((with_reducible apply Frames.step (State.setEvals_frames ..)); exact rfl)
    | ((with_reducible apply Frames.step (State.tcStopWrite_frames ..)); exact rfl)
    | with_reducible apply Frames.iteSnd
    | with_reducible apply Frames.iteSnd2
    | with_reducible apply Frames.iteFst
    | dsimp only
    | split

theorem State.stopAll_frames (s : State) :
    Frames 0x28000000000 s (State.stopAll s) := by
  unfold State.stopAll
  extract_lets y0
  have h0 : Frames 0x28000000000 s y0 := by
    unfold y0
    repeat' first
      | with_reducible assumption
      | with_reducible exact Frames.refl _ _
      | with_reducible apply Frames.ite
      | ((with_reducible apply Frames.foldl); intro _ _)
      | ((with_reducible apply Frames.foldlSnd); intro _ _)
      | ((with_reducible apply Frames.step (State.tcStopWrite_frames ..)); exact rfl)
      | dsimp only
      | split
  repeat' first
    | with_reducible assumption
    | with_reducible exact Frames.refl _ _
    | with_reducible apply Frames.ite
    | ((with_reducible apply Frames.foldl); intro _ _)
    | ((with_reducible apply Frames.foldlSnd); intro _ _)
    | ((with_reducible apply Frames.step (State.trvStopWrite_frames ..)); exact rfl)
    | split

theorem State.runsOff_frames (s : State) :
    Frames 0x28000000000 s (State.runsOff s) := by
  unfold State.runsOff
  extract_lets y0
  have h0 : Frames 0x28000000000 s y0 := by
    unfold y0
    repeat' first
      | with_reducible assumption
      | with_reducible exact Frames.refl _ _
      | with_reducible apply Frames.ite
      | ((with_reducible apply Frames.foldl); intro _ _)
      | ((with_reducible apply Frames.foldlSnd); intro _ _)
      | ((with_reducible apply Frames.put); exact rfl)
      | dsimp only
      | split
  repeat' first
    | with_reducible assumption
    | with_reducible exact Frames.refl _ _
    | with_reducible apply Frames.ite
    | ((with_reducible apply Frames.foldl); intro _ _)
    | ((with_reducible apply Frames.foldlSnd); intro _ _)
    | ((with_reducible apply Frames.put); exact rfl)
    | split

theorem State.cutAttempt_frames (s : State) :
    Frames 0x184006090809 s (State.cutAttempt s) := by
  unfold State.cutAttempt
  repeat' first
    | with_reducible assumption
    | with_reducible exact Frames.refl _ _
    | with_reducible apply Frames.ite
    | ((with_reducible apply Frames.foldl); intro _ _)
    | ((with_reducible apply Frames.foldlSnd); intro _ _)
    | ((with_reducible apply Frames.step (State.dropNorms_frames ..)); exact rfl)
    | ((with_reducible apply Frames.step (State.optPhase_frames ..)); exact rfl)
    | ((with_reducible apply Frames.step (State.restoreAll_frames ..)); exact rfl)
    | ((with_reducible apply Frames.step (State.setOptDie_frames ..)); exact rfl)
    | ((with_reducible apply Frames.step (State.setStep_frames ..)); exact rfl)
    | (fail_if_no_progress ((with_reducible apply Frames.job); exact rfl))
    | with_reducible apply Frames.iteSnd
    | with_reducible apply Frames.iteSnd2
    | with_reducible apply Frames.iteFst
    | dsimp only
    | split

theorem State.kvEndJob_frames (s : State) :
    Frames 0x104300298809 s (State.kvEndJob s) := by
  unfold State.kvEndJob
  repeat' first
    | with_reducible assumption
    | with_reducible exact Frames.refl _ _
    | with_reducible apply Frames.ite
    | ((with_reducible apply Frames.foldl); intro _ _)
    | ((with_reducible apply Frames.foldlSnd); intro _ _)
    | ((with_reducible apply Frames.step (State.kvCancel_frames ..)); exact rfl)
    | ((with_reducible apply Frames.step (State.kvCancelMove_frames ..)); exact rfl)
    | ((with_reducible apply Frames.step (State.kvProgress_frames ..)); exact rfl)
    | ((with_reducible apply Frames.step (State.setKv_frames ..)); exact rfl)
    | dsimp only
    | split

theorem State.evCancelGo_frames (a0 : Nat) (s : State) (a2 : Nat) :
    Frames 0x104000010801 s (State.evCancelGo a0 s a2) := by
  fun_induction State.evCancelGo a0 s a2
  all_goals
    repeat' first
      | with_reducible assumption
      | with_reducible exact Frames.refl _ _
      | with_reducible apply Frames.ite
      | with_reducible refine Frames.trans ?_ (by assumption)
      | ((with_reducible apply Frames.step (State.evWrite_frames ..)); exact rfl)
      | ((with_reducible apply Frames.put); exact rfl)
      | split

theorem State.evCancel_frames (s : State) :
    Frames 0x104000090801 s (State.evCancel s) := by
  unfold State.evCancel
  extract_lets y0
  have h0 : Frames 0x104000090801 s y0 := by
    unfold y0
    repeat' first
      | with_reducible assumption
      | with_reducible exact Frames.refl _ _
      | with_reducible apply Frames.ite
      | ((with_reducible apply Frames.foldl); intro _ _)
      | ((with_reducible apply Frames.foldlSnd); intro _ _)
      | ((with_reducible apply Frames.step (State.evEnd_frames ..)); exact rfl)
      | ((with_reducible apply Frames.step (State.setEvals_frames ..)); exact rfl)
      | dsimp only
      | split
  repeat' first
    | with_reducible assumption
    | with_reducible exact Frames.refl _ _
    | with_reducible apply Frames.ite
    | ((with_reducible apply Frames.step (State.evCancelGo_frames ..)); exact rfl)
    | split

theorem State.writeReport_frames (s : State) :
    Frames 0x100000010801 s (State.writeReport s) := by
  unfold State.writeReport
  extract_lets y0
  repeat' first
    | with_reducible assumption
    | with_reducible exact Frames.refl _ _
    | with_reducible apply Frames.ite
    | ((with_reducible apply Frames.step (State.writeMem_frames ..)); exact rfl)
    | dsimp only
    | split

theorem lockBits_blocks : ∀ x ∈ lockBits, x.1.block.inMask 0xfedd40000000 = true := by
  intro x hx
  unfold lockBits at hx
  rcases List.mem_append.1 hx with h | h
  · clear hx
    revert x
    decide
  · obtain ⟨d, -, h⟩ := List.mem_flatMap.1 h
    simp only [List.mem_append, List.mem_map, List.mem_cons, List.not_mem_nil, or_false] at h
    rcases h with (((⟨_, -, rfl⟩ | ⟨_, -, rfl⟩) | (rfl | rfl | rfl | rfl)) | ⟨_, -, rfl⟩) | rfl <;> rfl

theorem State.setLocks_frames (s : State) (v : Nat) : Frames 0xfedd40000000 s (s.setLocks v) := by
  unfold State.setLocks
  exact Frames.foldlMem
    (fun _ _ hx => Frames.ite (Frames.put (lockBits_blocks _ hx) (Frames.refl _ _)) (Frames.refl _ _)) (Frames.refl _ _)

theorem State.setBelay_frames (s : State) (codes : List Nat) :
    Frames 0x20000000 s (State.setBelay s codes) := by
  unfold State.setBelay
  repeat' first
    | with_reducible assumption
    | with_reducible exact Frames.refl _ _
    | with_reducible apply Frames.ite
    | ((with_reducible apply Frames.foldl); intro _ _)
    | ((with_reducible apply Frames.foldlSnd); intro _ _)
    | ((with_reducible apply Frames.step (State.setRole_frames ..)); exact rfl)
    | with_reducible apply Frames.iteSnd
    | with_reducible apply Frames.iteSnd2
    | with_reducible apply Frames.iteFst
    | split

theorem State.jobOutcome_frames (s : State) (st : Nat) (code : Nat) (detail : Nat) :
    Frames 0x4000008000 s (State.jobOutcome s st code detail) := by
  unfold State.jobOutcome
  extract_lets y0
  have h0 : Frames 0x4000008000 s y0 := by
    unfold y0
    repeat' first
      | with_reducible assumption
      | with_reducible exact Frames.refl _ _
      | with_reducible apply Frames.ite
      | ((with_reducible apply Frames.put); exact rfl)
      | dsimp only
      | split
  repeat' first
    | with_reducible assumption
    | with_reducible exact Frames.refl _ _
    | with_reducible apply Frames.ite
    | ((with_reducible apply Frames.step (State.notify_frames ..)); exact rfl)
    | ((with_reducible apply Frames.put); exact rfl)
    | split

theorem State.jobCtrlClear_frames (s : State) :
    Frames 0x4000000000 s (State.jobCtrlClear s) := by
  unfold State.jobCtrlClear
  repeat' first
    | with_reducible assumption
    | with_reducible exact Frames.refl _ _
    | with_reducible apply Frames.ite
    | ((with_reducible apply Frames.put); exact rfl)
    | split

theorem State.finishJob_frames (s : State) :
    Frames 0xfeddf11fa859 s (State.finishJob s) := by
  unfold State.finishJob
  extract_lets y0 y1 y2 y3 y4 y5
  have h0 : Frames 0xfeddf11fa859 s y0 := by
    unfold y0
    repeat' first
      | with_reducible assumption
      | with_reducible exact Frames.refl _ _
      | with_reducible apply Frames.ite
      | ((with_reducible apply Frames.step (State.augCancel_frames ..)); exact rfl)
      | ((with_reducible apply Frames.step (State.detCancel_frames ..)); exact rfl)
      | ((with_reducible apply Frames.step (State.evCancel_frames ..)); exact rfl)
      | ((with_reducible apply Frames.step (State.mediaCancel_frames ..)); exact rfl)
      | ((with_reducible apply Frames.step (State.tokCancel_frames ..)); exact rfl)
      | ((with_reducible apply Frames.step (State.writeReport_frames ..)); exact rfl)
      | (fail_if_no_progress ((with_reducible apply Frames.tiers_job); exact rfl; exact rfl))
      | dsimp only
      | split
  have h1 : Frames 0xfeddf11fa859 s y1 := by
    unfold y1
    repeat' first
      | with_reducible assumption
      | with_reducible exact Frames.refl _ _
      | with_reducible apply Frames.ite
      | ((with_reducible apply Frames.foldl); intro _ _)
      | ((with_reducible apply Frames.foldlSnd); intro _ _)
      | ((with_reducible apply Frames.step (State.ownersToBasecamp_frames ..)); exact rfl)
      | ((with_reducible apply Frames.step (State.setLocks_frames ..)); exact rfl)
      | (fail_if_no_progress ((with_reducible apply Frames.tiers_job); exact rfl; exact rfl))
      | dsimp only
      | split
  have h2 : Frames 0xfeddf11fa859 s y2 := by
    unfold y2
    repeat' first
      | with_reducible assumption
      | with_reducible exact Frames.refl _ _
      | with_reducible apply Frames.ite
      | ((with_reducible apply Frames.step (State.setBelay_frames ..)); exact rfl)
      | ((with_reducible apply Frames.put); exact rfl)
      | ((with_reducible apply Frames.set); exact rfl)
      | (fail_if_no_progress ((with_reducible apply Frames.tiers_job); exact rfl; exact rfl))
      | dsimp only
      | split
  have h4 : Frames 0xfeddf11fa859 s y4 := by
    unfold y4
    repeat' first
      | with_reducible assumption
      | with_reducible exact Frames.refl _ _
      | with_reducible apply Frames.ite
      | ((with_reducible apply Frames.step (State.jobCtrlClear_frames ..)); exact rfl)
      | ((with_reducible apply Frames.step (State.jobOutcome_frames ..)); exact rfl)
      | ((with_reducible apply Frames.step (State.recompute_frames ..)); exact rfl)
      | (fail_if_no_progress ((with_reducible apply Frames.tiers_job); exact rfl; exact rfl))
      | dsimp only
      | split
  have h5 : Frames 0xfeddf11fa859 s y5 := by
    unfold y5
    repeat' first
      | with_reducible assumption
      | with_reducible exact Frames.refl _ _
      | with_reducible apply Frames.ite
      | ((with_reducible apply Frames.step (State.jobCtrlClear_frames ..)); exact rfl)
      | ((with_reducible apply Frames.step (State.jobOutcome_frames ..)); exact rfl)
      | ((with_reducible apply Frames.step (State.recompute_frames ..)); exact rfl)
      | (fail_if_no_progress ((with_reducible apply Frames.tiers_job); exact rfl; exact rfl))
      | dsimp only
      | split
  repeat' first
    | with_reducible assumption
    | with_reducible exact Frames.refl _ _
    | with_reducible apply Frames.ite
    | ((with_reducible apply Frames.step (State.startMode_frames ..)); exact rfl)
    | (fail_if_no_progress ((with_reducible apply Frames.tiers_job); exact rfl; exact rfl))
    | dsimp only
    | split

theorem execJobEnd_frames (s : State) :
    FramesOut 0xfedff73fa859 s (execJobEnd s) := by
  unfold execJobEnd
  repeat' first
    | with_reducible assumption
    | with_reducible exact Frames.refl _ _
    | (fail_if_no_progress extract_lets)
    | with_reducible apply FramesOut.next
    | with_reducible apply Frames.ite
    | with_reducible apply FramesOut.ite
    | ((with_reducible apply Frames.step (State.cutAttempt_frames ..)); exact rfl)
    | ((with_reducible apply Frames.step (State.finishJob_frames ..)); exact rfl)
    | ((with_reducible apply Frames.step (State.kvEndJob_frames ..)); exact rfl)
    | ((with_reducible apply Frames.step (State.runsOff_frames ..)); exact rfl)
    | ((with_reducible apply Frames.step (State.stopAll_frames ..)); exact rfl)
    | split
    | ((with_reducible refine Frames.trans ?_ (State.awaitBasecamp_frames ?_ ?_ (fun _ => ?_))); (on_goal 2 => exact rfl); (on_goal 2 => exact rfl))

end Sys2Proof.Machine
end

