-- ==== Sys2Proof/Laws/FramesRestart.lean ====
section
/-! SUPPORT. What the definitions of Machine/Restart.lean can change: one lemma for each that answers a state. -/

namespace Sys2Proof.Machine

theorem State.setRestart_frames (s : State) (r : RestartState) :
    Frames 0x40000 s (State.setRestart s r) := by
  unfold State.setRestart
  repeat' first
    | with_reducible assumption
    | with_reducible exact Frames.refl _ _
    | with_reducible apply Frames.ite
    | (fail_if_no_progress ((with_reducible apply Frames.restart); exact rfl))
    | split

theorem State.hbSync_frames (s : State) :
    Frames 0x80000000 s (State.hbSync s) := by
  unfold State.hbSync
  repeat' first
    | with_reducible assumption
    | with_reducible exact Frames.refl _ _
    | with_reducible apply Frames.ite
    | ((with_reducible apply Frames.put); exact rfl)
    | split

theorem State.setRestartPhase_frames (s : State) (p : Nat) :
    Frames 0x80000000 s (State.setRestartPhase s p) := by
  unfold State.setRestartPhase
  repeat' first
    | with_reducible assumption
    | with_reducible exact Frames.refl _ _
    | with_reducible apply Frames.ite
    | ((with_reducible apply Frames.put); exact rfl)
    | split

theorem State.floodLeads_frames (s : State) (h : Heartbeat) :
    Frames 0x400008000010 s (State.floodLeads s h) := by
  unfold State.floodLeads
  repeat' first
    | with_reducible assumption
    | with_reducible exact Frames.refl _ _
    | with_reducible apply Frames.ite
    | ((with_reducible apply Frames.foldl); intro _ _)
    | ((with_reducible apply Frames.foldlSnd); intro _ _)
    | ((with_reducible apply Frames.step (State.send_frames ..)); exact rfl)
    | split

theorem State.spread_frames (s : State) (h : Heartbeat) :
    Frames 0x400008000010 s (State.spread s h) := by
  unfold State.spread
  repeat' first
    | with_reducible assumption
    | with_reducible exact Frames.refl _ _
    | with_reducible apply Frames.ite
    | ((with_reducible apply Frames.step (State.floodLeads_frames ..)); exact rfl)
    | ((with_reducible apply Frames.step (State.sendHeartbeat_frames ..)); exact rfl)
    | split

theorem State.askRecords_frames (s : State) :
    Frames 0x600018000010 s (State.askRecords s) := by
  unfold State.askRecords
  extract_lets y0 y1
  repeat' first
    | with_reducible assumption
    | with_reducible exact Frames.refl _ _
    | with_reducible apply Frames.ite
    | ((with_reducible apply Frames.step (State.submit_frames ..)); exact rfl)
    | dsimp only
    | split

theorem State.rollbackPhase_frames (s : State) (on : Bool) :
    Frames 0x80000000000 s (State.rollbackPhase s on) := by
  unfold State.rollbackPhase
  repeat' first
    | with_reducible assumption
    | with_reducible exact Frames.refl _ _
    | with_reducible apply Frames.ite
    | ((with_reducible apply Frames.step (State.optBusy_frames ..)); exact rfl)
    | ((with_reducible apply Frames.step (State.optPhase_frames ..)); exact rfl)
    | split

theorem State.takeTarget_frames (s : State) (t : Nat) :
    Frames 0x78409e090819 s (State.takeTarget s t) := by
  unfold State.takeTarget
  extract_lets y0 y1
  have h0 : Frames 0x78409e090819 s y0 := by
    unfold y0
    repeat' first
      | with_reducible assumption
      | with_reducible exact Frames.refl _ _
      | with_reducible apply Frames.ite
      | ((with_reducible apply Frames.put); exact rfl)
      | dsimp only
      | split
  have h1 : Frames 0x78409e090819 s y1 := by
    unfold y1
    repeat' first
      | with_reducible assumption
      | with_reducible exact Frames.refl _ _
      | with_reducible apply Frames.ite
      | ((with_reducible apply Frames.step (State.rollbackPhase_frames ..)); exact rfl)
      | ((with_reducible apply Frames.step (State.setRestartPhase_frames ..)); exact rfl)
      | dsimp only
      | split
  repeat' first
    | with_reducible assumption
    | with_reducible exact Frames.refl _ _
    | with_reducible apply Frames.ite
    | ((with_reducible apply Frames.step (State.askRecords_frames ..)); exact rfl)
    | ((with_reducible apply Frames.step (State.cutAttempt_frames ..)); exact rfl)
    | ((with_reducible apply Frames.step (State.ucc_frames ..)); exact rfl)
    | split

theorem State.giveTarget_frames (s : State) (t : Nat) :
    Frames 0x78409e090819 s (State.giveTarget s t) := by
  unfold State.giveTarget
  extract_lets y0 y1
  have h1 : Frames 0x78409e090819 s y1 := by
    unfold y1
    repeat' first
      | with_reducible assumption
      | with_reducible exact Frames.refl _ _
      | with_reducible apply Frames.ite
      | ((with_reducible apply Frames.step (State.spread_frames ..)); exact rfl)
      | dsimp only
      | split
  repeat' first
    | with_reducible assumption
    | with_reducible exact Frames.refl _ _
    | with_reducible apply Frames.ite
    | ((with_reducible apply Frames.step (State.spread_frames ..)); exact rfl)
    | ((with_reducible apply Frames.step (State.takeTarget_frames ..)); exact rfl)
    | dsimp only
    | split

theorem State.decide0_frames (s : State) :
    Frames 0x78409e090819 s (State.decide0 s) := by
  unfold State.decide0
  extract_lets y0
  repeat' first
    | with_reducible assumption
    | with_reducible exact Frames.refl _ _
    | with_reducible apply Frames.ite
    | ((with_reducible apply Frames.step (State.giveTarget_frames ..)); exact rfl)
    | dsimp only
    | split

theorem State.gatherReport_frames (s : State) (r : ReachReport) :
    Frames 0x78409e0d0819 s (State.gatherReport s r) := by
  unfold State.gatherReport
  repeat' first
    | with_reducible assumption
    | with_reducible exact Frames.refl _ _
    | with_reducible apply Frames.ite
    | ((with_reducible apply Frames.foldl); intro _ _)
    | ((with_reducible apply Frames.foldlSnd); intro _ _)
    | ((with_reducible apply Frames.step (State.decide0_frames ..)); exact rfl)
    | ((with_reducible apply Frames.step (State.sendBeat_frames ..)); exact rfl)
    | ((with_reducible apply Frames.step (State.setRestart_frames ..)); exact rfl)
    | dsimp only
    | split

theorem State.enterAgree_frames (s : State) :
    Frames 0x78409e0d0819 s (State.enterAgree s) := by
  unfold State.enterAgree
  extract_lets y0 y1 y2 y3 y4 y5
  have h1 : Frames 0x78409e0d0819 s y1 := by
    unfold y1
    repeat' first
      | with_reducible assumption
      | with_reducible exact Frames.refl _ _
      | with_reducible apply Frames.ite
      | ((with_reducible apply Frames.step (State.setRestart_frames ..)); exact rfl)
      | ((with_reducible apply Frames.step (State.setRestartPhase_frames ..)); exact rfl)
      | ((with_reducible apply Frames.put); exact rfl)
      | dsimp only
      | split
  have h2 : Frames 0x78409e0d0819 s y2 := by
    unfold y2
    repeat' first
      | with_reducible assumption
      | with_reducible exact Frames.refl _ _
      | with_reducible apply Frames.ite
      | ((with_reducible apply Frames.step (State.setRestart_frames ..)); exact rfl)
      | ((with_reducible apply Frames.step (State.setRestartPhase_frames ..)); exact rfl)
      | ((with_reducible apply Frames.put); exact rfl)
      | dsimp only
      | split
  have h5 : Frames 0x78409e0d0819 s y5 := by
    unfold y5
    repeat' first
      | with_reducible assumption
      | with_reducible exact Frames.refl _ _
      | with_reducible apply Frames.ite
      | ((with_reducible apply Frames.step (State.sendHeartbeat_frames ..)); exact rfl)
      | ((with_reducible apply Frames.step (State.setRestart_frames ..)); exact rfl)
      | dsimp only
      | split
  repeat' first
    | with_reducible assumption
    | with_reducible exact Frames.refl _ _
    | with_reducible apply Frames.ite
    | ((with_reducible apply Frames.step (State.gatherReport_frames ..)); exact rfl)
    | ((with_reducible apply Frames.step (State.setRestart_frames ..)); exact rfl)
    | dsimp only
    | split

theorem State.portEpoch_frames (s : State) (p : Fin 16) :
    Frames 0x400008000010 s (State.portEpoch s p) := by
  unfold State.portEpoch
  extract_lets y0 y1
  have h1 : Frames 0x400008000010 s y1 := by
    unfold y1
    repeat' first
      | with_reducible assumption
      | with_reducible exact Frames.refl _ _
      | with_reducible apply Frames.ite
      | ((with_reducible apply Frames.step (State.setPort_frames ..)); exact rfl)
      | dsimp only
      | split
  repeat' first
    | with_reducible assumption
    | with_reducible exact Frames.refl _ _
    | with_reducible apply Frames.ite
    | ((with_reducible apply Frames.foldl); intro _ _)
    | ((with_reducible apply Frames.foldlSnd); intro _ _)
    | ((with_reducible apply Frames.step (State.dropOther_frames ..)); exact rfl)
    | ((with_reducible apply Frames.step (State.releaseUnits_frames ..)); exact rfl)
    | dsimp only
    | split

theorem State.raiseEpoch_frames (s : State) (e : Nat) :
    Frames 0xc00018000010 s (State.raiseEpoch s e) := by
  unfold State.raiseEpoch
  extract_lets y0 y1
  have h0 : Frames 0xc00018000010 s y0 := by
    unfold y0
    repeat' first
      | with_reducible assumption
      | with_reducible exact Frames.refl _ _
      | with_reducible apply Frames.ite
      | ((with_reducible refine State.putAll_frames ?_ ?_); on_goal 1 => exact fun _ => rfl)
      | dsimp only
      | split
  have h1 : Frames 0xc00018000010 s y1 := by
    unfold y1
    repeat' first
      | with_reducible assumption
      | with_reducible exact Frames.refl _ _
      | with_reducible apply Frames.ite
      | (fail_if_no_progress ((with_reducible apply Frames.rope); exact rfl))
      | dsimp only
      | split
  repeat' first
    | with_reducible assumption
    | with_reducible exact Frames.refl _ _
    | with_reducible apply Frames.ite
    | ((with_reducible apply Frames.foldl); intro _ _)
    | ((with_reducible apply Frames.foldlSnd); intro _ _)
    | ((with_reducible apply Frames.step (State.portEpoch_frames ..)); exact rfl)
    | ((with_reducible apply Frames.step (State.setDedup_frames ..)); exact rfl)
    | split

theorem State.dropMember_frames (s : State) (node : Nat) :
    Frames 0xe040b8048010 s (State.dropMember s node) := by
  unfold State.dropMember
  repeat' first
    | with_reducible assumption
    | with_reducible exact Frames.refl _ _
    | with_reducible apply Frames.ite
    | ((with_reducible apply Frames.step (State.portEnable_frames ..)); exact rfl)
    | ((with_reducible apply Frames.step (State.setRestart_frames ..)); exact rfl)
    | ((with_reducible apply Frames.put); exact rfl)
    | ((with_reducible apply Frames.set); exact rfl)
    | dsimp only
    | split

theorem State.evQuiesce_frames (s : State) :
    Frames 0x104300298809 s (State.evQuiesce s) := by
  unfold State.evQuiesce
  extract_lets y0 y1
  have h1 : Frames 0x104300298809 s y1 := by
    unfold y1
    repeat' first
      | with_reducible assumption
      | with_reducible exact Frames.refl _ _
      | with_reducible apply Frames.ite
      | ((with_reducible apply Frames.foldl); intro _ _)
      | ((with_reducible apply Frames.foldlSnd); intro _ _)
      | ((with_reducible apply Frames.step (State.evEnd_frames ..)); exact rfl)
      | ((with_reducible apply Frames.step (State.kvCancel_frames ..)); exact rfl)
      | ((with_reducible apply Frames.step (State.setEvals_frames ..)); exact rfl)
      | dsimp only
      | split
  repeat' first
    | with_reducible assumption
    | with_reducible exact Frames.refl _ _
    | with_reducible apply Frames.ite
    | ((with_reducible apply Frames.step (State.kvProgress_frames ..)); exact rfl)
    | dsimp only
    | split

theorem State.quiesce_frames (s : State) :
    Frames 0x32df9c2d8819 s (State.quiesce s) := by
  unfold State.quiesce
  extract_lets y0
  have h0 : Frames 0x32df9c2d8819 s y0 := by
    unfold y0
    repeat' first
      | with_reducible assumption
      | with_reducible exact Frames.refl _ _
      | with_reducible apply Frames.ite
      | ((with_reducible apply Frames.step (State.abandonMirror_frames ..)); exact rfl)
      | ((with_reducible apply Frames.step (State.augCancel_frames ..)); exact rfl)
      | ((with_reducible apply Frames.step (State.evQuiesce_frames ..)); exact rfl)
      | ((with_reducible apply Frames.step (State.mediaCancel_frames ..)); exact rfl)
      | ((with_reducible apply Frames.step (State.stopAll_frames ..)); exact rfl)
      | ((with_reducible apply Frames.step (State.tokCancel_frames ..)); exact rfl)
      | dsimp only
      | split
  repeat' first
    | with_reducible assumption
    | with_reducible exact Frames.refl _ _
    | with_reducible apply Frames.ite
    | ((with_reducible apply Frames.foldl); intro _ _)
    | ((with_reducible apply Frames.foldlSnd); intro _ _)
    | ((with_reducible apply Frames.step (State.colAbandon_frames ..)); exact rfl)
    | split

theorem State.beginRestart_frames (s : State) (e : Nat) (node : Nat) :
    Frames 0xf2dfbc2d8819 s (State.beginRestart s e node) := by
  unfold State.beginRestart
  extract_lets y0 y1 y2 y3 y4 y5 y6 y7
  have h3 : Frames 0xf2dfbc2d8819 s y3 := by
    unfold y3
    repeat' first
      | with_reducible assumption
      | with_reducible exact Frames.refl _ _
      | with_reducible apply Frames.ite
      | ((with_reducible apply Frames.foldl); intro _ _)
      | ((with_reducible apply Frames.foldlSnd); intro _ _)
      | ((with_reducible apply Frames.step (State.dropMember_frames ..)); exact rfl)
      | ((with_reducible apply Frames.step (State.quiesce_frames ..)); exact rfl)
      | ((with_reducible apply Frames.step (State.raiseEpoch_frames ..)); exact rfl)
      | ((with_reducible apply Frames.step (State.sendBeat_frames ..)); exact rfl)
      | ((with_reducible apply Frames.step (State.setRestart_frames ..)); exact rfl)
      | ((with_reducible apply Frames.step (State.setRestartPhase_frames ..)); exact rfl)
      | ((with_reducible apply Frames.step (State.spread_frames ..)); exact rfl)
      | ((with_reducible apply Frames.put); exact rfl)
      | dsimp only
      | split
  have h5 : Frames 0xf2dfbc2d8819 s y5 := by
    unfold y5
    repeat' first
      | with_reducible assumption
      | with_reducible exact Frames.refl _ _
      | with_reducible apply Frames.ite
      | ((with_reducible apply Frames.foldl); intro _ _)
      | ((with_reducible apply Frames.foldlSnd); intro _ _)
      | ((with_reducible apply Frames.step (State.dropMember_frames ..)); exact rfl)
      | ((with_reducible apply Frames.step (State.quiesce_frames ..)); exact rfl)
      | ((with_reducible apply Frames.step (State.raiseEpoch_frames ..)); exact rfl)
      | ((with_reducible apply Frames.step (State.sendBeat_frames ..)); exact rfl)
      | ((with_reducible apply Frames.step (State.setRestart_frames ..)); exact rfl)
      | ((with_reducible apply Frames.step (State.setRestartPhase_frames ..)); exact rfl)
      | ((with_reducible apply Frames.step (State.spread_frames ..)); exact rfl)
      | ((with_reducible apply Frames.put); exact rfl)
      | dsimp only
      | split
  have h6 : Frames 0xf2dfbc2d8819 s y6 := by
    unfold y6
    repeat' first
      | with_reducible assumption
      | with_reducible exact Frames.refl _ _
      | with_reducible apply Frames.ite
      | ((with_reducible apply Frames.foldl); intro _ _)
      | ((with_reducible apply Frames.foldlSnd); intro _ _)
      | ((with_reducible apply Frames.step (State.dropMember_frames ..)); exact rfl)
      | ((with_reducible apply Frames.step (State.quiesce_frames ..)); exact rfl)
      | ((with_reducible apply Frames.step (State.raiseEpoch_frames ..)); exact rfl)
      | ((with_reducible apply Frames.step (State.sendBeat_frames ..)); exact rfl)
      | ((with_reducible apply Frames.step (State.setRestart_frames ..)); exact rfl)
      | ((with_reducible apply Frames.step (State.setRestartPhase_frames ..)); exact rfl)
      | ((with_reducible apply Frames.step (State.spread_frames ..)); exact rfl)
      | ((with_reducible apply Frames.put); exact rfl)
      | dsimp only
      | split
  have h7 : Frames 0xf2dfbc2d8819 s y7 := by
    unfold y7
    repeat' first
      | with_reducible assumption
      | with_reducible exact Frames.refl _ _
      | with_reducible apply Frames.ite
      | ((with_reducible apply Frames.foldl); intro _ _)
      | ((with_reducible apply Frames.foldlSnd); intro _ _)
      | ((with_reducible apply Frames.step (State.dropMember_frames ..)); exact rfl)
      | ((with_reducible apply Frames.step (State.quiesce_frames ..)); exact rfl)
      | ((with_reducible apply Frames.step (State.raiseEpoch_frames ..)); exact rfl)
      | ((with_reducible apply Frames.step (State.sendBeat_frames ..)); exact rfl)
      | ((with_reducible apply Frames.step (State.setRestart_frames ..)); exact rfl)
      | ((with_reducible apply Frames.step (State.setRestartPhase_frames ..)); exact rfl)
      | ((with_reducible apply Frames.step (State.spread_frames ..)); exact rfl)
      | ((with_reducible apply Frames.put); exact rfl)
      | dsimp only
      | split
  repeat' first
    | with_reducible assumption
    | with_reducible exact Frames.refl _ _
    | with_reducible apply Frames.ite
    | ((with_reducible apply Frames.foldl); intro _ _)
    | ((with_reducible apply Frames.foldlSnd); intro _ _)
    | ((with_reducible apply Frames.step (State.dropMember_frames ..)); exact rfl)
    | ((with_reducible apply Frames.step (State.quiesce_frames ..)); exact rfl)
    | ((with_reducible apply Frames.step (State.raiseEpoch_frames ..)); exact rfl)
    | ((with_reducible apply Frames.step (State.sendBeat_frames ..)); exact rfl)
    | ((with_reducible apply Frames.step (State.setRestart_frames ..)); exact rfl)
    | ((with_reducible apply Frames.step (State.setRestartPhase_frames ..)); exact rfl)
    | ((with_reducible apply Frames.step (State.spread_frames ..)); exact rfl)
    | ((with_reducible apply Frames.put); exact rfl)
    | dsimp only
    | split

theorem State.takeNotice_frames (s : State) (e : Nat) (node : Nat) :
    Frames 0xf2dfbc2d8819 s (State.takeNotice s e node) := by
  unfold State.takeNotice
  repeat' first
    | with_reducible assumption
    | with_reducible exact Frames.refl _ _
    | with_reducible apply Frames.ite
    | ((with_reducible apply Frames.step (State.beginRestart_frames ..)); exact rfl)
    | ((with_reducible apply Frames.step (State.dropMember_frames ..)); exact rfl)
    | ((with_reducible apply Frames.step (State.setRestart_frames ..)); exact rfl)
    | split

theorem execRestartNotice_frames (epoch : BitVec 8) (failed : BitVec 32) (s : State) :
    FramesOut 0xf2dfbc2d8819 s (execRestartNotice epoch failed s) := by
  unfold execRestartNotice
  repeat' first
    | with_reducible assumption
    | with_reducible exact Frames.refl _ _
    | with_reducible apply FramesOut.next
    | with_reducible apply Frames.ite
    | with_reducible apply FramesOut.ite
    | ((with_reducible apply Frames.step (State.takeNotice_frames ..)); exact rfl)
    | split

theorem execQuiesceComplete_frames (s : State) :
    FramesOut 0x7ac09e0d0819 s (execQuiesceComplete s) := by
  unfold execQuiesceComplete
  repeat' first
    | with_reducible assumption
    | with_reducible exact Frames.refl _ _
    | with_reducible apply FramesOut.next
    | with_reducible apply Frames.ite
    | with_reducible apply FramesOut.ite
    | ((with_reducible apply Frames.step (State.enterAgree_frames ..)); exact rfl)
    | ((with_reducible apply Frames.step (State.runsOff_frames ..)); exact rfl)
    | ((with_reducible apply Frames.step (State.sendHeartbeat_frames ..)); exact rfl)
    | ((with_reducible apply Frames.step (State.setRestart_frames ..)); exact rfl)
    | ((with_reducible apply Frames.step (State.setRestartPhase_frames ..)); exact rfl)
    | dsimp only
    | split

theorem State.takePromote_frames (s : State) (m : Nat) :
    Frames 0xf8409e0d0819 s (State.takePromote s m) := by
  unfold State.takePromote
  extract_lets y0 y1 y2 y3 y4 y5
  have h1 : Frames 0xf8409e0d0819 s y1 := by
    unfold y1
    repeat' first
      | with_reducible assumption
      | with_reducible exact Frames.refl _ _
      | with_reducible apply Frames.ite
      | ((with_reducible apply Frames.foldl); intro _ _)
      | ((with_reducible apply Frames.foldlSnd); intro _ _)
      | ((with_reducible apply Frames.step (State.announceDie_frames ..)); exact rfl)
      | ((with_reducible apply Frames.step (State.colAbandon_frames ..)); exact rfl)
      | ((with_reducible apply Frames.step (State.enterAgree_frames ..)); exact rfl)
      | ((with_reducible apply Frames.step (State.hbSync_frames ..)); exact rfl)
      | ((with_reducible refine State.putAll_frames ?_ ?_); on_goal 1 => exact fun _ => rfl)
      | ((with_reducible apply Frames.step (State.setRestart_frames ..)); exact rfl)
      | dsimp only
      | split
  have h3 : Frames 0xf8409e0d0819 s y3 := by
    unfold y3
    repeat' first
      | with_reducible assumption
      | with_reducible exact Frames.refl _ _
      | with_reducible apply Frames.ite
      | ((with_reducible apply Frames.foldl); intro _ _)
      | ((with_reducible apply Frames.foldlSnd); intro _ _)
      | ((with_reducible apply Frames.step (State.announceDie_frames ..)); exact rfl)
      | ((with_reducible apply Frames.step (State.colAbandon_frames ..)); exact rfl)
      | ((with_reducible apply Frames.step (State.enterAgree_frames ..)); exact rfl)
      | ((with_reducible apply Frames.step (State.hbSync_frames ..)); exact rfl)
      | ((with_reducible refine State.putAll_frames ?_ ?_); on_goal 1 => exact fun _ => rfl)
      | ((with_reducible apply Frames.step (State.setRestart_frames ..)); exact rfl)
      | dsimp only
      | split
  have h5 : Frames 0xf8409e0d0819 s y5 := by
    unfold y5
    repeat' first
      | with_reducible assumption
      | with_reducible exact Frames.refl _ _
      | with_reducible apply Frames.ite
      | ((with_reducible apply Frames.foldl); intro _ _)
      | ((with_reducible apply Frames.foldlSnd); intro _ _)
      | ((with_reducible apply Frames.step (State.announceDie_frames ..)); exact rfl)
      | ((with_reducible apply Frames.step (State.colAbandon_frames ..)); exact rfl)
      | ((with_reducible apply Frames.step (State.enterAgree_frames ..)); exact rfl)
      | ((with_reducible apply Frames.step (State.hbSync_frames ..)); exact rfl)
      | ((with_reducible refine State.putAll_frames ?_ ?_); on_goal 1 => exact fun _ => rfl)
      | ((with_reducible apply Frames.step (State.setRestart_frames ..)); exact rfl)
      | dsimp only
      | split
  repeat' first
    | with_reducible assumption
    | with_reducible exact Frames.refl _ _
    | with_reducible apply Frames.ite
    | ((with_reducible apply Frames.foldl); intro _ _)
    | ((with_reducible apply Frames.foldlSnd); intro _ _)
    | ((with_reducible apply Frames.step (State.announceDie_frames ..)); exact rfl)
    | ((with_reducible apply Frames.step (State.colAbandon_frames ..)); exact rfl)
    | ((with_reducible apply Frames.step (State.enterAgree_frames ..)); exact rfl)
    | ((with_reducible apply Frames.step (State.hbSync_frames ..)); exact rfl)
    | ((with_reducible refine State.putAll_frames ?_ ?_); on_goal 1 => exact fun _ => rfl)
    | ((with_reducible apply Frames.step (State.setRestart_frames ..)); exact rfl)
    | dsimp only
    | split

theorem execRestartPromote_frames (map : BitVec 36) (s : State) :
    FramesOut 0xf8409e0d0819 s (execRestartPromote map s) := by
  unfold execRestartPromote
  repeat' first
    | with_reducible assumption
    | with_reducible exact Frames.refl _ _
    | with_reducible apply FramesOut.next
    | with_reducible apply Frames.ite
    | with_reducible apply FramesOut.ite
    | ((with_reducible apply Frames.step (State.takePromote_frames ..)); exact rfl)
    | split

theorem State.takeReport_frames (s : State) (r : ReachReport) :
    Frames 0x78409e0d0819 s (State.takeReport s r) := by
  unfold State.takeReport
  repeat' first
    | with_reducible assumption
    | with_reducible exact Frames.refl _ _
    | with_reducible apply Frames.ite
    | ((with_reducible apply Frames.step (State.gatherReport_frames ..)); exact rfl)
    | ((with_reducible apply Frames.step (State.giveTarget_frames ..)); exact rfl)
    | split

theorem execRestartReport_frames (r : ReachReport) (s : State) :
    FramesOut 0x78409e0d0819 s (execRestartReport r s) := by
  unfold execRestartReport
  repeat' first
    | with_reducible assumption
    | with_reducible exact Frames.refl _ _
    | with_reducible apply FramesOut.next
    | with_reducible apply Frames.ite
    | with_reducible apply FramesOut.ite
    | ((with_reducible apply Frames.step (State.takeReport_frames ..)); exact rfl)
    | split

theorem State.onTarget_frames (s : State) (t : Nat) :
    Frames 0x78409e090819 s (State.onTarget s t) := by
  unfold State.onTarget
  repeat' first
    | with_reducible assumption
    | with_reducible exact Frames.refl _ _
    | with_reducible apply Frames.ite
    | ((with_reducible apply Frames.step (State.giveTarget_frames ..)); exact rfl)
    | split

theorem execRestartTarget_frames (step : BitVec 40) (s : State) :
    FramesOut 0x78409e090819 s (execRestartTarget step s) := by
  unfold execRestartTarget
  repeat' first
    | with_reducible assumption
    | with_reducible exact Frames.refl _ _
    | with_reducible apply FramesOut.next
    | with_reducible apply Frames.ite
    | with_reducible apply FramesOut.ite
    | ((with_reducible apply Frames.step (State.onTarget_frames ..)); exact rfl)
    | split

theorem execAgreeBoundExpiry_frames (s : State) :
    FramesOut 0x78409e090819 s (execAgreeBoundExpiry s) := by
  unfold execAgreeBoundExpiry
  repeat' first
    | with_reducible assumption
    | with_reducible exact Frames.refl _ _
    | with_reducible apply FramesOut.next
    | with_reducible apply Frames.ite
    | with_reducible apply FramesOut.ite
    | ((with_reducible apply Frames.step (State.giveTarget_frames ..)); exact rfl)
    | split

theorem State.restoreFails_frames (s : State) :
    Frames 0x78409e0d0819 s (State.restoreFails s) := by
  unfold State.restoreFails
  extract_lets y0 y1 y2
  have h1 : Frames 0x78409e0d0819 s y1 := by
    unfold y1
    repeat' first
      | with_reducible assumption
      | with_reducible exact Frames.refl _ _
      | with_reducible apply Frames.ite
      | ((with_reducible apply Frames.step (State.rollbackPhase_frames ..)); exact rfl)
      | ((with_reducible apply Frames.step (State.setRestart_frames ..)); exact rfl)
      | dsimp only
      | split
  repeat' first
    | with_reducible assumption
    | with_reducible exact Frames.refl _ _
    | with_reducible apply Frames.ite
    | ((with_reducible apply Frames.step (State.giveTarget_frames ..)); exact rfl)
    | ((with_reducible apply Frames.step (State.rollbackPhase_frames ..)); exact rfl)
    | ((with_reducible apply Frames.step (State.sendHeartbeat_frames ..)); exact rfl)
    | ((with_reducible apply Frames.step (State.setRestart_frames ..)); exact rfl)
    | dsimp only
    | split

theorem State.loadCommit_frames (s : State) (c : CommitRecord) :
    Frames 0x80000000000 s (State.loadCommit s c) := by
  unfold State.loadCommit
  extract_lets y0
  have h0 : Frames 0x80000000000 s y0 := by
    unfold y0
    repeat' first
      | with_reducible assumption
      | with_reducible exact Frames.refl _ _
      | with_reducible apply Frames.ite
      | ((with_reducible refine State.putAll_frames ?_ ?_); on_goal 1 => exact fun _ => rfl)
      | dsimp only
      | split
  repeat' first
    | with_reducible assumption
    | with_reducible exact Frames.refl _ _
    | with_reducible apply Frames.ite
    | ((with_reducible refine State.putAll_frames ?_ ?_); on_goal 1 => exact fun _ => rfl)
    | split

theorem State.setBuffers_frames (s : State) (attempt : Nat) :
    Frames 0x60000000000 s (State.setBuffers s attempt) := by
  unfold State.setBuffers
  extract_lets y0
  repeat' first
    | with_reducible assumption
    | with_reducible exact Frames.refl _ _
    | with_reducible apply Frames.ite
    | ((with_reducible apply Frames.foldl); intro _ _)
    | ((with_reducible apply Frames.foldlSnd); intro _ _)
    | ((with_reducible apply Frames.step (State.trvSyncDie_frames ..)); exact rfl)
    | ((with_reducible apply Frames.put); exact rfl)
    | dsimp only
    | split

theorem State.clearPage_frames (n : Nat) (s : State) (x : Nat × Nat) :
    Frames 0x100100210801 s (State.clearPage n s x) := by
  unfold State.clearPage
  extract_lets y0
  repeat' first
    | with_reducible assumption
    | with_reducible exact Frames.refl _ _
    | with_reducible apply Frames.ite
    | ((with_reducible apply Frames.step (State.kvFree_frames ..)); exact rfl)
    | ((with_reducible apply Frames.step (State.writeMem_frames ..)); exact rfl)
    | dsimp only
    | split

theorem State.clearTraining_frames (s : State) :
    Frames 0x100100210801 s (State.clearTraining s) := by
  unfold State.clearTraining
  repeat' first
    | with_reducible assumption
    | with_reducible exact Frames.refl _ _
    | with_reducible apply Frames.ite
    | ((with_reducible apply Frames.foldl); intro _ _)
    | ((with_reducible apply Frames.foldlSnd); intro _ _)
    | ((with_reducible apply Frames.step (State.clearPage_frames ..)); exact rfl)
    | ((with_reducible apply Frames.step (State.seqPut_frames ..)); exact rfl)
    | dsimp only
    | split

theorem State.forgetAttempt_frames (s : State) (d : Fin 4) :
    Frames 0x6000000 s (State.forgetAttempt s d) := by
  unfold State.forgetAttempt
  repeat' first
    | with_reducible assumption
    | with_reducible exact Frames.refl _ _
    | with_reducible apply Frames.ite
    | ((with_reducible apply Frames.step (State.dropNorms_frames ..)); exact rfl)
    | ((with_reducible apply Frames.step (State.setOptDie_frames ..)); exact rfl)
    | split

theorem State.enterRefill_frames (s : State) (c : CommitRecord) :
    Frames 0x3e0186290801 s (State.enterRefill s c) := by
  unfold State.enterRefill
  extract_lets y0 y1 y2 y3 y4 y5 y6 y7
  have h0 : Frames 0x3e0186290801 s y0 := by
    unfold y0
    repeat' first
      | with_reducible assumption
      | with_reducible exact Frames.refl _ _
      | with_reducible apply Frames.ite
      | ((with_reducible apply Frames.step (State.loadCommit_frames ..)); exact rfl)
      | ((with_reducible apply Frames.step (State.setBuffers_frames ..)); exact rfl)
      | ((with_reducible apply Frames.step (State.setStep_frames ..)); exact rfl)
      | (fail_if_no_progress ((with_reducible apply Frames.job); exact rfl))
      | dsimp only
      | split
  have h1 : Frames 0x3e0186290801 s y1 := by
    unfold y1
    repeat' first
      | with_reducible assumption
      | with_reducible exact Frames.refl _ _
      | with_reducible apply Frames.ite
      | ((with_reducible apply Frames.foldl); intro _ _)
      | ((with_reducible apply Frames.foldlSnd); intro _ _)
      | ((with_reducible apply Frames.step (State.forgetAttempt_frames ..)); exact rfl)
      | ((with_reducible apply Frames.step (State.rollbackPhase_frames ..)); exact rfl)
      | ((with_reducible apply Frames.step (State.setStep_frames ..)); exact rfl)
      | (fail_if_no_progress ((with_reducible apply Frames.job); exact rfl))
      | dsimp only
      | split
  have h3 : Frames 0x3e0186290801 s y3 := by
    unfold y3
    repeat' first
      | with_reducible assumption
      | with_reducible exact Frames.refl _ _
      | with_reducible apply Frames.ite
      | ((with_reducible apply Frames.step (State.clearTraining_frames ..)); exact rfl)
      | ((with_reducible apply Frames.step (State.setStep_frames ..)); exact rfl)
      | (fail_if_no_progress ((with_reducible apply Frames.job); exact rfl))
      | dsimp only
      | split
  have h5 : Frames 0x3e0186290801 s y5 := by
    unfold y5
    repeat' first
      | with_reducible assumption
      | with_reducible exact Frames.refl _ _
      | with_reducible apply Frames.ite
      | ((with_reducible apply Frames.step (State.setStep_frames ..)); exact rfl)
      | (fail_if_no_progress ((with_reducible apply Frames.job); exact rfl))
      | dsimp only
      | split
  have h6 : Frames 0x3e0186290801 s y6 := by
    unfold y6
    repeat' first
      | with_reducible assumption
      | with_reducible exact Frames.refl _ _
      | with_reducible apply Frames.ite
      | ((with_reducible apply Frames.step (State.clearTraining_frames ..)); exact rfl)
      | ((with_reducible apply Frames.step (State.setStep_frames ..)); exact rfl)
      | (fail_if_no_progress ((with_reducible apply Frames.job); exact rfl))
      | dsimp only
      | split
  repeat' first
    | with_reducible assumption
    | with_reducible exact Frames.refl _ _
    | with_reducible apply Frames.ite
    | ((with_reducible refine State.putAll_frames ?_ ?_); on_goal 1 => exact fun _ => rfl)
    | ((with_reducible apply Frames.step (State.setRestartPhase_frames ..)); exact rfl)
    | ((with_reducible apply Frames.step (State.setStep_frames ..)); exact rfl)
    | (fail_if_no_progress ((with_reducible apply Frames.job); exact rfl))
    | dsimp only
    | split

theorem State.pullRegions_frames (s : State) (g : Nat) :
    Frames 0x600018000010 s (State.pullRegions s g) := by
  unfold State.pullRegions
  extract_lets y0 y1
  repeat' first
    | with_reducible assumption
    | with_reducible exact Frames.refl _ _
    | with_reducible apply Frames.ite
    | ((with_reducible apply Frames.foldl); intro _ _)
    | ((with_reducible apply Frames.foldlSnd); intro _ _)
    | ((with_reducible apply Frames.step (State.submit_frames ..)); exact rfl)
    | dsimp only
    | split

theorem execRestoreComplete_frames (s : State) :
    FramesOut 0x7e419e2d0819 s (execRestoreComplete s) := by
  unfold execRestoreComplete
  extract_lets y0 y1 y2
  have h1 : ∀ t, Frames 0x7e419e2d0819 t (y1 t) := by
    intro t
    unfold y1
    repeat' first
      | with_reducible assumption
      | with_reducible exact Frames.refl _ _
      | with_reducible apply FramesOut.next
      | with_reducible apply Frames.ite
      | with_reducible apply FramesOut.ite
      | ((with_reducible apply Frames.step (State.enterRefill_frames ..)); exact rfl)
      | ((with_reducible apply Frames.step (State.restoreFails_frames ..)); exact rfl)
      | dsimp only
      | split
  clear_value y1
  repeat' first
    | with_reducible assumption
    | with_reducible exact Frames.refl _ _
    | with_reducible exact Frames.trans (by assumption) (h1 _)
    | with_reducible exact h1 _
    | with_reducible refine Frames.trans ?_ (h1 _)
    | with_reducible apply FramesOut.next
    | with_reducible apply Frames.ite
    | with_reducible apply FramesOut.ite
    | ((with_reducible apply Frames.step (State.enterRefill_frames ..)); exact rfl)
    | ((with_reducible apply Frames.step (State.pullRegions_frames ..)); exact rfl)
    | ((with_reducible apply Frames.step (State.restoreFails_frames ..)); exact rfl)
    | ((with_reducible apply Frames.step (State.setRestart_frames ..)); exact rfl)
    | with_reducible apply Frames.iteSnd
    | with_reducible apply Frames.iteSnd2
    | with_reducible apply Frames.iteFst
    | dsimp only
    | split

theorem execRefillComplete_frames (s : State) :
    FramesOut 0x80000000 s (execRefillComplete s) := by
  unfold execRefillComplete
  repeat' first
    | with_reducible assumption
    | with_reducible exact Frames.refl _ _
    | with_reducible apply FramesOut.next
    | with_reducible apply Frames.ite
    | with_reducible apply FramesOut.ite
    | ((with_reducible apply Frames.step (State.setRestartPhase_frames ..)); exact rfl)
    | split

theorem execResumeBarrierDone_frames (s : State) :
    FramesOut 0x1880824d0809 s (execResumeBarrierDone s) := by
  unfold execResumeBarrierDone
  repeat' first
    | with_reducible assumption
    | with_reducible exact Frames.refl _ _
    | with_reducible apply FramesOut.next
    | with_reducible apply Frames.ite
    | with_reducible apply FramesOut.ite
    | ((with_reducible refine State.putAll_frames ?_ ?_); on_goal 1 => exact fun _ => rfl)
    | ((with_reducible apply Frames.step (State.setRestart_frames ..)); exact rfl)
    | ((with_reducible apply Frames.step (State.setRestartPhase_frames ..)); exact rfl)
    | ((with_reducible apply Frames.step (State.setStep_frames ..)); exact rfl)
    | ((with_reducible apply Frames.step (State.tryMark_frames ..)); exact rfl)
    | dsimp only
    | split

theorem execMirrorComplete_frames (s : State) :
    FramesOut 0x80040000 s (execMirrorComplete s) := by
  unfold execMirrorComplete
  repeat' first
    | with_reducible assumption
    | with_reducible exact Frames.refl _ _
    | with_reducible apply FramesOut.next
    | with_reducible apply Frames.ite
    | with_reducible apply FramesOut.ite
    | ((with_reducible apply Frames.step (State.setRestart_frames ..)); exact rfl)
    | ((with_reducible apply Frames.put); exact rfl)
    | dsimp only
    | split

theorem State.declareFailed_frames (s : State) (t : Nat) :
    Frames 0xf2dfbc2d8819 s (State.declareFailed s t) := by
  unfold State.declareFailed
  repeat' first
    | with_reducible assumption
    | with_reducible exact Frames.refl _ _
    | with_reducible apply Frames.ite
    | ((with_reducible apply Frames.step (State.beginRestart_frames ..)); exact rfl)
    | ((with_reducible apply Frames.step (State.correctedEvent_frames ..)); exact rfl)
    | ((with_reducible apply Frames.step (State.raise_frames ..)); exact rfl)
    | ((with_reducible apply Frames.step (State.setRestart_frames ..)); exact rfl)
    | ((with_reducible apply Frames.step (State.ucc_frames ..)); exact rfl)
    | ((with_reducible apply Frames.put); exact rfl)
    | ((with_reducible apply Frames.set); exact rfl)
    | dsimp only
    | split

theorem execHbEnable_frames (s : State) :
    FramesOut 0x80000000 s (execHbEnable s) := by
  unfold execHbEnable
  repeat' first
    | with_reducible assumption
    | with_reducible exact Frames.refl _ _
    | with_reducible apply FramesOut.next
    | with_reducible apply Frames.ite
    | with_reducible apply FramesOut.ite
    | ((with_reducible apply Frames.step (State.hbSync_frames ..)); exact rfl)
    | ((with_reducible apply Frames.put); exact rfl)
    | split

theorem execHbDisable_frames (s : State) :
    FramesOut 0x400088000010 s (execHbDisable s) := by
  unfold execHbDisable
  repeat' first
    | with_reducible assumption
    | with_reducible exact Frames.refl _ _
    | with_reducible apply FramesOut.next
    | with_reducible apply Frames.ite
    | with_reducible apply FramesOut.ite
    | ((with_reducible apply Frames.step (State.sendHeartbeat_frames ..)); exact rfl)
    | ((with_reducible apply Frames.put); exact rfl)
    | split

theorem execHbFail_frames (s : State) :
    FramesOut 0x400088000010 s (execHbFail s) := by
  unfold execHbFail
  repeat' first
    | with_reducible assumption
    | with_reducible exact Frames.refl _ _
    | with_reducible apply FramesOut.next
    | with_reducible apply Frames.ite
    | with_reducible apply FramesOut.ite
    | ((with_reducible apply Frames.step (State.failHeartbeat_frames ..)); exact rfl)
    | split

theorem execHeartbeatTick_frames (s : State) :
    FramesOut 0xf2dfbc2d8819 s (execHeartbeatTick s) := by
  unfold execHeartbeatTick
  repeat' first
    | with_reducible assumption
    | with_reducible exact Frames.refl _ _
    | with_reducible apply FramesOut.next
    | with_reducible apply Frames.ite
    | with_reducible apply FramesOut.ite
    | ((with_reducible apply Frames.foldl); intro _ _)
    | ((with_reducible apply Frames.foldlSnd); intro _ _)
    | ((with_reducible apply Frames.step (State.declareFailed_frames ..)); exact rfl)
    | ((with_reducible apply Frames.step (State.hbSync_frames ..)); exact rfl)
    | ((with_reducible apply Frames.step (State.sendHeartbeat_frames ..)); exact rfl)
    | dsimp only
    | split

theorem State.hearMember_frames (s : State) (h : Heartbeat) :
    Frames 0xf2dfbc2d8819 s (State.hearMember s h) := by
  unfold State.hearMember
  extract_lets y0 y1 y2
  have h1 : Frames 0xf2dfbc2d8819 s y1 := by
    unfold y1
    repeat' first
      | with_reducible assumption
      | with_reducible exact Frames.refl _ _
      | with_reducible apply Frames.ite
      | ((with_reducible apply Frames.step (State.setRestart_frames ..)); exact rfl)
      | ((with_reducible apply Frames.set); exact rfl)
      | dsimp only
      | split
  have h2 : Frames 0xf2dfbc2d8819 s y2 := by
    unfold y2
    repeat' first
      | with_reducible assumption
      | with_reducible exact Frames.refl _ _
      | with_reducible apply Frames.ite
      | ((with_reducible apply Frames.step (State.hbSync_frames ..)); exact rfl)
      | dsimp only
      | split
  repeat' first
    | with_reducible assumption
    | with_reducible exact Frames.refl _ _
    | with_reducible apply Frames.ite
    | ((with_reducible apply Frames.step (State.declareFailed_frames ..)); exact rfl)
    | dsimp only
    | split

theorem State.hearFlags_frames (s : State) (h : Heartbeat) :
    Frames 0xfffffeef8c99 s (State.hearFlags s h) := by
  unfold State.hearFlags
  extract_lets y0 y1 y2
  have h0 : Frames 0xfffffeef8c99 s y0 := by
    unfold y0
    repeat' first
      | with_reducible assumption
      | with_reducible exact Frames.refl _ _
      | with_reducible apply Frames.ite
      | ((with_reducible apply Frames.step (State.takeNotice_frames ..)); exact rfl)
      | dsimp only
      | split
  have h1 : Frames 0xfffffeef8c99 s y1 := by
    unfold y1
    repeat' first
      | with_reducible assumption
      | with_reducible exact Frames.refl _ _
      | with_reducible apply Frames.ite
      | ((with_reducible apply Frames.step (State.promote_frames ..)); exact rfl)
      | ((with_reducible apply Frames.step (State.takePromote_frames ..)); exact rfl)
      | dsimp only
      | split
  have h2 : Frames 0xfffffeef8c99 s y2 := by
    unfold y2
    repeat' first
      | with_reducible assumption
      | with_reducible exact Frames.refl _ _
      | with_reducible apply Frames.ite
      | ((with_reducible apply Frames.step (State.takeReport_frames ..)); exact rfl)
      | dsimp only
      | split
  repeat' first
    | with_reducible assumption
    | with_reducible exact Frames.refl _ _
    | with_reducible apply Frames.ite
    | ((with_reducible apply Frames.step (State.onTarget_frames ..)); exact rfl)
    | split

theorem execRopeHeartbeat_frames (p : Fin 16) (x : RxFrame) (s : State) :
    FramesOut 0xfffffeef8c99 s (execRopeHeartbeat p x s) := by
  unfold execRopeHeartbeat
  with_reducible apply FramesOut.next
  with_reducible refine Frames.trans ?_ (State.onFrame_frames ?_ (fun _ _ _ => ?_))
  on_goal 2 => exact rfl
  repeat' first
    | with_reducible assumption
    | with_reducible exact Frames.refl _ _
    | (fail_if_no_progress extract_lets)
    | with_reducible apply FramesOut.next
    | with_reducible apply Frames.ite
    | with_reducible apply FramesOut.ite
    | ((with_reducible apply Frames.step (State.hearFlags_frames ..)); exact rfl)
    | ((with_reducible apply Frames.step (State.hearMember_frames ..)); exact rfl)
    | ((with_reducible apply Frames.step (State.releaseUnits_frames ..)); exact rfl)
    | ((with_reducible apply Frames.step (State.takeUnits_frames ..)); exact rfl)
    | split

theorem State.markInjected_frames (s : State) (cls : FaultClass) (die : Nat) (block : Nat) (inst : Nat) (code : Nat) :
    Frames 0x800 s (State.markInjected s cls die block inst code) := by
  unfold State.markInjected
  repeat' first
    | with_reducible assumption
    | with_reducible exact Frames.refl _ _
    | with_reducible apply Frames.ite
    | (fail_if_no_progress ((with_reducible apply Frames.faults); exact rfl))
    | split

theorem State.injectAt_frames (s : State) (cls : FaultClass) (die : Nat) (block : Nat) (inst : Nat) (code : Nat) :
    Frames 0x3ac01e490819 s (State.injectAt s cls die block inst code) := by
  unfold State.injectAt
  extract_lets y0 y1 y2 y3 y4
  have h2 : Frames 0x3ac01e490819 s y2 := by
    unfold y2
    repeat' first
      | with_reducible assumption
      | with_reducible exact Frames.refl _ _
      | with_reducible apply Frames.ite
      | ((with_reducible apply Frames.step (State.raise_frames ..)); exact rfl)
      | dsimp only
      | split
  repeat' first
    | with_reducible assumption
    | with_reducible exact Frames.refl _ _
    | with_reducible apply Frames.ite
    | ((with_reducible apply Frames.step (State.colStop_frames ..)); exact rfl)
    | ((with_reducible apply Frames.step (State.optStop_frames ..)); exact rfl)
    | ((with_reducible apply Frames.step (State.tcStop_frames ..)); exact rfl)
    | ((with_reducible apply Frames.step (State.trvStop_frames ..)); exact rfl)
    | dsimp only
    | split

theorem execFltInject_frames (w : Word) (s : State) :
    FramesOut 0x7ac0be4989d9 s (execFltInject w s) := by
  unfold execFltInject
  extract_lets y0 y1 y2 y3 y4
  try clear_value y4
  repeat' first
    | with_reducible assumption
    | with_reducible exact Frames.refl _ _
    | with_reducible apply FramesOut.next
    | with_reducible apply Frames.ite
    | with_reducible apply FramesOut.ite
    | ((with_reducible apply Frames.step (State.failHeartbeat_frames ..)); exact rfl)
    | ((with_reducible apply Frames.step (State.fltRefused_frames ..)); exact rfl)
    | ((with_reducible apply Frames.step (State.injectAt_frames ..)); exact rfl)
    | ((with_reducible apply Frames.step (State.markInjected_frames ..)); exact rfl)
    | ((with_reducible apply Frames.step (State.stopClocks_frames ..)); exact rfl)
    | ((with_reducible apply Frames.step (State.ucc_frames ..)); exact rfl)
    | dsimp only
    | split

end Sys2Proof.Machine
end

