-- ==== Sys2Proof/Laws/FramesHarts.lean ====
section
/-! SUPPORT. What the definitions of Machine/Harts.lean can change: one lemma for each that answers a state. -/

namespace Sys2Proof.Machine

theorem State.setHart_frames (s : State) (h : Nat) (x : HartState) :
    Frames 0x4000 s (State.setHart s h x) := by
  unfold State.setHart
  repeat' first
    | with_reducible assumption
    | with_reducible exact Frames.refl _ _
    | with_reducible apply Frames.ite
    | ((with_reducible apply Frames.set); exact rfl)
    | (fail_if_no_progress ((with_reducible apply Frames.camp); exact rfl))
    | split

theorem State.startHart_frames (s : State) (h : Nat) :
    Frames 0x4000 s (State.startHart s h) := by
  unfold State.startHart
  repeat' first
    | with_reducible assumption
    | with_reducible exact Frames.refl _ _
    | with_reducible apply Frames.ite
    | ((with_reducible apply Frames.step (State.setHart_frames ..)); exact rfl)
    | split

theorem State.stopHart_frames (s : State) (h : Nat) :
    Frames 0x4000 s (State.stopHart s h) := by
  unfold State.stopHart
  repeat' first
    | with_reducible assumption
    | with_reducible exact Frames.refl _ _
    | with_reducible apply Frames.ite
    | ((with_reducible apply Frames.step (State.setHart_frames ..)); exact rfl)
    | (fail_if_no_progress ((with_reducible apply Frames.camp); exact rfl))
    | split

theorem State.runHarts_frames (s : State) (run : Nat) :
    Frames 0x4000004000 s (State.runHarts s run) := by
  unfold State.runHarts
  extract_lets y0
  repeat' first
    | with_reducible assumption
    | with_reducible exact Frames.refl _ _
    | with_reducible apply Frames.ite
    | ((with_reducible apply Frames.foldl); intro _ _)
    | ((with_reducible apply Frames.foldlSnd); intro _ _)
    | ((with_reducible apply Frames.step (State.startHart_frames ..)); exact rfl)
    | ((with_reducible apply Frames.step (State.stopHart_frames ..)); exact rfl)
    | ((with_reducible apply Frames.put); exact rfl)
    | dsimp only
    | split

theorem execHartRun_frames (run : BitVec 24) (s : State) :
    FramesOut 0x4000004000 s (execHartRun run s) := by
  unfold execHartRun
  repeat' first
    | with_reducible assumption
    | with_reducible exact Frames.refl _ _
    | with_reducible apply FramesOut.next
    | with_reducible apply Frames.ite
    | with_reducible apply FramesOut.ite
    | ((with_reducible apply Frames.step (State.runHarts_frames ..)); exact rfl)
    | split

theorem execIrqEvent_frames (src : Fin 64) (s : State) :
    FramesOut 0x4000000000 s (execIrqEvent src s) := by
  unfold execIrqEvent
  repeat' first
    | with_reducible assumption
    | with_reducible exact Frames.refl _ _
    | with_reducible apply FramesOut.next
    | with_reducible apply Frames.ite
    | with_reducible apply FramesOut.ite
    | ((with_reducible apply Frames.step (State.irq_frames ..)); exact rfl)
    | split

theorem State.claim_frames (s : State) (h : Fin 24) (m : Fin 2) (again : Bool) :
    Frames 0x4000000000 s (State.claim s h m again).2 := by
  unfold State.claim
  repeat' first
    | with_reducible assumption
    | with_reducible exact Frames.refl _ _
    | with_reducible apply Frames.ite
    | ((with_reducible apply Frames.put); exact rfl)
    | split

theorem execClaim_frames (h : Fin 24) (m : Fin 2) (again : Bool) (s : State) :
    FramesOut 0x4000000010 s (execClaim h m again s) := by
  unfold execClaim
  repeat' first
    | with_reducible assumption
    | with_reducible exact Frames.refl _ _
    | with_reducible apply FramesOut.next
    | with_reducible apply Frames.ite
    | with_reducible apply FramesOut.ite
    | ((with_reducible apply Frames.step (State.claim_frames ..)); exact rfl)
    | ((with_reducible apply Frames.step (State.emit_frames ..)); exact rfl)
    | with_reducible apply Frames.iteSnd
    | with_reducible apply Frames.iteSnd2
    | with_reducible apply Frames.iteFst
    | dsimp only
    | split

theorem State.complete_frames (s : State) (h : Fin 24) (m : Fin 2) (src : Fin 64) :
    Frames 0x4000000000 s (State.complete s h m src) := by
  unfold State.complete
  extract_lets y0
  repeat' first
    | with_reducible assumption
    | with_reducible exact Frames.refl _ _
    | with_reducible apply Frames.ite
    | ((with_reducible apply Frames.put); exact rfl)
    | dsimp only
    | split

theorem execComplete_frames (h : Fin 24) (m : Fin 2) (src : Fin 64) (s : State) :
    FramesOut 0x4000000000 s (execComplete h m src s) := by
  unfold execComplete
  repeat' first
    | with_reducible assumption
    | with_reducible exact Frames.refl _ _
    | with_reducible apply FramesOut.next
    | with_reducible apply Frames.ite
    | with_reducible apply FramesOut.ite
    | ((with_reducible apply Frames.step (State.complete_frames ..)); exact rfl)
    | split

theorem State.setMsip_frames (s : State) (clear : Nat) (set : Nat) :
    Frames 0x4000000000 s (State.setMsip s clear set) := by
  unfold State.setMsip
  repeat' first
    | with_reducible assumption
    | with_reducible exact Frames.refl _ _
    | with_reducible apply Frames.ite
    | ((with_reducible apply Frames.put); exact rfl)
    | split

theorem execMsipSet_frames (mask : BitVec 24) (s : State) :
    FramesOut 0x4000000000 s (execMsipSet mask s) := by
  unfold execMsipSet
  repeat' first
    | with_reducible assumption
    | with_reducible exact Frames.refl _ _
    | with_reducible apply FramesOut.next
    | with_reducible apply Frames.ite
    | with_reducible apply FramesOut.ite
    | ((with_reducible apply Frames.step (State.setMsip_frames ..)); exact rfl)
    | split

theorem execMsipClear_frames (mask : BitVec 24) (set : BitVec 24) (s : State) :
    FramesOut 0x4000000000 s (execMsipClear mask set s) := by
  unfold execMsipClear
  repeat' first
    | with_reducible assumption
    | with_reducible exact Frames.refl _ _
    | with_reducible apply FramesOut.next
    | with_reducible apply Frames.ite
    | with_reducible apply FramesOut.ite
    | ((with_reducible apply Frames.step (State.setMsip_frames ..)); exact rfl)
    | split

theorem State.compareTimer_frames (s : State) (h : Fin 24) :
    Frames 0x4000 s (State.compareTimer s h) := by
  unfold State.compareTimer
  repeat' first
    | with_reducible assumption
    | with_reducible exact Frames.refl _ _
    | with_reducible apply Frames.ite
    | ((with_reducible apply Frames.step (State.setHart_frames ..)); exact rfl)
    | split

theorem execMachineTimer_frames (h : Fin 24) (s : State) :
    FramesOut 0x4000 s (execMachineTimer h s) := by
  unfold execMachineTimer
  repeat' first
    | with_reducible assumption
    | with_reducible exact Frames.refl _ _
    | with_reducible apply FramesOut.next
    | with_reducible apply Frames.ite
    | with_reducible apply FramesOut.ite
    | ((with_reducible apply Frames.step (State.compareTimer_frames ..)); exact rfl)
    | split

theorem execSupervisorTimer_frames (h : Fin 24) (cmp : Word) (s : State) :
    FramesOut 0x4000 s (execSupervisorTimer h cmp s) := by
  unfold execSupervisorTimer
  repeat' first
    | with_reducible assumption
    | with_reducible exact Frames.refl _ _
    | with_reducible apply FramesOut.next
    | with_reducible apply Frames.ite
    | with_reducible apply FramesOut.ite
    | ((with_reducible apply Frames.step (State.setHart_frames ..)); exact rfl)
    | split

end Sys2Proof.Machine
end

