-- ==== Sys2Proof/Laws/FramesRegEffects.lean ====
section
/-! SUPPORT. What the definitions of Machine/RegEffects.lean can change: one lemma for each that answers a state. -/

namespace Sys2Proof.Machine

theorem State.by_frames {m : Nat} {s : State} {f : State → Host.Outcome State Fault Refusal} (h : FramesOut m s (f s)) :
    Frames m s (s.by f) := by
  unfold State.by
  split
  · rename_i e
    exact h _ e
  · exact Frames.refl _ _
  · exact Frames.refl _ _

theorem State.loadRequest_frames (s : State) :
    Frames 0x4000008000 s (State.loadRequest s) := by
  unfold State.loadRequest
  repeat' first
    | with_reducible assumption
    | with_reducible exact Frames.refl _ _
    | with_reducible apply Frames.ite
    | ((with_reducible apply Frames.step (State.jobOutcome_frames ..)); exact rfl)
    | ((with_reducible apply Frames.put); exact rfl)
    | split

theorem State.kvCommandWrite_frames (s : State) (w : Word) :
    Frames 0x104300298809 s (State.kvCommandWrite s w) := by
  unfold State.kvCommandWrite
  extract_lets y0
  repeat' first
    | with_reducible assumption
    | with_reducible exact Frames.refl _ _
    | (fail_if_no_progress extract_lets)
    | with_reducible apply Frames.ite
    | ((with_reducible apply Frames.step (State.kvStatus_frames ..)); exact rfl)
    | ((with_reducible apply FramesOut.mono (execAdmit_frames ..)); exact rfl)
    | ((with_reducible apply FramesOut.mono (execCancel_frames ..)); exact rfl)
    | ((with_reducible apply FramesOut.mono (execPreempt_frames ..)); exact rfl)
    | ((with_reducible apply FramesOut.mono (execResume_frames ..)); exact rfl)
    | split
    | with_reducible refine Frames.trans ?_ (State.by_frames ?_)

theorem State.marchWrite_frames (s : State) (d : Fin 4) (w : Word) :
    Frames 0x100000020000 s (State.marchWrite s d w) := by
  unfold State.marchWrite
  extract_lets y0
  repeat' first
    | with_reducible assumption
    | with_reducible exact Frames.refl _ _
    | (fail_if_no_progress extract_lets)
    | with_reducible apply Frames.ite
    | ((with_reducible apply FramesOut.mono (execMarchDestructive_frames ..)); exact rfl)
    | ((with_reducible apply FramesOut.mono (execMarchTransparent_frames ..)); exact rfl)
    | split
    | with_reducible refine Frames.trans ?_ (State.by_frames ?_)

theorem State.repairWrite_frames (s : State) (d : Fin 4) (w : Word) :
    Frames 0x100000030c09 s (State.repairWrite s d w) := by
  unfold State.repairWrite
  extract_lets y0 y1
  repeat' first
    | with_reducible assumption
    | with_reducible exact Frames.refl _ _
    | (fail_if_no_progress extract_lets)
    | with_reducible apply Frames.ite
    | ((with_reducible apply Frames.step (State.repairStatus_frames ..)); exact rfl)
    | ((with_reducible apply FramesOut.mono (execFuse_frames ..)); exact rfl)
    | ((with_reducible apply FramesOut.mono (execRelease_frames ..)); exact rfl)
    | ((with_reducible apply FramesOut.mono (execSoft_frames ..)); exact rfl)
    | ((with_reducible apply FramesOut.mono (execSoftCopy_frames ..)); exact rfl)
    | split
    | with_reducible refine Frames.trans ?_ (State.by_frames ?_)

theorem State.hbWrite_frames (s : State) (wm : Word) (w : Word) :
    Frames 0x400088000010 s (State.hbWrite s wm w) := by
  unfold State.hbWrite
  extract_lets y0
  repeat' first
    | with_reducible assumption
    | with_reducible exact Frames.refl _ _
    | (fail_if_no_progress extract_lets)
    | with_reducible apply Frames.ite
    | ((with_reducible apply FramesOut.mono (execHbDisable_frames ..)); exact rfl)
    | ((with_reducible apply FramesOut.mono (execHbEnable_frames ..)); exact rfl)
    | ((with_reducible apply FramesOut.mono (execHbFail_frames ..)); exact rfl)
    | split
    | with_reducible refine Frames.trans ?_ (State.by_frames ?_)

theorem State.tcCtrlWrite_frames (s : State) (d : Fin 4) (k : Fin 11) (wm : Word) (w : Word) :
    Frames 0x8000000000 s (State.tcCtrlWrite s d k wm w) := by
  unfold State.tcCtrlWrite
  extract_lets y0
  have h0 : Frames 0x8000000000 s y0 := by
    unfold y0
    repeat' first
      | with_reducible assumption
      | with_reducible exact Frames.refl _ _
      | (fail_if_no_progress extract_lets)
      | with_reducible apply Frames.ite
      | ((with_reducible apply Frames.step (State.tcStopWrite_frames ..)); exact rfl)
      | ((with_reducible apply FramesOut.mono (execTcRun_frames ..)); exact rfl)
      | split
      | with_reducible refine Frames.trans ?_ (State.by_frames ?_)
  repeat' first
    | with_reducible assumption
    | with_reducible exact Frames.refl _ _
    | with_reducible apply Frames.ite
    | ((with_reducible apply Frames.step (State.tcStopWrite_frames ..)); exact rfl)
    | split

theorem State.trvCtrlWrite_frames (s : State) (d : Fin 4) (j : Fin 22) (wm : Word) (w : Word) :
    Frames 0x20000000000 s (State.trvCtrlWrite s d j wm w) := by
  unfold State.trvCtrlWrite
  extract_lets y0
  have h0 : Frames 0x20000000000 s y0 := by
    unfold y0
    repeat' first
      | with_reducible assumption
      | with_reducible exact Frames.refl _ _
      | (fail_if_no_progress extract_lets)
      | with_reducible apply Frames.ite
      | ((with_reducible apply Frames.step (State.trvStopWrite_frames ..)); exact rfl)
      | ((with_reducible apply FramesOut.mono (execTrvRun_frames ..)); exact rfl)
      | split
      | with_reducible refine Frames.trans ?_ (State.by_frames ?_)
  repeat' first
    | with_reducible assumption
    | with_reducible exact Frames.refl _ _
    | with_reducible apply Frames.ite
    | ((with_reducible apply Frames.step (State.trvStopWrite_frames ..)); exact rfl)
    | split

theorem State.jobCtrlWrite_frames (s : State) (w : Word) :
    Frames 0x4000088000 s (State.jobCtrlWrite s w) := by
  unfold State.jobCtrlWrite
  extract_lets y0 y1
  have h0 : Frames 0x4000088000 s y0 := by
    unfold y0
    repeat' first
      | with_reducible assumption
      | with_reducible exact Frames.refl _ _
      | with_reducible apply Frames.ite
      | ((with_reducible apply Frames.step (State.loadRequest_frames ..)); exact rfl)
      | dsimp only
      | split
  have h1 : Frames 0x4000088000 s y1 := by
    unfold y1
    repeat' first
      | with_reducible assumption
      | with_reducible exact Frames.refl _ _
      | with_reducible apply Frames.ite
      | ((with_reducible apply Frames.step (State.abortRequest_frames ..)); exact rfl)
      | dsimp only
      | split
  repeat' first
    | with_reducible assumption
    | with_reducible exact Frames.refl _ _
    | with_reducible apply Frames.ite
    | ((with_reducible apply Frames.step (State.endRequest_frames ..)); exact rfl)
    | split

theorem State.keepSubst_frames (s : State) (st : Fin 8) :
    Frames 0x400 s (State.keepSubst s st) := by
  unfold State.keepSubst
  extract_lets y0 y1
  repeat' first
    | with_reducible assumption
    | with_reducible exact Frames.refl _ _
    | with_reducible apply Frames.ite
    | ((with_reducible apply Frames.step (State.setRecord_frames ..)); exact rfl)
    | dsimp only
    | split

theorem State.regEffect_frames (s : State) (r : Reg) (old : Word) (wm : Word) (v : Word) :
    Frames 0xfffffefffdd9 s (State.regEffect s r old wm v) := by
  unfold State.regEffect
  extract_lets y0 y1 y2 y3
  have h3 : Frames 0xfffffefffdd9 s y3 := by
    unfold y3
    repeat' first
      | with_reducible assumption
      | with_reducible exact Frames.refl _ _
      | (fail_if_no_progress extract_lets)
      | with_reducible apply Frames.ite
      | ((with_reducible apply Frames.step (State.announceDie_frames ..)); exact rfl)
      | ((with_reducible apply Frames.step (State.compareTimer_frames ..)); exact rfl)
      | ((with_reducible apply Frames.step (State.complete_frames ..)); exact rfl)
      | ((with_reducible apply Frames.step (State.effectiveDepth_frames ..)); exact rfl)
      | ((with_reducible apply Frames.step (State.hbWrite_frames ..)); exact rfl)
      | ((with_reducible apply Frames.step (State.jobCtrlWrite_frames ..)); exact rfl)
      | ((with_reducible apply Frames.step (State.keepSubst_frames ..)); exact rfl)
      | ((with_reducible apply Frames.step (State.kvCommandWrite_frames ..)); exact rfl)
      | ((with_reducible apply Frames.step (State.marchWrite_frames ..)); exact rfl)
      | ((with_reducible apply Frames.step (State.mediaCancel_frames ..)); exact rfl)
      | ((with_reducible apply Frames.step (State.poolSync_frames ..)); exact rfl)
      | ((with_reducible apply Frames.step (State.portEnable_frames ..)); exact rfl)
      | ((with_reducible apply Frames.step (State.repairWrite_frames ..)); exact rfl)
      | ((with_reducible apply Frames.step (State.setMsip_frames ..)); exact rfl)
      | ((with_reducible apply Frames.step (State.tcCtrlWrite_frames ..)); exact rfl)
      | ((with_reducible apply Frames.step (State.tcLimit_frames ..)); exact rfl)
      | ((with_reducible apply Frames.step (State.tokCancel_frames ..)); exact rfl)
      | ((with_reducible apply Frames.step (State.trvCtrlWrite_frames ..)); exact rfl)
      | ((with_reducible apply Frames.step (State.trvLimitWrite_frames ..)); exact rfl)
      | ((with_reducible apply Frames.step (State.trvSync_frames ..)); exact rfl)
      | ((with_reducible apply Frames.step (State.tryMark_frames ..)); exact rfl)
      | ((with_reducible apply Frames.step (State.verifyMap_frames ..)); exact rfl)
      | ((with_reducible apply FramesOut.mono (execChkStateWrite_frames ..)); exact rfl)
      | ((with_reducible apply FramesOut.mono (execColStop_frames ..)); exact rfl)
      | ((with_reducible apply FramesOut.mono (execDieReset_frames ..)); exact rfl)
      | ((with_reducible apply FramesOut.mono (execFltAck_frames ..)); exact rfl)
      | ((with_reducible apply FramesOut.mono (execFltClear_frames ..)); exact rfl)
      | ((with_reducible apply FramesOut.mono (execFltInject_frames ..)); exact rfl)
      | ((with_reducible apply FramesOut.mono (execFusionCountWrite_frames ..)); exact rfl)
      | ((with_reducible apply FramesOut.mono (execHartRun_frames ..)); exact rfl)
      | ((with_reducible apply FramesOut.mono (execHkRepairMapWrite_frames ..)); exact rfl)
      | ((with_reducible apply FramesOut.mono (execJoin_frames ..)); exact rfl)
      | ((with_reducible apply FramesOut.mono (execKvEnable_frames ..)); exact rfl)
      | ((with_reducible apply FramesOut.mono (execLdgGive_frames ..)); exact rfl)
      | ((with_reducible apply FramesOut.mono (execLedgeModeChange_frames ..)); exact rfl)
      | ((with_reducible apply FramesOut.mono (execMark_frames ..)); exact rfl)
      | ((with_reducible apply FramesOut.mono (execModeChange_frames ..)); exact rfl)
      | ((with_reducible apply FramesOut.mono (execMorRetire_frames ..)); exact rfl)
      | ((with_reducible apply FramesOut.mono (execNtRetire_frames ..)); exact rfl)
      | ((with_reducible apply FramesOut.mono (execRetrain_frames ..)); exact rfl)
      | ((with_reducible apply FramesOut.mono (execStepEnd_frames ..)); exact rfl)
      | ((with_reducible apply FramesOut.mono (execTcRemapWrite_frames ..)); exact rfl)
      | ((with_reducible apply Frames.set); exact rfl)
      | split
      | with_reducible refine Frames.trans ?_ (State.by_frames ?_)
  repeat' first
    | with_reducible assumption
    | with_reducible exact Frames.refl _ _
    | (fail_if_no_progress extract_lets)
    | with_reducible apply Frames.ite
    | ((with_reducible apply Frames.step (State.announceDie_frames ..)); exact rfl)
    | ((with_reducible apply Frames.step (State.compareTimer_frames ..)); exact rfl)
    | ((with_reducible apply Frames.step (State.complete_frames ..)); exact rfl)
    | ((with_reducible apply Frames.step (State.effectiveDepth_frames ..)); exact rfl)
    | ((with_reducible apply Frames.step (State.hbWrite_frames ..)); exact rfl)
    | ((with_reducible apply Frames.step (State.jobCtrlWrite_frames ..)); exact rfl)
    | ((with_reducible apply Frames.step (State.keepSubst_frames ..)); exact rfl)
    | ((with_reducible apply Frames.step (State.kvCommandWrite_frames ..)); exact rfl)
    | ((with_reducible apply Frames.step (State.marchWrite_frames ..)); exact rfl)
    | ((with_reducible apply Frames.step (State.mediaCancel_frames ..)); exact rfl)
    | ((with_reducible apply Frames.step (State.poolSync_frames ..)); exact rfl)
    | ((with_reducible apply Frames.step (State.portEnable_frames ..)); exact rfl)
    | ((with_reducible apply Frames.step (State.repairWrite_frames ..)); exact rfl)
    | ((with_reducible apply Frames.step (State.setMsip_frames ..)); exact rfl)
    | ((with_reducible apply Frames.step (State.tcCtrlWrite_frames ..)); exact rfl)
    | ((with_reducible apply Frames.step (State.tcLimit_frames ..)); exact rfl)
    | ((with_reducible apply Frames.step (State.tokCancel_frames ..)); exact rfl)
    | ((with_reducible apply Frames.step (State.trvCtrlWrite_frames ..)); exact rfl)
    | ((with_reducible apply Frames.step (State.trvLimitWrite_frames ..)); exact rfl)
    | ((with_reducible apply Frames.step (State.trvSync_frames ..)); exact rfl)
    | ((with_reducible apply Frames.step (State.tryMark_frames ..)); exact rfl)
    | ((with_reducible apply Frames.step (State.verifyMap_frames ..)); exact rfl)
    | ((with_reducible apply FramesOut.mono (execChkStateWrite_frames ..)); exact rfl)
    | ((with_reducible apply FramesOut.mono (execColStop_frames ..)); exact rfl)
    | ((with_reducible apply FramesOut.mono (execDieReset_frames ..)); exact rfl)
    | ((with_reducible apply FramesOut.mono (execFltAck_frames ..)); exact rfl)
    | ((with_reducible apply FramesOut.mono (execFltClear_frames ..)); exact rfl)
    | ((with_reducible apply FramesOut.mono (execFltInject_frames ..)); exact rfl)
    | ((with_reducible apply FramesOut.mono (execFusionCountWrite_frames ..)); exact rfl)
    | ((with_reducible apply FramesOut.mono (execHartRun_frames ..)); exact rfl)
    | ((with_reducible apply FramesOut.mono (execHkRepairMapWrite_frames ..)); exact rfl)
    | ((with_reducible apply FramesOut.mono (execJoin_frames ..)); exact rfl)
    | ((with_reducible apply FramesOut.mono (execKvEnable_frames ..)); exact rfl)
    | ((with_reducible apply FramesOut.mono (execLdgGive_frames ..)); exact rfl)
    | ((with_reducible apply FramesOut.mono (execLedgeModeChange_frames ..)); exact rfl)
    | ((with_reducible apply FramesOut.mono (execMark_frames ..)); exact rfl)
    | ((with_reducible apply FramesOut.mono (execModeChange_frames ..)); exact rfl)
    | ((with_reducible apply FramesOut.mono (execMorRetire_frames ..)); exact rfl)
    | ((with_reducible apply FramesOut.mono (execNtRetire_frames ..)); exact rfl)
    | ((with_reducible apply FramesOut.mono (execRetrain_frames ..)); exact rfl)
    | ((with_reducible apply FramesOut.mono (execStepEnd_frames ..)); exact rfl)
    | ((with_reducible apply FramesOut.mono (execTcRemapWrite_frames ..)); exact rfl)
    | ((with_reducible apply Frames.set); exact rfl)
    | split
    | with_reducible refine Frames.trans ?_ (State.by_frames ?_)

theorem State.writeReg_frames (s : State) (r : Reg) (h : Half) (v : Word) : Frames 0xfffffefffdd9 s (s.writeReg r h v) := by
  unfold State.writeReg
  refine Frames.ite ?_ (Frames.refl _ _)
  exact Frames.step (State.regEffect_frames ..) rfl (Frames.mono (State.writePlain_frames ..) rfl)

theorem execRegisterWrite_frames (r : Reg) (h : Half) (v : WriteData) (s : State) :
    FramesOut 0xfffffefffdd9 s (execRegisterWrite r h v s) := by
  unfold execRegisterWrite
  exact FramesOut.next (State.writeReg_frames ..)

theorem State.regAreaWrite_frames (s : State) (a : Nat) (size : Nat) (v : Nat) :
    Frames 0xfffffefffdd9 s (State.regAreaWrite s a size v) := by
  unfold State.regAreaWrite
  repeat' first
    | with_reducible assumption
    | with_reducible exact Frames.refl _ _
    | with_reducible apply Frames.ite
    | ((with_reducible apply Frames.step (State.writeReg_frames ..)); exact rfl)
    | split

theorem State.regAreaRead_frames (s : State) (a : Nat) (size : Nat) :
    Frames 0xffffe0008010 s (State.regAreaRead s a size).2 := by
  unfold State.regAreaRead
  repeat' first
    | with_reducible assumption
    | with_reducible exact Frames.refl _ _
    | with_reducible apply Frames.ite
    | with_reducible apply Frames.iteSnd
    | with_reducible apply Frames.iteSnd2
    | with_reducible apply Frames.iteFst
    | ((with_reducible apply Frames.step (State.afterRead_frames ..)); exact rfl)
    | ((with_reducible apply Frames.step (State.claim_frames ..)); exact rfl)
    | split

end Sys2Proof.Machine
end

