-- ==== Sys2Proof/Laws/FramesJobLoad.lean ====
section
/-! SUPPORT. What the definitions of Machine/JobLoad.lean can change: one lemma for each that answers a state. -/

namespace Sys2Proof.Machine

theorem State.mergeBelay_frames {s t : State} {codes : List Nat} (h : s.mergeBelay codes = some t) : Frames 0x20000000 s t := by
  unfold State.mergeBelay at h
  extract_lets a b c at h
  split at h
  · rw [← Option.some.inj h]
    exact Frames.mono (State.setBelay_frames ..) rfl
  · cases h

theorem State.withPlan_frames (s : State) (p : Plan) :
    Frames 0xfffffefffdd9 s (State.withPlan s p) := by
  unfold State.withPlan
  extract_lets y0
  have h0 : Frames 0xfffffefffdd9 s y0 := by
    unfold y0
    repeat' first
      | with_reducible assumption
      | with_reducible exact Frames.refl _ _
      | with_reducible apply Frames.ite
      | ((with_reducible apply Frames.foldl); intro _ _)
      | ((with_reducible apply Frames.foldlSnd); intro _ _)
      | ((with_reducible apply Frames.step (State.writeMem_frames ..)); exact rfl)
      | dsimp only
      | split
  repeat' first
    | with_reducible assumption
    | with_reducible exact Frames.refl _ _
    | with_reducible apply Frames.ite
    | ((with_reducible apply Frames.foldl); intro _ _)
    | ((with_reducible apply Frames.foldlSnd); intro _ _)
    | ((with_reducible apply Frames.step (State.writeReg_frames ..)); exact rfl)
    | split

theorem State.refuseLoad_frames (s : State) (p : Plan) (c : Nat × Nat) :
    Frames 0x4020008000 s (State.refuseLoad s p c) := by
  unfold State.refuseLoad
  extract_lets y0
  have h0 : Frames 0x4020008000 s y0 := by
    unfold y0
    repeat' first
      | with_reducible assumption
      | with_reducible exact Frames.refl _ _
      | with_reducible apply Frames.ite
      | ((with_reducible apply Frames.put); exact rfl)
      | with_reducible apply Frames.iteSnd
      | with_reducible apply Frames.iteSnd2
      | with_reducible apply Frames.iteFst
      | dsimp only
      | split
  repeat' first
    | with_reducible assumption
    | with_reducible exact Frames.refl _ _
    | with_reducible apply Frames.ite
    | ((with_reducible apply Frames.step (State.jobCtrlClear_frames ..)); exact rfl)
    | ((with_reducible apply Frames.step (State.jobOutcome_frames ..)); exact rfl)
    | split

theorem State.electLeader_frames (s : State) :
    Frames 0x80000000000 s (State.electLeader s) := by
  unfold State.electLeader
  extract_lets y0
  repeat' first
    | with_reducible assumption
    | with_reducible exact Frames.refl _ _
    | with_reducible apply Frames.ite
    | ((with_reducible apply Frames.foldl); intro _ _)
    | ((with_reducible apply Frames.foldlSnd); intro _ _)
    | ((with_reducible apply Frames.put); exact rfl)
    | dsimp only
    | split

theorem State.setEval_frames (s : State) (p : Plan) :
    Frames 0x8000000000 s (State.setEval s p) := by
  unfold State.setEval
  repeat' first
    | with_reducible assumption
    | with_reducible exact Frames.refl _ _
    | with_reducible apply Frames.ite
    | ((with_reducible apply Frames.foldl); intro _ _)
    | ((with_reducible apply Frames.foldlSnd); intro _ _)
    | ((with_reducible apply Frames.put); exact rfl)
    | split

theorem State.oneAction_frames (s : State) (p : Plan) :
    Frames 0xfedd60000000 s (State.oneAction s p) := by
  unfold State.oneAction
  extract_lets y0 y1 y2
  have h0 : Frames 0xfedd60000000 s y0 := by
    unfold y0
    repeat' first
      | with_reducible assumption
      | with_reducible exact Frames.refl _ _
      | with_reducible apply Frames.ite
      | ((with_reducible apply Frames.foldl); intro _ _)
      | ((with_reducible apply Frames.foldlSnd); intro _ _)
      | ((with_reducible apply Frames.step (State.setOwners_frames ..)); exact rfl)
      | with_reducible apply Frames.iteSnd
      | with_reducible apply Frames.iteSnd2
      | with_reducible apply Frames.iteFst
      | dsimp only
      | split
  have h1 : Frames 0xfedd60000000 s y1 := by
    unfold y1
    repeat' first
      | with_reducible assumption
      | with_reducible exact Frames.refl _ _
      | with_reducible apply Frames.ite
      | ((with_reducible apply Frames.foldl); intro _ _)
      | ((with_reducible apply Frames.foldlSnd); intro _ _)
      | ((with_reducible apply Frames.step (State.trvSyncDie_frames ..)); exact rfl)
      | ((with_reducible apply Frames.put); exact rfl)
      | with_reducible apply Frames.iteSnd
      | with_reducible apply Frames.iteSnd2
      | with_reducible apply Frames.iteFst
      | dsimp only
      | split
  have h2 : Frames 0xfedd60000000 s y2 := by
    unfold y2
    repeat' first
      | with_reducible assumption
      | with_reducible exact Frames.refl _ _
      | with_reducible apply Frames.ite
      | ((with_reducible apply Frames.step (State.electLeader_frames ..)); exact rfl)
      | ((with_reducible apply Frames.step (State.setEval_frames ..)); exact rfl)
      | ((with_reducible apply Frames.step (State.setLocks_frames ..)); exact rfl)
      | dsimp only
      | split
  repeat' first
    | with_reducible assumption
    | with_reducible exact Frames.refl _ _
    | with_reducible apply Frames.ite
    | ((with_reducible apply Frames.step (State.setBelay_frames ..)); exact rfl)
    | ((with_reducible apply Frames.put); exact rfl)
    | split

theorem State.acceptLoad_frames (t : State) (p : Plan) :
    Frames 0xfeddf61da800 t (State.acceptLoad t p) := by
  unfold State.acceptLoad
  extract_lets y0 y1 y2 y3 y4 y5 y6 y7 y8 y9 y10 y11 y12
  have h1 : Frames 0xfeddf61da800 t y1 := by
    unfold y1
    repeat' first
      | with_reducible assumption
      | with_reducible exact Frames.refl _ _
      | with_reducible apply Frames.ite
      | ((with_reducible apply Frames.step (State.oneAction_frames ..)); exact rfl)
      | ((with_reducible refine State.putAll_frames ?_ ?_); on_goal 1 => exact fun _ => rfl)
      | ((with_reducible apply Frames.step (State.recompute_frames ..)); exact rfl)
      | ((with_reducible apply Frames.set); exact rfl)
      | ((with_reducible apply Frames.addf); exact rfl)
      | (fail_if_no_progress ((with_reducible apply Frames.power_tiers_restart_job_opt_col); exact rfl; exact rfl; exact rfl; exact rfl; exact rfl; exact rfl))
      | dsimp only
      | split
  have h7 : Frames 0xfeddf61da800 t y7 := by
    unfold y7
    repeat' first
      | with_reducible assumption
      | with_reducible exact Frames.refl _ _
      | with_reducible apply Frames.ite
      | ((with_reducible apply Frames.step (State.jobCtrlClear_frames ..)); exact rfl)
      | ((with_reducible apply Frames.step (State.jobOutcome_frames ..)); exact rfl)
      | ((with_reducible refine State.putAll_frames ?_ ?_); on_goal 1 => exact fun _ => rfl)
      | ((with_reducible apply Frames.step (State.recompute_frames ..)); exact rfl)
      | ((with_reducible apply Frames.set); exact rfl)
      | ((with_reducible apply Frames.addf); exact rfl)
      | (fail_if_no_progress ((with_reducible apply Frames.power_tiers_restart_job_opt_col); exact rfl; exact rfl; exact rfl; exact rfl; exact rfl; exact rfl))
      | dsimp only
      | split
  have h8 : Frames 0xfeddf61da800 t y8 := by
    unfold y8
    repeat' first
      | with_reducible assumption
      | with_reducible exact Frames.refl _ _
      | with_reducible apply Frames.ite
      | ((with_reducible refine State.putAll_frames ?_ ?_); on_goal 1 => exact fun _ => rfl)
      | ((with_reducible apply Frames.step (State.recompute_frames ..)); exact rfl)
      | ((with_reducible apply Frames.set); exact rfl)
      | ((with_reducible apply Frames.addf); exact rfl)
      | (fail_if_no_progress ((with_reducible apply Frames.power_tiers_restart_job_opt_col); exact rfl; exact rfl; exact rfl; exact rfl; exact rfl; exact rfl))
      | dsimp only
      | split
  have h9 : Frames 0xfeddf61da800 t y9 := by
    unfold y9
    repeat' first
      | with_reducible assumption
      | with_reducible exact Frames.refl _ _
      | with_reducible apply Frames.ite
      | ((with_reducible refine State.putAll_frames ?_ ?_); on_goal 1 => exact fun _ => rfl)
      | ((with_reducible apply Frames.step (State.recompute_frames ..)); exact rfl)
      | ((with_reducible apply Frames.set); exact rfl)
      | ((with_reducible apply Frames.addf); exact rfl)
      | (fail_if_no_progress ((with_reducible apply Frames.power_tiers_restart_job_opt_col); exact rfl; exact rfl; exact rfl; exact rfl; exact rfl; exact rfl))
      | dsimp only
      | split
  have h12 : Frames 0xfeddf61da800 t y12 := by
    unfold y12
    repeat' first
      | with_reducible assumption
      | with_reducible exact Frames.refl _ _
      | with_reducible apply Frames.ite
      | ((with_reducible apply Frames.step (State.jobCtrlClear_frames ..)); exact rfl)
      | ((with_reducible apply Frames.step (State.jobOutcome_frames ..)); exact rfl)
      | ((with_reducible refine State.putAll_frames ?_ ?_); on_goal 1 => exact fun _ => rfl)
      | ((with_reducible apply Frames.step (State.recompute_frames ..)); exact rfl)
      | ((with_reducible apply Frames.set); exact rfl)
      | ((with_reducible apply Frames.addf); exact rfl)
      | (fail_if_no_progress ((with_reducible apply Frames.power_tiers_restart_job_opt_col); exact rfl; exact rfl; exact rfl; exact rfl; exact rfl; exact rfl))
      | dsimp only
      | split
  repeat' first
    | with_reducible assumption
    | with_reducible exact Frames.refl _ _
    | with_reducible apply Frames.ite
    | ((with_reducible apply Frames.step (State.abortRequest_frames ..)); exact rfl)
    | ((with_reducible apply Frames.step (State.endRequest_frames ..)); exact rfl)
    | ((with_reducible refine State.putAll_frames ?_ ?_); on_goal 1 => exact fun _ => rfl)
    | ((with_reducible apply Frames.step (State.recompute_frames ..)); exact rfl)
    | ((with_reducible apply Frames.set); exact rfl)
    | ((with_reducible apply Frames.addf); exact rfl)
    | (fail_if_no_progress ((with_reducible apply Frames.power_tiers_restart_job_opt_col); exact rfl; exact rfl; exact rfl; exact rfl; exact rfl; exact rfl))
    | with_reducible apply Frames.iteSnd
    | with_reducible apply Frames.iteSnd2
    | with_reducible apply Frames.iteFst
    | dsimp only
    | split

theorem State.loadPlan_frames (s : State) (p : Plan) :
    Frames 0xfffffefffdd9 s (State.loadPlan s p) := by
  unfold State.loadPlan
  extract_lets y0
  have h0 : Frames 0xfffffefffdd9 s y0 := by
    unfold y0
    repeat' first
      | with_reducible assumption
      | with_reducible exact Frames.refl _ _
      | with_reducible apply Frames.ite
      | ((with_reducible apply Frames.step (State.withPlan_frames ..)); exact rfl)
      | dsimp only
      | split
  repeat' first
    | with_reducible assumption
    | with_reducible exact Frames.refl _ _
    | with_reducible apply Frames.ite
    | ((with_reducible apply Frames.step (State.acceptLoad_frames ..)); exact rfl)
    | ((with_reducible apply Frames.step (State.refuseLoad_frames ..)); exact rfl)
    | split

theorem execJobLoad_frames (plan : Plan) (s : State) :
    FramesOut 0xfffffefffdd9 s (execJobLoad plan s) := by
  unfold execJobLoad
  repeat' first
    | with_reducible assumption
    | with_reducible exact Frames.refl _ _
    | with_reducible apply FramesOut.next
    | with_reducible apply Frames.ite
    | with_reducible apply FramesOut.ite
    | ((with_reducible apply Frames.step (State.jobOutcome_frames ..)); exact rfl)
    | ((with_reducible apply Frames.step (State.loadPlan_frames ..)); exact rfl)
    | split
    | ((with_reducible refine Frames.trans ?_ (State.awaitBasecamp_frames ?_ ?_ (fun _ => ?_))); (on_goal 2 => exact rfl); (on_goal 2 => exact rfl))

end Sys2Proof.Machine
end

