-- ==== Sys2Proof/Laws/FramesBasecamp.lean ====
section
/-! SUPPORT. What the definitions of Machine/Basecamp.lean can change: one lemma for each that answers a state. -/

namespace Sys2Proof.Machine

theorem State.hartLedge_frames (s : State) (h : Fin 24) (d : Fin 4) (o : Nat) (size : Nat) (data : Option Nat) :
    Frames 0x100000030819 s (State.hartLedge s h d o size data) := by
  unfold State.hartLedge
  extract_lets y0 y1 y2 y3 y4
  have h3 : Frames 0x100000030819 s y3.2.2 := by
    unfold y3
    repeat' first
      | with_reducible assumption
      | with_reducible exact Frames.refl _ _
      | with_reducible apply Frames.ite
      | ((with_reducible apply Frames.step (State.emit_frames ..)); exact rfl)
      | ((with_reducible apply Frames.step (State.ledgeRead_frames ..)); exact rfl)
      | ((with_reducible apply Frames.step (State.ledgeWrite_frames ..)); exact rfl)
      | ((with_reducible apply Frames.step (State.setLedge_frames ..)); exact rfl)
      | with_reducible apply Frames.iteSnd
      | with_reducible apply Frames.iteSnd2
      | with_reducible apply Frames.iteFst
      | dsimp only
      | split
  have h4 : Frames 0x100000030819 s y4.2 := by
    unfold y4
    repeat' first
      | with_reducible assumption
      | with_reducible exact Frames.refl _ _
      | with_reducible apply Frames.ite
      | ((with_reducible apply Frames.step (State.emit_frames ..)); exact rfl)
      | ((with_reducible apply Frames.step (State.ledgeRead_frames ..)); exact rfl)
      | ((with_reducible apply Frames.step (State.ledgeWrite_frames ..)); exact rfl)
      | ((with_reducible apply Frames.step (State.setLedge_frames ..)); exact rfl)
      | with_reducible apply Frames.iteSnd
      | with_reducible apply Frames.iteSnd2
      | with_reducible apply Frames.iteFst
      | dsimp only
      | split
  repeat' first
    | with_reducible assumption
    | with_reducible exact Frames.refl _ _
    | with_reducible apply Frames.ite
    | ((with_reducible apply Frames.step (State.emit_frames ..)); exact rfl)
    | ((with_reducible apply Frames.step (State.ledgeRead_frames ..)); exact rfl)
    | ((with_reducible apply Frames.step (State.ledgeWrite_frames ..)); exact rfl)
    | ((with_reducible apply Frames.step (State.setLedge_frames ..)); exact rfl)
    | with_reducible apply Frames.iteSnd
    | with_reducible apply Frames.iteSnd2
    | with_reducible apply Frames.iteFst
    | dsimp only
    | split

theorem execHartIoAccess_frames (h : Fin 24) (a : BitVec 48) (size : Fin 4) (data : Option Word) (s : State) :
    FramesOut 0xfffffefffdd9 s (execHartIoAccess h a size data s) := by
  unfold execHartIoAccess
  extract_lets y0 y1
  have h1 : Frames 0xfffffefffdd9 s y1.2 := by
    unfold y1
    repeat' first
      | with_reducible assumption
      | with_reducible exact Frames.refl _ _
      | with_reducible apply FramesOut.next
      | with_reducible apply Frames.ite
      | with_reducible apply FramesOut.ite
      | ((with_reducible apply Frames.step (State.regAreaRead_frames ..)); exact rfl)
      | dsimp only
      | split
  repeat' first
    | with_reducible assumption
    | with_reducible exact Frames.refl _ _
    | with_reducible apply FramesOut.next
    | with_reducible apply Frames.ite
    | with_reducible apply FramesOut.ite
    | ((with_reducible apply Frames.step (State.emit_frames ..)); exact rfl)
    | ((with_reducible apply Frames.step (State.hartLedge_frames ..)); exact rfl)
    | ((with_reducible apply Frames.step (State.regAreaWrite_frames ..)); exact rfl)
    | with_reducible apply Frames.iteSnd
    | with_reducible apply Frames.iteSnd2
    | with_reducible apply Frames.iteFst
    | dsimp only
    | split

theorem State.lineFill_frames (s : State) (h : Fin 24) (line : Nat) :
    Frames 0x100000000808 s (State.lineFill s h line).2.2 := by
  unfold State.lineFill
  repeat' first
    | with_reducible assumption
    | with_reducible exact Frames.refl _ _
    | with_reducible apply Frames.ite
    | with_reducible apply Frames.iteSnd
    | with_reducible apply Frames.iteSnd2
    | with_reducible apply Frames.iteFst
    | ((with_reducible apply Frames.step (State.readBlock_frames ..)); exact rfl)
    | ((with_reducible apply Frames.step (State.ucc_frames ..)); exact rfl)
    | dsimp only
    | split

theorem State.lineStore_frames (s : State) (h : Fin 24) (a : Nat) (bs : List Byte) :
    Frames 0x100000010801 s (State.lineStore s h a bs).2 := by
  unfold State.lineStore
  repeat' first
    | with_reducible assumption
    | with_reducible exact Frames.refl _ _
    | with_reducible apply Frames.ite
    | ((with_reducible apply Frames.foldl); intro _ _)
    | ((with_reducible apply Frames.foldlSnd); intro _ _)
    | ((with_reducible apply Frames.step (State.setBad_frames ..)); exact rfl)
    | ((with_reducible apply Frames.step (State.store_frames ..)); exact rfl)
    | ((with_reducible apply Frames.step (State.writeBlock_frames ..)); exact rfl)
    | dsimp only
    | split

theorem State.putLine_frames (s : State) (l : CacheLine) :
    Frames 0x4000 s (State.putLine s l) := by
  unfold State.putLine
  repeat' first
    | with_reducible assumption
    | with_reducible exact Frames.refl _ _
    | with_reducible apply Frames.ite
    | (fail_if_no_progress ((with_reducible apply Frames.camp); exact rfl))
    | split

theorem State.dropLine_frames (s : State) (line : Nat) :
    Frames 0x4000 s (State.dropLine s line) := by
  unfold State.dropLine
  repeat' first
    | with_reducible assumption
    | with_reducible exact Frames.refl _ _
    | with_reducible apply Frames.ite
    | (fail_if_no_progress ((with_reducible apply Frames.camp); exact rfl))
    | split

theorem State.loadLine_frames (s : State) (h : Fin 24) (line : Nat) :
    Frames 0x100000004808 s (State.loadLine s h line).2.2 := by
  unfold State.loadLine
  repeat' first
    | with_reducible assumption
    | with_reducible exact Frames.refl _ _
    | with_reducible apply Frames.ite
    | with_reducible apply Frames.iteSnd
    | with_reducible apply Frames.iteSnd2
    | with_reducible apply Frames.iteFst
    | ((with_reducible apply Frames.step (State.lineFill_frames ..)); exact rfl)
    | ((with_reducible apply Frames.step (State.putLine_frames ..)); exact rfl)
    | ((with_reducible apply Frames.step (State.tookFrees_frames ..)); exact rfl)
    | dsimp only
    | split

theorem State.hartLoad_frames (h : Fin 24) (a0 : Nat) (s : State) (a2 : Nat) (a3 : Nat) :
    Frames 0x100000004808 s (State.hartLoad h a0 s a2 a3).2.2 := by
  fun_induction State.hartLoad h a0 s a2 a3
  all_goals
    repeat' first
      | with_reducible assumption
      | with_reducible exact Frames.refl _ _
      | with_reducible apply Frames.ite
      | with_reducible apply Frames.iteSnd
      | with_reducible apply Frames.iteSnd2
      | with_reducible apply Frames.iteFst
      | with_reducible refine Frames.trans ?_ (by assumption)
      | ((with_reducible apply Frames.step (State.loadLine_frames ..)); exact rfl)
      | dsimp only
      | split

theorem State.storeLine_frames (s : State) (h : Fin 24) (a : Nat) (bs : List Byte) :
    Frames 0x100000014809 s (State.storeLine s h a bs).2 := by
  unfold State.storeLine
  extract_lets y0 y1
  have h1 : Frames 0x100000014809 s y1.2.2 := by
    unfold y1
    repeat' first
      | with_reducible assumption
      | with_reducible exact Frames.refl _ _
      | with_reducible apply Frames.ite
      | ((with_reducible apply Frames.step (State.lineFill_frames ..)); exact rfl)
      | dsimp only
      | split
  repeat' first
    | with_reducible assumption
    | with_reducible exact Frames.refl _ _
    | with_reducible apply Frames.ite
    | with_reducible apply Frames.iteSnd
    | with_reducible apply Frames.iteSnd2
    | with_reducible apply Frames.iteFst
    | ((with_reducible apply Frames.step (State.lineStore_frames ..)); exact rfl)
    | ((with_reducible apply Frames.step (State.putLine_frames ..)); exact rfl)
    | dsimp only
    | split

theorem State.hartStore_frames (h : Fin 24) (a0 : Nat) (s : State) (a2 : Nat) (a3 : List Byte) :
    Frames 0x100000014809 s (State.hartStore h a0 s a2 a3).2 := by
  fun_induction State.hartStore h a0 s a2 a3
  all_goals
    repeat' first
      | with_reducible assumption
      | with_reducible exact Frames.refl _ _
      | with_reducible apply Frames.ite
      | with_reducible apply Frames.iteSnd
      | with_reducible apply Frames.iteSnd2
      | with_reducible apply Frames.iteFst
      | with_reducible refine Frames.trans ?_ (by assumption)
      | ((with_reducible apply Frames.step (State.storeLine_frames ..)); exact rfl)
      | dsimp only
      | split

theorem State.cleanLine_frames (s : State) (h : Fin 24) (line : Nat) :
    Frames 0x100000014801 s (State.cleanLine s h line).2 := by
  unfold State.cleanLine
  repeat' first
    | with_reducible assumption
    | with_reducible exact Frames.refl _ _
    | with_reducible apply Frames.ite
    | with_reducible apply Frames.iteSnd
    | with_reducible apply Frames.iteSnd2
    | with_reducible apply Frames.iteFst
    | ((with_reducible apply Frames.step (State.lineStore_frames ..)); exact rfl)
    | ((with_reducible apply Frames.step (State.putLine_frames ..)); exact rfl)
    | dsimp only
    | split

theorem State.hartDone_frames {m : Nat} {s : State} {p : MemStatus × State} {h : Fin 24} {a : Nat} (hm : 0x10 &&& m = 0x10)
    (k : Frames m s p.2) : Frames m s (State.hartDone p h a) := by
  unfold State.hartDone
  exact Frames.ite k (k.trans (Frames.mono (State.emit_frames ..) hm))

theorem execHartMemoryAccess_frames (h : Fin 24) (a : BitVec 48) (op : HartOp) (bad : BitVec 4) (s : State) :
    FramesOut 0x10000001c819 s (execHartMemoryAccess h a op bad s) := by
  unfold execHartMemoryAccess
  extract_lets y0
  repeat' first
    | with_reducible assumption
    | with_reducible exact Frames.refl _ _
    | (fail_if_no_progress extract_lets)
    | with_reducible apply FramesOut.next
    | with_reducible apply Frames.ite
    | with_reducible apply FramesOut.ite
    | ((with_reducible apply Frames.foldl); intro _ _)
    | ((with_reducible apply Frames.foldlSnd); intro _ _)
    | ((with_reducible apply Frames.step (State.cleanLine_frames ..)); exact rfl)
    | ((with_reducible apply Frames.step (State.dropLine_frames ..)); exact rfl)
    | ((with_reducible apply Frames.step (State.emit_frames ..)); exact rfl)
    | ((with_reducible apply Frames.step (State.hartLoad_frames ..)); exact rfl)
    | ((with_reducible apply Frames.step (State.hartStore_frames ..)); exact rfl)
    | ((with_reducible apply Frames.step (State.setBad_frames ..)); exact rfl)
    | ((with_reducible apply Frames.step (State.store_frames ..)); exact rfl)
    | with_reducible apply Frames.iteSnd
    | with_reducible apply Frames.iteSnd2
    | with_reducible apply Frames.iteFst
    | split
    | ((with_reducible refine Frames.trans ?_ (State.awaitBasecamp_frames ?_ ?_ (fun _ => ?_))); (on_goal 2 => exact rfl); (on_goal 2 => exact rfl))
    | ((with_reducible refine State.hartDone_frames ?_ ?_); on_goal 1 => exact rfl)
    | with_reducible refine Frames.ofFst (by assumption) ?_
    | with_reducible refine Frames.ofSnd (by assumption) ?_

theorem State.mboxWrite_frames (a0 : Nat) (s : State) (a2 : List Byte) :
    Frames 0x4000000000 s (State.mboxWrite a0 s a2) := by
  fun_induction State.mboxWrite a0 s a2
  all_goals
    repeat' first
      | with_reducible assumption
      | with_reducible exact Frames.refl _ _
      | with_reducible apply Frames.ite
      | with_reducible refine Frames.trans ?_ (by assumption)
      | ((with_reducible apply Frames.set); exact rfl)
      | split

theorem State.mboxAnswer_frames (s : State) (st : MboxStatus) (payload : List Byte) :
    Frames 0x4000008000 s (State.mboxAnswer s st payload) := by
  unfold State.mboxAnswer
  extract_lets y0 y1
  have h1 : Frames 0x4000008000 s y1 := by
    unfold y1
    repeat' first
      | with_reducible assumption
      | with_reducible exact Frames.refl _ _
      | with_reducible apply Frames.ite
      | ((with_reducible apply Frames.step (State.mboxWrite_frames ..)); exact rfl)
      | dsimp only
      | split
  repeat' first
    | with_reducible assumption
    | with_reducible exact Frames.refl _ _
    | with_reducible apply Frames.ite
    | ((with_reducible apply Frames.step (State.msix_frames ..)); exact rfl)
    | ((with_reducible apply Frames.put); exact rfl)
    | dsimp only
    | split

theorem State.mboxServe_frames {m : Nat} {s : State} {op : Nat} {run : State → List Byte → State} (hm : 0x4000008000 &&& m = 0x4000008000)
    (h : ∀ t b, Frames m t (run t b)) : Frames m s (s.mboxServe op run) := by
  have ha : ∀ st b, Frames m s (s.mboxAnswer st b) := fun st b =>
    Frames.mono (l := 0x4000008000) (Frames.mono (State.mboxAnswer_frames ..) rfl) hm
  unfold State.mboxServe
  exact Frames.ite (Frames.refl _ _) (Frames.ite (ha _ _) (Frames.ite (Frames.refl _ _) (Frames.ite (ha _ _) (h _ _))))

theorem State.mboxOpened_frames {m : Nat} {s run : State} (hm : 0x4000008000 &&& m = 0x4000008000) (h : Frames m s run) :
    Frames m s (s.mboxOpened run) := by
  unfold State.mboxOpened
  exact Frames.ite h (Frames.mono (l := 0x4000008000) (Frames.mono (State.mboxAnswer_frames ..) rfl) hm)

theorem State.setOpening_frames (s : State) (x : Option (Nat × Nat)) :
    Frames 0x20004000 s (State.setOpening s x) := by
  unfold State.setOpening
  extract_lets y0 y1 y2
  have h1 : Frames 0x20004000 s y1 := by
    unfold y1
    repeat' first
      | with_reducible assumption
      | with_reducible exact Frames.refl _ _
      | with_reducible apply Frames.ite
      | ((with_reducible apply Frames.set); exact rfl)
      | (fail_if_no_progress ((with_reducible apply Frames.camp); exact rfl))
      | dsimp only
      | split
  repeat' first
    | with_reducible assumption
    | with_reducible exact Frames.refl _ _
    | with_reducible apply Frames.ite
    | ((with_reducible apply Frames.set); exact rfl)
    | (fail_if_no_progress ((with_reducible apply Frames.camp); exact rfl))
    | dsimp only
    | split

theorem execMboxOpen_frames (s : State) :
    FramesOut 0x402000c000 s (execMboxOpen s) := by
  unfold execMboxOpen
  with_reducible apply FramesOut.next
  with_reducible refine Frames.trans ?_ (State.mboxServe_frames ?_ (fun _ _ => ?_))
  on_goal 2 => exact rfl
  repeat' first
    | with_reducible assumption
    | with_reducible exact Frames.refl _ _
    | with_reducible apply FramesOut.next
    | with_reducible apply Frames.ite
    | with_reducible apply FramesOut.ite
    | ((with_reducible apply Frames.step (State.mboxAnswer_frames ..)); exact rfl)
    | ((with_reducible apply Frames.step (State.setOpening_frames ..)); exact rfl)
    | split

theorem execMboxDictRead_frames (s : State) :
    FramesOut 0x4000008000 s (execMboxDictRead s) := by
  unfold execMboxDictRead
  with_reducible apply FramesOut.next
  with_reducible refine Frames.trans ?_ (State.mboxServe_frames ?_ (fun _ _ => ?_))
  on_goal 2 => exact rfl
  repeat' first
    | with_reducible assumption
    | with_reducible exact Frames.refl _ _
    | (fail_if_no_progress extract_lets)
    | with_reducible apply FramesOut.next
    | with_reducible apply Frames.ite
    | with_reducible apply FramesOut.ite
    | ((with_reducible apply Frames.step (State.mboxAnswer_frames ..)); exact rfl)
    | with_reducible apply Frames.iteSnd
    | with_reducible apply Frames.iteSnd2
    | with_reducible apply Frames.iteFst
    | split

theorem execMboxDictWrite_frames (s : State) :
    FramesOut 0x5045f81fbb59 s (execMboxDictWrite s) := by
  unfold execMboxDictWrite
  with_reducible apply FramesOut.next
  with_reducible refine Frames.trans ?_ (State.mboxServe_frames ?_ (fun _ _ => ?_))
  on_goal 2 => exact rfl
  repeat' first
    | with_reducible assumption
    | with_reducible exact Frames.refl _ _
    | (fail_if_no_progress extract_lets)
    | with_reducible apply FramesOut.next
    | with_reducible apply Frames.ite
    | with_reducible apply FramesOut.ite
    | ((with_reducible apply Frames.step (State.dictWrite_frames ..)); exact rfl)
    | ((with_reducible apply Frames.step (State.mboxAnswer_frames ..)); exact rfl)
    | with_reducible apply Frames.iteSnd
    | with_reducible apply Frames.iteSnd2
    | with_reducible apply Frames.iteFst
    | split

theorem execMboxFwWrite_frames (s : State) :
    FramesOut 0x4000008200 s (execMboxFwWrite s) := by
  unfold execMboxFwWrite
  with_reducible apply FramesOut.next
  with_reducible refine Frames.trans ?_ (State.mboxServe_frames ?_ (fun _ _ => ?_))
  on_goal 2 => exact rfl
  repeat' first
    | with_reducible assumption
    | with_reducible exact Frames.refl _ _
    | with_reducible apply FramesOut.next
    | with_reducible apply Frames.ite
    | with_reducible apply FramesOut.ite
    | ((with_reducible apply Frames.step (State.fwWrite_frames ..)); exact rfl)
    | ((with_reducible apply Frames.step (State.mboxAnswer_frames ..)); exact rfl)
    | split

theorem execMboxFwCommit_frames (s : State) :
    FramesOut 0x4000008200 s (execMboxFwCommit s) := by
  unfold execMboxFwCommit
  with_reducible apply FramesOut.next
  with_reducible refine Frames.trans ?_ (State.mboxServe_frames ?_ (fun _ _ => ?_))
  on_goal 2 => exact rfl
  repeat' first
    | with_reducible assumption
    | with_reducible exact Frames.refl _ _
    | (fail_if_no_progress extract_lets)
    | with_reducible apply FramesOut.next
    | with_reducible apply Frames.ite
    | with_reducible apply FramesOut.ite
    | ((with_reducible apply Frames.step (State.fwCommit_frames ..)); exact rfl)
    | ((with_reducible apply Frames.step (State.mboxAnswer_frames ..)); exact rfl)
    | with_reducible apply Frames.iteSnd
    | with_reducible apply Frames.iteSnd2
    | with_reducible apply Frames.iteFst
    | split

theorem execMboxFactoryToken_frames (s : State) :
    FramesOut 0x4040a0008100 s (execMboxFactoryToken s) := by
  unfold execMboxFactoryToken
  with_reducible apply FramesOut.next
  with_reducible refine Frames.trans ?_ (State.mboxServe_frames ?_ (fun _ _ => ?_))
  on_goal 2 => exact rfl
  repeat' first
    | with_reducible assumption
    | with_reducible exact Frames.refl _ _
    | with_reducible apply FramesOut.next
    | with_reducible apply Frames.ite
    | with_reducible apply FramesOut.ite
    | ((with_reducible apply Frames.step (State.acceptToken_frames ..)); exact rfl)
    | ((with_reducible apply Frames.step (State.mboxAnswer_frames ..)); exact rfl)
    | split
    | ((with_reducible refine State.mboxOpened_frames ?_ ?_); on_goal 1 => exact rfl)

theorem execMboxDiag_frames (s : State) :
    FramesOut 0x4000008008 s (execMboxDiag s) := by
  unfold execMboxDiag
  with_reducible apply FramesOut.next
  with_reducible refine Frames.trans ?_ (State.mboxServe_frames ?_ (fun _ _ => ?_))
  on_goal 2 => exact rfl
  repeat' first
    | with_reducible assumption
    | with_reducible exact Frames.refl _ _
    | with_reducible apply FramesOut.next
    | with_reducible apply Frames.ite
    | with_reducible apply FramesOut.ite
    | ((with_reducible apply Frames.step (State.mboxAnswer_frames ..)); exact rfl)
    | ((with_reducible apply Frames.step (State.tookFrees_frames ..)); exact rfl)
    | split
    | ((with_reducible refine State.mboxOpened_frames ?_ ?_); on_goal 1 => exact rfl)

theorem execMboxClose_frames (s : State) :
    FramesOut 0x402000c000 s (execMboxClose s) := by
  unfold execMboxClose
  with_reducible apply FramesOut.next
  with_reducible refine Frames.trans ?_ (State.mboxServe_frames ?_ (fun _ _ => ?_))
  on_goal 2 => exact rfl
  repeat' first
    | with_reducible assumption
    | with_reducible exact Frames.refl _ _
    | with_reducible apply FramesOut.next
    | with_reducible apply Frames.ite
    | with_reducible apply FramesOut.ite
    | ((with_reducible apply Frames.step (State.mboxAnswer_frames ..)); exact rfl)
    | ((with_reducible apply Frames.step (State.setOpening_frames ..)); exact rfl)
    | split
    | ((with_reducible refine State.mboxOpened_frames ?_ ?_); on_goal 1 => exact rfl)

end Sys2Proof.Machine
end

