-- ==== Sys2Proof/Laws/FramesHostLink.lean ====
section
/-! SUPPORT. What the definitions of Machine/HostLink.lean can change: one lemma for each that answers a state. -/

namespace Sys2Proof.Machine

theorem State.wakeRequests_frames (s : State) :
    Frames 0x8000 s (State.wakeRequests s) := by
  unfold State.wakeRequests
  repeat' first
    | with_reducible assumption
    | with_reducible exact Frames.refl _ _
    | with_reducible apply Frames.ite
    | ((with_reducible apply Frames.step (State.setPcie_frames ..)); exact rfl)
    | split

theorem State.setD3hot_frames (s : State) (b : Bool) :
    Frames 0x8000 s (State.setD3hot s b) := by
  unfold State.setD3hot
  repeat' first
    | with_reducible assumption
    | with_reducible exact Frames.refl _ _
    | with_reducible apply Frames.ite
    | ((with_reducible apply Frames.step (State.setPcie_frames ..)); exact rfl)
    | ((with_reducible apply Frames.step (State.wakeRequests_frames ..)); exact rfl)
    | split

theorem State.setSizes_frames (s : State) (mps : Nat) (mrrs : Nat) :
    Frames 0x4590158800 s (State.setSizes s mps mrrs) := by
  unfold State.setSizes
  extract_lets y0 y1 y2
  have h1 : Frames 0x4590158800 s y1 := by
    unfold y1
    repeat' first
      | with_reducible assumption
      | with_reducible exact Frames.refl _ _
      | with_reducible apply Frames.ite
      | ((with_reducible apply Frames.step (State.setPcie_frames ..)); exact rfl)
      | dsimp only
      | split
  repeat' first
    | with_reducible assumption
    | with_reducible exact Frames.refl _ _
    | with_reducible apply Frames.ite
    | ((with_reducible apply Frames.step (State.recompute_frames ..)); exact rfl)
    | ((with_reducible apply Frames.step (State.setPcie_frames ..)); exact rfl)
    | dsimp only
    | split

theorem State.cfgWrite_frames (s : State) (r : CfgReg) (v : Nat) :
    Frames 0x4590158800 s (State.cfgWrite s r v) := by
  unfold State.cfgWrite
  repeat' first
    | with_reducible assumption
    | with_reducible exact Frames.refl _ _
    | with_reducible apply Frames.ite
    | ((with_reducible apply Frames.step (State.setD3hot_frames ..)); exact rfl)
    | ((with_reducible apply Frames.step (State.setPcie_frames ..)); exact rfl)
    | ((with_reducible apply Frames.step (State.setSizes_frames ..)); exact rfl)
    | ((with_reducible apply Frames.set); exact rfl)
    | split

theorem execPcieConfigRequest_frames (r : CfgReg) (data : Option (BitVec 32)) (s : State) :
    FramesOut 0x4590158810 s (execPcieConfigRequest r data s) := by
  unfold execPcieConfigRequest
  repeat' first
    | with_reducible assumption
    | with_reducible exact Frames.refl _ _
    | with_reducible apply FramesOut.next
    | with_reducible apply Frames.ite
    | with_reducible apply FramesOut.ite
    | ((with_reducible apply Frames.step (State.cfgWrite_frames ..)); exact rfl)
    | ((with_reducible apply Frames.step (State.emit_frames ..)); exact rfl)
    | split

theorem execPcieUnsupportedRequest_frames (k : HostRequest) (s : State) :
    FramesOut 0x8010 s (execPcieUnsupportedRequest k s) := by
  unfold execPcieUnsupportedRequest
  repeat' first
    | with_reducible assumption
    | with_reducible exact Frames.refl _ _
    | with_reducible apply FramesOut.next
    | with_reducible apply Frames.ite
    | with_reducible apply FramesOut.ite
    | ((with_reducible apply Frames.step (State.refuseHost_frames ..)); exact rfl)
    | split

theorem State.barServe_frames {m : Nat} {s run : State} {isRead : Bool} (hm : 0x8010 &&& m = 0x8010) (h : Frames m s run) :
    Frames m s (s.barServe isRead run) := by
  unfold State.barServe
  exact Frames.ite (Frames.refl _ _)
    (Frames.ite (Frames.mono (l := 0x8010) (Frames.mono (State.refuseHost_frames ..) rfl) hm) h)

theorem execBar0Access_frames (off : BitVec 29) (len : Nat) (whole : Bool) (data : Option Word) (s : State) :
    FramesOut 0xfffffefffdd9 s (execBar0Access off len whole data s) := by
  unfold execBar0Access
  extract_lets y0 y1
  have h1 : Frames 0xfffffefffdd9 s y1.2 := by
    unfold y1
    repeat' first
      | with_reducible assumption
      | with_reducible exact Frames.refl _ _
      | with_reducible apply FramesOut.next
      | with_reducible apply Frames.ite
      | with_reducible apply FramesOut.ite
      | ((with_reducible apply Frames.step (State.regAreaRead_frames ..)); exact rfl)
      | dsimp only
      | split
  repeat' first
    | with_reducible assumption
    | with_reducible exact Frames.refl _ _
    | (fail_if_no_progress extract_lets)
    | with_reducible apply FramesOut.next
    | with_reducible apply Frames.ite
    | with_reducible apply FramesOut.ite
    | ((with_reducible apply Frames.step (State.emit_frames ..)); exact rfl)
    | ((with_reducible apply Frames.step (State.refuseHost_frames ..)); exact rfl)
    | ((with_reducible apply Frames.step (State.regAreaWrite_frames ..)); exact rfl)
    | with_reducible apply Frames.iteSnd
    | with_reducible apply Frames.iteSnd2
    | with_reducible apply Frames.iteFst
    | split
    | ((with_reducible refine State.barServe_frames ?_ ?_); on_goal 1 => exact rfl)

theorem execBar2Access_frames (off : BitVec 36) (len : Nat) (data : Option (List Byte)) (s : State) :
    FramesOut 0x100000018819 s (execBar2Access off len data s) := by
  unfold execBar2Access
  extract_lets y0 y1
  repeat' first
    | with_reducible assumption
    | with_reducible exact Frames.refl _ _
    | (fail_if_no_progress extract_lets)
    | with_reducible apply FramesOut.next
    | with_reducible apply Frames.ite
    | with_reducible apply FramesOut.ite
    | ((with_reducible apply Frames.step (State.addWaiting_frames ..)); exact rfl)
    | ((with_reducible apply Frames.step (State.refuseHost_frames ..)); exact rfl)
    | ((with_reducible apply Frames.step (State.serve_frames ..)); exact rfl)
    | split
    | ((with_reducible refine State.barServe_frames ?_ ?_); on_goal 1 => exact rfl)

theorem State.setMsixDword_frames (s : State) (i : Nat) (v : Nat) :
    Frames 0x8000 s (State.setMsixDword s i v) := by
  unfold State.setMsixDword
  extract_lets y0 y1 y2
  repeat' first
    | with_reducible assumption
    | with_reducible exact Frames.refl _ _
    | with_reducible apply Frames.ite
    | ((with_reducible apply Frames.step (State.setPcie_frames ..)); exact rfl)
    | ((with_reducible apply Frames.set); exact rfl)
    | dsimp only
    | split

theorem State.bar4Write_frames (s : State) (o : Nat) (v : Nat) :
    Frames 0x8000 s (State.bar4Write s o v) := by
  unfold State.bar4Write
  repeat' first
    | with_reducible assumption
    | with_reducible exact Frames.refl _ _
    | with_reducible apply Frames.ite
    | ((with_reducible apply Frames.step (State.setMsixDword_frames ..)); exact rfl)
    | split

theorem execBar4Access_frames (off : BitVec 13) (wide : Bool) (data : Option Word) (s : State) :
    FramesOut 0x8010 s (execBar4Access off wide data s) := by
  unfold execBar4Access
  extract_lets y0 y1
  repeat' first
    | with_reducible assumption
    | with_reducible exact Frames.refl _ _
    | (fail_if_no_progress extract_lets)
    | with_reducible apply FramesOut.next
    | with_reducible apply Frames.ite
    | with_reducible apply FramesOut.ite
    | ((with_reducible apply Frames.step (State.bar4Write_frames ..)); exact rfl)
    | ((with_reducible apply Frames.step (State.emit_frames ..)); exact rfl)
    | split
    | ((with_reducible refine State.barServe_frames ?_ ?_); on_goal 1 => exact rfl)

theorem execMsixSend_frames (v : Fin 16) (again : Bool) (s : State) :
    FramesOut 0x8010 s (execMsixSend v again s) := by
  unfold execMsixSend
  repeat' first
    | with_reducible assumption
    | with_reducible exact Frames.refl _ _
    | with_reducible apply FramesOut.next
    | with_reducible apply Frames.ite
    | with_reducible apply FramesOut.ite
    | ((with_reducible apply Frames.step (State.emit_frames ..)); exact rfl)
    | ((with_reducible apply Frames.step (State.msix_frames ..)); exact rfl)
    | ((with_reducible apply Frames.step (State.setPcie_frames ..)); exact rfl)
    | dsimp only
    | split

theorem execPcieLinkUp_frames (rate : Fin 6) (width : Fin 5) (flit : Bool) (s : State) :
    FramesOut 0x4590158800 s (execPcieLinkUp rate width flit s) := by
  unfold execPcieLinkUp
  repeat' first
    | with_reducible assumption
    | with_reducible exact Frames.refl _ _
    | with_reducible apply FramesOut.next
    | with_reducible apply Frames.ite
    | with_reducible apply FramesOut.ite
    | ((with_reducible apply Frames.step (State.recompute_frames ..)); exact rfl)
    | ((with_reducible apply Frames.step (State.setPcie_frames ..)); exact rfl)
    | ((with_reducible apply Frames.step (State.wakeRequests_frames ..)); exact rfl)
    | dsimp only
    | split

theorem execPcieLinkDown_frames (s : State) :
    FramesOut 0xffffe0008800 s (execPcieLinkDown s) := by
  unfold execPcieLinkDown
  repeat' first
    | with_reducible assumption
    | with_reducible exact Frames.refl _ _
    | with_reducible apply FramesOut.next
    | with_reducible apply Frames.ite
    | with_reducible apply FramesOut.ite
    | ((with_reducible apply Frames.step (State.pcieReset_frames ..)); exact rfl)
    | split

theorem execLinkWaitExpiry_frames (r : Requester) (a : Nat) (s : State) :
    FramesOut 0x8800 s (execLinkWaitExpiry r a s) := by
  unfold execLinkWaitExpiry
  repeat' first
    | with_reducible assumption
    | with_reducible exact Frames.refl _ _
    | with_reducible apply FramesOut.next
    | with_reducible apply Frames.ite
    | with_reducible apply FramesOut.ite
    | ((with_reducible apply Frames.step (State.failRequest_frames ..)); exact rfl)
    | split

theorem execCompletionTimeout_frames (r : Requester) (a : Nat) (s : State) :
    FramesOut 0x8800 s (execCompletionTimeout r a s) := by
  unfold execCompletionTimeout
  repeat' first
    | with_reducible assumption
    | with_reducible exact Frames.refl _ _
    | with_reducible apply FramesOut.next
    | with_reducible apply Frames.ite
    | with_reducible apply FramesOut.ite
    | ((with_reducible apply Frames.step (State.failRequest_frames ..)); exact rfl)
    | split

theorem execD3hotEntry_frames (s : State) :
    FramesOut 0x8000 s (execD3hotEntry s) := by
  unfold execD3hotEntry
  repeat' first
    | with_reducible assumption
    | with_reducible exact Frames.refl _ _
    | with_reducible apply FramesOut.next
    | with_reducible apply Frames.ite
    | with_reducible apply FramesOut.ite
    | ((with_reducible apply Frames.step (State.setD3hot_frames ..)); exact rfl)
    | split

theorem execD0Return_frames (s : State) :
    FramesOut 0x8000 s (execD0Return s) := by
  unfold execD0Return
  repeat' first
    | with_reducible assumption
    | with_reducible exact Frames.refl _ _
    | with_reducible apply FramesOut.next
    | with_reducible apply Frames.ite
    | with_reducible apply FramesOut.ite
    | ((with_reducible apply Frames.step (State.setD3hot_frames ..)); exact rfl)
    | split

end Sys2Proof.Machine
end

