-- ==== Sys2Proof/Laws/FramesTick.lean ====
section
/-! SUPPORT. What the definitions of Machine/Tick.lean can change: one lemma for each that answers a state. -/

namespace Sys2Proof.Machine

theorem State.coreTick_frames (s : State) (d : Fin 4) (k : Fin 11) :
    Frames 0x8000400008 s (State.coreTick s d k) := by
  unfold State.coreTick
  extract_lets y0 y1 y2 y3 y4
  have h2 : Frames 0x8000400008 s y2 := by
    unfold y2
    repeat' first
      | with_reducible assumption
      | with_reducible exact Frames.refl _ _
      | with_reducible apply Frames.ite
      | ((with_reducible apply Frames.step (State.tookFree_frames ..)); exact rfl)
      | dsimp only
      | split
  repeat' first
    | with_reducible assumption
    | with_reducible exact Frames.refl _ _
    | with_reducible apply Frames.ite
    | ((with_reducible apply Frames.step (State.setTcCore_frames ..)); exact rfl)
    | ((with_reducible apply Frames.addf); exact rfl)
    | dsimp only
    | split

theorem State.colTick_frames (s : State) (d : Fin 4) :
    Frames 0x200000000000 s (State.colTick s d) := by
  unfold State.colTick
  repeat' first
    | with_reducible assumption
    | with_reducible exact Frames.refl _ _
    | with_reducible apply Frames.ite
    | ((with_reducible apply Frames.addf); exact rfl)
    | split

theorem State.laneTick_frames (s : State) (d : Fin 4) :
    Frames 0x400000 s (State.laneTick s d) := by
  unfold State.laneTick
  repeat' first
    | with_reducible assumption
    | with_reducible exact Frames.refl _ _
    | with_reducible apply Frames.ite
    | ((with_reducible apply Frames.set); exact rfl)
    | (fail_if_no_progress ((with_reducible apply Frames.tensor); exact rfl))
    | split

theorem State.ledgeTick_frames (s : State) (d : Fin 4) :
    Frames 0x20000 s (State.ledgeTick s d) := by
  unfold State.ledgeTick
  repeat' first
    | with_reducible assumption
    | with_reducible exact Frames.refl _ _
    | with_reducible apply Frames.ite
    | ((with_reducible apply Frames.step (State.setLedge_frames ..)); exact rfl)
    | split

theorem State.dieTick_frames (s : State) (d : Fin 4) :
    Frames 0x208000420008 s (State.dieTick s d) := by
  unfold State.dieTick
  repeat' first
    | with_reducible assumption
    | with_reducible exact Frames.refl _ _
    | with_reducible apply Frames.ite
    | ((with_reducible apply Frames.foldl); intro _ _)
    | ((with_reducible apply Frames.foldlSnd); intro _ _)
    | ((with_reducible apply Frames.step (State.colTick_frames ..)); exact rfl)
    | ((with_reducible apply Frames.step (State.coreTick_frames ..)); exact rfl)
    | ((with_reducible apply Frames.step (State.laneTick_frames ..)); exact rfl)
    | ((with_reducible apply Frames.step (State.ledgeTick_frames ..)); exact rfl)
    | dsimp only
    | split

theorem State.adaptLane_frames (p : Fin 16) (s : State) (l : Fin 4) :
    Frames 0x400000000008 s (State.adaptLane p s l) := by
  unfold State.adaptLane
  repeat' first
    | with_reducible assumption
    | with_reducible exact Frames.refl _ _
    | with_reducible apply Frames.ite
    | ((with_reducible apply Frames.step (State.tookFree_frames ..)); exact rfl)
    | ((with_reducible apply Frames.put); exact rfl)
    | split

theorem State.askPreEmphasis_frames (p : Fin 16) (s : State) (l : Fin 4) :
    Frames 0x400008000018 s (State.askPreEmphasis p s l) := by
  unfold State.askPreEmphasis
  repeat' first
    | with_reducible assumption
    | with_reducible exact Frames.refl _ _
    | with_reducible apply Frames.ite
    | ((with_reducible apply Frames.step (State.sendLane_frames ..)); exact rfl)
    | ((with_reducible apply Frames.step (State.tookFree_frames ..)); exact rfl)
    | split

theorem State.confirmLane_frames (s : State) (p : Fin 16) :
    Frames 0x400008000010 s (State.confirmLane s p) := by
  unfold State.confirmLane
  repeat' first
    | with_reducible assumption
    | with_reducible exact Frames.refl _ _
    | with_reducible apply Frames.ite
    | ((with_reducible apply Frames.step (State.sendLane_frames ..)); exact rfl)
    | ((with_reducible apply Frames.step (State.setPort_frames ..)); exact rfl)
    | split

theorem State.linkTick_frames (s : State) (p : Fin 16) :
    Frames 0xf8c01e490819 s (State.linkTick s p) := by
  unfold State.linkTick
  extract_lets y0 y1 y2 y3
  have h0 : Frames 0xf8c01e490819 s y0 := by
    unfold y0
    repeat' first
      | with_reducible assumption
      | with_reducible exact Frames.refl _ _
      | with_reducible apply Frames.ite
      | ((with_reducible apply Frames.step (State.serveHeld_frames ..)); exact rfl)
      | ((with_reducible apply Frames.step (State.setPort_frames ..)); exact rfl)
      | dsimp only
      | split
  have h2 : Frames 0xf8c01e490819 s y2 := by
    unfold y2
    repeat' first
      | with_reducible assumption
      | with_reducible exact Frames.refl _ _
      | with_reducible apply Frames.ite
      | ((with_reducible apply Frames.step (State.setPort_frames ..)); exact rfl)
      | dsimp only
      | split
  have h3 : Frames 0xf8c01e490819 s y3 := by
    unfold y3
    repeat' first
      | with_reducible assumption
      | with_reducible exact Frames.refl _ _
      | with_reducible apply Frames.ite
      | ((with_reducible apply Frames.foldl); intro _ _)
      | ((with_reducible apply Frames.foldlSnd); intro _ _)
      | ((with_reducible apply Frames.step (State.adaptLane_frames ..)); exact rfl)
      | ((with_reducible apply Frames.step (State.setPort_frames ..)); exact rfl)
      | dsimp only
      | split
  repeat' first
    | with_reducible assumption
    | with_reducible exact Frames.refl _ _
    | with_reducible apply Frames.ite
    | ((with_reducible apply Frames.foldl); intro _ _)
    | ((with_reducible apply Frames.foldlSnd); intro _ _)
    | ((with_reducible apply Frames.step (State.askPreEmphasis_frames ..)); exact rfl)
    | ((with_reducible apply Frames.step (State.confirmLane_frames ..)); exact rfl)
    | ((with_reducible apply Frames.step (State.setPort_frames ..)); exact rfl)
    | dsimp only
    | split

theorem State.t1sSend_frames (s : State) :
    Frames 0x1010 s (State.t1sSend s) := by
  unfold State.t1sSend
  repeat' first
    | with_reducible assumption
    | with_reducible exact Frames.refl _ _
    | with_reducible apply Frames.ite
    | ((with_reducible apply Frames.step (State.emit_frames ..)); exact rfl)
    | (fail_if_no_progress ((with_reducible apply Frames.dict); exact rfl))
    | split

theorem State.sampleTick_frames (s : State) :
    Frames 0x1000 s (State.sampleTick s) := by
  unfold State.sampleTick
  repeat' first
    | with_reducible assumption
    | with_reducible exact Frames.refl _ _
    | with_reducible apply Frames.ite
    | (fail_if_no_progress ((with_reducible apply Frames.dict); exact rfl))
    | split

theorem State.tick_frames (s : State) :
    Frames 0xf8c01e4b181d s (State.tick s) := by
  unfold State.tick
  repeat' first
    | with_reducible assumption
    | with_reducible exact Frames.refl _ _
    | with_reducible apply Frames.ite
    | ((with_reducible apply Frames.foldl); intro _ _)
    | ((with_reducible apply Frames.foldlSnd); intro _ _)
    | ((with_reducible apply Frames.step (State.dieTick_frames ..)); exact rfl)
    | ((with_reducible apply Frames.step (State.linkTick_frames ..)); exact rfl)
    | ((with_reducible apply Frames.step (State.sampleTick_frames ..)); exact rfl)
    | ((with_reducible apply Frames.step (State.t1sSend_frames ..)); exact rfl)
    | (fail_if_no_progress ((with_reducible apply Frames.time); exact rfl))
    | dsimp only
    | split

end Sys2Proof.Machine
end

