-- ==== Sys2Proof/Laws/Parts.lean ====
section
/-! SUPPORT. From frames with a bit mask to the lists of parts in which statements are made. -/

namespace Sys2Proof.Machine

/-- Every part of the state. -/
def allParts : List Part :=
  [.mem, .a0, .time, .freeCtr, .out, .rails, .clocks, .doms, .boot, .images, .repair, .faults, .dict, .power, .camp, .pcie, .tiers,
   .ledge, .restart, .job, .input, .kv, .tensor, .trv, .det, .opt, .col, .ports, .rope, .regs .hk, .regs .pwr, .regs .flt,
   .regs .nt, .regs .mor, .regs .med, .regs .tok, .regs .aug, .regs .chk, .regs .bc, .regs .tc, .regs .tcr, .regs .trv, .regs .fb,
   .regs .opt, .regs .ldg, .regs .col, .regs .rope, .regs .ropec]

theorem mem_allParts (p : Part) : p ∈ allParts := by
  cases p with
  | regs b => cases b <;> decide
  | _ => decide

/-- The parts whose bits a mask holds. -/
def partsOf (m : Nat) : List Part := allParts.filter (fun p => p.inMask m)

/-- A frame with a mask is a frame with the list of its parts. -/
theorem Frames.toFrame {m : Nat} {s t : State} (k : Frames m s t) : Frame (partsOf m) s t := fun p hp =>
  k.2.2 p (by simpa [partsOf, mem_allParts] using hp)

/-- A command whose next states have the frame of a mask changes only the parts of that mask. -/
theorem changesOnly_of_frames {c : Instr} {m : Nat} {l : List Part} (h : ∀ s t : State, exec c s = .next t → Frames m s t)
    (e : l = partsOf m) : ChangesOnly l c := fun s t ht => ⟨(h s t ht).1, e ▸ (h s t ht).toFrame⟩

end Sys2Proof.Machine
end

