-- ==== Sys2Proof/Laws/Registers.lean ====
section
/-! SUPPORT. Reading a register field after a write: the same field, another field of the same register, another register. -/

namespace Sys2Proof.Machine

/-- A field lies within a register of 64 bits. -/
def Fld.fits (f : Fld) : Bool := decide (f.lo ≤ f.hi ∧ f.hi < 64)

/-- Two fields share no bit. -/
def Fld.apart (f g : Fld) : Bool := decide (f.hi < g.lo ∨ g.hi < f.lo)

theorem bits_eq_ext {a b hi lo : Nat} (h : ∀ i, lo ≤ i → i ≤ hi → a.testBit i = b.testBit i) : bits a hi lo = bits b hi lo := by
  apply Nat.eq_of_testBit_eq
  intro i
  simp only [bits, Nat.testBit_mod_two_pow, Nat.testBit_shiftRight]
  by_cases hi' : i < hi + 1 - lo
  · simp [hi', h (lo + i) (Nat.le_add_right ..) (by omega)]
  · simp [hi']

theorem fput_testBit {f : Fld} (hf : f.fits = true) (w : Word) (v i : Nat) (hi : i < 64) :
    (fput w f v).toNat.testBit i =
      if f.lo ≤ i ∧ i ≤ f.hi then v.testBit (i - f.lo) else w.toNat.testBit i := by
  simp only [Fld.fits, decide_eq_true_eq] at hf
  have e : w.toNat / 2 ^ (f.hi + 1) * 2 ^ (f.hi + 1) + v % 2 ^ f.width * 2 ^ f.lo + w.toNat % 2 ^ f.lo =
      2 ^ (f.hi + 1) * (w.toNat / 2 ^ (f.hi + 1)) + (2 ^ f.lo * (v % 2 ^ f.width) + w.toNat % 2 ^ f.lo) := by
    rw [Nat.mul_comm, Nat.mul_comm (v % 2 ^ f.width), Nat.add_assoc]
  have hlow : w.toNat % 2 ^ f.lo < 2 ^ f.lo := Nat.mod_lt _ (Nat.two_pow_pos _)
  have hmid : 2 ^ f.lo * (v % 2 ^ f.width) + w.toNat % 2 ^ f.lo < 2 ^ (f.hi + 1) := by
    have hv : v % 2 ^ f.width < 2 ^ f.width := Nat.mod_lt _ (Nat.two_pow_pos _)
    have hp : 2 ^ (f.hi + 1) = 2 ^ f.lo * 2 ^ f.width := by
      rw [← Nat.pow_add]
      congr 1
      simp only [Fld.width]
      omega
    rw [hp]
    calc 2 ^ f.lo * (v % 2 ^ f.width) + w.toNat % 2 ^ f.lo < 2 ^ f.lo * (v % 2 ^ f.width) + 2 ^ f.lo := by omega
      _ = 2 ^ f.lo * (v % 2 ^ f.width + 1) := by rw [Nat.mul_succ]
      _ ≤ 2 ^ f.lo * 2 ^ f.width := Nat.mul_le_mul_left _ hv
  unfold fput
  rw [BitVec.toNat_ofNat, Nat.testBit_mod_two_pow, e, Nat.testBit_two_pow_mul_add _ hmid, Nat.testBit_two_pow_mul_add _ hlow]
  simp only [hi, decide_true, Bool.true_and, Nat.testBit_div_two_pow, Nat.testBit_mod_two_pow]
  by_cases h1 : i < f.lo
  · rw [if_pos (by omega), if_pos h1, if_neg (by omega)]
    simp [h1]
  · by_cases h2 : i ≤ f.hi
    · rw [if_pos (by omega), if_neg h1, if_pos ⟨by omega, h2⟩]
      have : i - f.lo < f.width := by simp only [Fld.width]; omega
      simp [this]
    · rw [if_neg (by omega), if_neg (by omega)]
      congr 1
      omega

/-- A field reads as what was written to it, cut to its width. -/
theorem fget_fput_same {f : Fld} (hf : f.fits = true) (w : Word) (v : Nat) : fget (fput w f v) f = v % 2 ^ f.width := by
  have hf' := hf
  simp only [Fld.fits, decide_eq_true_eq] at hf'
  apply Nat.eq_of_testBit_eq
  intro i
  simp only [fget, bits, Nat.testBit_mod_two_pow, Nat.testBit_shiftRight]
  by_cases h : i < f.hi + 1 - f.lo
  · have hw : i < f.width := by simp only [Fld.width]; omega
    rw [fput_testBit hf _ _ _ (by omega), if_pos (by omega)]
    simp [h, hw]
  · have hw : ¬ i < f.width := by simp only [Fld.width]; omega
    simp [h, hw]

/-- A write to one field leaves every field apart from it. -/
theorem fget_fput_other {f g : Fld} (hf : f.fits = true) (hg : g.fits = true) (h : f.apart g = true) (w : Word) (v : Nat) :
    fget (fput w f v) g = fget w g := by
  simp only [Fld.fits, Fld.apart, decide_eq_true_eq] at hg h
  refine bits_eq_ext fun i h1 h2 => ?_
  rw [fput_testBit hf _ _ _ (by omega), if_neg (by omega)]

theorem State.get_set_same (s : State) (r : Reg) (w : Word) : (s.set r w).get r = w := by rw [State.get_set, if_pos rfl]

theorem State.get_set_other (s : State) {r q : Reg} (w : Word) (h : r ≠ q) : (s.set r w).get q = s.get q := by
  rw [State.get_set, if_neg h]

theorem State.get_put_other (s : State) {r q : Reg} (f : Fld) (v : Nat) (h : r ≠ q) : (s.put r f v).get q = s.get q :=
  State.get_set_other s _ h

theorem State.fld_put_same (s : State) (r : Reg) {f : Fld} (hf : f.fits = true) (v : Nat) :
    (s.put r f v).fld r f = v % 2 ^ f.width := by
  unfold State.fld State.put
  rw [State.get_set_same, fget_fput_same hf]

theorem State.fld_put_field (s : State) (r : Reg) {f g : Fld} (hf : f.fits = true) (hg : g.fits = true) (h : f.apart g = true)
    (v : Nat) : (s.put r f v).fld r g = s.fld r g := by
  unfold State.fld State.put
  rw [State.get_set_same, fget_fput_other hf hg h]

theorem State.fld_put_other (s : State) {r q : Reg} (f g : Fld) (v : Nat) (h : r ≠ q) : (s.put r f v).fld q g = s.fld q g := by
  unfold State.fld
  rw [State.get_put_other _ _ _ h]

end Sys2Proof.Machine
end

