-- ==== Sys2Proof/Laws/State.lean ====
section
/-! SUPPORT. One lemma for each field and each update of State, so that no proof unfolds a record update. -/

namespace Sys2Proof.Machine

@[simp] theorem State.set_pending (s : State) (r : Reg) (w : Word) : (s.set r w).pending = s.pending := rfl
@[simp] theorem State.set_regs (s : State) (r : Reg) (w : Word) : (s.set r w).regs = assocSet s.regs r w := rfl
@[simp] theorem State.set_mem (s : State) (r : Reg) (w : Word) : (s.set r w).mem = s.mem := rfl
@[simp] theorem State.set_a0 (s : State) (r : Reg) (w : Word) : (s.set r w).a0 = s.a0 := rfl
@[simp] theorem State.set_time (s : State) (r : Reg) (w : Word) : (s.set r w).time = s.time := rfl
@[simp] theorem State.set_freeCtr (s : State) (r : Reg) (w : Word) : (s.set r w).freeCtr = s.freeCtr := rfl
@[simp] theorem State.set_out (s : State) (r : Reg) (w : Word) : (s.set r w).out = s.out := rfl
@[simp] theorem State.set_rails (s : State) (r : Reg) (w : Word) : (s.set r w).rails = s.rails := rfl
@[simp] theorem State.set_clocks (s : State) (r : Reg) (w : Word) : (s.set r w).clocks = s.clocks := rfl
@[simp] theorem State.set_doms (s : State) (r : Reg) (w : Word) : (s.set r w).doms = s.doms := rfl
@[simp] theorem State.set_boot (s : State) (r : Reg) (w : Word) : (s.set r w).boot = s.boot := rfl
@[simp] theorem State.set_images (s : State) (r : Reg) (w : Word) : (s.set r w).images = s.images := rfl
@[simp] theorem State.set_repair (s : State) (r : Reg) (w : Word) : (s.set r w).repair = s.repair := rfl
@[simp] theorem State.set_faults (s : State) (r : Reg) (w : Word) : (s.set r w).faults = s.faults := rfl
@[simp] theorem State.set_dict (s : State) (r : Reg) (w : Word) : (s.set r w).dict = s.dict := rfl
@[simp] theorem State.set_power (s : State) (r : Reg) (w : Word) : (s.set r w).power = s.power := rfl
@[simp] theorem State.set_camp (s : State) (r : Reg) (w : Word) : (s.set r w).camp = s.camp := rfl
@[simp] theorem State.set_pcie (s : State) (r : Reg) (w : Word) : (s.set r w).pcie = s.pcie := rfl
@[simp] theorem State.set_tiers (s : State) (r : Reg) (w : Word) : (s.set r w).tiers = s.tiers := rfl
@[simp] theorem State.set_ledge (s : State) (r : Reg) (w : Word) : (s.set r w).ledge = s.ledge := rfl
@[simp] theorem State.set_restart (s : State) (r : Reg) (w : Word) : (s.set r w).restart = s.restart := rfl
@[simp] theorem State.set_job (s : State) (r : Reg) (w : Word) : (s.set r w).job = s.job := rfl
@[simp] theorem State.set_input (s : State) (r : Reg) (w : Word) : (s.set r w).input = s.input := rfl
@[simp] theorem State.set_kv (s : State) (r : Reg) (w : Word) : (s.set r w).kv = s.kv := rfl
@[simp] theorem State.set_tensor (s : State) (r : Reg) (w : Word) : (s.set r w).tensor = s.tensor := rfl
@[simp] theorem State.set_trv (s : State) (r : Reg) (w : Word) : (s.set r w).trv = s.trv := rfl
@[simp] theorem State.set_det (s : State) (r : Reg) (w : Word) : (s.set r w).det = s.det := rfl
@[simp] theorem State.set_opt (s : State) (r : Reg) (w : Word) : (s.set r w).opt = s.opt := rfl
@[simp] theorem State.set_col (s : State) (r : Reg) (w : Word) : (s.set r w).col = s.col := rfl
@[simp] theorem State.set_ports (s : State) (r : Reg) (w : Word) : (s.set r w).ports = s.ports := rfl
@[simp] theorem State.set_rope (s : State) (r : Reg) (w : Word) : (s.set r w).rope = s.rope := rfl

@[simp] theorem State.put_pending (s : State) (r : Reg) (f : Fld) (v : Nat) : (s.put r f v).pending = s.pending := rfl
@[simp] theorem State.put_regs (s : State) (r : Reg) (f : Fld) (v : Nat) : (s.put r f v).regs = assocSet s.regs r (fput (s.get r) f v) := rfl
@[simp] theorem State.put_mem (s : State) (r : Reg) (f : Fld) (v : Nat) : (s.put r f v).mem = s.mem := rfl
@[simp] theorem State.put_a0 (s : State) (r : Reg) (f : Fld) (v : Nat) : (s.put r f v).a0 = s.a0 := rfl
@[simp] theorem State.put_time (s : State) (r : Reg) (f : Fld) (v : Nat) : (s.put r f v).time = s.time := rfl
@[simp] theorem State.put_freeCtr (s : State) (r : Reg) (f : Fld) (v : Nat) : (s.put r f v).freeCtr = s.freeCtr := rfl
@[simp] theorem State.put_out (s : State) (r : Reg) (f : Fld) (v : Nat) : (s.put r f v).out = s.out := rfl
@[simp] theorem State.put_rails (s : State) (r : Reg) (f : Fld) (v : Nat) : (s.put r f v).rails = s.rails := rfl
@[simp] theorem State.put_clocks (s : State) (r : Reg) (f : Fld) (v : Nat) : (s.put r f v).clocks = s.clocks := rfl
@[simp] theorem State.put_doms (s : State) (r : Reg) (f : Fld) (v : Nat) : (s.put r f v).doms = s.doms := rfl
@[simp] theorem State.put_boot (s : State) (r : Reg) (f : Fld) (v : Nat) : (s.put r f v).boot = s.boot := rfl
@[simp] theorem State.put_images (s : State) (r : Reg) (f : Fld) (v : Nat) : (s.put r f v).images = s.images := rfl
@[simp] theorem State.put_repair (s : State) (r : Reg) (f : Fld) (v : Nat) : (s.put r f v).repair = s.repair := rfl
@[simp] theorem State.put_faults (s : State) (r : Reg) (f : Fld) (v : Nat) : (s.put r f v).faults = s.faults := rfl
@[simp] theorem State.put_dict (s : State) (r : Reg) (f : Fld) (v : Nat) : (s.put r f v).dict = s.dict := rfl
@[simp] theorem State.put_power (s : State) (r : Reg) (f : Fld) (v : Nat) : (s.put r f v).power = s.power := rfl
@[simp] theorem State.put_camp (s : State) (r : Reg) (f : Fld) (v : Nat) : (s.put r f v).camp = s.camp := rfl
@[simp] theorem State.put_pcie (s : State) (r : Reg) (f : Fld) (v : Nat) : (s.put r f v).pcie = s.pcie := rfl
@[simp] theorem State.put_tiers (s : State) (r : Reg) (f : Fld) (v : Nat) : (s.put r f v).tiers = s.tiers := rfl
@[simp] theorem State.put_ledge (s : State) (r : Reg) (f : Fld) (v : Nat) : (s.put r f v).ledge = s.ledge := rfl
@[simp] theorem State.put_restart (s : State) (r : Reg) (f : Fld) (v : Nat) : (s.put r f v).restart = s.restart := rfl
@[simp] theorem State.put_job (s : State) (r : Reg) (f : Fld) (v : Nat) : (s.put r f v).job = s.job := rfl
@[simp] theorem State.put_input (s : State) (r : Reg) (f : Fld) (v : Nat) : (s.put r f v).input = s.input := rfl
@[simp] theorem State.put_kv (s : State) (r : Reg) (f : Fld) (v : Nat) : (s.put r f v).kv = s.kv := rfl
@[simp] theorem State.put_tensor (s : State) (r : Reg) (f : Fld) (v : Nat) : (s.put r f v).tensor = s.tensor := rfl
@[simp] theorem State.put_trv (s : State) (r : Reg) (f : Fld) (v : Nat) : (s.put r f v).trv = s.trv := rfl
@[simp] theorem State.put_det (s : State) (r : Reg) (f : Fld) (v : Nat) : (s.put r f v).det = s.det := rfl
@[simp] theorem State.put_opt (s : State) (r : Reg) (f : Fld) (v : Nat) : (s.put r f v).opt = s.opt := rfl
@[simp] theorem State.put_col (s : State) (r : Reg) (f : Fld) (v : Nat) : (s.put r f v).col = s.col := rfl
@[simp] theorem State.put_ports (s : State) (r : Reg) (f : Fld) (v : Nat) : (s.put r f v).ports = s.ports := rfl
@[simp] theorem State.put_rope (s : State) (r : Reg) (f : Fld) (v : Nat) : (s.put r f v).rope = s.rope := rfl

@[simp] theorem State.bump_pending (s : State) (r : Reg) (f : Fld) : (s.bump r f).pending = s.pending := rfl
@[simp] theorem State.bump_mem (s : State) (r : Reg) (f : Fld) : (s.bump r f).mem = s.mem := rfl
@[simp] theorem State.bump_a0 (s : State) (r : Reg) (f : Fld) : (s.bump r f).a0 = s.a0 := rfl
@[simp] theorem State.bump_time (s : State) (r : Reg) (f : Fld) : (s.bump r f).time = s.time := rfl
@[simp] theorem State.bump_freeCtr (s : State) (r : Reg) (f : Fld) : (s.bump r f).freeCtr = s.freeCtr := rfl
@[simp] theorem State.bump_out (s : State) (r : Reg) (f : Fld) : (s.bump r f).out = s.out := rfl
@[simp] theorem State.bump_rails (s : State) (r : Reg) (f : Fld) : (s.bump r f).rails = s.rails := rfl
@[simp] theorem State.bump_clocks (s : State) (r : Reg) (f : Fld) : (s.bump r f).clocks = s.clocks := rfl
@[simp] theorem State.bump_doms (s : State) (r : Reg) (f : Fld) : (s.bump r f).doms = s.doms := rfl
@[simp] theorem State.bump_boot (s : State) (r : Reg) (f : Fld) : (s.bump r f).boot = s.boot := rfl
@[simp] theorem State.bump_images (s : State) (r : Reg) (f : Fld) : (s.bump r f).images = s.images := rfl
@[simp] theorem State.bump_repair (s : State) (r : Reg) (f : Fld) : (s.bump r f).repair = s.repair := rfl
@[simp] theorem State.bump_faults (s : State) (r : Reg) (f : Fld) : (s.bump r f).faults = s.faults := rfl
@[simp] theorem State.bump_dict (s : State) (r : Reg) (f : Fld) : (s.bump r f).dict = s.dict := rfl
@[simp] theorem State.bump_power (s : State) (r : Reg) (f : Fld) : (s.bump r f).power = s.power := rfl
@[simp] theorem State.bump_camp (s : State) (r : Reg) (f : Fld) : (s.bump r f).camp = s.camp := rfl
@[simp] theorem State.bump_pcie (s : State) (r : Reg) (f : Fld) : (s.bump r f).pcie = s.pcie := rfl
@[simp] theorem State.bump_tiers (s : State) (r : Reg) (f : Fld) : (s.bump r f).tiers = s.tiers := rfl
@[simp] theorem State.bump_ledge (s : State) (r : Reg) (f : Fld) : (s.bump r f).ledge = s.ledge := rfl
@[simp] theorem State.bump_restart (s : State) (r : Reg) (f : Fld) : (s.bump r f).restart = s.restart := rfl
@[simp] theorem State.bump_job (s : State) (r : Reg) (f : Fld) : (s.bump r f).job = s.job := rfl
@[simp] theorem State.bump_input (s : State) (r : Reg) (f : Fld) : (s.bump r f).input = s.input := rfl
@[simp] theorem State.bump_kv (s : State) (r : Reg) (f : Fld) : (s.bump r f).kv = s.kv := rfl
@[simp] theorem State.bump_tensor (s : State) (r : Reg) (f : Fld) : (s.bump r f).tensor = s.tensor := rfl
@[simp] theorem State.bump_trv (s : State) (r : Reg) (f : Fld) : (s.bump r f).trv = s.trv := rfl
@[simp] theorem State.bump_det (s : State) (r : Reg) (f : Fld) : (s.bump r f).det = s.det := rfl
@[simp] theorem State.bump_opt (s : State) (r : Reg) (f : Fld) : (s.bump r f).opt = s.opt := rfl
@[simp] theorem State.bump_col (s : State) (r : Reg) (f : Fld) : (s.bump r f).col = s.col := rfl
@[simp] theorem State.bump_ports (s : State) (r : Reg) (f : Fld) : (s.bump r f).ports = s.ports := rfl
@[simp] theorem State.bump_rope (s : State) (r : Reg) (f : Fld) : (s.bump r f).rope = s.rope := rfl

@[simp] theorem State.addf_pending (s : State) (r : Reg) (f : Fld) (n : Nat) : (s.addf r f n).pending = s.pending := rfl
@[simp] theorem State.addf_mem (s : State) (r : Reg) (f : Fld) (n : Nat) : (s.addf r f n).mem = s.mem := rfl
@[simp] theorem State.addf_a0 (s : State) (r : Reg) (f : Fld) (n : Nat) : (s.addf r f n).a0 = s.a0 := rfl
@[simp] theorem State.addf_time (s : State) (r : Reg) (f : Fld) (n : Nat) : (s.addf r f n).time = s.time := rfl
@[simp] theorem State.addf_freeCtr (s : State) (r : Reg) (f : Fld) (n : Nat) : (s.addf r f n).freeCtr = s.freeCtr := rfl
@[simp] theorem State.addf_out (s : State) (r : Reg) (f : Fld) (n : Nat) : (s.addf r f n).out = s.out := rfl
@[simp] theorem State.addf_rails (s : State) (r : Reg) (f : Fld) (n : Nat) : (s.addf r f n).rails = s.rails := rfl
@[simp] theorem State.addf_clocks (s : State) (r : Reg) (f : Fld) (n : Nat) : (s.addf r f n).clocks = s.clocks := rfl
@[simp] theorem State.addf_doms (s : State) (r : Reg) (f : Fld) (n : Nat) : (s.addf r f n).doms = s.doms := rfl
@[simp] theorem State.addf_boot (s : State) (r : Reg) (f : Fld) (n : Nat) : (s.addf r f n).boot = s.boot := rfl
@[simp] theorem State.addf_images (s : State) (r : Reg) (f : Fld) (n : Nat) : (s.addf r f n).images = s.images := rfl
@[simp] theorem State.addf_repair (s : State) (r : Reg) (f : Fld) (n : Nat) : (s.addf r f n).repair = s.repair := rfl
@[simp] theorem State.addf_faults (s : State) (r : Reg) (f : Fld) (n : Nat) : (s.addf r f n).faults = s.faults := rfl
@[simp] theorem State.addf_dict (s : State) (r : Reg) (f : Fld) (n : Nat) : (s.addf r f n).dict = s.dict := rfl
@[simp] theorem State.addf_power (s : State) (r : Reg) (f : Fld) (n : Nat) : (s.addf r f n).power = s.power := rfl
@[simp] theorem State.addf_camp (s : State) (r : Reg) (f : Fld) (n : Nat) : (s.addf r f n).camp = s.camp := rfl
@[simp] theorem State.addf_pcie (s : State) (r : Reg) (f : Fld) (n : Nat) : (s.addf r f n).pcie = s.pcie := rfl
@[simp] theorem State.addf_tiers (s : State) (r : Reg) (f : Fld) (n : Nat) : (s.addf r f n).tiers = s.tiers := rfl
@[simp] theorem State.addf_ledge (s : State) (r : Reg) (f : Fld) (n : Nat) : (s.addf r f n).ledge = s.ledge := rfl
@[simp] theorem State.addf_restart (s : State) (r : Reg) (f : Fld) (n : Nat) : (s.addf r f n).restart = s.restart := rfl
@[simp] theorem State.addf_job (s : State) (r : Reg) (f : Fld) (n : Nat) : (s.addf r f n).job = s.job := rfl
@[simp] theorem State.addf_input (s : State) (r : Reg) (f : Fld) (n : Nat) : (s.addf r f n).input = s.input := rfl
@[simp] theorem State.addf_kv (s : State) (r : Reg) (f : Fld) (n : Nat) : (s.addf r f n).kv = s.kv := rfl
@[simp] theorem State.addf_tensor (s : State) (r : Reg) (f : Fld) (n : Nat) : (s.addf r f n).tensor = s.tensor := rfl
@[simp] theorem State.addf_trv (s : State) (r : Reg) (f : Fld) (n : Nat) : (s.addf r f n).trv = s.trv := rfl
@[simp] theorem State.addf_det (s : State) (r : Reg) (f : Fld) (n : Nat) : (s.addf r f n).det = s.det := rfl
@[simp] theorem State.addf_opt (s : State) (r : Reg) (f : Fld) (n : Nat) : (s.addf r f n).opt = s.opt := rfl
@[simp] theorem State.addf_col (s : State) (r : Reg) (f : Fld) (n : Nat) : (s.addf r f n).col = s.col := rfl
@[simp] theorem State.addf_ports (s : State) (r : Reg) (f : Fld) (n : Nat) : (s.addf r f n).ports = s.ports := rfl
@[simp] theorem State.addf_rope (s : State) (r : Reg) (f : Fld) (n : Nat) : (s.addf r f n).rope = s.rope := rfl

@[simp] theorem State.emit_pending (s : State) (o : Output) : (s.emit o).pending = s.pending := rfl
@[simp] theorem State.emit_regs (s : State) (o : Output) : (s.emit o).regs = s.regs := rfl
@[simp] theorem State.emit_mem (s : State) (o : Output) : (s.emit o).mem = s.mem := rfl
@[simp] theorem State.emit_a0 (s : State) (o : Output) : (s.emit o).a0 = s.a0 := rfl
@[simp] theorem State.emit_time (s : State) (o : Output) : (s.emit o).time = s.time := rfl
@[simp] theorem State.emit_freeCtr (s : State) (o : Output) : (s.emit o).freeCtr = s.freeCtr := rfl
@[simp] theorem State.emit_out (s : State) (o : Output) : (s.emit o).out = s.out ++ [o] := rfl
@[simp] theorem State.emit_rails (s : State) (o : Output) : (s.emit o).rails = s.rails := rfl
@[simp] theorem State.emit_clocks (s : State) (o : Output) : (s.emit o).clocks = s.clocks := rfl
@[simp] theorem State.emit_doms (s : State) (o : Output) : (s.emit o).doms = s.doms := rfl
@[simp] theorem State.emit_boot (s : State) (o : Output) : (s.emit o).boot = s.boot := rfl
@[simp] theorem State.emit_images (s : State) (o : Output) : (s.emit o).images = s.images := rfl
@[simp] theorem State.emit_repair (s : State) (o : Output) : (s.emit o).repair = s.repair := rfl
@[simp] theorem State.emit_faults (s : State) (o : Output) : (s.emit o).faults = s.faults := rfl
@[simp] theorem State.emit_dict (s : State) (o : Output) : (s.emit o).dict = s.dict := rfl
@[simp] theorem State.emit_power (s : State) (o : Output) : (s.emit o).power = s.power := rfl
@[simp] theorem State.emit_camp (s : State) (o : Output) : (s.emit o).camp = s.camp := rfl
@[simp] theorem State.emit_pcie (s : State) (o : Output) : (s.emit o).pcie = s.pcie := rfl
@[simp] theorem State.emit_tiers (s : State) (o : Output) : (s.emit o).tiers = s.tiers := rfl
@[simp] theorem State.emit_ledge (s : State) (o : Output) : (s.emit o).ledge = s.ledge := rfl
@[simp] theorem State.emit_restart (s : State) (o : Output) : (s.emit o).restart = s.restart := rfl
@[simp] theorem State.emit_job (s : State) (o : Output) : (s.emit o).job = s.job := rfl
@[simp] theorem State.emit_input (s : State) (o : Output) : (s.emit o).input = s.input := rfl
@[simp] theorem State.emit_kv (s : State) (o : Output) : (s.emit o).kv = s.kv := rfl
@[simp] theorem State.emit_tensor (s : State) (o : Output) : (s.emit o).tensor = s.tensor := rfl
@[simp] theorem State.emit_trv (s : State) (o : Output) : (s.emit o).trv = s.trv := rfl
@[simp] theorem State.emit_det (s : State) (o : Output) : (s.emit o).det = s.det := rfl
@[simp] theorem State.emit_opt (s : State) (o : Output) : (s.emit o).opt = s.opt := rfl
@[simp] theorem State.emit_col (s : State) (o : Output) : (s.emit o).col = s.col := rfl
@[simp] theorem State.emit_ports (s : State) (o : Output) : (s.emit o).ports = s.ports := rfl
@[simp] theorem State.emit_rope (s : State) (o : Output) : (s.emit o).rope = s.rope := rfl

@[simp] theorem State.tookFree_pending (s : State) : (s.tookFree).pending = s.pending := rfl
@[simp] theorem State.tookFree_regs (s : State) : (s.tookFree).regs = s.regs := rfl
@[simp] theorem State.tookFree_mem (s : State) : (s.tookFree).mem = s.mem := rfl
@[simp] theorem State.tookFree_a0 (s : State) : (s.tookFree).a0 = s.a0 := rfl
@[simp] theorem State.tookFree_time (s : State) : (s.tookFree).time = s.time := rfl
@[simp] theorem State.tookFree_freeCtr (s : State) : (s.tookFree).freeCtr = s.freeCtr + 1 := rfl
@[simp] theorem State.tookFree_out (s : State) : (s.tookFree).out = s.out := rfl
@[simp] theorem State.tookFree_rails (s : State) : (s.tookFree).rails = s.rails := rfl
@[simp] theorem State.tookFree_clocks (s : State) : (s.tookFree).clocks = s.clocks := rfl
@[simp] theorem State.tookFree_doms (s : State) : (s.tookFree).doms = s.doms := rfl
@[simp] theorem State.tookFree_boot (s : State) : (s.tookFree).boot = s.boot := rfl
@[simp] theorem State.tookFree_images (s : State) : (s.tookFree).images = s.images := rfl
@[simp] theorem State.tookFree_repair (s : State) : (s.tookFree).repair = s.repair := rfl
@[simp] theorem State.tookFree_faults (s : State) : (s.tookFree).faults = s.faults := rfl
@[simp] theorem State.tookFree_dict (s : State) : (s.tookFree).dict = s.dict := rfl
@[simp] theorem State.tookFree_power (s : State) : (s.tookFree).power = s.power := rfl
@[simp] theorem State.tookFree_camp (s : State) : (s.tookFree).camp = s.camp := rfl
@[simp] theorem State.tookFree_pcie (s : State) : (s.tookFree).pcie = s.pcie := rfl
@[simp] theorem State.tookFree_tiers (s : State) : (s.tookFree).tiers = s.tiers := rfl
@[simp] theorem State.tookFree_ledge (s : State) : (s.tookFree).ledge = s.ledge := rfl
@[simp] theorem State.tookFree_restart (s : State) : (s.tookFree).restart = s.restart := rfl
@[simp] theorem State.tookFree_job (s : State) : (s.tookFree).job = s.job := rfl
@[simp] theorem State.tookFree_input (s : State) : (s.tookFree).input = s.input := rfl
@[simp] theorem State.tookFree_kv (s : State) : (s.tookFree).kv = s.kv := rfl
@[simp] theorem State.tookFree_tensor (s : State) : (s.tookFree).tensor = s.tensor := rfl
@[simp] theorem State.tookFree_trv (s : State) : (s.tookFree).trv = s.trv := rfl
@[simp] theorem State.tookFree_det (s : State) : (s.tookFree).det = s.det := rfl
@[simp] theorem State.tookFree_opt (s : State) : (s.tookFree).opt = s.opt := rfl
@[simp] theorem State.tookFree_col (s : State) : (s.tookFree).col = s.col := rfl
@[simp] theorem State.tookFree_ports (s : State) : (s.tookFree).ports = s.ports := rfl
@[simp] theorem State.tookFree_rope (s : State) : (s.tookFree).rope = s.rope := rfl

@[simp] theorem State.tookFrees_pending (s : State) (n : Nat) : (s.tookFrees n).pending = s.pending := rfl
@[simp] theorem State.tookFrees_regs (s : State) (n : Nat) : (s.tookFrees n).regs = s.regs := rfl
@[simp] theorem State.tookFrees_mem (s : State) (n : Nat) : (s.tookFrees n).mem = s.mem := rfl
@[simp] theorem State.tookFrees_a0 (s : State) (n : Nat) : (s.tookFrees n).a0 = s.a0 := rfl
@[simp] theorem State.tookFrees_time (s : State) (n : Nat) : (s.tookFrees n).time = s.time := rfl
@[simp] theorem State.tookFrees_freeCtr (s : State) (n : Nat) : (s.tookFrees n).freeCtr = s.freeCtr + n := rfl
@[simp] theorem State.tookFrees_out (s : State) (n : Nat) : (s.tookFrees n).out = s.out := rfl
@[simp] theorem State.tookFrees_rails (s : State) (n : Nat) : (s.tookFrees n).rails = s.rails := rfl
@[simp] theorem State.tookFrees_clocks (s : State) (n : Nat) : (s.tookFrees n).clocks = s.clocks := rfl
@[simp] theorem State.tookFrees_doms (s : State) (n : Nat) : (s.tookFrees n).doms = s.doms := rfl
@[simp] theorem State.tookFrees_boot (s : State) (n : Nat) : (s.tookFrees n).boot = s.boot := rfl
@[simp] theorem State.tookFrees_images (s : State) (n : Nat) : (s.tookFrees n).images = s.images := rfl
@[simp] theorem State.tookFrees_repair (s : State) (n : Nat) : (s.tookFrees n).repair = s.repair := rfl
@[simp] theorem State.tookFrees_faults (s : State) (n : Nat) : (s.tookFrees n).faults = s.faults := rfl
@[simp] theorem State.tookFrees_dict (s : State) (n : Nat) : (s.tookFrees n).dict = s.dict := rfl
@[simp] theorem State.tookFrees_power (s : State) (n : Nat) : (s.tookFrees n).power = s.power := rfl
@[simp] theorem State.tookFrees_camp (s : State) (n : Nat) : (s.tookFrees n).camp = s.camp := rfl
@[simp] theorem State.tookFrees_pcie (s : State) (n : Nat) : (s.tookFrees n).pcie = s.pcie := rfl
@[simp] theorem State.tookFrees_tiers (s : State) (n : Nat) : (s.tookFrees n).tiers = s.tiers := rfl
@[simp] theorem State.tookFrees_ledge (s : State) (n : Nat) : (s.tookFrees n).ledge = s.ledge := rfl
@[simp] theorem State.tookFrees_restart (s : State) (n : Nat) : (s.tookFrees n).restart = s.restart := rfl
@[simp] theorem State.tookFrees_job (s : State) (n : Nat) : (s.tookFrees n).job = s.job := rfl
@[simp] theorem State.tookFrees_input (s : State) (n : Nat) : (s.tookFrees n).input = s.input := rfl
@[simp] theorem State.tookFrees_kv (s : State) (n : Nat) : (s.tookFrees n).kv = s.kv := rfl
@[simp] theorem State.tookFrees_tensor (s : State) (n : Nat) : (s.tookFrees n).tensor = s.tensor := rfl
@[simp] theorem State.tookFrees_trv (s : State) (n : Nat) : (s.tookFrees n).trv = s.trv := rfl
@[simp] theorem State.tookFrees_det (s : State) (n : Nat) : (s.tookFrees n).det = s.det := rfl
@[simp] theorem State.tookFrees_opt (s : State) (n : Nat) : (s.tookFrees n).opt = s.opt := rfl
@[simp] theorem State.tookFrees_col (s : State) (n : Nat) : (s.tookFrees n).col = s.col := rfl
@[simp] theorem State.tookFrees_ports (s : State) (n : Nat) : (s.tookFrees n).ports = s.ports := rfl
@[simp] theorem State.tookFrees_rope (s : State) (n : Nat) : (s.tookFrees n).rope = s.rope := rfl

@[simp] theorem State.store_pending (s : State) (k : Nat) (bs : List Byte) : (s.store k bs).pending = s.pending := rfl
@[simp] theorem State.store_regs (s : State) (k : Nat) (bs : List Byte) : (s.store k bs).regs = s.regs := rfl
@[simp] theorem State.store_mem (s : State) (k : Nat) (bs : List Byte) : (s.store k bs).mem = s.mem.setN k bs := rfl
@[simp] theorem State.store_a0 (s : State) (k : Nat) (bs : List Byte) : (s.store k bs).a0 = s.a0 := rfl
@[simp] theorem State.store_time (s : State) (k : Nat) (bs : List Byte) : (s.store k bs).time = s.time := rfl
@[simp] theorem State.store_freeCtr (s : State) (k : Nat) (bs : List Byte) : (s.store k bs).freeCtr = s.freeCtr := rfl
@[simp] theorem State.store_out (s : State) (k : Nat) (bs : List Byte) : (s.store k bs).out = s.out := rfl
@[simp] theorem State.store_rails (s : State) (k : Nat) (bs : List Byte) : (s.store k bs).rails = s.rails := rfl
@[simp] theorem State.store_clocks (s : State) (k : Nat) (bs : List Byte) : (s.store k bs).clocks = s.clocks := rfl
@[simp] theorem State.store_doms (s : State) (k : Nat) (bs : List Byte) : (s.store k bs).doms = s.doms := rfl
@[simp] theorem State.store_boot (s : State) (k : Nat) (bs : List Byte) : (s.store k bs).boot = s.boot := rfl
@[simp] theorem State.store_images (s : State) (k : Nat) (bs : List Byte) : (s.store k bs).images = s.images := rfl
@[simp] theorem State.store_repair (s : State) (k : Nat) (bs : List Byte) : (s.store k bs).repair = s.repair := rfl
@[simp] theorem State.store_faults (s : State) (k : Nat) (bs : List Byte) : (s.store k bs).faults = s.faults := rfl
@[simp] theorem State.store_dict (s : State) (k : Nat) (bs : List Byte) : (s.store k bs).dict = s.dict := rfl
@[simp] theorem State.store_power (s : State) (k : Nat) (bs : List Byte) : (s.store k bs).power = s.power := rfl
@[simp] theorem State.store_camp (s : State) (k : Nat) (bs : List Byte) : (s.store k bs).camp = s.camp := rfl
@[simp] theorem State.store_pcie (s : State) (k : Nat) (bs : List Byte) : (s.store k bs).pcie = s.pcie := rfl
@[simp] theorem State.store_tiers (s : State) (k : Nat) (bs : List Byte) : (s.store k bs).tiers = s.tiers := rfl
@[simp] theorem State.store_ledge (s : State) (k : Nat) (bs : List Byte) : (s.store k bs).ledge = s.ledge := rfl
@[simp] theorem State.store_restart (s : State) (k : Nat) (bs : List Byte) : (s.store k bs).restart = s.restart := rfl
@[simp] theorem State.store_job (s : State) (k : Nat) (bs : List Byte) : (s.store k bs).job = s.job := rfl
@[simp] theorem State.store_input (s : State) (k : Nat) (bs : List Byte) : (s.store k bs).input = s.input := rfl
@[simp] theorem State.store_kv (s : State) (k : Nat) (bs : List Byte) : (s.store k bs).kv = s.kv := rfl
@[simp] theorem State.store_tensor (s : State) (k : Nat) (bs : List Byte) : (s.store k bs).tensor = s.tensor := rfl
@[simp] theorem State.store_trv (s : State) (k : Nat) (bs : List Byte) : (s.store k bs).trv = s.trv := rfl
@[simp] theorem State.store_det (s : State) (k : Nat) (bs : List Byte) : (s.store k bs).det = s.det := rfl
@[simp] theorem State.store_opt (s : State) (k : Nat) (bs : List Byte) : (s.store k bs).opt = s.opt := rfl
@[simp] theorem State.store_col (s : State) (k : Nat) (bs : List Byte) : (s.store k bs).col = s.col := rfl
@[simp] theorem State.store_ports (s : State) (k : Nat) (bs : List Byte) : (s.store k bs).ports = s.ports := rfl
@[simp] theorem State.store_rope (s : State) (k : Nat) (bs : List Byte) : (s.store k bs).rope = s.rope := rfl

@[simp] theorem State.withPending_pending (s : State) (q : List Instr) : (s.withPending q).pending = q := rfl
@[simp] theorem State.withPending_regs (s : State) (q : List Instr) : (s.withPending q).regs = s.regs := rfl
@[simp] theorem State.withPending_mem (s : State) (q : List Instr) : (s.withPending q).mem = s.mem := rfl
@[simp] theorem State.withPending_a0 (s : State) (q : List Instr) : (s.withPending q).a0 = s.a0 := rfl
@[simp] theorem State.withPending_time (s : State) (q : List Instr) : (s.withPending q).time = s.time := rfl
@[simp] theorem State.withPending_freeCtr (s : State) (q : List Instr) : (s.withPending q).freeCtr = s.freeCtr := rfl
@[simp] theorem State.withPending_out (s : State) (q : List Instr) : (s.withPending q).out = s.out := rfl
@[simp] theorem State.withPending_rails (s : State) (q : List Instr) : (s.withPending q).rails = s.rails := rfl
@[simp] theorem State.withPending_clocks (s : State) (q : List Instr) : (s.withPending q).clocks = s.clocks := rfl
@[simp] theorem State.withPending_doms (s : State) (q : List Instr) : (s.withPending q).doms = s.doms := rfl
@[simp] theorem State.withPending_boot (s : State) (q : List Instr) : (s.withPending q).boot = s.boot := rfl
@[simp] theorem State.withPending_images (s : State) (q : List Instr) : (s.withPending q).images = s.images := rfl
@[simp] theorem State.withPending_repair (s : State) (q : List Instr) : (s.withPending q).repair = s.repair := rfl
@[simp] theorem State.withPending_faults (s : State) (q : List Instr) : (s.withPending q).faults = s.faults := rfl
@[simp] theorem State.withPending_dict (s : State) (q : List Instr) : (s.withPending q).dict = s.dict := rfl
@[simp] theorem State.withPending_power (s : State) (q : List Instr) : (s.withPending q).power = s.power := rfl
@[simp] theorem State.withPending_camp (s : State) (q : List Instr) : (s.withPending q).camp = s.camp := rfl
@[simp] theorem State.withPending_pcie (s : State) (q : List Instr) : (s.withPending q).pcie = s.pcie := rfl
@[simp] theorem State.withPending_tiers (s : State) (q : List Instr) : (s.withPending q).tiers = s.tiers := rfl
@[simp] theorem State.withPending_ledge (s : State) (q : List Instr) : (s.withPending q).ledge = s.ledge := rfl
@[simp] theorem State.withPending_restart (s : State) (q : List Instr) : (s.withPending q).restart = s.restart := rfl
@[simp] theorem State.withPending_job (s : State) (q : List Instr) : (s.withPending q).job = s.job := rfl
@[simp] theorem State.withPending_input (s : State) (q : List Instr) : (s.withPending q).input = s.input := rfl
@[simp] theorem State.withPending_kv (s : State) (q : List Instr) : (s.withPending q).kv = s.kv := rfl
@[simp] theorem State.withPending_tensor (s : State) (q : List Instr) : (s.withPending q).tensor = s.tensor := rfl
@[simp] theorem State.withPending_trv (s : State) (q : List Instr) : (s.withPending q).trv = s.trv := rfl
@[simp] theorem State.withPending_det (s : State) (q : List Instr) : (s.withPending q).det = s.det := rfl
@[simp] theorem State.withPending_opt (s : State) (q : List Instr) : (s.withPending q).opt = s.opt := rfl
@[simp] theorem State.withPending_col (s : State) (q : List Instr) : (s.withPending q).col = s.col := rfl
@[simp] theorem State.withPending_ports (s : State) (q : List Instr) : (s.withPending q).ports = s.ports := rfl
@[simp] theorem State.withPending_rope (s : State) (q : List Instr) : (s.withPending q).rope = s.rope := rfl

@[simp] theorem State.setPcie_pending (s : State) (x : PcieState) : (s.setPcie x).pending = s.pending := rfl
@[simp] theorem State.setPcie_regs (s : State) (x : PcieState) : (s.setPcie x).regs = s.regs := rfl
@[simp] theorem State.setPcie_mem (s : State) (x : PcieState) : (s.setPcie x).mem = s.mem := rfl
@[simp] theorem State.setPcie_a0 (s : State) (x : PcieState) : (s.setPcie x).a0 = s.a0 := rfl
@[simp] theorem State.setPcie_time (s : State) (x : PcieState) : (s.setPcie x).time = s.time := rfl
@[simp] theorem State.setPcie_freeCtr (s : State) (x : PcieState) : (s.setPcie x).freeCtr = s.freeCtr := rfl
@[simp] theorem State.setPcie_out (s : State) (x : PcieState) : (s.setPcie x).out = s.out := rfl
@[simp] theorem State.setPcie_rails (s : State) (x : PcieState) : (s.setPcie x).rails = s.rails := rfl
@[simp] theorem State.setPcie_clocks (s : State) (x : PcieState) : (s.setPcie x).clocks = s.clocks := rfl
@[simp] theorem State.setPcie_doms (s : State) (x : PcieState) : (s.setPcie x).doms = s.doms := rfl
@[simp] theorem State.setPcie_boot (s : State) (x : PcieState) : (s.setPcie x).boot = s.boot := rfl
@[simp] theorem State.setPcie_images (s : State) (x : PcieState) : (s.setPcie x).images = s.images := rfl
@[simp] theorem State.setPcie_repair (s : State) (x : PcieState) : (s.setPcie x).repair = s.repair := rfl
@[simp] theorem State.setPcie_faults (s : State) (x : PcieState) : (s.setPcie x).faults = s.faults := rfl
@[simp] theorem State.setPcie_dict (s : State) (x : PcieState) : (s.setPcie x).dict = s.dict := rfl
@[simp] theorem State.setPcie_power (s : State) (x : PcieState) : (s.setPcie x).power = s.power := rfl
@[simp] theorem State.setPcie_camp (s : State) (x : PcieState) : (s.setPcie x).camp = s.camp := rfl
@[simp] theorem State.setPcie_pcie (s : State) (x : PcieState) : (s.setPcie x).pcie = x := rfl
@[simp] theorem State.setPcie_tiers (s : State) (x : PcieState) : (s.setPcie x).tiers = s.tiers := rfl
@[simp] theorem State.setPcie_ledge (s : State) (x : PcieState) : (s.setPcie x).ledge = s.ledge := rfl
@[simp] theorem State.setPcie_restart (s : State) (x : PcieState) : (s.setPcie x).restart = s.restart := rfl
@[simp] theorem State.setPcie_job (s : State) (x : PcieState) : (s.setPcie x).job = s.job := rfl
@[simp] theorem State.setPcie_input (s : State) (x : PcieState) : (s.setPcie x).input = s.input := rfl
@[simp] theorem State.setPcie_kv (s : State) (x : PcieState) : (s.setPcie x).kv = s.kv := rfl
@[simp] theorem State.setPcie_tensor (s : State) (x : PcieState) : (s.setPcie x).tensor = s.tensor := rfl
@[simp] theorem State.setPcie_trv (s : State) (x : PcieState) : (s.setPcie x).trv = s.trv := rfl
@[simp] theorem State.setPcie_det (s : State) (x : PcieState) : (s.setPcie x).det = s.det := rfl
@[simp] theorem State.setPcie_opt (s : State) (x : PcieState) : (s.setPcie x).opt = s.opt := rfl
@[simp] theorem State.setPcie_col (s : State) (x : PcieState) : (s.setPcie x).col = s.col := rfl
@[simp] theorem State.setPcie_ports (s : State) (x : PcieState) : (s.setPcie x).ports = s.ports := rfl
@[simp] theorem State.setPcie_rope (s : State) (x : PcieState) : (s.setPcie x).rope = s.rope := rfl

@[simp] theorem State.setKv_pending (s : State) (x : KvState) : (s.setKv x).pending = s.pending := rfl
@[simp] theorem State.setKv_regs (s : State) (x : KvState) : (s.setKv x).regs = s.regs := rfl
@[simp] theorem State.setKv_mem (s : State) (x : KvState) : (s.setKv x).mem = s.mem := rfl
@[simp] theorem State.setKv_a0 (s : State) (x : KvState) : (s.setKv x).a0 = s.a0 := rfl
@[simp] theorem State.setKv_time (s : State) (x : KvState) : (s.setKv x).time = s.time := rfl
@[simp] theorem State.setKv_freeCtr (s : State) (x : KvState) : (s.setKv x).freeCtr = s.freeCtr := rfl
@[simp] theorem State.setKv_out (s : State) (x : KvState) : (s.setKv x).out = s.out := rfl
@[simp] theorem State.setKv_rails (s : State) (x : KvState) : (s.setKv x).rails = s.rails := rfl
@[simp] theorem State.setKv_clocks (s : State) (x : KvState) : (s.setKv x).clocks = s.clocks := rfl
@[simp] theorem State.setKv_doms (s : State) (x : KvState) : (s.setKv x).doms = s.doms := rfl
@[simp] theorem State.setKv_boot (s : State) (x : KvState) : (s.setKv x).boot = s.boot := rfl
@[simp] theorem State.setKv_images (s : State) (x : KvState) : (s.setKv x).images = s.images := rfl
@[simp] theorem State.setKv_repair (s : State) (x : KvState) : (s.setKv x).repair = s.repair := rfl
@[simp] theorem State.setKv_faults (s : State) (x : KvState) : (s.setKv x).faults = s.faults := rfl
@[simp] theorem State.setKv_dict (s : State) (x : KvState) : (s.setKv x).dict = s.dict := rfl
@[simp] theorem State.setKv_power (s : State) (x : KvState) : (s.setKv x).power = s.power := rfl
@[simp] theorem State.setKv_camp (s : State) (x : KvState) : (s.setKv x).camp = s.camp := rfl
@[simp] theorem State.setKv_pcie (s : State) (x : KvState) : (s.setKv x).pcie = s.pcie := rfl
@[simp] theorem State.setKv_tiers (s : State) (x : KvState) : (s.setKv x).tiers = s.tiers := rfl
@[simp] theorem State.setKv_ledge (s : State) (x : KvState) : (s.setKv x).ledge = s.ledge := rfl
@[simp] theorem State.setKv_restart (s : State) (x : KvState) : (s.setKv x).restart = s.restart := rfl
@[simp] theorem State.setKv_job (s : State) (x : KvState) : (s.setKv x).job = s.job := rfl
@[simp] theorem State.setKv_input (s : State) (x : KvState) : (s.setKv x).input = s.input := rfl
@[simp] theorem State.setKv_kv (s : State) (x : KvState) : (s.setKv x).kv = x := rfl
@[simp] theorem State.setKv_tensor (s : State) (x : KvState) : (s.setKv x).tensor = s.tensor := rfl
@[simp] theorem State.setKv_trv (s : State) (x : KvState) : (s.setKv x).trv = s.trv := rfl
@[simp] theorem State.setKv_det (s : State) (x : KvState) : (s.setKv x).det = s.det := rfl
@[simp] theorem State.setKv_opt (s : State) (x : KvState) : (s.setKv x).opt = s.opt := rfl
@[simp] theorem State.setKv_col (s : State) (x : KvState) : (s.setKv x).col = s.col := rfl
@[simp] theorem State.setKv_ports (s : State) (x : KvState) : (s.setKv x).ports = s.ports := rfl
@[simp] theorem State.setKv_rope (s : State) (x : KvState) : (s.setKv x).rope = s.rope := rfl

@[simp] theorem State.setRestart_pending (s : State) (x : RestartState) : (s.setRestart x).pending = s.pending := rfl
@[simp] theorem State.setRestart_regs (s : State) (x : RestartState) : (s.setRestart x).regs = s.regs := rfl
@[simp] theorem State.setRestart_mem (s : State) (x : RestartState) : (s.setRestart x).mem = s.mem := rfl
@[simp] theorem State.setRestart_a0 (s : State) (x : RestartState) : (s.setRestart x).a0 = s.a0 := rfl
@[simp] theorem State.setRestart_time (s : State) (x : RestartState) : (s.setRestart x).time = s.time := rfl
@[simp] theorem State.setRestart_freeCtr (s : State) (x : RestartState) : (s.setRestart x).freeCtr = s.freeCtr := rfl
@[simp] theorem State.setRestart_out (s : State) (x : RestartState) : (s.setRestart x).out = s.out := rfl
@[simp] theorem State.setRestart_rails (s : State) (x : RestartState) : (s.setRestart x).rails = s.rails := rfl
@[simp] theorem State.setRestart_clocks (s : State) (x : RestartState) : (s.setRestart x).clocks = s.clocks := rfl
@[simp] theorem State.setRestart_doms (s : State) (x : RestartState) : (s.setRestart x).doms = s.doms := rfl
@[simp] theorem State.setRestart_boot (s : State) (x : RestartState) : (s.setRestart x).boot = s.boot := rfl
@[simp] theorem State.setRestart_images (s : State) (x : RestartState) : (s.setRestart x).images = s.images := rfl
@[simp] theorem State.setRestart_repair (s : State) (x : RestartState) : (s.setRestart x).repair = s.repair := rfl
@[simp] theorem State.setRestart_faults (s : State) (x : RestartState) : (s.setRestart x).faults = s.faults := rfl
@[simp] theorem State.setRestart_dict (s : State) (x : RestartState) : (s.setRestart x).dict = s.dict := rfl
@[simp] theorem State.setRestart_power (s : State) (x : RestartState) : (s.setRestart x).power = s.power := rfl
@[simp] theorem State.setRestart_camp (s : State) (x : RestartState) : (s.setRestart x).camp = s.camp := rfl
@[simp] theorem State.setRestart_pcie (s : State) (x : RestartState) : (s.setRestart x).pcie = s.pcie := rfl
@[simp] theorem State.setRestart_tiers (s : State) (x : RestartState) : (s.setRestart x).tiers = s.tiers := rfl
@[simp] theorem State.setRestart_ledge (s : State) (x : RestartState) : (s.setRestart x).ledge = s.ledge := rfl
@[simp] theorem State.setRestart_restart (s : State) (x : RestartState) : (s.setRestart x).restart = x := rfl
@[simp] theorem State.setRestart_job (s : State) (x : RestartState) : (s.setRestart x).job = s.job := rfl
@[simp] theorem State.setRestart_input (s : State) (x : RestartState) : (s.setRestart x).input = s.input := rfl
@[simp] theorem State.setRestart_kv (s : State) (x : RestartState) : (s.setRestart x).kv = s.kv := rfl
@[simp] theorem State.setRestart_tensor (s : State) (x : RestartState) : (s.setRestart x).tensor = s.tensor := rfl
@[simp] theorem State.setRestart_trv (s : State) (x : RestartState) : (s.setRestart x).trv = s.trv := rfl
@[simp] theorem State.setRestart_det (s : State) (x : RestartState) : (s.setRestart x).det = s.det := rfl
@[simp] theorem State.setRestart_opt (s : State) (x : RestartState) : (s.setRestart x).opt = s.opt := rfl
@[simp] theorem State.setRestart_col (s : State) (x : RestartState) : (s.setRestart x).col = s.col := rfl
@[simp] theorem State.setRestart_ports (s : State) (x : RestartState) : (s.setRestart x).ports = s.ports := rfl
@[simp] theorem State.setRestart_rope (s : State) (x : RestartState) : (s.setRestart x).rope = s.rope := rfl

@[simp] theorem State.setLedge_pending (s : State) (d : Fin 4) (x : LedgeState) : (s.setLedge d x).pending = s.pending := rfl
@[simp] theorem State.setLedge_regs (s : State) (d : Fin 4) (x : LedgeState) : (s.setLedge d x).regs = s.regs := rfl
@[simp] theorem State.setLedge_mem (s : State) (d : Fin 4) (x : LedgeState) : (s.setLedge d x).mem = s.mem := rfl
@[simp] theorem State.setLedge_a0 (s : State) (d : Fin 4) (x : LedgeState) : (s.setLedge d x).a0 = s.a0 := rfl
@[simp] theorem State.setLedge_time (s : State) (d : Fin 4) (x : LedgeState) : (s.setLedge d x).time = s.time := rfl
@[simp] theorem State.setLedge_freeCtr (s : State) (d : Fin 4) (x : LedgeState) : (s.setLedge d x).freeCtr = s.freeCtr := rfl
@[simp] theorem State.setLedge_out (s : State) (d : Fin 4) (x : LedgeState) : (s.setLedge d x).out = s.out := rfl
@[simp] theorem State.setLedge_rails (s : State) (d : Fin 4) (x : LedgeState) : (s.setLedge d x).rails = s.rails := rfl
@[simp] theorem State.setLedge_clocks (s : State) (d : Fin 4) (x : LedgeState) : (s.setLedge d x).clocks = s.clocks := rfl
@[simp] theorem State.setLedge_doms (s : State) (d : Fin 4) (x : LedgeState) : (s.setLedge d x).doms = s.doms := rfl
@[simp] theorem State.setLedge_boot (s : State) (d : Fin 4) (x : LedgeState) : (s.setLedge d x).boot = s.boot := rfl
@[simp] theorem State.setLedge_images (s : State) (d : Fin 4) (x : LedgeState) : (s.setLedge d x).images = s.images := rfl
@[simp] theorem State.setLedge_repair (s : State) (d : Fin 4) (x : LedgeState) : (s.setLedge d x).repair = s.repair := rfl
@[simp] theorem State.setLedge_faults (s : State) (d : Fin 4) (x : LedgeState) : (s.setLedge d x).faults = s.faults := rfl
@[simp] theorem State.setLedge_dict (s : State) (d : Fin 4) (x : LedgeState) : (s.setLedge d x).dict = s.dict := rfl
@[simp] theorem State.setLedge_power (s : State) (d : Fin 4) (x : LedgeState) : (s.setLedge d x).power = s.power := rfl
@[simp] theorem State.setLedge_camp (s : State) (d : Fin 4) (x : LedgeState) : (s.setLedge d x).camp = s.camp := rfl
@[simp] theorem State.setLedge_pcie (s : State) (d : Fin 4) (x : LedgeState) : (s.setLedge d x).pcie = s.pcie := rfl
@[simp] theorem State.setLedge_tiers (s : State) (d : Fin 4) (x : LedgeState) : (s.setLedge d x).tiers = s.tiers := rfl
@[simp] theorem State.setLedge_ledge (s : State) (d : Fin 4) (x : LedgeState) : (s.setLedge d x).ledge = s.ledge.set d.val x := rfl
@[simp] theorem State.setLedge_restart (s : State) (d : Fin 4) (x : LedgeState) : (s.setLedge d x).restart = s.restart := rfl
@[simp] theorem State.setLedge_job (s : State) (d : Fin 4) (x : LedgeState) : (s.setLedge d x).job = s.job := rfl
@[simp] theorem State.setLedge_input (s : State) (d : Fin 4) (x : LedgeState) : (s.setLedge d x).input = s.input := rfl
@[simp] theorem State.setLedge_kv (s : State) (d : Fin 4) (x : LedgeState) : (s.setLedge d x).kv = s.kv := rfl
@[simp] theorem State.setLedge_tensor (s : State) (d : Fin 4) (x : LedgeState) : (s.setLedge d x).tensor = s.tensor := rfl
@[simp] theorem State.setLedge_trv (s : State) (d : Fin 4) (x : LedgeState) : (s.setLedge d x).trv = s.trv := rfl
@[simp] theorem State.setLedge_det (s : State) (d : Fin 4) (x : LedgeState) : (s.setLedge d x).det = s.det := rfl
@[simp] theorem State.setLedge_opt (s : State) (d : Fin 4) (x : LedgeState) : (s.setLedge d x).opt = s.opt := rfl
@[simp] theorem State.setLedge_col (s : State) (d : Fin 4) (x : LedgeState) : (s.setLedge d x).col = s.col := rfl
@[simp] theorem State.setLedge_ports (s : State) (d : Fin 4) (x : LedgeState) : (s.setLedge d x).ports = s.ports := rfl
@[simp] theorem State.setLedge_rope (s : State) (d : Fin 4) (x : LedgeState) : (s.setLedge d x).rope = s.rope := rfl

@[simp] theorem State.setColDie_pending (s : State) (d : Fin 4) (x : ColDie) : (s.setColDie d x).pending = s.pending := rfl
@[simp] theorem State.setColDie_regs (s : State) (d : Fin 4) (x : ColDie) : (s.setColDie d x).regs = s.regs := rfl
@[simp] theorem State.setColDie_mem (s : State) (d : Fin 4) (x : ColDie) : (s.setColDie d x).mem = s.mem := rfl
@[simp] theorem State.setColDie_a0 (s : State) (d : Fin 4) (x : ColDie) : (s.setColDie d x).a0 = s.a0 := rfl
@[simp] theorem State.setColDie_time (s : State) (d : Fin 4) (x : ColDie) : (s.setColDie d x).time = s.time := rfl
@[simp] theorem State.setColDie_freeCtr (s : State) (d : Fin 4) (x : ColDie) : (s.setColDie d x).freeCtr = s.freeCtr := rfl
@[simp] theorem State.setColDie_out (s : State) (d : Fin 4) (x : ColDie) : (s.setColDie d x).out = s.out := rfl
@[simp] theorem State.setColDie_rails (s : State) (d : Fin 4) (x : ColDie) : (s.setColDie d x).rails = s.rails := rfl
@[simp] theorem State.setColDie_clocks (s : State) (d : Fin 4) (x : ColDie) : (s.setColDie d x).clocks = s.clocks := rfl
@[simp] theorem State.setColDie_doms (s : State) (d : Fin 4) (x : ColDie) : (s.setColDie d x).doms = s.doms := rfl
@[simp] theorem State.setColDie_boot (s : State) (d : Fin 4) (x : ColDie) : (s.setColDie d x).boot = s.boot := rfl
@[simp] theorem State.setColDie_images (s : State) (d : Fin 4) (x : ColDie) : (s.setColDie d x).images = s.images := rfl
@[simp] theorem State.setColDie_repair (s : State) (d : Fin 4) (x : ColDie) : (s.setColDie d x).repair = s.repair := rfl
@[simp] theorem State.setColDie_faults (s : State) (d : Fin 4) (x : ColDie) : (s.setColDie d x).faults = s.faults := rfl
@[simp] theorem State.setColDie_dict (s : State) (d : Fin 4) (x : ColDie) : (s.setColDie d x).dict = s.dict := rfl
@[simp] theorem State.setColDie_power (s : State) (d : Fin 4) (x : ColDie) : (s.setColDie d x).power = s.power := rfl
@[simp] theorem State.setColDie_camp (s : State) (d : Fin 4) (x : ColDie) : (s.setColDie d x).camp = s.camp := rfl
@[simp] theorem State.setColDie_pcie (s : State) (d : Fin 4) (x : ColDie) : (s.setColDie d x).pcie = s.pcie := rfl
@[simp] theorem State.setColDie_tiers (s : State) (d : Fin 4) (x : ColDie) : (s.setColDie d x).tiers = s.tiers := rfl
@[simp] theorem State.setColDie_ledge (s : State) (d : Fin 4) (x : ColDie) : (s.setColDie d x).ledge = s.ledge := rfl
@[simp] theorem State.setColDie_restart (s : State) (d : Fin 4) (x : ColDie) : (s.setColDie d x).restart = s.restart := rfl
@[simp] theorem State.setColDie_job (s : State) (d : Fin 4) (x : ColDie) : (s.setColDie d x).job = s.job := rfl
@[simp] theorem State.setColDie_input (s : State) (d : Fin 4) (x : ColDie) : (s.setColDie d x).input = s.input := rfl
@[simp] theorem State.setColDie_kv (s : State) (d : Fin 4) (x : ColDie) : (s.setColDie d x).kv = s.kv := rfl
@[simp] theorem State.setColDie_tensor (s : State) (d : Fin 4) (x : ColDie) : (s.setColDie d x).tensor = s.tensor := rfl
@[simp] theorem State.setColDie_trv (s : State) (d : Fin 4) (x : ColDie) : (s.setColDie d x).trv = s.trv := rfl
@[simp] theorem State.setColDie_det (s : State) (d : Fin 4) (x : ColDie) : (s.setColDie d x).det = s.det := rfl
@[simp] theorem State.setColDie_opt (s : State) (d : Fin 4) (x : ColDie) : (s.setColDie d x).opt = s.opt := rfl
@[simp] theorem State.setColDie_col (s : State) (d : Fin 4) (x : ColDie) : (s.setColDie d x).col = s.col.set d.val x := rfl
@[simp] theorem State.setColDie_ports (s : State) (d : Fin 4) (x : ColDie) : (s.setColDie d x).ports = s.ports := rfl
@[simp] theorem State.setColDie_rope (s : State) (d : Fin 4) (x : ColDie) : (s.setColDie d x).rope = s.rope := rfl

@[simp] theorem State.setRopeDie_pending (s : State) (d : Fin 4) (x : RopeDie) : (s.setRopeDie d x).pending = s.pending := rfl
@[simp] theorem State.setRopeDie_regs (s : State) (d : Fin 4) (x : RopeDie) : (s.setRopeDie d x).regs = s.regs := rfl
@[simp] theorem State.setRopeDie_mem (s : State) (d : Fin 4) (x : RopeDie) : (s.setRopeDie d x).mem = s.mem := rfl
@[simp] theorem State.setRopeDie_a0 (s : State) (d : Fin 4) (x : RopeDie) : (s.setRopeDie d x).a0 = s.a0 := rfl
@[simp] theorem State.setRopeDie_time (s : State) (d : Fin 4) (x : RopeDie) : (s.setRopeDie d x).time = s.time := rfl
@[simp] theorem State.setRopeDie_freeCtr (s : State) (d : Fin 4) (x : RopeDie) : (s.setRopeDie d x).freeCtr = s.freeCtr := rfl
@[simp] theorem State.setRopeDie_out (s : State) (d : Fin 4) (x : RopeDie) : (s.setRopeDie d x).out = s.out := rfl
@[simp] theorem State.setRopeDie_rails (s : State) (d : Fin 4) (x : RopeDie) : (s.setRopeDie d x).rails = s.rails := rfl
@[simp] theorem State.setRopeDie_clocks (s : State) (d : Fin 4) (x : RopeDie) : (s.setRopeDie d x).clocks = s.clocks := rfl
@[simp] theorem State.setRopeDie_doms (s : State) (d : Fin 4) (x : RopeDie) : (s.setRopeDie d x).doms = s.doms := rfl
@[simp] theorem State.setRopeDie_boot (s : State) (d : Fin 4) (x : RopeDie) : (s.setRopeDie d x).boot = s.boot := rfl
@[simp] theorem State.setRopeDie_images (s : State) (d : Fin 4) (x : RopeDie) : (s.setRopeDie d x).images = s.images := rfl
@[simp] theorem State.setRopeDie_repair (s : State) (d : Fin 4) (x : RopeDie) : (s.setRopeDie d x).repair = s.repair := rfl
@[simp] theorem State.setRopeDie_faults (s : State) (d : Fin 4) (x : RopeDie) : (s.setRopeDie d x).faults = s.faults := rfl
@[simp] theorem State.setRopeDie_dict (s : State) (d : Fin 4) (x : RopeDie) : (s.setRopeDie d x).dict = s.dict := rfl
@[simp] theorem State.setRopeDie_power (s : State) (d : Fin 4) (x : RopeDie) : (s.setRopeDie d x).power = s.power := rfl
@[simp] theorem State.setRopeDie_camp (s : State) (d : Fin 4) (x : RopeDie) : (s.setRopeDie d x).camp = s.camp := rfl
@[simp] theorem State.setRopeDie_pcie (s : State) (d : Fin 4) (x : RopeDie) : (s.setRopeDie d x).pcie = s.pcie := rfl
@[simp] theorem State.setRopeDie_tiers (s : State) (d : Fin 4) (x : RopeDie) : (s.setRopeDie d x).tiers = s.tiers := rfl
@[simp] theorem State.setRopeDie_ledge (s : State) (d : Fin 4) (x : RopeDie) : (s.setRopeDie d x).ledge = s.ledge := rfl
@[simp] theorem State.setRopeDie_restart (s : State) (d : Fin 4) (x : RopeDie) : (s.setRopeDie d x).restart = s.restart := rfl
@[simp] theorem State.setRopeDie_job (s : State) (d : Fin 4) (x : RopeDie) : (s.setRopeDie d x).job = s.job := rfl
@[simp] theorem State.setRopeDie_input (s : State) (d : Fin 4) (x : RopeDie) : (s.setRopeDie d x).input = s.input := rfl
@[simp] theorem State.setRopeDie_kv (s : State) (d : Fin 4) (x : RopeDie) : (s.setRopeDie d x).kv = s.kv := rfl
@[simp] theorem State.setRopeDie_tensor (s : State) (d : Fin 4) (x : RopeDie) : (s.setRopeDie d x).tensor = s.tensor := rfl
@[simp] theorem State.setRopeDie_trv (s : State) (d : Fin 4) (x : RopeDie) : (s.setRopeDie d x).trv = s.trv := rfl
@[simp] theorem State.setRopeDie_det (s : State) (d : Fin 4) (x : RopeDie) : (s.setRopeDie d x).det = s.det := rfl
@[simp] theorem State.setRopeDie_opt (s : State) (d : Fin 4) (x : RopeDie) : (s.setRopeDie d x).opt = s.opt := rfl
@[simp] theorem State.setRopeDie_col (s : State) (d : Fin 4) (x : RopeDie) : (s.setRopeDie d x).col = s.col := rfl
@[simp] theorem State.setRopeDie_ports (s : State) (d : Fin 4) (x : RopeDie) : (s.setRopeDie d x).ports = s.ports := rfl
@[simp] theorem State.setRopeDie_rope (s : State) (d : Fin 4) (x : RopeDie) : (s.setRopeDie d x).rope = s.rope.set d.val x := rfl

@[simp] theorem State.setPort_pending (s : State) (p : Fin 16) (x : RopePort) : (s.setPort p x).pending = s.pending := rfl
@[simp] theorem State.setPort_regs (s : State) (p : Fin 16) (x : RopePort) : (s.setPort p x).regs = s.regs := rfl
@[simp] theorem State.setPort_mem (s : State) (p : Fin 16) (x : RopePort) : (s.setPort p x).mem = s.mem := rfl
@[simp] theorem State.setPort_a0 (s : State) (p : Fin 16) (x : RopePort) : (s.setPort p x).a0 = s.a0 := rfl
@[simp] theorem State.setPort_time (s : State) (p : Fin 16) (x : RopePort) : (s.setPort p x).time = s.time := rfl
@[simp] theorem State.setPort_freeCtr (s : State) (p : Fin 16) (x : RopePort) : (s.setPort p x).freeCtr = s.freeCtr := rfl
@[simp] theorem State.setPort_out (s : State) (p : Fin 16) (x : RopePort) : (s.setPort p x).out = s.out := rfl
@[simp] theorem State.setPort_rails (s : State) (p : Fin 16) (x : RopePort) : (s.setPort p x).rails = s.rails := rfl
@[simp] theorem State.setPort_clocks (s : State) (p : Fin 16) (x : RopePort) : (s.setPort p x).clocks = s.clocks := rfl
@[simp] theorem State.setPort_doms (s : State) (p : Fin 16) (x : RopePort) : (s.setPort p x).doms = s.doms := rfl
@[simp] theorem State.setPort_boot (s : State) (p : Fin 16) (x : RopePort) : (s.setPort p x).boot = s.boot := rfl
@[simp] theorem State.setPort_images (s : State) (p : Fin 16) (x : RopePort) : (s.setPort p x).images = s.images := rfl
@[simp] theorem State.setPort_repair (s : State) (p : Fin 16) (x : RopePort) : (s.setPort p x).repair = s.repair := rfl
@[simp] theorem State.setPort_faults (s : State) (p : Fin 16) (x : RopePort) : (s.setPort p x).faults = s.faults := rfl
@[simp] theorem State.setPort_dict (s : State) (p : Fin 16) (x : RopePort) : (s.setPort p x).dict = s.dict := rfl
@[simp] theorem State.setPort_power (s : State) (p : Fin 16) (x : RopePort) : (s.setPort p x).power = s.power := rfl
@[simp] theorem State.setPort_camp (s : State) (p : Fin 16) (x : RopePort) : (s.setPort p x).camp = s.camp := rfl
@[simp] theorem State.setPort_pcie (s : State) (p : Fin 16) (x : RopePort) : (s.setPort p x).pcie = s.pcie := rfl
@[simp] theorem State.setPort_tiers (s : State) (p : Fin 16) (x : RopePort) : (s.setPort p x).tiers = s.tiers := rfl
@[simp] theorem State.setPort_ledge (s : State) (p : Fin 16) (x : RopePort) : (s.setPort p x).ledge = s.ledge := rfl
@[simp] theorem State.setPort_restart (s : State) (p : Fin 16) (x : RopePort) : (s.setPort p x).restart = s.restart := rfl
@[simp] theorem State.setPort_job (s : State) (p : Fin 16) (x : RopePort) : (s.setPort p x).job = s.job := rfl
@[simp] theorem State.setPort_input (s : State) (p : Fin 16) (x : RopePort) : (s.setPort p x).input = s.input := rfl
@[simp] theorem State.setPort_kv (s : State) (p : Fin 16) (x : RopePort) : (s.setPort p x).kv = s.kv := rfl
@[simp] theorem State.setPort_tensor (s : State) (p : Fin 16) (x : RopePort) : (s.setPort p x).tensor = s.tensor := rfl
@[simp] theorem State.setPort_trv (s : State) (p : Fin 16) (x : RopePort) : (s.setPort p x).trv = s.trv := rfl
@[simp] theorem State.setPort_det (s : State) (p : Fin 16) (x : RopePort) : (s.setPort p x).det = s.det := rfl
@[simp] theorem State.setPort_opt (s : State) (p : Fin 16) (x : RopePort) : (s.setPort p x).opt = s.opt := rfl
@[simp] theorem State.setPort_col (s : State) (p : Fin 16) (x : RopePort) : (s.setPort p x).col = s.col := rfl
@[simp] theorem State.setPort_ports (s : State) (p : Fin 16) (x : RopePort) : (s.setPort p x).ports = s.ports.set p.val x := rfl
@[simp] theorem State.setPort_rope (s : State) (p : Fin 16) (x : RopePort) : (s.setPort p x).rope = s.rope := rfl

@[simp] theorem State.setOptDie_pending (s : State) (d : Fin 4) (x : OptDie) : (s.setOptDie d x).pending = s.pending := rfl
@[simp] theorem State.setOptDie_regs (s : State) (d : Fin 4) (x : OptDie) : (s.setOptDie d x).regs = s.regs := rfl
@[simp] theorem State.setOptDie_mem (s : State) (d : Fin 4) (x : OptDie) : (s.setOptDie d x).mem = s.mem := rfl
@[simp] theorem State.setOptDie_a0 (s : State) (d : Fin 4) (x : OptDie) : (s.setOptDie d x).a0 = s.a0 := rfl
@[simp] theorem State.setOptDie_time (s : State) (d : Fin 4) (x : OptDie) : (s.setOptDie d x).time = s.time := rfl
@[simp] theorem State.setOptDie_freeCtr (s : State) (d : Fin 4) (x : OptDie) : (s.setOptDie d x).freeCtr = s.freeCtr := rfl
@[simp] theorem State.setOptDie_out (s : State) (d : Fin 4) (x : OptDie) : (s.setOptDie d x).out = s.out := rfl
@[simp] theorem State.setOptDie_rails (s : State) (d : Fin 4) (x : OptDie) : (s.setOptDie d x).rails = s.rails := rfl
@[simp] theorem State.setOptDie_clocks (s : State) (d : Fin 4) (x : OptDie) : (s.setOptDie d x).clocks = s.clocks := rfl
@[simp] theorem State.setOptDie_doms (s : State) (d : Fin 4) (x : OptDie) : (s.setOptDie d x).doms = s.doms := rfl
@[simp] theorem State.setOptDie_boot (s : State) (d : Fin 4) (x : OptDie) : (s.setOptDie d x).boot = s.boot := rfl
@[simp] theorem State.setOptDie_images (s : State) (d : Fin 4) (x : OptDie) : (s.setOptDie d x).images = s.images := rfl
@[simp] theorem State.setOptDie_repair (s : State) (d : Fin 4) (x : OptDie) : (s.setOptDie d x).repair = s.repair := rfl
@[simp] theorem State.setOptDie_faults (s : State) (d : Fin 4) (x : OptDie) : (s.setOptDie d x).faults = s.faults := rfl
@[simp] theorem State.setOptDie_dict (s : State) (d : Fin 4) (x : OptDie) : (s.setOptDie d x).dict = s.dict := rfl
@[simp] theorem State.setOptDie_power (s : State) (d : Fin 4) (x : OptDie) : (s.setOptDie d x).power = s.power := rfl
@[simp] theorem State.setOptDie_camp (s : State) (d : Fin 4) (x : OptDie) : (s.setOptDie d x).camp = s.camp := rfl
@[simp] theorem State.setOptDie_pcie (s : State) (d : Fin 4) (x : OptDie) : (s.setOptDie d x).pcie = s.pcie := rfl
@[simp] theorem State.setOptDie_tiers (s : State) (d : Fin 4) (x : OptDie) : (s.setOptDie d x).tiers = s.tiers := rfl
@[simp] theorem State.setOptDie_ledge (s : State) (d : Fin 4) (x : OptDie) : (s.setOptDie d x).ledge = s.ledge := rfl
@[simp] theorem State.setOptDie_restart (s : State) (d : Fin 4) (x : OptDie) : (s.setOptDie d x).restart = s.restart := rfl
@[simp] theorem State.setOptDie_job (s : State) (d : Fin 4) (x : OptDie) : (s.setOptDie d x).job = s.job := rfl
@[simp] theorem State.setOptDie_input (s : State) (d : Fin 4) (x : OptDie) : (s.setOptDie d x).input = s.input := rfl
@[simp] theorem State.setOptDie_kv (s : State) (d : Fin 4) (x : OptDie) : (s.setOptDie d x).kv = s.kv := rfl
@[simp] theorem State.setOptDie_tensor (s : State) (d : Fin 4) (x : OptDie) : (s.setOptDie d x).tensor = s.tensor := rfl
@[simp] theorem State.setOptDie_trv (s : State) (d : Fin 4) (x : OptDie) : (s.setOptDie d x).trv = s.trv := rfl
@[simp] theorem State.setOptDie_det (s : State) (d : Fin 4) (x : OptDie) : (s.setOptDie d x).det = s.det := rfl
@[simp] theorem State.setOptDie_opt (s : State) (d : Fin 4) (x : OptDie) : (s.setOptDie d x).opt = { s.opt with dies := s.opt.dies.set d.val x } := rfl
@[simp] theorem State.setOptDie_col (s : State) (d : Fin 4) (x : OptDie) : (s.setOptDie d x).col = s.col := rfl
@[simp] theorem State.setOptDie_ports (s : State) (d : Fin 4) (x : OptDie) : (s.setOptDie d x).ports = s.ports := rfl
@[simp] theorem State.setOptDie_rope (s : State) (d : Fin 4) (x : OptDie) : (s.setOptDie d x).rope = s.rope := rfl

@[simp] theorem State.setStep_pending (s : State) (x : StepState) : (s.setStep x).pending = s.pending := rfl
@[simp] theorem State.setStep_regs (s : State) (x : StepState) : (s.setStep x).regs = s.regs := rfl
@[simp] theorem State.setStep_mem (s : State) (x : StepState) : (s.setStep x).mem = s.mem := rfl
@[simp] theorem State.setStep_a0 (s : State) (x : StepState) : (s.setStep x).a0 = s.a0 := rfl
@[simp] theorem State.setStep_time (s : State) (x : StepState) : (s.setStep x).time = s.time := rfl
@[simp] theorem State.setStep_freeCtr (s : State) (x : StepState) : (s.setStep x).freeCtr = s.freeCtr := rfl
@[simp] theorem State.setStep_out (s : State) (x : StepState) : (s.setStep x).out = s.out := rfl
@[simp] theorem State.setStep_rails (s : State) (x : StepState) : (s.setStep x).rails = s.rails := rfl
@[simp] theorem State.setStep_clocks (s : State) (x : StepState) : (s.setStep x).clocks = s.clocks := rfl
@[simp] theorem State.setStep_doms (s : State) (x : StepState) : (s.setStep x).doms = s.doms := rfl
@[simp] theorem State.setStep_boot (s : State) (x : StepState) : (s.setStep x).boot = s.boot := rfl
@[simp] theorem State.setStep_images (s : State) (x : StepState) : (s.setStep x).images = s.images := rfl
@[simp] theorem State.setStep_repair (s : State) (x : StepState) : (s.setStep x).repair = s.repair := rfl
@[simp] theorem State.setStep_faults (s : State) (x : StepState) : (s.setStep x).faults = s.faults := rfl
@[simp] theorem State.setStep_dict (s : State) (x : StepState) : (s.setStep x).dict = s.dict := rfl
@[simp] theorem State.setStep_power (s : State) (x : StepState) : (s.setStep x).power = s.power := rfl
@[simp] theorem State.setStep_camp (s : State) (x : StepState) : (s.setStep x).camp = s.camp := rfl
@[simp] theorem State.setStep_pcie (s : State) (x : StepState) : (s.setStep x).pcie = s.pcie := rfl
@[simp] theorem State.setStep_tiers (s : State) (x : StepState) : (s.setStep x).tiers = s.tiers := rfl
@[simp] theorem State.setStep_ledge (s : State) (x : StepState) : (s.setStep x).ledge = s.ledge := rfl
@[simp] theorem State.setStep_restart (s : State) (x : StepState) : (s.setStep x).restart = s.restart := rfl
@[simp] theorem State.setStep_job (s : State) (x : StepState) : (s.setStep x).job = s.job := rfl
@[simp] theorem State.setStep_input (s : State) (x : StepState) : (s.setStep x).input = s.input := rfl
@[simp] theorem State.setStep_kv (s : State) (x : StepState) : (s.setStep x).kv = s.kv := rfl
@[simp] theorem State.setStep_tensor (s : State) (x : StepState) : (s.setStep x).tensor = s.tensor := rfl
@[simp] theorem State.setStep_trv (s : State) (x : StepState) : (s.setStep x).trv = s.trv := rfl
@[simp] theorem State.setStep_det (s : State) (x : StepState) : (s.setStep x).det = s.det := rfl
@[simp] theorem State.setStep_opt (s : State) (x : StepState) : (s.setStep x).opt = { s.opt with step := x } := rfl
@[simp] theorem State.setStep_col (s : State) (x : StepState) : (s.setStep x).col = s.col := rfl
@[simp] theorem State.setStep_ports (s : State) (x : StepState) : (s.setStep x).ports = s.ports := rfl
@[simp] theorem State.setStep_rope (s : State) (x : StepState) : (s.setStep x).rope = s.rope := rfl

@[simp] theorem State.setEnc_pending (s : State) (n : Nat) (x : EncStream) : (s.setEnc n x).pending = s.pending := rfl
@[simp] theorem State.setEnc_regs (s : State) (n : Nat) (x : EncStream) : (s.setEnc n x).regs = s.regs := rfl
@[simp] theorem State.setEnc_mem (s : State) (n : Nat) (x : EncStream) : (s.setEnc n x).mem = s.mem := rfl
@[simp] theorem State.setEnc_a0 (s : State) (n : Nat) (x : EncStream) : (s.setEnc n x).a0 = s.a0 := rfl
@[simp] theorem State.setEnc_time (s : State) (n : Nat) (x : EncStream) : (s.setEnc n x).time = s.time := rfl
@[simp] theorem State.setEnc_freeCtr (s : State) (n : Nat) (x : EncStream) : (s.setEnc n x).freeCtr = s.freeCtr := rfl
@[simp] theorem State.setEnc_out (s : State) (n : Nat) (x : EncStream) : (s.setEnc n x).out = s.out := rfl
@[simp] theorem State.setEnc_rails (s : State) (n : Nat) (x : EncStream) : (s.setEnc n x).rails = s.rails := rfl
@[simp] theorem State.setEnc_clocks (s : State) (n : Nat) (x : EncStream) : (s.setEnc n x).clocks = s.clocks := rfl
@[simp] theorem State.setEnc_doms (s : State) (n : Nat) (x : EncStream) : (s.setEnc n x).doms = s.doms := rfl
@[simp] theorem State.setEnc_boot (s : State) (n : Nat) (x : EncStream) : (s.setEnc n x).boot = s.boot := rfl
@[simp] theorem State.setEnc_images (s : State) (n : Nat) (x : EncStream) : (s.setEnc n x).images = s.images := rfl
@[simp] theorem State.setEnc_repair (s : State) (n : Nat) (x : EncStream) : (s.setEnc n x).repair = s.repair := rfl
@[simp] theorem State.setEnc_faults (s : State) (n : Nat) (x : EncStream) : (s.setEnc n x).faults = s.faults := rfl
@[simp] theorem State.setEnc_dict (s : State) (n : Nat) (x : EncStream) : (s.setEnc n x).dict = s.dict := rfl
@[simp] theorem State.setEnc_power (s : State) (n : Nat) (x : EncStream) : (s.setEnc n x).power = s.power := rfl
@[simp] theorem State.setEnc_camp (s : State) (n : Nat) (x : EncStream) : (s.setEnc n x).camp = s.camp := rfl
@[simp] theorem State.setEnc_pcie (s : State) (n : Nat) (x : EncStream) : (s.setEnc n x).pcie = s.pcie := rfl
@[simp] theorem State.setEnc_tiers (s : State) (n : Nat) (x : EncStream) : (s.setEnc n x).tiers = s.tiers := rfl
@[simp] theorem State.setEnc_ledge (s : State) (n : Nat) (x : EncStream) : (s.setEnc n x).ledge = s.ledge := rfl
@[simp] theorem State.setEnc_restart (s : State) (n : Nat) (x : EncStream) : (s.setEnc n x).restart = s.restart := rfl
@[simp] theorem State.setEnc_job (s : State) (n : Nat) (x : EncStream) : (s.setEnc n x).job = s.job := rfl
@[simp] theorem State.setEnc_input (s : State) (n : Nat) (x : EncStream) : (s.setEnc n x).input = { s.input with enc := s.input.enc.set n x } := rfl
@[simp] theorem State.setEnc_kv (s : State) (n : Nat) (x : EncStream) : (s.setEnc n x).kv = s.kv := rfl
@[simp] theorem State.setEnc_tensor (s : State) (n : Nat) (x : EncStream) : (s.setEnc n x).tensor = s.tensor := rfl
@[simp] theorem State.setEnc_trv (s : State) (n : Nat) (x : EncStream) : (s.setEnc n x).trv = s.trv := rfl
@[simp] theorem State.setEnc_det (s : State) (n : Nat) (x : EncStream) : (s.setEnc n x).det = s.det := rfl
@[simp] theorem State.setEnc_opt (s : State) (n : Nat) (x : EncStream) : (s.setEnc n x).opt = s.opt := rfl
@[simp] theorem State.setEnc_col (s : State) (n : Nat) (x : EncStream) : (s.setEnc n x).col = s.col := rfl
@[simp] theorem State.setEnc_ports (s : State) (n : Nat) (x : EncStream) : (s.setEnc n x).ports = s.ports := rfl
@[simp] theorem State.setEnc_rope (s : State) (n : Nat) (x : EncStream) : (s.setEnc n x).rope = s.rope := rfl

@[simp] theorem State.setEvals_pending (s : State) (l : List EvalReq) : (s.setEvals l).pending = s.pending := rfl
@[simp] theorem State.setEvals_regs (s : State) (l : List EvalReq) : (s.setEvals l).regs = s.regs := rfl
@[simp] theorem State.setEvals_mem (s : State) (l : List EvalReq) : (s.setEvals l).mem = s.mem := rfl
@[simp] theorem State.setEvals_a0 (s : State) (l : List EvalReq) : (s.setEvals l).a0 = s.a0 := rfl
@[simp] theorem State.setEvals_time (s : State) (l : List EvalReq) : (s.setEvals l).time = s.time := rfl
@[simp] theorem State.setEvals_freeCtr (s : State) (l : List EvalReq) : (s.setEvals l).freeCtr = s.freeCtr := rfl
@[simp] theorem State.setEvals_out (s : State) (l : List EvalReq) : (s.setEvals l).out = s.out := rfl
@[simp] theorem State.setEvals_rails (s : State) (l : List EvalReq) : (s.setEvals l).rails = s.rails := rfl
@[simp] theorem State.setEvals_clocks (s : State) (l : List EvalReq) : (s.setEvals l).clocks = s.clocks := rfl
@[simp] theorem State.setEvals_doms (s : State) (l : List EvalReq) : (s.setEvals l).doms = s.doms := rfl
@[simp] theorem State.setEvals_boot (s : State) (l : List EvalReq) : (s.setEvals l).boot = s.boot := rfl
@[simp] theorem State.setEvals_images (s : State) (l : List EvalReq) : (s.setEvals l).images = s.images := rfl
@[simp] theorem State.setEvals_repair (s : State) (l : List EvalReq) : (s.setEvals l).repair = s.repair := rfl
@[simp] theorem State.setEvals_faults (s : State) (l : List EvalReq) : (s.setEvals l).faults = s.faults := rfl
@[simp] theorem State.setEvals_dict (s : State) (l : List EvalReq) : (s.setEvals l).dict = s.dict := rfl
@[simp] theorem State.setEvals_power (s : State) (l : List EvalReq) : (s.setEvals l).power = s.power := rfl
@[simp] theorem State.setEvals_camp (s : State) (l : List EvalReq) : (s.setEvals l).camp = s.camp := rfl
@[simp] theorem State.setEvals_pcie (s : State) (l : List EvalReq) : (s.setEvals l).pcie = s.pcie := rfl
@[simp] theorem State.setEvals_tiers (s : State) (l : List EvalReq) : (s.setEvals l).tiers = s.tiers := rfl
@[simp] theorem State.setEvals_ledge (s : State) (l : List EvalReq) : (s.setEvals l).ledge = s.ledge := rfl
@[simp] theorem State.setEvals_restart (s : State) (l : List EvalReq) : (s.setEvals l).restart = s.restart := rfl
@[simp] theorem State.setEvals_job (s : State) (l : List EvalReq) : (s.setEvals l).job = { s.job with evals := l } := rfl
@[simp] theorem State.setEvals_input (s : State) (l : List EvalReq) : (s.setEvals l).input = s.input := rfl
@[simp] theorem State.setEvals_kv (s : State) (l : List EvalReq) : (s.setEvals l).kv = s.kv := rfl
@[simp] theorem State.setEvals_tensor (s : State) (l : List EvalReq) : (s.setEvals l).tensor = s.tensor := rfl
@[simp] theorem State.setEvals_trv (s : State) (l : List EvalReq) : (s.setEvals l).trv = s.trv := rfl
@[simp] theorem State.setEvals_det (s : State) (l : List EvalReq) : (s.setEvals l).det = s.det := rfl
@[simp] theorem State.setEvals_opt (s : State) (l : List EvalReq) : (s.setEvals l).opt = s.opt := rfl
@[simp] theorem State.setEvals_col (s : State) (l : List EvalReq) : (s.setEvals l).col = s.col := rfl
@[simp] theorem State.setEvals_ports (s : State) (l : List EvalReq) : (s.setEvals l).ports = s.ports := rfl
@[simp] theorem State.setEvals_rope (s : State) (l : List EvalReq) : (s.setEvals l).rope = s.rope := rfl

end Sys2Proof.Machine
end

