-- ==== Sys2Proof/WellFormed.lean ====
section
/-! DEFINITION. Which commands the surroundings can send: every operand lies in the range that the manual gives it. exec is
total, so an ill-formed command still has a meaning; no rule speaks of it. -/

namespace Sys2Proof

open Machine

/-- A requester fits the DIE, BLOCK and INSTANCE bytes of a record (R406). -/
def Machine.Requester.ok (r : Requester) : Bool := decide (r.die < 256 ∧ r.block < 256 ∧ r.inst < 256)

/-- A device address has 48 bits (R26). -/
def addrOk (a : Nat) : Bool := decide (a < 2 ^ 48)

/-- At least one byte, within one aligned 64 B block. -/
def inBlock (a n : Nat) : Bool := decide (0 < n ∧ a % 64 + n ≤ 64)

/-- Data, where a command carries some, have the command's length. -/
def dataFits (len : Nat) (data : Option (List Byte)) : Bool :=
  match data with
  | some bs => decide (bs.length = len)
  | none => true

/-- A temperature in 1/16 °C fits the 16-bit fields that show it. -/
def tempOk (t : Int) : Bool := decide (-32768 ≤ t ∧ t < 32768)

/-- A ledge request: an offset of the die, bytes for a write, a mask of one bit per byte (R177, R184). -/
def Machine.LedgeReq.ok (q : LedgeReq) : Bool :=
  q.req.ok && decide (q.owner < 256 ∧ q.offset < ledgeSize ∧ q.mask < 2 ^ 64) && (!q.write || decide (q.data.length = 64))

/-- A frame of at most 4,198 bytes reaches a Rope port. -/
def Machine.RxFrame.ok (x : RxFrame) : Bool := decide (x.bytes.length ≤ 4198)

/-- A reach report of one device or team (R425). -/
def Machine.ReachReport.ok (r : ReachReport) : Bool :=
  decide (r.team < 2 ^ 14 ∧ r.slot < 8 ∧ r.reach < 16 ∧ r.foreign < 16 ∧ r.count < 2 ^ 32)

/-- A request frame: each field fits its bytes, and the value has at most 1,024 (R441). -/
def Machine.T1sRequest.ok (q : T1sRequest) : Bool :=
  decide (q.mac < 2 ^ 48 ∧ q.op < 256 ∧ 0 < q.seq ∧ q.seq < 65536 ∧ q.index < 65536 ∧ q.sub < 256 ∧ q.type < 256 ∧
    q.offset < 2 ^ 32 ∧ q.data.length ≤ 1024)

/-- A hart's memory operation touches one block (R374). -/
def Machine.HartOp.ok (o : HartOp) (a : Nat) : Bool :=
  match o with
  | .load n => inBlock a n
  | .store bs => inBlock a bs.length
  | .fetch n => inBlock a n
  | .cboClean => true
  | .cboFlush => true
  | .cboInval => true

/-- A plan image whose version and size fit their fields (log entry 16). -/
def Machine.Plan.ok (p : Plan) : Bool := decide (p.version < 2 ^ 16 ∧ p.size < 2 ^ 48)

/-- The operands of a command lie in their ranges. -/
def Instr.wellFormed (i : Instr) : Bool :=
  match i with
  | .registerWrite _ _ _ => true
  | .auxRailOn _ => true
  | .auxRailLoss => true
  | .mainRailOn => true
  | .mainRailLoss => true
  | .rootPllLock => true
  | .referenceLost => true
  | .clockRestart => true
  | .perstAssert => true
  | .perstRelease => true
  | .housekeepingStageEnd => true
  | .basecampStageEnd => true
  | .manifestCheck => true
  | .tokenWindowClose => true
  | .belayTraining failed => decide (failed.length ≤ 1024)
  | .ledgeMarchStage _ => true
  | .ridgeStage _ => true
  | .nearTraining _ => true
  | .moraineTraining _ => true
  | .ropeBringup => true
  | .serviceAnnounce => true
  | .stageTimeout _ => true
  | .dieReset _ => true
  | .dieResetDone => true
  | .hkRepairMapWrite _ _ => true
  | .repairFlashWrite => true
  | .nearRead r a errs => r.ok && addrOk a && decide (errs.symbols ≤ 68)
  | .nearWrite r a data => r.ok && addrOk a && decide (a % 64 = 0 ∧ data.length = 64)
  | .nearPartialWrite r a errs data => r.ok && addrOk a && decide (errs.symbols ≤ 68) && inBlock a data.length && decide (data.length < 64)
  | .moraineAccess r a len data _ => r.ok && addrOk a && inBlock a len && dataFits len data
  | .unmappedAccess r a len data => r.ok && addrOk a && inBlock a len && dataFits len data
  | .ntRetire _ frame => decide (frame < 2 ^ 20)
  | .retireCopyDone => true
  | .morRetire _ frame => decide (frame < 2 ^ 21)
  | .morRetireCopyDone => true
  | .driftCheck drifts => decide (drifts.length = 24)
  | .moraineCaseHot _ => true
  | .selfRefreshEntry _ => true
  | .selfRefreshExit _ => true
  | .selfRefreshScrubWake _ => true
  | .hostErrorCompletion r a len _ => r.ok && addrOk a && inBlock a len
  | .swapDescTake _ => true
  | .swapDescSkip _ => true
  | .swapDescDone _ => true
  | .scrubRead _ _ => true
  | .scrubOverdue _ => true
  | .calibrationTrigger _ temp => tempOk temp
  | .calibrationSteal _ => true
  | .calibrationChannelDone _ => true
  | .deliverableCompute losses => decide (losses.length = 4)
  | .contractStallRelease r => r.ok
  | .kvEnable _ => true
  | .kvAdmit _ => true
  | .kvResume _ => true
  | .kvCancel _ => true
  | .kvPreempt _ => true
  | .kvStepAllocation entering => decide (entering.length ≤ 65536)
  | .kvMoveComplete _ => true
  | .tcNop _ _ => true
  | .tcHalt _ _ => true
  | .tcFence _ _ => true
  | .waitSeq _ _ => true
  | .postSeq _ _ => true
  | .waitOwn _ _ => true
  | .tcLend _ _ => true
  | .lendReturn _ _ => true
  | .ldw _ _ => true
  | .swpw _ _ => true
  | .mm _ _ => true
  | .drain _ _ => true
  | .smax _ _ => true
  | .kvAppend _ _ => true
  | .kvSelect _ _ => true
  | .kvAttn _ _ => true
  | .kvAttnBwd _ _ => true
  | .kvMove _ _ => true
  | .tcOpComplete _ _ _ => true
  | .tcRun _ _ => true
  | .tcStop _ _ => true
  | .tcStopDone _ _ => true
  | .tcProgLimitAdvance _ _ _ => true
  | .tcWaitTimeout _ _ => true
  | .tcRemapWrite _ _ => true
  | .trvNop _ _ => true
  | .trvCopy _ _ => true
  | .trvFill _ _ => true
  | .trvFence _ _ => true
  | .trvHalt _ _ => true
  | .trvDescComplete _ _ => true
  | .trvRun _ _ => true
  | .trvStop _ _ => true
  | .trvStopDone _ _ => true
  | .trvLimitAdvance _ _ _ => true
  | .trvWaitTimeout _ _ => true
  | .fusionPublish _ _ counts => !counts.isEmpty
  | .fusionCountWrite _ _ _ _ => true
  | .ledgeModeChange _ _ => true
  | .ldgGive _ _ => true
  | .giveHeldApply _ => true
  | .ledgeAccess _ port0 port1 errs0 errs1 => port0.ok && (match port1 with | some q => q.ok && q.req == port0.req | none => true) && decide (errs0.length ≤ 4 ∧ errs1.length ≤ 4)
  | .ledgeRetry _ => true
  | .marchDestructive _ _ => true
  | .marchTransparent _ _ => true
  | .marchDone _ _ => true
  | .ledgeSoft _ _ _ => true
  | .ledgeSoftCopy _ _ _ => true
  | .ledgeFuse _ _ _ => true
  | .ledgeFuseDone _ _ => true
  | .ledgeRelease _ _ _ => true
  | .detRequest => true
  | .detRequestDone => true
  | .gradQuantise _ _ => true
  | .fallbackPublish _ _ => true
  | .entryApply _ => true
  | .passEntry _ _ => true
  | .stepMark _ => true
  | .stepEnd _ => true
  | .jobVerdict => true
  | .retractRestoreDone => true
  | .optWaitTimeout _ => true
  | .jobLoad plan => plan.ok
  | .jobEndRequest => true
  | .jobAbort => true
  | .jobEnd => true
  | .evalTake => true
  | .evalStepBoundary tokens _ _ => decide (tokens.length ≤ 1024)
  | .evalSliceError => true
  | .teamJoin _ => true
  | .joinTimeout _ => true
  | .colReduce _ => true
  | .colReduceScatter _ => true
  | .colGather _ => true
  | .colSend _ => true
  | .colRecv _ => true
  | .colVote _ => true
  | .colSwitch _ => true
  | .switchBarrierDone _ => true
  | .colReshard _ => true
  | .reshardBarrierDone _ => true
  | .colDescComplete _ _ => true
  | .reduceContrib _ _ _ _ _ bytes => decide (0 < bytes.length ∧ bytes.length ≤ 4096)
  | .normPartial _ _ _ _ => true
  | .colWaitTimeout _ => true
  | .colStop _ => true
  | .ropeRead _ x => x.ok
  | .ropeWrite _ x => x.ok
  | .ropeReduce _ x => x.ok
  | .readResp _ x => x.ok
  | .ropeAck _ x => x.ok
  | .ropeNack _ x => x.ok
  | .ropeCredit _ x => x.ok
  | .ropeLink _ x => x.ok
  | .ropeHeartbeat _ x => x.ok
  | .ropeTime _ x => x.ok
  | .ropeLane _ x => x.ok
  | .ropeHello _ x => x.ok
  | .ropeRelay _ x => x.ok
  | .neighborSolicitation _ x => x.ok
  | .creditReportTimer _ => true
  | .linkAckTimer _ => true
  | .replayTimeout _ => true
  | .reqTimeout _ _ => true
  | .pathLimit _ _ => true
  | .dedupFullResend _ _ => true
  | .helloTimer _ => true
  | .portUp _ _ => true
  | .portBringupTimeout _ => true
  | .laneFail _ _ _ => true
  | .ropeRetrain _ => true
  | .ropeRetrainDone _ _ => true
  | .timeExchange => true
  | .videoDecode => true
  | .imageDecode => true
  | .audioDecode => true
  | .videoEncode _ => true
  | .encStallResume _ => true
  | .medRequestComplete _ _ => true
  | .medDisable => true
  | .tokenize => true
  | .tokRequestComplete _ => true
  | .tokDisable => true
  | .augFill => true
  | .augRequestComplete _ => true
  | .chkStreamOpen _ _ => true
  | .chkStreamClose _ _ => true
  | .chkStateWrite _ _ _ _ => true
  | .hartRun _ => true
  | .hartIoAccess _ _ size _ => decide (size.val ≤ 3)
  | .irqEvent _ => true
  | .irqClaim _ _ _ => true
  | .irqComplete _ _ _ => true
  | .msipSet _ => true
  | .msipClear _ _ => true
  | .machineTimer _ => true
  | .mboxOpen => true
  | .dictRead => true
  | .dictWrite => true
  | .fwWrite => true
  | .fwCommit => true
  | .factoryToken => true
  | .mboxDiag => true
  | .mboxClose => true
  | .budgetRedistribute => true
  | .budgetAdopt _ => true
  | .budgetAck _ => true
  | .budgetAckLate _ => true
  | .budgetAckFatal _ => true
  | .dutyRejudge _ raw => decide (raw < 2 ^ 16)
  | .modeChange _ => true
  | .thermalLimit _ temp => tempOk temp
  | .thermalCapStep _ => true
  | .thermalClear _ temp => tempOk temp
  | .overTemperature _ temp => tempOk temp
  | .compatDuty _ temp => tempOk temp
  | .brakeAssert => true
  | .brakeRelease => true
  | .gainTrim _ raws => decide (raws.length = 5)
  | .sensorOffsetUpdate _ tref _ _ readings => tempOk tref && decide (readings.length ≤ 48) && readings.all tempOk
  | .faultRecord => true
  | .fltAck _ => true
  | .fltClear _ => true
  | .fltInject _ => true
  | .graceExpiry => true
  | .errPulseEnd => true
  | .hbEnable => true
  | .hbDisable => true
  | .hbFail => true
  | .heartbeatTick => true
  | .restartNotice _ _ => true
  | .quiesceComplete => true
  | .restartPromote _ => true
  | .restartReport r => r.ok
  | .restartTarget _ => true
  | .restoreComplete => true
  | .refillComplete => true
  | .resumeBarrierDone => true
  | .mirrorComplete => true
  | .t1sRead req => req.ok
  | .t1sWrite req => req.ok
  | .discover req => req.ok
  | .t1sUnknownOp req => req.ok
  | .keptFlashWrite => true
  | .lampIdentify _ => true
  | .readSummary _ => true
  | .tagForReplacement _ _ => true
  | .headlampReject _ _ => true
  | .headlampReply => true
  | .pcieConfigRequest _ _ => true
  | .bar0Access _ len _ _ => decide (0 < len ∧ len ≤ 8)
  | .bar2Access _ len data => decide (0 < len ∧ len ≤ 4096) && dataFits len data
  | .bar4Access _ _ _ => true
  | .pcieLinkUp _ _ _ => true
  | .pcieLinkDown => true
  | .linkWaitExpiry r a => r.ok && addrOk a
  | .completionTimeout r a => r.ok && addrOk a
  | .d3hotEntry => true
  | .d0Return => true
  | .msixSend _ _ => true
  | .nearStackHot _ loss => decide (loss < 2 ^ 32)
  | .priorityPauseFrame _ _ _ => true
  | .agreeBoundExpiry => true
  | .pinnedRecordFlashWrite => true
  | .supervisorTimer _ _ => true
  | .hartMemoryAccess _ a op _ => op.ok a.toNat
  | .pcieUnsupportedRequest _ => true

end Sys2Proof
end

