-- ==== Sys2Proof/Tests/Slice0.lean ====
section
/-! SUPPORT. The model's own tests: states that meet the hypotheses of each statement, ill-formed commands that the check
refuses, and a few commands on small states. -/

open Sys2Proof Sys2Proof.Machine

section
set_option Elab.async false

/-- The reset state with a locked root PLL. -/
def sLocked : State := { State.reset with clocks := { State.reset.clocks with pll := true } }

/-- The reset state in a phase of the boot order, both rails on. -/
def sPhase (p : BootPhase) : State :=
  { State.reset with rails := { State.reset.rails with aux := true, main := true }
                     clocks := { State.reset.clocks with pll := true }
                     doms := ⟨true, true, true, 15, 15⟩
                     boot := { State.reset.boot with phase := p } }

/-- In the token window. -/
def sToken : State := { sPhase .token with boot := { (sPhase .token).boot with windowOpen := true } }

/-- Domain 1 with a budget message in flight, adopted and late. -/
def sBudget : State := (sPhase .done).setPdom 1 ⟨some ⟨340, 300, 0, true, true⟩, none, 0, 0, 0, 0, 0, 64, 0⟩

/-- Domain 2 with a demand far below its budget. -/
def sLowDemand : State := (sPhase .done).put (.pwrDomain 2) Fld.pwrDomain_BUDGET 340

/-- A state in which every bit of one field reads 1. -/
def sWith (r : Reg) (f : Fld) : State := (sPhase .done).put r f (2 ^ f.width - 1)

/-- A corrected and a UCC event of one source. -/
def evCorrected : FaultEvent := ⟨7, .corrected, 0, 1, 0, 0x10, noNode, 0, 0, false⟩
def evUcc : FaultEvent := ⟨7, .ucc, 0, 1, 0, 0x10, noNode, 0, 0, false⟩

/-- The collector with waiting events, after it has taken a UCC event. -/
def sFaultQueue (l : List FaultEvent) : State :=
  { sPhase .done with faults := { (sPhase .done).faults with queue := l } }
def sUcc : State := (({ sPhase .done with boot := { (sPhase .done).boot with reachedS1 := true } }).writeRec evUcc false).faultSync

/-- A restart in a phase. -/
def sRestart (p : Nat) : State := (sPhase .done).put .fltRestart Fld.fltRestart_PHASE p

/-- A survivor in phase 6 whose commit record of step 9 stands at the start of the moraine tier. -/
def commitBytes : List Byte := toLe 8 9 ++ toLe 4 3 ++ zeros 44
def sSurvivor : State :=
  (((sRestart 6).put .fltRestart Fld.fltRestart_TARGET 9).put (.optCommitBase 0) Fld.optCommitBase_ADDR (16 * 2 ^ 40)).writeMem (optReq 0) optOwner
    (16 * 2 ^ 40) (commitBytes ++ toLe 8 (crc64 commitBytes))

/-- The device past stage 3, its Basecamp and PCIe domains out of reset. -/
def sUp : State := { sPhase .done with doms := ⟨true, true, true, 15, 15⟩, pcie := { (sPhase .done).pcie with up := true } }
/-- A request of the management pair, with an OP of none. -/
def qT1s : T1sRequest := ⟨5, 9, 1, 0x1000, 1, 9, 0, []⟩
/-- Eight requests in hand. -/
def sHand : State := { sUp with dict := { sUp.dict with t1sHand := List.replicate 8 ⟨5, 0x81, 1, 0, 0, 0, 0, 0, []⟩ } }

/-- A request of operation `op` with a payload in the mailbox. -/
def sMbox (op : Nat) (payload : List Byte) : State :=
  let bs := toLe 8 op ++ toLe 4 payload.length ++ zeros 4 ++ payload ++ zeros 8
  ((List.range ((16 + payload.length + 7) / 8)).foldl (fun (t : State) i => t.set (.bcMboxReq (Fin.ofNat 512 i)) (BitVec.ofNat 64 (leAt bs (8 * i) 8))) (sUp.put .hkShape Fld.hkShape_SVC_LEVEL 1)).put
    .bcMboxCtrl Fld.bcMboxCtrl_GO 1
/-- The mailbox open. -/
def sOpen (op : Nat) (payload : List Byte) : State := { sMbox op payload with camp := { (sMbox op payload).camp with mboxOpen := true } }

/-- Hart 1 runs, and the caches hold a modified line of the near tier. -/
def sHart : State := { sUp.put .bcHart Fld.bcHart_RUN 2 with camp := { sUp.camp with cache := [⟨64, List.replicate 64 5, true, some 1⟩] } }

/-- Source 5 waits, enabled for machine mode of hart 1. -/
def sIrq : State := sUp.set (.bcIrqRoute 5) (fput (fput (fput (fput 0 Fld.bcIrqRoute_EN 1) Fld.bcIrqRoute_PEND 1) Fld.bcIrqRoute_HART 1) Fld.bcIrqRoute_PRIO 3)

/-- Memory space enabled, past stage 3. -/
def sBar : State := { sUp with pcie := { sUp.pcie with memEnable := true } }

/-- Aperture 1 enabled onto the moraine tier, aperture 0 onto the near tier. -/
def sAperture : State := ((sBar.put (apertureOf (2 ^ 32)) Fld.bcHapt_EN 1).put (apertureOf (2 ^ 32)) Fld.bcHapt_BASE (morBase / 2 ^ 32)).put (apertureOf 0) Fld.bcHapt_EN 1

/-- A usable substitute base for stack 3. -/
def sRetire : State := sUp.put (.ntSubstBase 3) Fld.ntSubstBase_BASE (16 * 2 ^ 40)

/-- A job runs. -/
def sJob : State := sUp.put .bcJobStatus Fld.bcJobStatus_STATE 2
/-- Channel 3 in self-refresh. -/
def sSleep : State := { sUp with tiers := { sUp.tiers with selfRefresh := 8 } }

/-- Swap queue 2 with one descriptor of zeros submitted. -/
def sSwap : State := (sUp.put (.morSwapqBase 2) Fld.morSwapqBase_EN 1).put (.morSwapqPtr 2) Fld.morSwapqPtr_SUBMIT 1

/-- The frame manager enabled, with a table of four sequences in the moraine tier, pages in pool 0 free. -/
def sKv : State :=
  (((sUp.put .ntKvCfg Fld.ntKvCfg_EN 1).put .ntKvCfg Fld.ntKvCfg_SEQ_COUNT 4).put .ntKvSeqBase Fld.ntKvSeqBase_BASE (16 * 2 ^ 40)).put (.ntKvBook 0)
    Fld.ntKvBook_FREE 9
/-- Sequence 1 in a state, of a class. -/
def sSeq (st cls : Nat) : State := (sKv.seqPut 1 18 1 st).seqPut 1 16 1 cls

/-- A move of page 0 of sequence 0 on queue 2 whose descriptor has ended. -/
def mvEnd : KvMove := ⟨0, 2, 0, 0, 0, 0, 0, 0, 0, 1, 0⟩
def sMove (st : Nat) : State := ({ sKv with kv := { sKv.kv with moves := [mvEnd] } }).writeMem kvReq 0 25 (toLe 1 st)

/-- Sequence 1 swapped out, one page of one layer in the host pool, and no near frame free. -/
def sSwapped : State :=
  (((((sSeq 3 2).put (.ntKvBook 0) Fld.ntKvBook_FREE 0).seqPut 1 4 2 1).seqPut 1 8 8 (17 * 2 ^ 40))).writeMem kvReq 0 (17 * 2 ^ 40)
    (toLe 8 ({ gen := 1, tier := 3, fmt := 0, full := true, moving := false, frame := 0 } : Pte).toNat)

/-- Sequence 1 swapped out, without pages, as RESUME takes it up. -/
def sNoPages : State := sSeq 3 2
def sResumed : State := sNoPages.setSeqState 1 4
def sBack : State := (sResumed.setSeqState 1 1).kvEvent 1 2

/-- Core 0 of die 1 runs an operation word at PC 0; the map gives every core its own number. -/
def sCore (w : Word) : State :=
  ((((sUp.put (.tcRemap 1) Fld.tcRemap_MAP 0xF9876543210).put (.tcCtrl 1 0) Fld.tcCtrl_RUN 1).set (.tcProg 1 0 0) w).put (.tcProgLimit 1 0)
    Fld.tcProgLimit_INDEX 1)
/-- The operation word of an opcode, flags and operands. -/
def opWord (op flags a b c : Nat) : Word := BitVec.ofNat 64 (op * 2 ^ 56 + flags * 2 ^ 48 + a * 2 ^ 32 + b * 2 ^ 16 + c)

/-- A tile slot of a format and of 64-element rows and columns, at the start of the ledge die. -/
def slotWord (kind fmt rows cols : Nat) : Word := BitVec.ofNat 64 (kind * 2 ^ 60 + fmt * 2 ^ 56 + rows * 2 ^ 44 + cols * 2 ^ 36)
/-- The core with the first bank of the ledge its own and slot 0 an FP8 tile of 256 rows, slot 1 an FP32 tile of 64 columns; slot 9 names
sequence 1 for one position. -/
def sTile (w : Word) : State :=
  let s1 := ((((sCore w).set (.ldgOwn 1 0) 0).set (.tcSlot 1 0 0 0) (slotWord 1 2 4 4)).set (.tcSlot 1 0 1 0) (slotWord 1 0 4 1)).set (.tcSlot 1 0 9 0)
    (BitVec.ofNat 64 (2 * 2 ^ 60 + 1 * 2 ^ 40 + 1))
  let c := s1.tcCore 1 0
  s1.setTcCore 1 0 { c with active := ⟨true, 0, [⟨2, [], []⟩]⟩ }
/-- The hypotheses on an operation of the core of `s`, beside the ownership of what it reads. -/
def opReady (s : State) (check : State → TcInstr → TcFault) : Bool :=
  match s.tcNext 1 0 with
  | none => false
  | some i => s.tcRunning 1 0 && s.tcReady 1 0 i && (flagCheck i).isNone && (check s i).isNone
/-- Ranges within the first KiB of a ledge die whose first sub-bank the requester owns meet no foreign word. -/
theorem low_owned (s : State) (d : Fin 4) (owner : Nat) (rs : List (Nat × Nat)) (h : ∀ r ∈ rs, r.1 + r.2 ≤ 1024)
    (hp : s.pooled d = false) (ho : s.ownerOf d 0 = owner) : s.foreignHit d owner rs = none := by
  have hw : ∀ o ∈ rs.flatMap wordsOf, o < 1024 := by
    intro o ho'
    obtain ⟨r, hr, hm⟩ := List.mem_flatMap.1 ho'
    have h1 := h r hr
    unfold wordsOf at hm
    split at hm
    · cases hm
    · obtain ⟨j, hj, rfl⟩ := List.mem_map.1 hm
      have := List.mem_range.1 hj
      omega
  have hf : s.firstForeign d owner rs = none := by
    unfold State.firstForeign
    rw [List.find?_eq_none]
    intro o hm
    have h1 := hw o hm
    have h2 : (ledgeDecode false o).1 = 0 := by
      show 4 * (o / 2 ^ 22 % 48) + o / 2 ^ 20 % 4 = 0
      omega
    have h3 : s.ownerAt d o = owner := by
      unfold State.ownerAt
      rw [hp, h2, ho]
    simp [h3]
  unfold State.foreignHit
  rw [hf]

/-- The core beside an enabled frame manager: sequence 1 resident with one layer and one head, not a training one; slot 2 BF16
and slot 8 FP32 of 128 by 128, slot 3 positions, slot 4 FP32 of 128 by 64, slots 5 to 7 outputs; slot 9 names sequence 1. -/
def sKvCore (w : Word) : State :=
  let s0 := ((((sSeq 1 2).seqPut 1 4 2 1).seqPut 1 6 1 1).seqPut 1 8 8 (17 * 2 ^ 40))
  let s1 := ((((s0.put (.tcRemap 1) Fld.tcRemap_MAP 0xF9876543210).put (.tcCtrl 1 0) Fld.tcCtrl_RUN 1).set (.tcProg 1 0 0) w).put (.tcProgLimit 1 0)
    Fld.tcProgLimit_INDEX 1).set (.ldgOwn 1 0) 0
  let put := fun (t : State) (n : Fin 1024) (v : Word) => t.set (.tcSlot 1 0 n 0) v
  let s2 := put (put (put (put s1 2 (slotWord 1 1 2 2)) 3 (slotWord 1 12 2 0)) 4 (slotWord 1 1 2 2)) 5 (slotWord 1 0 2 1)
  let s3 := put (put (put s2 6 (slotWord 1 0 2 2)) 7 (slotWord 1 0 4 2)) 8 (slotWord 1 0 4 2)
  (put s3 9 (BitVec.ofNat 64 (2 * 2 ^ 60 + 1 * 2 ^ 40 + 1))).set (.tcSlot 1 0 9 1) (BitVec.ofNat 64 (2 * 2 ^ 20))

/-- An operation of opcode 0x28 in flight in core 0 of die 1. -/
def sFlight : State := (sCore 0).setTcCore 1 0 { (sCore 0).tcCore 1 0 with ops := [⟨4, 0x28, 0, 0, [], []⟩] }

/-- Engine 3 of die 1 runs, with the words of one descriptor in its ring. -/
def sEngine (ws : List Nat) : State :=
  (ws.mapIdx (fun i w => (i, w))).foldl (fun (t : State) (x : Nat × Nat) => t.set (.trvRing 1 3 0 (Fin.ofNat 16 x.1)) (BitVec.ofNat 64 x.2))
    ((sUp.put (.trvCtrl 1 3) Fld.trvCtrl_RUN 1).put (.trvLimit 1 3) Fld.trvLimit_INDEX 1)
/-- Words of a descriptor of an OP with one run of 64 bytes between moraine addresses. -/
def dwords (op : Nat) : List Nat := [op * 2 ^ 60, 16 * 2 ^ 40, 64 * 2 ^ 48 + 16 * 2 ^ 40 + 4096]

/-- Die 1's ledge with a march. -/
def sMarch (m : Option March) : State := sUp.setLedge 1 { sUp.ledgeOf 1 with march := m }
/-- A whole-word write by the owner 0x32. -/
def qLedge : LedgeReq := ⟨⟨4, 17, 0⟩, 0x32, 128, true, 2 ^ 64 - 1, List.replicate 64 3⟩

/-- In Hold, row 7 of sub-bank 2 of die 1 served by spare 0. -/
def sSpare : State := (sUp.put .hkBoot Fld.hkBoot_HOLD 1).mapSpare 1 2 0 7

/-- The detection ring at the start of the moraine tier, its first descriptor all zeros but for the bytes `x`. -/
def sDet (x : List Byte) : State :=
  (((sUp.put .hkShape Fld.hkShape_SVC_LEVEL 1).put .bcDetBase Fld.bcDetBase_EN 1).put .bcDetPtr Fld.bcDetPtr_SUBMIT 1).put .bcDetBase
    Fld.bcDetBase_BASE (16 * 2 ^ 40) |>.writeMem detReq 0x32 (16 * 2 ^ 40) x

/-- Detection work under way at descriptor 0, with its event. -/
def sDetRun : State := { sDet [] with det := some ⟨16 * 2 ^ 40, 1, true, 2, 9⟩ }
/-- The detection ring while every moraine channel is in self-refresh. -/
def sDetWait : State := { sDet [] with tiers := { (sDet []).tiers with selfRefresh := 2 ^ 256 - 1 } }
/-- A plan that asks for nothing but a shape. -/
def emptyPlan : Plan := ⟨1, [], 1, none, [], 0, [], [], [], [], [], [], [], 8, 0⟩

/-- A device ready for a load: shape valid, firmware loaded. -/
def sLoad : State :=
  let s1 := sUp.put .hkShape Fld.hkShape_SHAPE_VALID 1
  { s1 with images := { s1.images with loadedB := s1.images.loadedB.set 1 (some false) } }
/-- A plan for that device whose stage table has one chunk of one layer. -/
def smallPlan : Plan := { emptyPlan with
  shape := (sLoad.get .hkShape).toNat
  contracts := (List.range 4).map (fun t => ⟨t, 5, (sLoad.tierPeak t * 5 + 999) / 1000, 4096⟩)
  stages := toLe 2 1 ++ toLe 2 1 ++ zeros 4 ++ toLe 4 1 ++ zeros 52 ++ zeros 2 ++ toLe 2 1 ++ toLe 2 1 ++ zeros 10 }

/-- A job with STATE and records of its end. -/
def sJobEnd (st code : Nat) (opened waits : Bool) : State :=
  let s1 := sUp.put .bcJobStatus Fld.bcJobStatus_STATE st
  { s1 with job := { s1.job with endCode := code, attemptOpen := opened, endWaits := waits } }

/-- The end of a job after the cores have stopped. -/
def afterStop (s : State) : State := s.stopAll.runsOff.cutAttempt.kvEndJob
/-- One operation in flight in core 0 of die 1. -/
def sBusyEnd : State := (sJobEnd 3 33 false false).setTcCore 1 0 { (sJobEnd 3 33 false false).tcCore 1 0 with ops := [⟨0, 0, 0, 0, [], []⟩] }
/-- The end of a job with one ridge die up, at rest; and with a report that must wait for moraine. -/
def sRestEnd : State := { sJobEnd 3 33 false false with doms := ⟨true, true, true, 1, 1⟩ }
def sWaitEnd : State :=
  let s1 := sRestEnd.put .bcJobReport Fld.bcJobReport_ADDR (16 * 2 ^ 40)
  { s1 with tiers := { s1.tiers with selfRefresh := 2 ^ 256 - 1 } }
/-- The end of a job with a move left. -/
def sMoveEnd : State := { sRestEnd with kv := { sRestEnd.kv with moves := [mvEnd] } }

/-- A job in state RUNNING, ridge die 0 alone up and the leader, an attempt open, its layer table of one entry in the moraine tier. -/
def sOpt (entry : List Byte) : State :=
  let s1 : State := { sJob with doms := ⟨true, true, true, 1, 1⟩, job := { sJob.job with attemptOpen := true } }
  ((((((s1.put (.optCtrl 0) Fld.optCtrl_RUN 1).put (.optCtrl 0) Fld.optCtrl_LEADER 1).put (.optLtab 0) Fld.optLtab_COUNT 1).put (.optLtab 0) Fld.optLtab_BASE
    (16 * 2 ^ 40)).put (.optWaitLimit 0) Fld.optWaitLimit_LIMIT 9).put .hkShape Fld.hkShape_RIDGE_MASK 1).writeMem (optReq 0) optOwner (16 * 2 ^ 40) entry
/-- An entry of a mode, with a flag byte and the address of RESID; the limit of its norm is 2^30. -/
def lentry (mode flags resid : Nat) : List Byte :=
  zeros 2 ++ toLe 1 mode ++ toLe 1 flags ++ zeros 36 ++ toLe 8 resid ++ zeros 56 ++ toLe 4 (157 * 2 ^ 23) ++ zeros 20
/-- A generation of the mirror is being written. -/
def sMirrors (entry : List Byte) : State := { sOpt entry with restart := { (sOpt entry).restart with mirrorSlot := some 0 } }
/-- The engine with an entry in hand. -/
def sRun (entry : List Byte) (r : OptRun) : State := (sOpt entry).setOptDie 0 { (sOpt entry).optDie 0 with run := some r }
def run0 (phase : Nat) (total : Option Nat) : OptRun := ⟨0, phase, 0, total, 0, [], []⟩
/-- A core held by the engine, whose sub-product has some cycles left. -/
def sLoan (left : Nat) : State :=
  let s := (sOpt []).put (.tcStatus 0 0) Fld.tcStatus_LENT 1
  s.setTcCore 0 0 { s.tcCore 0 0 with ops := [⟨0, 0x06, 0, left, [], [1]⟩] }
/-- In the vote, with the verdict. -/
def sVote (v : Option Bool) : State := (sOpt (zeros 128)).setStep { (sOpt (zeros 128)).opt.step with voting := true, jobVerdict := v }
/-- Restores under way. -/
def sRestore : State := (sOpt (zeros 128)).setStep { (sOpt (zeros 128)).opt.step with restoring := true }

/-- The collective engine of die 0 admitted to team 5 as slot 0, the map of phase 0 at the start of the moraine tier with a route to node 77 by port 9, one group
of one node and one descriptor; `verified` says whether its CRC has been checked. -/
def sCol (verified : Bool) (desc : List Byte) : State :=
  let base := 16 * 2 ^ 40
  let s1 := ((((sOpt []).put (.colCtrl 0) Fld.colCtrl_RUN 1).put (.colStatus 0) Fld.colStatus_JOIN_RESULT 1).put (.colTeam 0) Fld.colTeam_TEAM 5).put
    (.colTeam 0) Fld.colTeam_MAP 0xFFFFFFFF0
  let s2 := ((s1.put (.colMap 0 0) Fld.colMap_VALID 1).put (.colMap 0 0) Fld.colMap_BASE base).put (.colWaitLimit 0) Fld.colWaitLimit_LIMIT 9
  let header := zeros 8 ++ toLe 4 1 ++ toLe 4 1 ++ toLe 4 1 ++ toLe 4 1 ++ toLe 8 (base + 104) ++ toLe 8 (base + 64) ++ toLe 8 (base + 128) ++ toLe 8 (base + 100) ++ zeros 8
  let group := toLe 4 1 ++ toLe 1 1 ++ zeros 3 ++ toLe 2 1 ++ toLe 2 1 ++ toLe 2 1 ++ zeros 2 ++ toLe 4 0 ++ zeros 4 ++ toLe 8 (base + 96)
  let s3 := s2.writeMem (optReq 0) optOwner base (header ++ group ++ toLe 4 40 ++ zeros 4 ++ toLe 8 (77 * 2 ^ 44 + 9 * 2 ^ 40 + 2 ^ 33) ++ zeros 16 ++ desc)
  if verified then s3.setColDie 0 { s3.colDie 0 with verified := [0] } else s3
/-- A descriptor of an operation with an argument, a buffer count, and 64 elements or bytes. -/
def colDesc (op arg wait : Nat) : List Byte := toLe 1 op ++ zeros 9 ++ toLe 2 arg ++ toLe 4 wait ++ zeros 24 ++ toLe 8 64 ++ zeros 16
/-- A descriptor in flight. -/
def sColRun (op : Nat) (back : Bool) : State :=
  (sCol true (colDesc op 0 0)).setColDie 0 { (sCol true (colDesc op 0 0)).colDie 0 with runs := [⟨0, colDesc op 0 0, if back then 0 else 1, back, false, 0, 0⟩], next := 1 }
/-- A unit of descriptor 3. -/
def unit3 : ColUnit := ⟨0, 3, 1, 2, 0, List.replicate 64 1⟩
/-- A JOIN that waits. -/
def sJoin : State := (sCol true []).setColDie 0 { (sCol true []).colDie 0 with joining := true }

/-- Every slot of the team has said HELLO. -/
def sAnswered : State := (List.range 9).foldl (fun (t : State) k =>
  t.setPort (Fin.ofNat 16 (portTo 0 k)) { t.port (Fin.ofNat 16 (portTo 0 k)) with hello := some (5, k, 0, 0) }) (sCol true [])

/-- Die 0 and 2 up with team port 1 and fabric port 9 up on four lanes; the two device ends are without a team. -/
def sRope : State :=
  [(1 : Fin 16), 9].foldl (fun (t : State) p => (((t.put (pStatus p) Fld.ropeStatus_STATE 2).put (pStatus p) Fld.ropeStatus_LANE_OK 15).put (pCtrl p)
    Fld.ropeCtrl_EN 1).put (pCtrl p) Fld.ropeCtrl_LANEDROP 1) sUp
/-- A frame of a type for this device, and as it arrives on a port. -/
def fr (type arg : Nat) (payload : List Byte) : RopeFrame :=
  ⟨1, type, if type ≤ 2 then 0 else if type = 3 then 1 else if type ≤ 6 then 2 else 3, 0, false, false, 77, 1, spareNode, 0, 0, 0, 0, 5, 16 * 2 ^ 40, 0, arg, 0, payload⟩
def rx (p : Fin 16) (f : RopeFrame) : RxFrame :=
  ⟨true, toBe 6 (sRope.ropeMac p (sRope.selfNode (portDie p)) p.val) ++ zeros 6 ++ toBe 2 (sRope.fld (pAddr p) Fld.ropeAddr_ETHERTYPE) ++ f.make, (0, 0)⟩
/-- An outstanding request of tag 5 of die 0. -/
def req5 (use : RopeUse) : RopeReq := ⟨use, 1, 77, 0, 0, [], 1, 0, 5, 9, 0, 0, false, false, false⟩
def sOutstanding (r : RopeReq) : State := sRope.setRopeDie 0 { sRope.ropeDie 0 with open_ := [r] }
/-- A team port with a frame to replay. -/
def sReplay (n : Nat) : State := sRope.setPort 1 { sRope.port 1 with replay := [(3, ⟨3, (fr 0xB 0 []).make, none, none⟩)], replays := n, unacked := 2 }

/-- The media units, tokenizers and generators enabled, each with one descriptor of some bytes at the start of the moraine tier. -/
def sInput (x : List Byte) : State :=
  let base := 16 * 2 ^ 40
  let s1 := ((sUp.put .medCtrl Fld.medCtrl_EN 1).put .tokCtrl Fld.tokCtrl_EN 1).put .augCtrl Fld.augCtrl_EN 1
  let s2 := [(0 : Fin 8), 1, 2, 4].foldl (fun (t : State) q => ((t.put (.medQbase q) Fld.medQbase_EN 1).put (.medQbase q) Fld.medQbase_BASE base).put
    (.medQptr q) Fld.medQptr_SUBMIT 1) s1
  let s3 := ((s2.put .tokQbase Fld.tokQbase_EN 1).put .tokQbase Fld.tokQbase_BASE base).put .tokQptr Fld.tokQptr_SUBMIT 1
  let s4 := ((s3.put .augQbase Fld.augQbase_EN 1).put .augQbase Fld.augQbase_BASE base).put .augQptr Fld.augQptr_SUBMIT 1
  s4.writeMem detReq 0x32 base x
/-- A descriptor of one draw, and one of a sample of eight bytes. -/
def augOne : List Byte := zeros 16 ++ toLe 4 1 ++ toLe 4 1 ++ zeros 8 ++ toLe 8 (16 * 2 ^ 40 + 2 ^ 20) ++ zeros 24
def tokOne : List Byte := zeros 8 ++ toLe 8 (16 * 2 ^ 40 + 2 ^ 20) ++ toLe 4 8 ++ zeros 4 ++ toLe 8 (16 * 2 ^ 40 + 2 ^ 21) ++ toLe 4 4 ++ zeros 4 ++ toLe 8 (16 * 2 ^ 40 + 2 ^ 22) ++ zeros 16
/-- A job of unit 0 of a media queue, tokenizer or generator. -/
def jobOf (status : Nat) : InputJob := ⟨1, 0, 16 * 2 ^ 40, zeros 64, 32, 0, true, status, 3, 0⟩
def sJobs (status : Nat) : State := { sUp with input := { sUp.input with media := [jobOf status], tok := [jobOf status], aug := [jobOf status] } }
/-- A frame of encode stream 2 whose last row waits for room. -/
def frameOne : EncFrame := ⟨1, 16 * 2 ^ 40, 0, true, 0, 1, 30, 0, [7], 0, 0, 0, 1, true⟩
def sStalled : State := ({ sUp with input := { sUp.input with enc := sUp.input.enc.set 2 { sUp.encOf 2 with frame := some frameOne } } }).put (.medEncOut 2)
  Fld.medEncOut_SIZE 1
/-- The same with room for its rows, and with a decode request on the engine beside the stalled frame. -/
def sCoding : State := { sStalled with input := { sStalled.input with enc := sStalled.input.enc.set 2 { sStalled.encOf 2 with
  frame := some { frameOne with stalled := false, rows := 2 } } } }
def sShared : State := { sStalled with input := { sStalled.input with media := [{ jobOf 1 with queue := 0, unit := 1, rows := 3 }] } }
/-- An encode descriptor of a small frame in the moraine tier. -/
def encOne : List Byte := zeros 8 ++ toLe 8 (16 * 2 ^ 40 + 2 ^ 20) ++ toLe 8 (16 * 2 ^ 40 + 2 ^ 21) ++ toLe 2 8 ++ toLe 2 8 ++ toLe 4 64 ++ toLe 1 1 ++ zeros 2 ++ toLe 1 51 ++
  toLe 4 1000 ++ toLe 2 30 ++ toLe 2 1 ++ zeros 12 ++ toLe 8 (16 * 2 ^ 40 + 2 ^ 22) ++ zeros 64
/-- Point engine 3 enabled and, if asked, holding a stream of two bytes. -/
def sCheck (opened held : Bool) : State :=
  let s1 := (({ sUp with input := { sUp.input with streams := [⟨4, 3, 0, [1, 2], opened⟩], held := if held then [⟨3, 4, 0⟩] else [] } }).put (chkCfg 3)
    Fld.chkPointCfg_EN 1).put (chkCfg 3) Fld.chkPointCfg_CRC64 1
  s1.put (chkCfg 3) Fld.chkPointCfg_HELD (b2n held)

/-- Every domain released, and the tensor cores and traverse engines of die 0 running. -/
def sRunning : State := ((sUp.put (.tcCtrl 0 0) Fld.tcCtrl_RUN 1).put (.trvCtrl 0 0) Fld.trvCtrl_RUN 1)

/-- The row that the block of the first worked conversion becomes (MX-FP4, nearest). -/
def rowMx : RowOut := convertRow 5 false (fun _ => .nearest) ([0x40E00000, 0x40A00000, 0xBFA66666, 0x3E99999A, 0xBE4CCCCD] ++ List.replicate 27 0)

/-- The dictionary of the worked example of R340: "(", "a", "ab", "abc" and "d". -/
def sDictionary : State :=
  ((((sUp.put .tokDict Fld.tokDict_BASE (2 ^ 28)).put .tokDict Fld.tokDict_NODES 6).put .tokIds Fld.tokIds_BYTE_HI 0xFFF).put .tokIds
    Fld.tokIds_REPL_ID 900).writeMem ⟨4, 12, 0⟩ 0 (2 ^ 44)
    ([(2 ^ 31, 1, 3, 0), (40, 0, 0, 0x28), (97, 4, 1, 0x61), (100, 0, 0, 0x64), (300, 5, 1, 0x62), (301, 0, 0, 0x63)].flatMap
      (fun x => toLe 4 x.1 ++ toLe 4 x.2.1 ++ toLe 2 x.2.2.1 ++ toLe 1 x.2.2.2 ++ zeros 5))

theorem test_memOk_reset : State.reset.memOk = true := by decide

theorem test_emptyQueue : State.reset.pending = [] ∧ State.reset.clocks.pll = false := by decide

theorem test_emptyQueue_locked : sLocked.pending = [] ∧ sLocked.clocks.pll = true := by decide

theorem test_rails : State.reset.rails.aux = false ∧ State.reset.rails.main = false ∧ (sPhase .done).rails.main = true ∧ (sPhase .done).rails.aux = true := by decide

theorem test_clocks : (sPhase .standby).rails.aux = true ∧ (sPhase .standby).clocks.pll = true ∧
    ({ sPhase .standby with clocks := { (sPhase .standby).clocks with stopped := 1 } }).clocks.stopped = 1 := by decide

theorem test_firstStages : (sPhase (.stage 1)).boot.phase = .stage 1 ∧ (sPhase (.stage 2)).boot.phase = .stage 2 ∧ (sPhase (.stage 3)).boot.phase = .stage 3 ∧
    (sPhase (.stage 1)).clocks.pll = true := by decide

theorem test_tokenWindow : sToken.boot.windowOpen = true ∧ sToken.boot.phase = .token := by decide

theorem test_stages : (sPhase (.stage 4)).boot.phase = .stage 4 ∧ (sPhase (.stage 9)).boot.phase = .stage 9 ∧ (sPhase (.rerun 4)).boot.phase = .rerun 4 ∧
    (sPhase (.rerun 9)).boot.phase = .rerun 9 ∧ (sPhase (.stage 10)).boot.heldReset = 0 := by decide

theorem test_dieReset : (1 : BitVec 4) ≠ 0 ∧ (sPhase .done).doms.hk = true ∧ (sPhase .done).noJob = true ∧ (sPhase (.stage 4)).noJob = true ∧
    ((sPhase .done).put .bcJobStatus Fld.bcJobStatus_STATE 2).noJob = false := by decide

theorem test_dieResetDone : (sPhase (.rerun 10)).boot.phase = .rerun 10 ∧ (sPhase (.rerun 10)).boot.heldReset = 0 := by decide

theorem test_repairMap : ((sPhase .done).put .hkBoot Fld.hkBoot_HOLD 1).inHold = true ∧ mapValid 0xF9876543210 = true ∧ (sPhase .done).inHold = false ∧
    mapValid 0 = false := by decide

theorem test_budgets : (sPhase .done).redistributes = true ∧ ((sPhase .done).pdom 1).msg = none ∧ (sBudget.pdom 1).msg = some ⟨340, 300, 0, true, true⟩ ∧
    (1 : Fin 5).val < (sPhase .done).power.domains.length := by decide

theorem test_budgetLowering : max (targetBudget sLowDemand.grant (powerDomains.map (fun e => sLowDemand.fld (.pwrDomain e) Fld.pwrDomain_DEMAND))
      (powerDomains.map (fun e => sLowDemand.fld (.pwrDomain e) Fld.pwrDomain_FLOOR)) (sLowDemand.isSet (.pwrDomain 2) Fld.pwrDomain_THERMAL)
      (sLowDemand.pdom 2).tcap 2) (sLowDemand.fld (.pwrDomain 2) Fld.pwrDomain_FLOOR) + 4 ≤ sLowDemand.budget 2 := by decide

theorem test_modes : (sPhase .done).doms.hk = true ∧ (sPhase .done).inHold = false ∧ (sWith .pwrCtrl Fld.pwrCtrl_CAL_FREEZE).isSet .pwrCtrl Fld.pwrCtrl_CAL_FREEZE = true ∧
    (sWith .pwrCtrl Fld.pwrCtrl_COMPAT).isSet .pwrCtrl Fld.pwrCtrl_COMPAT = true := by decide

theorem test_temperatures : (sPhase .done).tLimit 3 < 16 * 110 ∧ (16 * 20 : Int) ≤ (sPhase .done).tLimit 3 - 32 ∧
    (∀ j ∈ domainSensors (sensorDomain 3), j = 3 ∨ (sPhase .done).dieTemp j ≤ (sPhase .done).tLimit j - 32) ∧ (sPhase .done).isSet .pwrCtrl Fld.pwrCtrl_COMPAT = false ∧
    ((sPhase .done).fld .pwrTlimit Fld.pwrTlimit_T_SHUT : Int) < 16 * 200 ∧ (sPhase .done).clocks.stopped = 0 ∧
    (sWith (.pwrDomain 3) Fld.pwrDomain_THERMAL).isSet (.pwrDomain 3) Fld.pwrDomain_THERMAL = true := by decide

theorem test_compatDuty : compatDutyAt 1600 (signed 16 ((sWith .pwrCtrl Fld.pwrCtrl_COMPAT).fld .pwrTlimit Fld.pwrTlimit_LO))
    (signed 16 ((sWith .pwrCtrl Fld.pwrCtrl_COMPAT).fld .pwrTlimit Fld.pwrTlimit_HI)) < ((sWith .pwrCtrl Fld.pwrCtrl_COMPAT).pdom 1).compatDuty := by decide

theorem test_brake : ({ sPhase .done with power := { (sPhase .done).power with brakeHeld := true } }).power.brakeHeld = true ∧ (sPhase .done).power.target = none := by decide

theorem test_faultRecord : (sFaultQueue [evCorrected]).faults.queue = evCorrected :: [] ∧ (sFaultQueue [evCorrected]).faults.ring.length < 1024 ∧
    evCorrected.cls = .corrected ∧ evUcc.cls = .ucc := by decide

theorem test_faultMerge : sUcc.mergeTarget evUcc = some 0 ∧ (sUcc.faults.ring[0]?).isSome = true := by decide

theorem test_faultAck : newer 32 (1 : BitVec 32).toNat (sUcc.nextSeq + 2 ^ 32 - 1) = true ∧ newer 32 (0 : BitVec 32).toNat (sUcc.nextSeq + 2 ^ 32 - 1) = false ∧
    sUcc.faults.ring.findIdx? (fun x => x.seq == (5 : BitVec 32).toNat % 2 ^ 32) = none := by decide

theorem test_faultClear : ((sUcc.ackFaults 0).faults.ring.findIdx? (fun x => x.seq == (0 : BitVec 32).toNat % 2 ^ 32)) = some 0 ∧
    ((sUcc.ackFaults 0).faults.ring[0]?).map ((sUcc.ackFaults 0).causeGone) = some true := by decide

theorem test_graceExpiry : sUcc.oldestUnacked.map Prod.fst = some 0 ∧ (sUcc.oldestUnacked.bind Prod.snd).isSome = true ∧
    sUcc.faults.ring.findIdx? (fun x => x.unacked && x.seq == 0) = some 0 := by decide

theorem test_errPulse : (sWith .fltStatus Fld.fltStatus_PULSE).isSet .fltStatus Fld.fltStatus_PULSE = true ∧ (sWith .fltStatus Fld.fltStatus_PULSE).anyOpen = false := by decide

theorem test_restartNotice : (sPhase .done).doms.main = true ∧ newer 8 (1 : BitVec 8).toNat (sPhase .done).epoch = true := by decide

theorem test_restartPhases : (sRestart 3).restartPhase = 3 ∧ (sRestart 3).allStopped = true ∧ (sRestart 3).restart.failedNodes = [] ∧ (sRestart 4).restartPhase = 4 ∧
    (sRestart 5).restartPhase = 5 ∧ (sRestart 7).restartPhase = 7 ∧ (sRestart 8).restartPhase = 8 := by decide

theorem test_restartReports : 3 ≤ (sRestart 3).restartPhase ∧ (sRestart 5).restartPhase ≤ 5 ∧ (sRestart 5).restart.reports = [] ∧ (sRestart 5).isNodeZero = true := by decide

theorem test_survivor : sSurvivor.restartPhase = 6 ∧ sSurvivor.fld .fltRestart Fld.fltRestart_TARGET = 9 ∧ sSurvivor.busyWith sSurvivor.headDie RopeUse.isPull = false ∧
    sSurvivor.kv.moves = [] ∧ sSurvivor.restart.pulling = none ∧ sSurvivor.mustPull 9 = false ∧ (sSurvivor.commitOf 9).isSome = true := by decide +kernel

theorem test_mirror : ({ sPhase .done with restart := { (sPhase .done).restart with mirrorSlot := some 1 } }).restart.mirrorSlot = some (1 : Fin 2).val ∧
    (diesOf 15).any (fun d => (sPhase .done).busyWith d RopeUse.isMirror) = false ∧
    ({ sPhase .done with restart := { (sPhase .done).restart with mirrorSlot := some 1 } }).burstStalled (sPhase .done).mirrorReq = false := by decide

theorem test_heartbeat : (sWith .fltHb Fld.fltHb_EN).isSet .fltHb Fld.fltHb_EN = true ∧ (sWith .fltHb Fld.fltHb_EN).leads = false ∧ (sPhase .done).doms.hk = true := by decide

theorem test_inject : (sPhase .done).isSet .fltStatus Fld.fltStatus_FACTORY = false ∧ (sWith .fltStatus Fld.fltStatus_FACTORY).isSet .fltStatus Fld.fltStatus_FACTORY = true ∧
    fget (fput (fput 0 Fld.fltInject_GO 1) Fld.fltInject_CLASS 1) Fld.fltInject_GO = 1 ∧
    fget (fput (fput 0 Fld.fltInject_GO 1) Fld.fltInject_CLASS 1) Fld.fltInject_CLASS = 1 := by decide

theorem test_t1s : sUp.t1sOn = true ∧ qT1s.op ≠ 1 ∧ qT1s.op ≠ 2 ∧ qT1s.op ≠ 3 ∧ sUp.t1sRepeat qT1s = none ∧ sUp.dict.t1sHand.length < 8 := by decide

theorem test_t1s_busy : sHand.t1sOn = true ∧ sHand.t1sRepeat qT1s = none ∧ 8 ≤ sHand.dict.t1sHand.length := by decide

theorem test_t1s_repeat : (sUp.keepResponse ⟨5, 1, 0, ⟨5, 0x89, 1, 0, 0, 0, 2, 0, []⟩⟩).t1sOn = true ∧
    ((sUp.keepResponse ⟨5, 1, 0, ⟨5, 0x89, 1, 0, 0, 0, 2, 0, []⟩⟩).t1sRepeat qT1s).isSome = true := by decide

theorem test_lamp : sUp.lampOn = true ∧ (sPhase (.stage 1)).lampOn = false ∧
    ({ sUp with dict := { sUp.dict with lampReply := some ⟨0xFF, [3, 4]⟩ } }).dict.lampReply = some ⟨0xFF, [3, 4]⟩ := by decide

theorem test_mailbox : (sMbox 2 [0x34, 0x12, 1]).mboxServed = true ∧ (sMbox 2 [0x34, 0x12, 1]).mboxLen ≤ 4080 := by decide +kernel

theorem test_mailbox_read : (sMbox 2 [0x34, 0x12, 1]).mboxOp = 2 ∧ (sMbox 2 [0x34, 0x12, 1]).mboxPayload.length = 3 ∧
    ((sMbox 2 [0x34, 0x12, 1]).dictRead (leAt (sMbox 2 [0x34, 0x12, 1]).mboxPayload 0 2) (leAt (sMbox 2 [0x34, 0x12, 1]).mboxPayload 2 1)).1 ≠ .ok := by decide +kernel

theorem test_mailbox_open : (sMbox 1 (zeros 8)).mboxOp = 1 ∧ (sMbox 1 (zeros 8)).mboxPayload.length = 8 ∧ (sMbox 1 (zeros 8)).chooseEpoch 0 0 0 = none := by decide +kernel

theorem test_mailbox_close : (sOpen 8 []).mboxOp = 8 ∧ (sOpen 8 []).mboxPayload = [] ∧ (sOpen 8 []).camp.mboxOpen = true ∧ (sMbox 7 [0, 0]).camp.mboxOpen = false := by decide +kernel

theorem test_mailbox_firmware : (sMbox 4 [1, 0, 0, 0, 0, 7]).mboxOp = 4 ∧ (sMbox 4 [1, 0, 0, 0, 0, 7]).mboxPayload.length = 6 ∧ leAt (sMbox 4 [1, 0, 0, 0, 0, 7]).mboxPayload 0 1 = 1 ∧
    (sMbox 5 [2]).mboxOp = 5 ∧ (sMbox 5 [2]).mboxPayload = [2] := by decide +kernel

theorem test_mailbox_diag : (sOpen 7 [0, 0]).mboxOp = 7 ∧ (sOpen 7 [0, 0]).mboxPayload.length = 2 ∧ (sOpen 7 [0, 0]).noJob = true := by decide +kernel

theorem test_harts_io : sHart.hartRuns 1 = true ∧ (match sHart.decodeAddr regBase with | .regs _ => true | _ => false) = true ∧ regBase % 8 = 0 ∧ (regBase + 1) % 2 ≠ 0 := by decide

theorem test_harts_memory : sHart.hartDecode 64 = .device ∧ (sHart.cached 64).isSome = true := by decide

theorem test_irq : sIrq.doms.main = true ∧ sIrq.claimable 1 0 = some 5 ∧ sIrq.claimable 2 0 = none ∧ irqLine 5 = true ∧ (1 : Fin 24).val < sIrq.camp.harts.length := by decide +kernel

theorem test_irq_active : (sIrq.put (.bcIrqRoute 5) Fld.bcIrqRoute_ACTIVE 1).fld (.bcIrqRoute 5) Fld.bcIrqRoute_ACTIVE = 1 ∧
    (sIrq.put (.bcIrqRoute 5) Fld.bcIrqRoute_ACTIVE 1).fld (.bcIrqRoute 5) Fld.bcIrqRoute_HART = (1 : Fin 24).val ∧
    (sIrq.put (.bcIrqRoute 5) Fld.bcIrqRoute_ACTIVE 1).fld (.bcIrqRoute 5) Fld.bcIrqRoute_MODE = (0 : Fin 2).val := by decide

theorem test_host : sUp.linkUp = true ∧ sUp.pastStage3 = true ∧ sUp.pcie.memEnable = false ∧ sBar.linkUp = true ∧ sBar.pcie.d3hot = false ∧ sBar.pcie.memEnable = true ∧
    sBar.isSet (apertureOf 0) Fld.bcHapt_EN = false ∧ (15 : Fin 16).val < sBar.pcie.table.length ∧
    ({ sUp with boot := { sUp.boot with phase := .stage 3 } }).pastStage3 = false := by decide

theorem test_aperture : sAperture.linkUp = true ∧ sAperture.pcie.d3hot = false ∧ sAperture.pcie.memEnable = true ∧ sAperture.isSet (apertureOf (2 ^ 32)) Fld.bcHapt_EN = true ∧
    sAperture.pastApertures (sAperture.apertureAddr (2 ^ 32)) = false ∧ sAperture.decodeAddr (sAperture.apertureAddr (2 ^ 32)) = .moraine 0 0 ∧
    sAperture.apertureAddr (2 ^ 32) % 64 + 8 ≤ 64 ∧ sAperture.isBad (sAperture.moraineKey 0 0 / 64 * 64) = false ∧
    sAperture.accessWaits ⟨hostReq, 0x32, sAperture.apertureAddr (2 ^ 32), 8, none⟩ = false ∧
    sAperture.accessWaits ⟨hostReq, 0x32, sAperture.apertureAddr (2 ^ 32), 1, some [7]⟩ = false := by decide +kernel

theorem test_aperture_near : sAperture.isSet (apertureOf 0) Fld.bcHapt_EN = true ∧ sAperture.apertureAddr 0 = 0 ∧ sAperture.decodeAddr 0 = .near (sAperture.nearDecode 0).1 (sAperture.nearDecode 0).2 ∧
    sAperture.reachable (stackDie (sAperture.nearDecode 0).1) = true ∧
    ({ sAperture with tiers := { sAperture.tiers with selfRefresh := 1 } }).accessWaits ⟨hostReq, 0x32, morBase, 8, none⟩ = true := by decide +kernel

theorem test_nearRead : sUp.decodeAddr 64 = .near (sUp.nearDecode 64).1 (sUp.nearDecode 64).2 ∧ sUp.mustWait 64 = false ∧ sUp.reachable (stackDie (sUp.nearDecode 64).1) = true ∧
    sUp.onStack (sUp.nearDecode 64).1 (sUp.nearDecode 64).2 = true ∧ sUp.isBad (sUp.nearKey (sUp.nearDecode 64).1 (sUp.nearDecode 64).2) = false := by decide

theorem test_nearRead_waits : ({ sUp with tiers := { sUp.tiers with nearCopy := some ⟨(sUp.nearDecode 64).1, 0⟩ } }).mustWait 64 = true := by decide

theorem test_nearRead_bad : (sUp.setBad 64 true).isBad 64 = true := by decide

theorem test_tierAccesses : sUp.decodeAddr morBase = .moraine 0 0 ∧ sUp.mustWait morBase = false ∧ sUp.isBad (sUp.moraineKey 0 0 / 64 * 64) = false ∧
    sUp.decodeAddr (2 ^ 39) = .unmapped ∧ (List.replicate 64 (7 : Byte)).length = 64 ∧ 3 % 64 + [(7 : Byte)].length ≤ 64 := by decide

theorem test_tierAccesses_bad : (sUp.setBad (sUp.nearKey (sUp.nearDecode 64).1 (sUp.nearDecode 64).2) true).isBad (sUp.nearKey (sUp.nearDecode 64).1 (sUp.nearDecode 64).2) = true := by decide

theorem test_retire : sRetire.doms.main = true ∧ sRetire.isSet .ntRetireStatus Fld.ntRetireStatus_BUSY = false ∧ usableBase (sRetire.fld (.ntSubstBase 3) Fld.ntSubstBase_BASE) = true ∧
    usableBase (sRetire.fld (.ntSubstBase 2) Fld.ntSubstBase_BASE) = false ∧ sRetire.repair.record.near = [] ∧ retireCount sRetire.repair.record.near 3 < nearTableSize false := by decide

theorem test_retire_busy : (sRetire.put .ntRetireStatus Fld.ntRetireStatus_BUSY 1).isSet .ntRetireStatus Fld.ntRetireStatus_BUSY = true ∧
    ({ sRetire with tiers := { sRetire.tiers with nearCopy := some ⟨3, 7⟩ } }).tiers.nearCopy = some ⟨3, 7⟩ ∧ sRetire.slotAsleep (sRetire.copySlot ⟨3, 7⟩) = false ∧
    ({ sRetire with tiers := { sRetire.tiers with selfRefresh := 2 ^ 32 - 1 } }).slotAsleep (sRetire.copySlot ⟨3, 7⟩) = true ∧ sRetire.inSelfRefresh 3 = false ∧ morSubstFrame < 2 ^ 21 := by decide +kernel

theorem test_upkeep : sJob.jobRuns = true ∧ sJob.inHold = false ∧ sJob.noJob = false ∧ sUp.noJob = true ∧ sSleep.inSelfRefresh (3 : Fin 24).val = true ∧
    sUp.tiers.halved.testBit 3 = false ∧ ({ sUp with tiers := { sUp.tiers with halved := 8 } }).tiers.halved.testBit 3 = true := by decide

theorem test_scrub : sUp.scrubYields sUp.tiers.scrubNear.pos = false ∧ ({ sUp with tiers := { sUp.tiers with nearCopy := some ⟨(sUp.nearDecode 0).1, 5⟩ } }).scrubYields 0 = true ∧ sUp.tiers.scrubNear.pos + 64 < 2 ^ 39 ∧ sUp.tiers.scrubMor.overdue = false ∧
    ({ sUp with tiers := { sUp.tiers with scrubMor := ⟨0, 0, true⟩ } }).tiers.scrubMor.overdue = true := by decide

theorem test_calibration : (3 : Fin 8).val < sUp.tiers.calib.length ∧ 64 ≤ ((1000 : Int) - (sUp.calibOf 3).lastTemp).natAbs ∧
    ({ sUp.setCalib 3 { sUp.calibOf 3 with trigger := some 0 } with time := 24000000 }).tiers.nearCopy = none ∧
    (({ sUp.setCalib 3 { sUp.calibOf 3 with trigger := some 0 } with time := 24000000 }).calibOf 3).trigger = some 0 ∧ 0 + 24000000 ≤ (24000000 : Word).toNat := by decide

theorem test_hostError : (sUp.put (.bcHwin 0) Fld.bcHwin_EN 1).decodeAddr hostBase = .host 0 0 ∧ (sUp.put (.bcHwin 0) Fld.bcHwin_EN 1).isSet (.bcHwin 0) Fld.bcHwin_EN = true := by decide

theorem test_swap : sSwap.swapReady 2 = true ∧ sSwap.swapThrottled 0 0 = false ∧ sSwap.swapStatus 2 (sSwap.fld (.morSwapqPtr 2) Fld.morSwapqPtr_TAKEN) ≠ 4 ∧ (2 : Fin 8).val < sSwap.tiers.swap.length ∧
    swapValid 0 (2 ^ 16) 1 = true ∧ swapValid 0 0 0 = false := by decide

theorem test_swap_throttled : ({ sSwap with tiers := { sSwap.tiers with bandwidth := [⟨1, 0, 0, 6, 0, 0, 0⟩, TierBandwidth.idle, TierBandwidth.idle, TierBandwidth.idle] } }).swapThrottled 0 (2 ^ 16) = true := by decide

theorem test_swap_done : ({ sSwap with tiers := { sSwap.tiers with swap := sSwap.tiers.swap.set 2 (some ⟨0, 0, 2 ^ 16, 1, 0, 0⟩) } }).tiers.swap[(2 : Fin 8).val]? =
    some (some ⟨0, 0, 2 ^ 16, 1, 0, 0⟩) ∧ sSwap.swapWaits 2 ⟨0, 0, 2 ^ 16, 1, 0, 0⟩ = false := by decide

theorem test_swap_cancelled : ({ sSwap with mem := sSwap.mem.set 25 4 }).swapReady 2 = true ∧ ({ sSwap with mem := sSwap.mem.set 25 4 }).swapStatus 2 0 = 4 := by decide

theorem test_kv : sUp.doms.main = true ∧ sUp.kvOn = false ∧ sKv.kvOn = true ∧ sKv.fld .ntKvCfg Fld.ntKvCfg_SEQ_COUNT ≤ (4 : BitVec 16).toNat ∧
    sKv.seqState 1 ∉ [1, 4] ∧ (1 : BitVec 16).toNat < sKv.fld .ntKvCfg Fld.ntKvCfg_SEQ_COUNT ∧ sUp.locked .ntKvCfg = false := by decide +kernel

theorem test_kv_states : (sSeq 1 0).seqState 1 ∈ [1, 4] ∧ (sSeq 1 0).seqTrain 1 = true ∧ (sSeq 1 2).seqTrain 1 = false ∧ (sSeq 3 2).seqState 1 ∉ [0] := by decide +kernel

theorem test_kv_admit : (((sKv.seqPut 1 24 8 0).seqPut 1 0 4 0).seqPut 1 18 1 1).kv.owed = [] ∧ (((sKv.seqPut 1 24 8 0).seqPut 1 0 4 0).seqPut 1 18 1 1).kv.planned = [] ∧
    (((sKv.seqPut 1 24 8 0).seqPut 1 0 4 0).seqPut 1 18 1 1).seqsIn (fun st => st == 2 || st == 4 || st == 5) = [] ∧ sKv.seqState 1 = 0 := by decide +kernel

theorem test_kv_step : (sSeq 1 2).kvOn = true ∧ (sSeq 1 2).seqState 1 = 1 ∧ (sSeq 1 2).seqTrain 1 = false ∧ 1 ≤ (sSeq 1 2).kvSupply ∧
    (sSeq 1 2).kvMayTake 0 false = true ∧ (sSeq 1 2).kv.owed = [] ∧ (sSeq 1 2).kv.planned = [] ∧ (sSeq 1 2).kv.moves = [] ∧
    (sSeq 1 2).seqsIn (fun st => st == 2 || st == 4 || st == 5) = [] := by decide +kernel

theorem test_kv_move : (sMove 1).kv.moves.find? (fun m => m.tag == 0) = some mvEnd ∧ (sMove 1).swapStatus (Fin.ofNat 8 mvEnd.queue) mvEnd.index = 1 ∧
    (sMove 0).swapStatus (Fin.ofNat 8 mvEnd.queue) mvEnd.index = 0 := by decide +kernel

theorem test_kv_move_quiet : ((sMove 1).kvMoveEnds mvEnd 1).kv.owed = [] ∧ ((sMove 1).kvMoveEnds mvEnd 1).kv.planned = [] ∧
    ((sMove 1).kvMoveEnds mvEnd 1).seqsIn (fun st => st == 2 || st == 4 || st == 5) = [] := by decide +kernel

theorem test_kv_noRoom : State.kvMakeRoom 1 1 sSwapped.victims (sSwapped.setSeqState 1 3) = none ∧ (sSwapped.kvCancelUntaken 1) = sSwapped ∧ sSwapped.seqState 1 = 3 ∧
    ((sSwapped.seqPages 1).filter (fun x => (sSwapped.pte 1 x.1 x.2).tier == 3)).length = 1 ∧ sSwapped.kvOn = true := by decide +kernel

theorem test_kv_resume : sNoPages.seqState 1 = 3 ∧ sNoPages.kvCancelUntaken 1 = sNoPages ∧ sNoPages.seqPages 1 = [] ∧
    State.kvMakeRoom 1 0 sNoPages.victims (sNoPages.setSeqState 1 3) = some (sNoPages.setSeqState 1 3) ∧ (sNoPages.setSeqState 1 3).setSeqState 1 4 = sResumed ∧
    sResumed.seqState 1 = 4 ∧ sResumed.seqInflight 1 = 0 ∧ sResumed.seqPages 1 = [] := by decide +kernel

theorem test_kv_resume_quiet : sBack.kv.owed = [] ∧ sBack.kv.planned = [] ∧ sBack.seqsIn (fun st => st == 2 || st == 4 || st == 5) = [] := by decide +kernel

theorem test_tcIssue : (sCore (opWord 0 0 0 0 0)).tcRunning 1 0 = true ∧ (sCore (opWord 0 0 0 0 0)).tcNext 1 0 = some ⟨0, 0, 0, 0, 0⟩ ∧
    (sCore (opWord 0 0 0 0 0)).tcReady 1 0 ⟨0, 0, 0, 0, 0⟩ = true ∧ flagCheck ⟨0, 0, 0, 0, 0⟩ = none ∧ opcodeFlags 7 = none ∧ (flagCheck ⟨0, 1, 0, 0, 0⟩).isSome = true := by decide +kernel

theorem test_tcWait : (sCore (opWord 3 0 0 0 5)).tcNext 1 0 = some ⟨3, 0, 0, 0, 5⟩ ∧ (sCore (opWord 3 0 0 0 5)).tcReady 1 0 ⟨3, 0, 0, 0, 5⟩ = false ∧
    (sCore (opWord 3 0 0 0 0)).tcReady 1 0 ⟨3, 0, 0, 0, 0⟩ = true ∧ coreIx 1 0 < (sCore 0).tensor.cores.length := by decide +kernel

theorem test_ldw : opReady (sTile (opWord 0x10 0 0 0 0)) (fun s i => s.ldwCheck 1 0 i) = true ∧
    ((sTile (opWord 0x10 0 0 0 0)).tcIssued 1 0).foreignHit 1 ((sTile (opWord 0x10 0 0 0 0)).logicalOf 1 0) (((sTile (opWord 0x10 0 0 0 0)).tcIssued 1 0).groupRanges 1 0 [0]) = none := ⟨by decide +kernel, low_owned _ _ _ _ (by decide +kernel) (by decide +kernel) (by decide +kernel)⟩

theorem test_mm : opReady (sTile (opWord 0x20 0x20 0 0 0)) (fun s i => s.mmCheck 1 0 i) = true ∧
    ((sTile (opWord 0x20 0x20 0 0 0)).tcIssued 1 0).foreignHit 1 ((sTile (opWord 0x20 0x20 0 0 0)).logicalOf 1 0) (((sTile (opWord 0x20 0x20 0 0 0)).tcIssued 1 0).groupRanges 1 0 [0]) = none := ⟨by decide +kernel, low_owned _ _ _ _ (by decide +kernel) (by decide +kernel) (by decide +kernel)⟩

theorem test_drain : opReady (sTile (opWord 0x28 0 0 0 0)) (fun s i => s.drainCheck 1 0 i) = true ∧
    ((sTile (opWord 0x28 0 0 0 0)).tcIssued 1 0).foreignHit 1 ((sTile (opWord 0x28 0 0 0 0)).logicalOf 1 0) (((sTile (opWord 0x28 0 0 0 0)).tcIssued 1 0).groupRanges 1 0 [0]) = none := ⟨by decide +kernel, low_owned _ _ _ _ (by decide +kernel) (by decide +kernel) (by decide +kernel)⟩

theorem test_smax : opReady (sTile (opWord 0x30 0 0 0 1)) (fun s i => s.smaxCheck 1 0 i) = true ∧
    ((sTile (opWord 0x30 0 0 0 1)).tcIssued 1 0).foreignHit 1 ((sTile (opWord 0x30 0 0 0 1)).logicalOf 1 0)
      ((((sTile (opWord 0x30 0 0 0 1)).tcIssued 1 0).tileSlot 1 0 0).ranges ++ (List.range 256).map (fun r => ((((sTile (opWord 0x30 0 0 0 1)).tcIssued 1 0).tileSlot 1 0 1).base + r * (((sTile (opWord 0x30 0 0 0 1)).tcIssued 1 0).tileSlot 1 0 1).pitch, 8))) = none := ⟨by decide +kernel, low_owned _ _ _ _ (by decide +kernel) (by decide +kernel) (by decide +kernel)⟩

theorem test_kvAppend : opReady (sKvCore (opWord 0x40 0 9 6 6)) (fun s i => s.appendCheck 1 0 i) = true ∧
    ((sKvCore (opWord 0x40 0 9 6 6)).tcIssued 1 0).foreignHit 1 ((sKvCore (opWord 0x40 0 9 6 6)).logicalOf 1 0) ((((sKvCore (opWord 0x40 0 9 6 6)).tcIssued 1 0).tileSlot 1 0 6).ranges.take (((sKvCore (opWord 0x40 0 9 6 6)).tcIssued 1 0).kvSlot 1 0 9).nrows ++ (((sKvCore (opWord 0x40 0 9 6 6)).tcIssued 1 0).tileSlot 1 0 6).ranges.take (((sKvCore (opWord 0x40 0 9 6 6)).tcIssued 1 0).kvSlot 1 0 9).nrows) = none ∧
    ((sKvCore (opWord 0x40 0 9 6 6)).tcIssued 1 0).appendOrder (((sKvCore (opWord 0x40 0 9 6 6)).tcIssued 1 0).kvSlot 1 0 9) = true ∧ ((sKvCore (opWord 0x40 0 9 6 6)).tcIssued 1 0).appendRoom (((sKvCore (opWord 0x40 0 9 6 6)).tcIssued 1 0).kvSlot 1 0 9) = true ∧ ((sKvCore (opWord 0x40 0 9 6 6)).tcIssued 1 0).appendFormat (((sKvCore (opWord 0x40 0 9 6 6)).tcIssued 1 0).kvSlot 1 0 9) false = true ∧ ((sKvCore (opWord 0x40 0 9 6 6)).tcIssued 1 0).appendReserve (((sKvCore (opWord 0x40 0 9 6 6)).tcIssued 1 0).kvSlot 1 0 9) = true := ⟨by decide +kernel, low_owned _ _ _ _ (by decide +kernel) (by decide +kernel) (by decide +kernel), by decide +kernel⟩

theorem test_kvSelect : opReady (sKvCore (opWord 0x41 0 9 2 0)) (fun s i => s.selectCheck 1 0 i) = true ∧
    ((sKvCore (opWord 0x41 0 9 2 0)).tcIssued 1 0).foreignHit 1 ((sKvCore (opWord 0x41 0 9 2 0)).logicalOf 1 0) (((sKvCore (opWord 0x41 0 9 2 0)).tcIssued 1 0).groupRanges 1 0 [2, 3]) = none ∧
     (((sKvCore (opWord 0x41 0 9 2 0)).tcIssued 1 0).readU32s 1 0 (((sKvCore (opWord 0x41 0 9 2 0)).tcIssued 1 0).tileSlot 1 0 3)).1.foldl max 0 / 256 + 1 = 1 ∧ (((sKvCore (opWord 0x41 0 9 2 0)).tcIssued 1 0).pte 1 0 0).full = false := ⟨by decide +kernel, low_owned _ _ _ _ (by decide +kernel) (by decide +kernel) (by decide +kernel), by decide +kernel⟩

theorem test_kvAttn : opReady (sKvCore (opWord 0x42 0 9 2 4)) (fun s i => s.attnCheck 1 0 i) = true ∧
    ((sKvCore (opWord 0x42 0 9 2 4)).tcIssued 1 0).foreignHit 1 ((sKvCore (opWord 0x42 0 9 2 4)).logicalOf 1 0) (((sKvCore (opWord 0x42 0 9 2 4)).tcIssued 1 0).groupRanges 1 0 [2, 3, 4]) = none ∧
     ((sKvCore (opWord 0x42 0 9 2 4)).tcIssued 1 0).recordPages (((sKvCore (opWord 0x42 0 9 2 4)).tcIssued 1 0).kvSlot 1 0 9).record = [] := ⟨by decide +kernel, low_owned _ _ _ _ (by decide +kernel) (by decide +kernel) (by decide +kernel), by decide +kernel⟩

theorem test_kvAttnBwd : opReady (sKvCore (opWord 0x43 0 9 2 6)) (fun s i => s.bwdCheck 1 0 i) = true ∧
    ((sKvCore (opWord 0x43 0 9 2 6)).tcIssued 1 0).foreignHit 1 ((sKvCore (opWord 0x43 0 9 2 6)).logicalOf 1 0) (((sKvCore (opWord 0x43 0 9 2 6)).tcIssued 1 0).groupRanges 1 0 [2, 3, 4, 5, 6, 7, 8]) = none ∧
     ((sKvCore (opWord 0x43 0 9 2 6)).tcIssued 1 0).recordPages (((sKvCore (opWord 0x43 0 9 2 6)).tcIssued 1 0).kvSlot 1 0 9).record = [] := ⟨by decide +kernel, low_owned _ _ _ _ (by decide +kernel) (by decide +kernel) (by decide +kernel), by decide +kernel⟩

theorem test_kvMove : opReady ((sKvCore (opWord 0x44 0 9 0 1)).writeMem kvReq 0 (17 * 2 ^ 40) (toLe 8 ({ gen := 0, tier := 1, fmt := 0, full := false, moving := false, frame := 0 } : Pte).toNat)) (fun s i => s.moveCheck 1 0 i) = true ∧ (((sKvCore (opWord 0x44 0 9 0 1)).writeMem kvReq 0 (17 * 2 ^ 40) (toLe 8 ({ gen := 0, tier := 1, fmt := 0, full := false, moving := false, frame := 0 } : Pte).toNat)).tcIssued 1 0).seqTrain 1 = false ∧
    (moveList ((((sKvCore (opWord 0x44 0 9 0 1)).writeMem kvReq 0 (17 * 2 ^ 40) (toLe 8 ({ gen := 0, tier := 1, fmt := 0, full := false, moving := false, frame := 0 } : Pte).toNat)).tcIssued 1 0).kvSlot 1 0 9) 1).all (fun m => ((((sKvCore (opWord 0x44 0 9 0 1)).writeMem kvReq 0 (17 * 2 ^ 40) (toLe 8 ({ gen := 0, tier := 1, fmt := 0, full := false, moving := false, frame := 0 } : Pte).toNat)).tcIssued 1 0).pte m.seq m.layer m.page).tier == 1) = true := by decide +kernel

theorem test_tcControl : (sFlight.tcCore 1 0).ops.find? (fun o => o.pc == (4 : BitVec 16).toNat) = some ⟨4, 0x28, 0, 0, [], []⟩ ∧ sFlight.tcMayComplete 1 0 ⟨4, 0x28, 0, 0, [], []⟩ = true ∧
    coreIx 1 0 < sFlight.tensor.cores.length ∧ sFlight.doms.compute.testBit (1 : Fin 4).val = true ∧ sFlight.logicalOf 1 0 < 10 ∧
    sFlight.isSet (.tcCtrl 1 0) Fld.tcCtrl_RUN = true ∧ ¬ sUp.logicalOf 1 10 < 10 := by decide +kernel

theorem test_tcLent : ((sCore 0).put (.tcStatus 1 0) Fld.tcStatus_LENT 1).isSet (.tcStatus 1 0) Fld.tcStatus_LENT = true ∧
    ((sCore 0).put (.tcStatus 1 0) Fld.tcStatus_LENT 1).loanOver 1 0 = true ∧ (sCore (opWord 6 0 0 0 0)).tcReady 1 0 ⟨6, 0, 0, 0, 0⟩ = true ∧
    (((sCore 0).put (.tcStatus 1 0) Fld.tcStatus_LENT 1).setTcCore 1 0 { (sCore 0).tcCore 1 0 with ops := [⟨0, 6, 0, 3, [], []⟩] }).loanOver 1 0 = false ∧
    ((sCore 0).put (.tcCtrl 1 0) Fld.tcCtrl_STOP 1).isSet (.tcCtrl 1 0) Fld.tcCtrl_STOP = true ∧ ((sCore 0).tcCore 1 0).ops = [] := by decide +kernel

theorem test_tcTimeout : ((sCore (opWord 3 0 0 0 5)).put (.tcWaitLimit 1 0) Fld.tcWaitLimit_LIMIT 9).fld (.tcWaitLimit 1 0) Fld.tcWaitLimit_LIMIT ≠ 0 ∧
    (sCore (opWord 6 0 0 0 0)).tcNext 1 0 = some ⟨6, 0, 0, 0, 0⟩ ∧ (sCore 0).domainUp (Reg.tcRemap 1).domain = true ∧ remapValid 0xF9876543210 = true := by decide +kernel

theorem test_trvStart : (sEngine (dwords 1)).trvHasNext 1 3 = true ∧ (sEngine (dwords 1)).trvWaits 1 3 = false ∧ engineIx 1 3 < (sEngine (dwords 1)).trv.length ∧
    dOp ((sEngine (dwords 1)).trvDesc 1 3) = 1 ∧ (sEngine (dwords 1)).moveFault 1 3 ((sEngine (dwords 1)).trvDesc 1 3) = none ∧
    (sEngine (dwords 1)).trvRuns 1 3 = [] := by decide +kernel

theorem test_trvStart_other : (sEngine (dwords 2)).moveFault 1 3 ((sEngine (dwords 2)).trvDesc 1 3) = none ∧ dOp ((sEngine (dwords 4)).trvDesc 1 3) = 4 ∧ 4 < dOp ((sEngine (dwords 9)).trvDesc 1 3) ∧
    ((sEngine [1 * 2 ^ 60, 0, 8 * 2 ^ 48]).moveFault 1 3 ((sEngine [1 * 2 ^ 60, 0, 8 * 2 ^ 48]).trvDesc 1 3)) = some (5, 0xF) ∧
    (sEngine [2 ^ 55, 0, 0, 5 * 2 ^ 32]).trvWaits 1 3 = true ∧
    (sEngine (dwords 4)).postBarred ((sEngine (dwords 4)).trvDesc 1 3) = false ∧
    ((sEngine [2 ^ 54]).put .fltFence Fld.fltFence_FENCED 1).postBarred (((sEngine [2 ^ 54]).put .fltFence Fld.fltFence_FENCED 1).trvDesc 1 3) = true := by decide +kernel

theorem test_trvFinish : ({ sUp with trv := sUp.trv.set (engineIx 1 3) [⟨0, dwords 2, [], none⟩] }).trvRuns 1 3 = [⟨0, dwords 2, [], none⟩] ∧ sUp.memOk = true ∧
    sUp.mayFinish 1 3 ⟨0, dwords 2, [], none⟩ = true ∧ dLevels (dwords 2) = 0 ∧ dMcast (dwords 2) = false ∧ dPost (dwords 2) = false ∧ dRun (dwords 2) = 64 ∧
    dDst (dwords 2) % 64 = 0 ∧ sUp.decodeAddr (dDst (dwords 2)) = .moraine 1 0 ∧ dOp (dwords 1) = 1 ∧ sUp.decodeAddr (dSrc (dwords 1)) = .moraine 0 0 := by decide +kernel

theorem test_trvControl : (((sEngine [2 ^ 55, 0, 0, 5 * 2 ^ 32]).put (.trvWaitLimit 1 3) Fld.trvWaitLimit_LIMIT 4)).trvWaits 1 3 = true ∧
    (((sEngine [2 ^ 55, 0, 0, 5 * 2 ^ 32]).put (.trvWaitLimit 1 3) Fld.trvWaitLimit_LIMIT 4)).fld (.trvWaitLimit 1 3) Fld.trvWaitLimit_LIMIT ≠ 0 ∧
    (sUp.put (.trvCtrl 1 3) Fld.trvCtrl_STOP 1).isSet (.trvCtrl 1 3) Fld.trvCtrl_STOP = true ∧ newer 32 5 (sUp.fld (.trvFbuf 1 7) Fld.trvFbuf_COUNT) = true := by decide +kernel

theorem test_trvFails : ({ sEngine (dwords 9) with trv := sUp.trv.set (engineIx 1 3) [⟨0, dwords 0, [], none⟩] }).trvHasNext 1 3 = true ∧
    ({ sUp with trv := sUp.trv.set (engineIx 1 3) [⟨0, dwords 0, [], none⟩, ⟨1, [], [], some (7, 0, 0)⟩] }).trvRuns 1 3 =
      ⟨0, dwords 0, [], none⟩ :: [⟨1, [], [], some (7, 0, 0)⟩] ∧ dOp (dwords 0) = 0 ∧ sUp.isSet (.trvErr 1 3) Fld.trvErr_VALID = false ∧
    sUp.mayFinish 1 3 ⟨0, dwords 0, [], none⟩ = true := by decide +kernel

theorem test_ledge : sUp.ledgeUp 1 = true ∧ sUp.isSet (.ldgCtrl 1) Fld.ldgCtrl_LOCK = false ∧ sUp.pooled 1 = false ∧ (sUp.ledgeOf 1).held = [] ∧ sUp.testing 1 = none ∧
    fget (fput (fput 0 Fld.ldgGive_GO 1) Fld.ldgGive_OWNER 0x30) Fld.ldgGive_GO = 1 ∧ sUp.ownerNameable 1 0x30 = true ∧ sUp.ownerNameable 1 0x0E = false := by decide +kernel

theorem test_ledge_access : qLedge.offset < ledgeSize ∧ (sUp.ledgeOf 1).retry = [] ∧ (sUp.ledgeOf 1).second = [] ∧ (sUp.ledgeOf 1).march = none ∧ sUp.ownerAt 1 qLedge.offset = qLedge.owner ∧
    qLedge.mask = 2 ^ 64 - 1 ∧ qLedge.data.length = 64 ∧ sUp.ownerAt 1 0 ≠ 5 ∧ (∀ i, i < 4 → sUp.isBad (sUp.ledgeKey 1 128 + 16 * i) = false) := by decide +kernel

theorem test_ledge_again : ((sUp.setLedge 1 { sUp.ledgeOf 1 with retry := [⟨0, 1, qLedge, [], true⟩] }).ledgeOf 1).retry = [⟨0, 1, qLedge, [], true⟩] ∧
    ((sUp.setLedge 1 { sUp.ledgeOf 1 with second := [⟨0, 1, qLedge, [], false⟩] }).ledgeOf 1).second = [⟨0, 1, qLedge, [], false⟩] ∧ qLedge.write = true := by decide +kernel

theorem test_ledge_march : (1 : Fin 4).val < sUp.ledge.length ∧ sUp.banksFree 1 3 = true ∧ ((sMarch (some ⟨false, 2 ^ 48 - 1, 0⟩)).ledgeOf 1).march = some ⟨false, 2 ^ 48 - 1, 0⟩ ∧
    ((sMarch (some ⟨true, 3, 0⟩)).ledgeOf 1).march = some ⟨true, 3, 0⟩ ∧ ((sMarch (some ⟨true, 3, 0⟩)).ledgeOf 1).waits = [] ∧ (sMarch (some ⟨true, 3, 0⟩)).tiers.waiting = [] := by decide +kernel

theorem test_repair : sSpare.repairReady 1 = true ∧ sSpare.ownerOf 1 2 = 0x32 ∧ sSpare.freeSpare 1 2 = some 1 ∧ sSpare.inHold = true ∧ sSpare.spareOf 1 2 7 = some 0 ∧
    sSpare.spareOf 1 2 8 = none ∧ sSpare.isSet (spareReg 1 2 0) Fld.ldgSpare_FUSED = false ∧ sUp.inHold = false ∧
    ((sSpare.setLedge 1 { sSpare.ledgeOf 1 with fusing := some (2, 7) }).ledgeOf 1).fusing = some (2, 7) := by decide +kernel

theorem test_repair_full : ((List.range 8).foldl (fun (t : State) r => t.mapSpare 1 2 r r) sUp).freeSpare 1 2 = none ∧ sUp.ownerOf 1 3 ≠ 5 := by decide +kernel

theorem test_detect : (sDet []).detReady = true ∧ detGood ((sDet []).peek ((sDet []).detDesc 0) 64) = false ∧ detRanges ((sDet []).peek ((sDet []).detDesc 0) 64) = [] ∧
    [((sDet []).detDesc 0, 64)].any (fun r => (sDet []).rangeTested r.1 r.2) = false ∧ (sDet []).mustWaitAny [((sDet []).detDesc 0, 64)] = false ∧
    [((sDet []).detDesc 0, 64)].all (fun r => !inHostWindow r.1) = true ∧ ((sDet []).readBytes detReq 0x32 ((sDet []).detDesc 0) 64).2.1 = .ok ∧
    sUp.detReady = false ∧ sUp.det = none := by decide +kernel

theorem test_detect_waits : sDetWait.detReady = true ∧ sDetWait.mustWaitAny ((sDetWait.detDesc 0, 64) :: detRanges (sDetWait.peek (sDetWait.detDesc 0) 64)) = true := by decide +kernel

theorem test_detect_done : sDetRun.det = some ⟨16 * 2 ^ 40, 1, true, 2, 9⟩ ∧ sDetRun.doms.pcie = true ∧ (∃ c o, sDetRun.decodeAddr (16 * 2 ^ 40 + 61) = .moraine c o) ∧
    (16 * 2 ^ 40 + 61) % 64 = 61 := ⟨by decide +kernel, by decide +kernel, ⟨_, _, rfl⟩, by decide +kernel⟩

theorem test_load_goes : (planRanges smallPlan).any (fun r => sLoad.rangeTested r.1 r.2) = false ∧ sLoad.mustWaitAny (planRanges smallPlan) = false ∧
    (planRanges smallPlan).all (fun r => !inHostWindow r.1) = true ∧ sDetWait.jobState < 2 ∧
    sDetWait.mustWaitAny (planRanges { smallPlan with tables := [(16 * 2 ^ 40, zeros 64)] }) = true := by decide +kernel

theorem test_load_refused : sUp.doms.main = true ∧ sUp.jobState < 2 ∧ (sUp.put .hkBoot Fld.hkBoot_HOLD 1).inHold = true ∧ sUp.inHold = false ∧ sUp.epochsAllowed emptyPlan = false ∧
    sLoad.epochsAllowed emptyPlan = true ∧ sLoad.shapeFits emptyPlan = false ∧ 2 ≤ sJob.jobState := by decide +kernel

theorem test_load_checks : sLoad.planChecks (sLoad.withPlan { smallPlan with stages := [] }) { smallPlan with stages := [] } = some (6, 0) := by decide +kernel

theorem test_load_accepted : sLoad.planChecks (sLoad.withPlan smallPlan) smallPlan = none ∧ (sLoad.withPlan smallPlan).isSet .bcJobCtrl Fld.bcJobCtrl_ABORT = false ∧
    (sLoad.withPlan smallPlan).isSet .bcJobCtrl Fld.bcJobCtrl_END = false := by decide +kernel

theorem test_job_end_requests : (sJobEnd 1 0 false false).jobState = 1 ∧ (sJobEnd 2 0 true false).jobState = 2 ∧ (sJobEnd 2 0 true false).job.attemptOpen = true ∧
    (sJobEnd 2 0 false false).job.endWaits = false ∧ (sJobEnd 2 32 true true).job.endWaits = true ∧ (sJobEnd 3 32 false false).job.endCode = 0x20 ∧ sUp.jobState = 0 := by decide +kernel

theorem test_job_end_flight : sBusyEnd.jobState = 3 ∧ sBusyEnd.stopAll.allStopped = false := by decide +kernel

theorem test_job_end_waits : sWaitEnd.jobState = 3 ∧ sWaitEnd.stopAll.allStopped = true ∧ (afterStop sWaitEnd).mustWaitAny (afterStop sWaitEnd).reportRange = true := by decide +kernel

theorem test_job_end_moves : sMoveEnd.stopAll.allStopped = true ∧ (afterStop sMoveEnd).kv.moves ≠ [] := by decide +kernel

theorem test_job_end : sRestEnd.stopAll.allStopped = true ∧ (afterStop sRestEnd).kv.moves = [] ∧
    (afterStop sRestEnd).reportRange.any (fun r => (afterStop sRestEnd).rangeTested r.1 r.2) = false ∧
    (afterStop sRestEnd).mustWaitAny (afterStop sRestEnd).reportRange = false ∧
    inHostWindow ((afterStop sRestEnd).fld .bcJobReport Fld.bcJobReport_ADDR) = false ∧ (afterStop sRestEnd).job.endCode = 33 := by decide +kernel

theorem test_entry_ready : (sOpt (lentry 0 0 4096)).localReady 0 0 = true ∧ (0 : Fin 4).val < (sOpt []).opt.dies.length ∧ leMode ((sOpt (lentry 0 0 4096)).layer 0 0) = 0 ∧
    leFallback ((sOpt (lentry 0 0 4096)).layer 0 0) = false ∧ leFallback ((sOpt (lentry 0 1 4096)).layer 0 0) = true ∧
    (sOpt (lentry 0 1 4096)).localReady 0 0 = true ∧ sUp.localReady 0 0 = false := by decide +kernel

theorem test_entry_pass : (sOpt (lentry 3 0 0)).mirrorReads = false ∧ ((sOpt (lentry 3 0 0)).put (.optStatus 0) Fld.optStatus_FAILED 1).isSet (.optStatus 0) Fld.optStatus_FAILED = true ∧
    ((sOpt (lentry 3 0 0)).put (.optStatus 0) Fld.optStatus_FAILED 1).localReady 0 0 = true ∧ (sMirrors (lentry 3 0 0)).mirrorReads = true ∧ (sMirrors (lentry 3 0 0)).localReady 0 0 = true ∧
    (sOpt (lentry 3 0 0)).localReady 0 0 = true ∧ leMode ((sOpt (lentry 3 0 0)).layer 0 0) = 3 ∧ ((sOpt (lentry 3 0 0)).optDie 0).run = none := by decide +kernel

theorem test_entry_take : (sOpt []).optRunning 0 = true ∧ (sOpt []).job.attemptOpen = true ∧ ((sOpt []).optDie 0).arrived.find? (fun i => !((sOpt []).optDie 0).done.contains i) = none ∧
    (({ (sOpt []).optDie 0 with arrived := [0] } : OptDie).arrived.find? (fun i => !((sOpt []).optDie 0).done.contains i)) = some 0 ∧ (sOpt []).coresQuiet 0 = true ∧
    (sLoan 3).coresQuiet 0 = false := by decide +kernel

theorem test_entry_check : ((sRun (lentry 0 0 0) (run0 0 (some 0))).optDie 0).run = some (run0 0 (some 0)) ∧ fsqrt 0 < 2 ^ 32 ∧
    normPasses (fsqrt 0) (leNormMax ((sRun (lentry 0 0 0) (run0 0 (some 0))).layer 0 0)) = true ∧
    normPasses (fsqrt 0x7F800000) (leNormMax ((sRun (lentry 0 0 0) (run0 0 (some 0))).layer 0 0)) = false ∧
    (((sRun (lentry 0 0 0) (run0 0 (some 0))).put (.optStatus 0) Fld.optStatus_NORM (fsqrt 0)).logCopy 0 0 (fsqrt 0)).1 = true ∧
    (sRun (lentry 0 0 0) (run0 0 (some 0))).isSet (.optStatus 0) Fld.optStatus_FAILED = false := by decide +kernel

theorem test_entry_log_fails : ((((sRun (lentry 0 0 0 |>.set 8 1 |>.set 12 1 |>.set 17 1 |>.set 21 0x10) (run0 0 (some 0))).setBad (2 ^ 40 + 256) true).put (.optStatus 0)
    Fld.optStatus_NORM (fsqrt 0)).logCopy 0 0 (fsqrt 0)).1 = false := by decide +kernel

theorem test_entry_update : (sRun (lentry 0 0 0) (run0 2 none)).mirrorReads = false ∧ (sRun (lentry 0 0 0) (run0 2 none)).burstStalled (optReq 0) = false ∧
    leMatrix ((sRun (lentry 0 0 0) (run0 2 none)).layer 0 0) = false ∧ leMode ((sRun (lentry 1 0 0) (run0 2 none)).layer 0 0) = 1 ∧
    (sRun (lentry 1 0 0) (run0 2 none)).burstStalled (optReq 0) = false ∧ leMode ((sRun (lentry 2 0 0) (run0 2 none)).layer 0 0) = 2 ∧
    (sRun (lentry 2 0 0) (run0 2 none)).usableCores 0 = [] ∧ (sRun (lentry 0 0 0) (run0 2 none)).entryWaits 0 0 = false ∧
    ({ sOpt (lentry 0 0 (16 * 2 ^ 40) |>.set 8 1 |>.set 12 1) with tiers := { (sOpt []).tiers with selfRefresh := 2 ^ 256 - 1 } }).entryWaits 0 0 = true := by decide +kernel

theorem test_step_mark : (sOpt []).leader = some 0 ∧ (sOpt []).ridgeUp 0 = true ∧ (sOpt []).job.attemptOpen = true ∧ ({ sOpt [] with job := JobState.none } : State).optRunning 0 = true ∧
    ({ sOpt [] with job := JobState.none } : State).resharding = false ∧ (sOpt []).jobState = 2 ∧ (sOpt []).opt.step.voting = false ∧ (sOpt []).opt.step.restoring = false ∧
    (sOpt []).entriesDone = false ∧ ((sOpt []).put (.optLtab 0) Fld.optLtab_COUNT 0).entriesDone = true := by decide +kernel

theorem test_opt_timeout : ((sRun [] (run0 0 none)).optDie 0).run = some (run0 0 none) ∧ (sRun [] (run0 0 none)).optRunning 0 = true ∧
    (sRun [] (run0 0 none)).fld (.optWaitLimit 0) Fld.optWaitLimit_LIMIT ≠ 0 ∧ (sRun [] (run0 0 none)).isSet (.optErr 0) Fld.optErr_VALID = false ∧
    (sUp.put (.optWaitLimit 0) Fld.optWaitLimit_LIMIT 0).fld (.optWaitLimit 0) Fld.optWaitLimit_LIMIT = 0 := by decide +kernel

theorem test_vote : (sVote (some true)).leader = some 0 ∧ (sVote (some true)).optRunning 0 = true ∧ (sVote (some true)).opt.step.voting = true ∧ (sVote (some false)).opt.step.markWaits = false ∧
    (sVote (some false)).job.endWaits = false ∧ (sVote (some false)).fld (.optStep 0) Fld.optStep_STEP ≠ 2 ^ 40 - 1 ∧ (sVote none).opt.step.restoring = false ∧
    (sVote (some false)).isSet .fltMirror Fld.fltMirror_EN = false ∧ ((sVote (some false)).put (.optStep 0) Fld.optStep_STEP (2 ^ 40 - 1)).fld (.optStep 0) Fld.optStep_STEP = 2 ^ 40 - 1 := by decide +kernel

theorem test_restore : sRestore.leader = some 0 ∧ sRestore.opt.step.restoring = true ∧ (State.restoreAll sRestore sRestore.upDies).1 = true ∧
    (State.restoreAll (sRestore.setOptDie 0 { sRestore.optDie 0 with logs := [16 * 2 ^ 40] }) [0]).1 = false ∧ satInc 8 0 = 1 := by decide +kernel

theorem test_col_start : (sCol true (colDesc 5 0 0)).colMayStart 0 = true ∧ (sCol true (colDesc 5 0 0)).nextDesc 0 = some (colDesc 5 0 0) ∧
    (sCol true (colDesc 5 0 0)).fbufReached 0 (cdWaitBuf (colDesc 5 0 0)) ((sCol true (colDesc 5 0 0)).colCount 0 (colDesc 5 0 0) 0) = true ∧
    (sCol true (colDesc 5 0 0)).colWaits (colDesc 5 0 0) = false ∧
    (sCol true (colDesc 5 0 0)).descError 0 (colDesc 5 0 0) = 0 ∧ (sCol true (colDesc 5 0 0)).descError 0 (colDesc 5 1 0) = 2 ∧
    (sCol true []).descError 0 (colDesc 7 0 0) = 0 ∧ cdOp (colDesc 5 0 0) = 5 ∧ (0 : Fin 4).val < (sCol true []).col.length := by decide +kernel

theorem test_col_start_waits : ((sCol true (colDesc 5 0 9)).setColDie 0 { (sCol true (colDesc 5 0 9)).colDie 0 with verified := [0] }).fbufReached 0 0 9 = false ∧ cdWaitCount (colDesc 5 0 9) = 9 ∧
    (sCol false (colDesc 5 0 0)).mapGood 0 = false ∧ ((sCol false (colDesc 5 0 0)).colDie 0).verified.contains 0 = false ∧ sUp.colMayStart 0 = false ∧
    (sCol true []).leader = some 0 ∧ (sCol true []).opt.step.voting = false ∧ ((sCol true (colDesc 5 0 0)).verifyMap 0) = sCol true (colDesc 5 0 0) := by decide +kernel

theorem test_col_complete : (sColRun 5 true).runOf 0 0 = some ⟨0, colDesc 5 0 0, 0, true, false, 0, 0⟩ ∧ (sColRun 5 true).colReady 0 ⟨0, colDesc 5 0 0, 0, true, false, 0, 0⟩ = true ∧
    (sColRun 5 true).earlierWritten 0 ⟨0, colDesc 5 0 0, 0, true, false, 0, 0⟩ = true ∧
    (sColRun 5 false).colReady 0 ⟨0, colDesc 5 0 0, 1, false, false, 0, 0⟩ = false ∧ (sColRun 5 true).runOf 0 9 = none ∧ cdPostDie (colDesc 5 0 0) < 4 ∧
    (sColRun 5 true).barrierBack 0 7 = none ∧ (sColRun 7 true).barrierBack 0 7 = some ⟨0, colDesc 7 0 0, 0, true, false, 0, 0⟩ ∧
    (∀ p, ((sColRun 7 true).port p).held = []) := by decide +kernel

theorem test_col_reshard : (sColRun 8 true).barrierBack 0 8 = some ⟨0, colDesc 8 0 0, 0, true, false, 0, 0⟩ ∧
    ((sColRun 8 true).colRead 0 ⟨0, colDesc 8 0 0, 0, true, false, 0, 0⟩ (cdScratch (colDesc 8 0 0)) (cdN (colDesc 8 0 0))).1.isSome = true ∧
    (((sColRun 8 true).colRead 0 ⟨0, colDesc 8 0 0, 0, true, false, 0, 0⟩ 0 64).2.colWrite 0 ⟨0, colDesc 8 0 0, 0, true, false, 0, 0⟩ (cdDst (colDesc 8 0 0)) (zeros 64)).1 = true := by decide +kernel

theorem test_contribution : ((sCol true []).colDie 0).runs = [] ∧ ((sCol true []).colDie 0).withheld = [] ∧ (sCol true []).isSet (.colCtrl 0) Fld.colCtrl_STOP = false ∧ (sCol true []).unitKnown 0 unit3 = false ∧
    ((sCol true []).setColDie 0 { (sCol true []).colDie 0 with units := [unit3] }).unitKnown 0 unit3 = true ∧ (sCol true []).colPhaseOf 0 = 0 := by decide +kernel

theorem test_norm_partial : (({ (sCol true []).colDie 0 with norms := [(7, 1, 5)] } : ColDie).norms.any (fun x => x.1 == 7 && x.2.1 == 1)) = true ∧ ((sCol true []).colDie 0).norms = [] ∧
    ((sCol true []).optDie 0).run = none ∧ ((sCol true []).normGroup 0 0).map (fun g => (leAt g 0 4, leAt g 16 4)) = some (1, 0) := by decide +kernel

theorem test_joins : (sCol true []).teamOf 0 ≠ 0x3FFF ∧ ((sCol true []).colDie 0).joining = false ∧ ((sCol true []).otherSlots 0).all (fun k => ((sCol true []).slotShape 0 k).isSome) = false ∧
    (sAnswered.otherSlots 0).all (fun k => (sAnswered.slotShape 0 k).isSome) = true ∧ sUp.teamOf 0 = 0x3FFF ∧ (sUp.colDie 0).joining = false ∧ (sJoin.colDie 0).joining = true := by decide +kernel

theorem test_col_timeout : (sColRun 5 false).waitingDesc 0 = some (0, 0) ∧ (sColRun 5 false).isSet (.colCtrl 0) Fld.colCtrl_RUN = true ∧ (sColRun 5 false).fld (.colWaitLimit 0) Fld.colWaitLimit_LIMIT ≠ 0 ∧
    ((sColRun 5 false).colDie 0).runs ≠ [] ∧ sUp.waitingDesc 0 = none := by decide +kernel

theorem test_rope_down : sUp.portIsUp 9 = false ∧ sRope.portLive 9 = true ∧ sRope.portIsUp 9 = true ∧ isTeam 9 = false ∧ sRope.decapsulate 9 (zeros 14) = .foreign ∧
    sRope.decapsulate 9 (zeros 12 ++ toBe 2 (sRope.fld (pAddr 9) Fld.ropeAddr_ETHERTYPE)) = .misdirected [] := by decide +kernel

theorem test_rope_arrivals : ∀ k ∈ [1, 2, 3, 4, 5, 6, 0xA, 0xB], (sRope.arrive 9 (rx 9 (fr k 1 []))).2 = some (fr k 1 []).make := by decide +kernel

theorem test_rope_link_arrivals : ∀ k ∈ [8, 9, 0xC, 0xD], (sRope.arrive 1 (rx 1 (fr k 0 (zeros 64)))).2 = some (fr k 0 (zeros 64)).make := by decide +kernel

theorem test_rope_requests : (RopeFrame.parse (fr 1 1 []).make).type = 1 ∧ (RopeFrame.parse (fr 1 1 []).make).arg = 1 ∧ sRope.toRelay 9 (fr 1 1 []).make = false ∧ sRope.colPhaseOf 0 = 0 ∧
    sRope.canAnswer 9 (fr 1 1 []) = true ∧ sRope.requestWaits 9 (fr 1 1 []) = false ∧ (sRope.port 9).moving = false ∧ (RopeFrame.parse { fr 1 1 [] with phase := 2 }.make).phase = 2 ∧ (sRope.port 9).waiting = [] ∧ (sRope.port 9).paused.testBit 2 = false ∧
    (sRope.port 9).paused.testBit 0 = false ∧ (0 : Fin 4).val < sRope.rope.length ∧ (9 : Fin 16).val < sRope.ports.length ∧ sRope.unitKnown 0 unit3 = false ∧ (sRope.ropeDie 0).queue = [] := by decide +kernel

theorem test_rope_judgements : judgeTag 0 77 1 5 [] = .execute [⟨77, 1, 5, [], 0⟩] ∧ judgeTag 0 77 1 5 [⟨77, 1, 5, [(5, 0)], 0⟩] = .recorded 0 ∧
    judgeTag 0 77 1 5 [⟨77, 1, 9000, [], 0⟩] = .stale ∧ judgeTag 0 77 1 5 (List.replicate 1024 ⟨3, 1, 5, [], 0⟩) = .full := by decide +kernel

theorem test_rope_relay : ((sCol true []).put (pStatus 9) Fld.ropeStatus_STATE 2).relayPort 0 77 = some 9 ∧ isTeam 9 = false ∧ unnumbered { fr 2 0 [] with relay := true, dstNode := 8 }.make = false ∧
    ((sCol true []).put (pStatus 9) Fld.ropeStatus_STATE 2).upFrom (((sCol true []).put (pStatus 9) Fld.ropeStatus_STATE 2).planeOf 0 77).2 9 = some 9 ∧
    sRope.toRelay 9 { fr 2 0 [] with relay := true, dstNode := 8 }.make = true ∧ sRope.secondHop 9 { fr 2 0 [] with relay := true, dstNode := 8 }.make = false ∧
    sRope.relayPort 0 8 = none := by decide +kernel

theorem test_rope_answers : (sOutstanding (req5 .mirror)).openReq 0 5 = some (req5 .mirror) ∧ sRope.openReq 0 5 = none ∧ (∀ e, ((sOutstanding (req5 .mirror)).ropeDie e).queue = [] ∧ ((sOutstanding (req5 .mirror)).ropeDie e).open_.all (fun r => !r.parked) = true) ∧
    newer 32 9 0 = true ∧ (sRope.port 1).peerFreed.length = 3 ∧ (sReplay 0).port 1 ≠ sRope.port 1 ∧ newer 24 3 0 = true ∧
    sRope.a0 = false ∧ sRope.isSet (pCtrl 1) Fld.ropeCtrl_LANEDROP = true ∧ sRope.fld (pStatus 1) Fld.ropeStatus_LANE_OK = 15 ∧ (sRope.port 1).preEmphasis.length = 2 ∧
    (13 : Nat).testBit 1 = false ∧ (13 : Nat).testBit (laneMate 0) = false ∧ (13 : Nat).testBit 0 = true := by decide +kernel

theorem test_rope_time : ({ (sCol true []).put (.colTeam 0) Fld.colTeam_SLOT 1 with doms := ⟨true, true, true, 15, 15⟩ } : State).timeSource 0 ≠ none ∧ sUp.timeSource 0 = none ∧ sUp.nodeId 0 ≠ some 0 ∧ ((sCol true []).put (.colTeam 0) Fld.colTeam_TEAM 0).timeSource 0 = none ∧ ((sCol true []).put (.colTeam 0) Fld.colTeam_TEAM 0).nodeId 0 = some 0 ∧ sUp.upDies.head? = some 0 := by decide +kernel

theorem test_rope_hello : (sCol true []).teamOf (portDie 1) ≠ 0x3FFF ∧ (Heartbeat.parse (toLe 2 6 ++ toLe 1 3 ++ zeros 61)).team = 6 ∧ (Heartbeat.parse (toLe 2 6 ++ toLe 1 3 ++ zeros 61)).notice = false ∧
    (sCol true []).teamed = true ∧ (sCol true []).ownTeam = 5 ∧ (sCol true []).ownSlot = 0 := by decide +kernel

theorem test_rope_ports : (sRope.put (pCtrl 2) Fld.ropeCtrl_EN 1).portLive 2 = true ∧ ((sRope.put (pCtrl 2) Fld.ropeCtrl_EN 1).put (pStatus 2) Fld.ropeStatus_STATE 1).portState 2 = 1 ∧ sRope.portState 2 ≠ 1 ∧ (sRope.put (pCtrl 2) Fld.ropeCtrl_RETRAIN 1).isSet (pCtrl 2) Fld.ropeCtrl_RETRAIN = true ∧
    (sRope.port 2).inUse.all (· == 0) = true ∧ (sPhase (.stage 9)).inStage 9 = true ∧ sRope.inStage 9 = false ∧ (sPhase (.stage 9)).portLive 1 = true := by decide +kernel

theorem test_rope_timers : 0 < ((sReplay 0).port 1).unacked ∧ (sRope.port 1).unacked = 0 ∧ (sRope.port 1).replay = [] ∧ ((sReplay 0).port 1).replay ≠ [] ∧ 4 ≤ ((sReplay 4).port 1).replays ∧
    sRope.upFrom 0x2 1 = some 1 ∧ sRope.canReserve 1 (req5 .mirror) none = true ∧ sRope.upFrom 0 0 = none := by decide +kernel

theorem test_rope_solicitation : (sRope.put (pCtrl 9) Fld.ropeCtrl_IPV6 1).ipMode 9 = true ∧ (sRope.put (pCtrl 9) Fld.ropeCtrl_IPV6 1).portIsUp 9 = true ∧ sRope.ipMode 9 = false := by decide +kernel

theorem test_decodes : (sInput []).medNext 1 = some (zeros 128) ∧ (sInput []).freeUnit 1 8 = some 0 ∧ (sInput []).sampleAllowed 0 = true ∧ inHostWindow (ddSrc (zeros 128)) = false ∧ (sInput []).mustWaitAny [(ddSrc (zeros 128), ddLen (zeros 128))] = false ∧
    (sInput []).commonGood (zeros 128) 3 4 = false ∧ (sInput []).medNext 0 = some (zeros 128) ∧ (sInput []).medNext 2 = some (zeros 128) ∧ sUp.medNext 1 = none ∧
    ((sInput []).put .medStatus Fld.medStatus_EFF_DEPTH 1).sampleAllowed 7 = false := by decide +kernel

theorem test_media_jobs : (sJobs 2).input.media.find? (fun x => x.queue == 1 && x.unit == 0) = some (jobOf 2) ∧ sUp.input.media.find? (fun x => x.queue == 1 && x.unit == 0) = none ∧
    (sJobs 2).input.tok.find? (fun x => x.unit == 0) = some (jobOf 2) ∧ (sJobs 2).input.aug.find? (fun x => x.unit == 0) = some (jobOf 2) ∧ (jobOf 2).irq = true ∧ sUp.input.tok = [] ∧ sUp.input.aug = [] := by decide +kernel

theorem test_encode : (sInput encOne).medNext 4 = some encOne ∧ encStream 4 = 0 ∧ ((sInput encOne).encOf 0).frame = none ∧ 0 < (sInput encOne).input.enc.length ∧
    ((((sInput encOne).encOf 0).keyed encOne).good && encPlaces encOne (((sInput encOne).encOf 0).keyed encOne)) = true ∧
    ((((sInput encOne).encOf 0).keyed (zeros 128)).good && encPlaces (zeros 128) (((sInput encOne).encOf 0).keyed (zeros 128))) = false := by decide +kernel

theorem test_encode_reads : (((sInput encOne).medTaken 4).readBytes (medReq 0 0) 0 (edLuma encOne) 456).2.1 = .ok ∧
    ((((sInput encOne).medTaken 4).readBytes (medReq 0 0) 0 (edLuma encOne) 456).2.2.readBytes (medReq 0 0) 0 (edChroma encOne) 200).2.1 = .ok := by decide +kernel

theorem test_encode_rows : sCoding.liveRow 1 = some 2 ∧ (sCoding.encOf 2).frame = some { frameOne with stalled := false, rows := 2 } ∧ sCoding.burstStalled (medReq 0 1) = false ∧
    2 < sCoding.input.enc.length ∧ (sCoding.chunkPlace 2 64).isSome = true ∧ sStalled.liveRow 1 = none ∧ sStalled.decodeRow 1 = none ∧ sStalled.rowReady 1 4 = false ∧
    (sInput encOne).encEngine 4 = some 0 := by decide +kernel

theorem test_encode_decode_rows : sShared.liveRow 1 = none ∧ sShared.decodeRow 1 = some { jobOf 1 with queue := 0, unit := 1, rows := 3 } ∧ (sShared.encOf 2).frame = some frameOne := by decide +kernel

theorem test_media_waits : ({ sCoding with input := { sCoding.input with media := [{ jobOf 1 with queue := 0, unit := 1, rows := 3 }] } } : State).liveRow 1 ≠ none := by decide +kernel

theorem test_stall : (sStalled.encOf 2).frame = some frameOne ∧ sStalled.chunkPlace 2 (chunkBytes 1) = some (0, false) ∧ (sStalled.put (.medEncOut 2) Fld.medEncOut_SIZE 0).chunkPlace 2 64 = none ∧
    (sUp.encOf 2).frame = none ∧ (sInput []).isSet (.medQbase 1) Fld.medQbase_EN = true ∧ (sInput []).isSet .medCtrl Fld.medCtrl_EN = true := by decide +kernel

theorem test_tokenizes : (sInput tokOne).tokNext = some tokOne ∧ freeOfFour (sInput tokOne).input.tok = some 0 ∧ (sInput tokOne).tokGood tokOne = true ∧ (sInput []).tokGood (zeros 64) = false ∧
    (sInput []).tokNext = some (zeros 64) ∧ inHostWindow (tdSrc tokOne) = false ∧ (sInput tokOne).mustWaitAny [(tdSrc tokOne, tdLen tokOne)] = false ∧ sUp.tokNext = none ∧ (sInput []).isSet .tokQbase Fld.tokQbase_EN = true := by decide +kernel

theorem test_aug_fill : (sInput augOne).augReady = true ∧ (sInput augOne).peek ((sInput augOne).augDesc 0) 64 = augOne ∧ (sInput augOne).augGood augOne = true ∧ (augElements 0 0 augOne).length = 8 ∧
    (sInput []).augGood (zeros 64) = false ∧ sUp.augReady = false := by decide +kernel

theorem test_check_streams : (sCheck false false).streamAt 3 0 false = some ⟨4, 3, 0, [1, 2], false⟩ ∧ (sCheck true true).streamAt 3 0 true = some ⟨4, 3, 0, [1, 2], true⟩ ∧ (sCheck true true).chkWide 3 = true ∧
    (sCheck false false).chkPoint 3 = some 3 ∧ (sCheck false true).isSet (chkCfg 3) Fld.chkPointCfg_HELD = true ∧ chkFld (sCheck false false) 3 Fld.chkPointCfg_TAG = 0 ∧
    sUp.streamAt 3 0 true = none ∧ sUp.input.held = [] ∧ State.reset.doms.main = false := by decide +kernel

theorem test_registerWrite_down : State.reset.domainUp (Reg.domain .bcResetVec) = false := by decide

theorem test_registerWrite_plain : sUp.domainUp (Reg.domain .bcResetVec) = true ∧ Reg.plain .bcResetVec = true ∧ Reg.accAt .bcResetVec 40 = some .rw := by decide

theorem test_registerWrite_locked : (sUp.put .tokCtrl Fld.tokCtrl_LOCK 1).locked .tokIds = true ∧ sUp.locked .tokIds = false ∧ Reg.plain .tokIds = true ∧ Reg.accAt .tokIds 0 = some .rwl := by decide

theorem test_registerWrite_bits : (∃ i : Fin 64, Reg.accAt .hkBoot i.val = some .ro) ∧ (∃ i : Fin 64, Reg.accAt .hkBoot i.val = some .w1c) ∧ (∃ i : Fin 64, Reg.accAt .hkBoot i.val = none) ∧ Reg.plain .hkBoot = true := by decide

theorem test_registerWrite_job : sJob.domainUp (Reg.domain .bcJobPlan) = true ∧ sJob.noJob = false := by decide

theorem test_registerWrite_pc : sRunning.domainUp (Reg.domain (.tcPc 0 0)) = true ∧ sRunning.isSet (.tcCtrl 0 0) Fld.tcCtrl_RUN = true ∧ sRunning.domainUp (Reg.domain (.trvPc 0 0)) = true ∧ sRunning.isSet (.trvCtrl 0 0) Fld.trvCtrl_RUN = true := by decide

theorem test_registerWrite_grace : sUp.domainUp (Reg.domain .fltCtrl) = true ∧ 1000 < fget 0xFFFF00000000 Fld.fltCtrl_GRACE ∧ fget 0 Fld.fltCtrl_GRACE = 0 := by decide

theorem test_msip_main : sUp.doms.main = true := by decide

theorem test_reservedOffset : regBase ≤ (0xF0001FFFFFF8 : BitVec 48).toNat ∧ (0xF0001FFFFFF8 : BitVec 48).toNat < regEnd ∧ Reg.ofAddr ((0xF0001FFFFFF8 : BitVec 48).toNat / 8 * 8) = none ∧ (0x1FFFFFF8 : BitVec 29).toNat = (0xF0001FFFFFF8 : BitVec 48).toNat - regBase ∧ (0x1FFFFFF8 : BitVec 29).toNat % 8 = 0 := by decide

theorem test_reservedOffset_hart : sHart.hartRuns 1 = true ∧ (0xF0001FFFFFF8 : BitVec 48).toNat % 2 ^ (3 : Fin 4).val = 0 := by decide

theorem test_reservedOffset_bar : sBar.linkUp = true ∧ sBar.pcie.d3hot = false ∧ sBar.pcie.memEnable = true := by decide

theorem test_unmappedAccess : State.reset.decodeAddr 0x8000000000 = .unmapped ∧ State.reset.decodeAddr 0xFFFFFFFFFFF = .unmapped ∧ State.reset.decodeAddr 0xF00020000000 = .unmapped := by decide

theorem test_smoke_belayTraining : ∀ l : List (Fin 8 × Fin 128), 1024 < l.length → Instr.wellFormed (.belayTraining l) = false := fun _ h => decide_eq_false (Nat.not_le.mpr h)

theorem test_smoke_nearRead : Instr.wellFormed (.nearRead ⟨256, 0, 0⟩ 0 ⟨0, false⟩) = false ∧ Instr.wellFormed (.nearRead ⟨0, 0, 0⟩ (2 ^ 48) ⟨0, false⟩) = false ∧ Instr.wellFormed (.nearRead ⟨0, 0, 0⟩ 0 ⟨69, false⟩) = false := by decide

theorem test_smoke_nearWrite : Instr.wellFormed (.nearWrite ⟨256, 0, 0⟩ 0 (zeros 64)) = false ∧ Instr.wellFormed (.nearWrite ⟨0, 0, 0⟩ (2 ^ 48) (zeros 64)) = false ∧ Instr.wellFormed (.nearWrite ⟨0, 0, 0⟩ 1 (zeros 64)) = false ∧ Instr.wellFormed (.nearWrite ⟨0, 0, 0⟩ 0 (zeros 63)) = false := by decide

theorem test_smoke_nearPartialWrite : Instr.wellFormed (.nearPartialWrite ⟨256, 0, 0⟩ 0 ⟨0, false⟩ [1]) = false ∧ Instr.wellFormed (.nearPartialWrite ⟨0, 0, 0⟩ (2 ^ 48) ⟨0, false⟩ [1]) = false ∧ Instr.wellFormed (.nearPartialWrite ⟨0, 0, 0⟩ 0 ⟨69, false⟩ [1]) = false ∧ Instr.wellFormed (.nearPartialWrite ⟨0, 0, 0⟩ 0 ⟨0, false⟩ []) = false ∧ Instr.wellFormed (.nearPartialWrite ⟨0, 0, 0⟩ 63 ⟨0, false⟩ [1, 2]) = false ∧ Instr.wellFormed (.nearPartialWrite ⟨0, 0, 0⟩ 0 ⟨0, false⟩ (zeros 64)) = false := by decide

theorem test_smoke_moraineAccess : Instr.wellFormed (.moraineAccess ⟨256, 0, 0⟩ 0 1 none .none) = false ∧ Instr.wellFormed (.moraineAccess ⟨0, 0, 0⟩ (2 ^ 48) 1 none .none) = false ∧ Instr.wellFormed (.moraineAccess ⟨0, 0, 0⟩ 0 65 none .none) = false ∧ Instr.wellFormed (.moraineAccess ⟨0, 0, 0⟩ 0 2 (some [1]) .none) = false := by decide

theorem test_smoke_unmappedAccess : Instr.wellFormed (.unmappedAccess ⟨256, 0, 0⟩ 0 1 none) = false ∧ Instr.wellFormed (.unmappedAccess ⟨0, 0, 0⟩ (2 ^ 48) 1 none) = false ∧ Instr.wellFormed (.unmappedAccess ⟨0, 0, 0⟩ 0 0 none) = false ∧ Instr.wellFormed (.unmappedAccess ⟨0, 0, 0⟩ 0 2 (some [1])) = false := by decide

theorem test_smoke_retire : Instr.wellFormed (.ntRetire 0 (2 ^ 20)) = false ∧ Instr.wellFormed (.morRetire 0 (2 ^ 21)) = false := by decide

theorem test_smoke_moraineUpkeep : Instr.wellFormed (.driftCheck [1]) = false ∧ Instr.wellFormed (.calibrationTrigger 0 32768) = false ∧ Instr.wellFormed (.calibrationTrigger 0 (-32769)) = false ∧ Instr.wellFormed (.deliverableCompute []) = false ∧ Instr.wellFormed (.contractStallRelease ⟨256, 0, 0⟩) = false := by decide

theorem test_smoke_hostErrorCompletion : Instr.wellFormed (.hostErrorCompletion ⟨256, 0, 0⟩ 0 1 true) = false ∧ Instr.wellFormed (.hostErrorCompletion ⟨0, 0, 0⟩ (2 ^ 48) 1 true) = false ∧ Instr.wellFormed (.hostErrorCompletion ⟨0, 0, 0⟩ 0 0 true) = false := by decide

theorem test_smoke_kvStepAllocation : ∀ l : List (BitVec 16), 65536 < l.length → Instr.wellFormed (.kvStepAllocation l) = false := fun _ h => decide_eq_false (Nat.not_le.mpr h)

theorem test_smoke_fusionPublish : Instr.wellFormed (.fusionPublish 0 0 []) = false := by decide

theorem test_smoke_ledgeAccess : Instr.wellFormed (.ledgeAccess 0 ⟨⟨256, 0, 0⟩, 0, 0, false, 1, []⟩ none [] []) = false ∧ Instr.wellFormed (.ledgeAccess 0 ⟨⟨0, 0, 0⟩, 256, 0, false, 1, []⟩ none [] []) = false ∧ Instr.wellFormed (.ledgeAccess 0 ⟨⟨0, 0, 0⟩, 0, 0xC000000, false, 1, []⟩ none [] []) = false ∧ Instr.wellFormed (.ledgeAccess 0 ⟨⟨0, 0, 0⟩, 0, 0, false, (2 ^ 64), []⟩ none [] []) = false ∧ Instr.wellFormed (.ledgeAccess 0 ⟨⟨0, 0, 0⟩, 0, 0, true, 1, []⟩ none [] []) = false := by decide

theorem test_smoke_ledgeAccess_ports : Instr.wellFormed (.ledgeAccess 0 ⟨⟨0, 0, 0⟩, 0, 0, false, 1, []⟩ (some ⟨⟨1, 0, 0⟩, 0, 0, false, 1, []⟩) [] []) = false ∧ Instr.wellFormed (.ledgeAccess 0 ⟨⟨0, 0, 0⟩, 0, 0, false, 1, []⟩ (some ⟨⟨0, 0, 0⟩, 256, 0, false, 1, []⟩) [] []) = false ∧ Instr.wellFormed (.ledgeAccess 0 ⟨⟨0, 0, 0⟩, 0, 0, false, 1, []⟩ none [0, 0, 0, 0, 0] []) = false ∧ Instr.wellFormed (.ledgeAccess 0 ⟨⟨0, 0, 0⟩, 0, 0, false, 1, []⟩ none [] [0, 0, 0, 0, 0]) = false := by decide

theorem test_smoke_jobLoad : Instr.wellFormed (.jobLoad ⟨65536, [], 0, none, [], 0, [], [], [], [], [], [], [], 0, 0⟩) = false ∧ Instr.wellFormed (.jobLoad ⟨0, [], 0, none, [], 0, [], [], [], [], [], [], [], (2 ^ 48), 0⟩) = false := by decide

theorem test_smoke_evalStepBoundary : ∀ l : List (Fin 1024 × BitVec 20), 1024 < l.length → Instr.wellFormed (.evalStepBoundary l false 0) = false := fun _ h => decide_eq_false (Nat.not_le.mpr h)

theorem test_smoke_reduceContrib : Instr.wellFormed (.reduceContrib 0 0 0 0 0 []) = false := by decide

theorem test_smoke_reduceContrib_long : ∀ l : List Byte, 4096 < l.length → Instr.wellFormed (.reduceContrib 0 0 0 0 0 l) = false := fun _ h => decide_eq_false (fun k => Nat.not_lt.mpr k.2 h)

theorem test_smoke_frames : ∀ x : RxFrame, 4198 < x.bytes.length → Instr.wellFormed (.ropeRead 0 x) = false ∧ Instr.wellFormed (.ropeWrite 0 x) = false ∧ Instr.wellFormed (.ropeReduce 0 x) = false ∧ Instr.wellFormed (.readResp 0 x) = false ∧ Instr.wellFormed (.ropeAck 0 x) = false ∧ Instr.wellFormed (.ropeNack 0 x) = false ∧ Instr.wellFormed (.ropeCredit 0 x) = false ∧ Instr.wellFormed (.ropeLink 0 x) = false ∧ Instr.wellFormed (.ropeHeartbeat 0 x) = false ∧ Instr.wellFormed (.ropeTime 0 x) = false ∧ Instr.wellFormed (.ropeLane 0 x) = false ∧ Instr.wellFormed (.ropeHello 0 x) = false ∧ Instr.wellFormed (.ropeRelay 0 x) = false ∧ Instr.wellFormed (.neighborSolicitation 0 x) = false := fun _ h => ⟨decide_eq_false (Nat.not_le.mpr h), decide_eq_false (Nat.not_le.mpr h), decide_eq_false (Nat.not_le.mpr h), decide_eq_false (Nat.not_le.mpr h), decide_eq_false (Nat.not_le.mpr h), decide_eq_false (Nat.not_le.mpr h), decide_eq_false (Nat.not_le.mpr h), decide_eq_false (Nat.not_le.mpr h), decide_eq_false (Nat.not_le.mpr h), decide_eq_false (Nat.not_le.mpr h), decide_eq_false (Nat.not_le.mpr h), decide_eq_false (Nat.not_le.mpr h), decide_eq_false (Nat.not_le.mpr h), decide_eq_false (Nat.not_le.mpr h)⟩

theorem test_smoke_power : Instr.wellFormed (.dutyRejudge 0 65536) = false ∧ Instr.wellFormed (.thermalLimit 0 32768) = false ∧ Instr.wellFormed (.thermalClear 0 32768) = false ∧ Instr.wellFormed (.overTemperature 0 32768) = false ∧ Instr.wellFormed (.compatDuty 0 32768) = false ∧ Instr.wellFormed (.gainTrim 0 []) = false := by decide

theorem test_smoke_sensorOffsets : Instr.wellFormed (.sensorOffsetUpdate 0 32768 0 true []) = false ∧ Instr.wellFormed (.sensorOffsetUpdate 0 0 0 true (List.replicate 49 0)) = false ∧ Instr.wellFormed (.sensorOffsetUpdate 0 0 0 true [32768]) = false := by decide

theorem test_smoke_restartReport : Instr.wellFormed (.restartReport ⟨16384, 0, 0, 0, 0⟩) = false ∧ Instr.wellFormed (.restartReport ⟨0, 8, 0, 0, 0⟩) = false ∧ Instr.wellFormed (.restartReport ⟨0, 0, 16, 0, 0⟩) = false ∧ Instr.wellFormed (.restartReport ⟨0, 0, 0, 16, 0⟩) = false ∧ Instr.wellFormed (.restartReport ⟨0, 0, 0, 0, 2 ^ 32⟩) = false := by decide

theorem test_smoke_managementRequest : Instr.wellFormed (.t1sRead ⟨2 ^ 48, 0, 1, 0, 0, 0, 0, []⟩) = false ∧ Instr.wellFormed (.t1sRead ⟨0, 256, 1, 0, 0, 0, 0, []⟩) = false ∧ Instr.wellFormed (.t1sRead ⟨0, 0, 0, 0, 0, 0, 0, []⟩) = false ∧ Instr.wellFormed (.t1sRead ⟨0, 0, 65536, 0, 0, 0, 0, []⟩) = false ∧ Instr.wellFormed (.t1sRead ⟨0, 0, 1, 65536, 0, 0, 0, []⟩) = false ∧ Instr.wellFormed (.t1sRead ⟨0, 0, 1, 0, 256, 0, 0, []⟩) = false ∧ Instr.wellFormed (.t1sRead ⟨0, 0, 1, 0, 0, 256, 0, []⟩) = false ∧ Instr.wellFormed (.t1sRead ⟨0, 0, 1, 0, 0, 0, 2 ^ 32, []⟩) = false ∧ Instr.wellFormed (.t1sWrite ⟨0, 0, 0, 0, 0, 0, 0, []⟩) = false ∧ Instr.wellFormed (.discover ⟨0, 0, 0, 0, 0, 0, 0, []⟩) = false ∧ Instr.wellFormed (.t1sUnknownOp ⟨0, 0, 0, 0, 0, 0, 0, []⟩) = false := by decide

theorem test_smoke_managementData : ∀ q : T1sRequest, 1024 < q.data.length → Instr.wellFormed (.t1sWrite q) = false := fun _ h => decide_eq_false (fun k => Nat.not_lt.mpr k.2.2.2.2.2.2.2.2 h)

theorem test_smoke_bars : Instr.wellFormed (.bar0Access 0 0 true none) = false ∧ Instr.wellFormed (.bar0Access 0 9 true none) = false ∧ Instr.wellFormed (.bar2Access 0 0 none) = false ∧ Instr.wellFormed (.bar2Access 0 4097 none) = false ∧ Instr.wellFormed (.bar2Access 0 2 (some [1])) = false := by decide

theorem test_smoke_hostLink : Instr.wellFormed (.linkWaitExpiry ⟨256, 0, 0⟩ 0) = false ∧ Instr.wellFormed (.linkWaitExpiry ⟨0, 0, 0⟩ (2 ^ 48)) = false ∧ Instr.wellFormed (.completionTimeout ⟨256, 0, 0⟩ 0) = false ∧ Instr.wellFormed (.completionTimeout ⟨0, 0, 0⟩ (2 ^ 48)) = false ∧ Instr.wellFormed (.nearStackHot 0 (2 ^ 32)) = false := by decide

theorem test_smoke_hartMemoryAccess : Instr.wellFormed (.hartMemoryAccess 0 0 (.load 0) 0) = false ∧ Instr.wellFormed (.hartMemoryAccess 0 63 (.store [1, 2]) 0) = false ∧ Instr.wellFormed (.hartMemoryAccess 0 0 (.fetch 65) 0) = false := by decide

theorem test_smoke_wellFormed : Instr.wellFormed (.nearWrite ⟨0, 0, 0⟩ 64 (zeros 64)) = true ∧ Instr.wellFormed (.jobLoad ⟨1, [], 0, none, [], 0, [], [], [], [], [], [], [], 1, 0⟩) = true ∧ Instr.wellFormed (.t1sRead ⟨0, 0, 1, 0, 0, 0, 0, []⟩) = true ∧ Instr.wellFormed (.ledgeAccess 0 ⟨⟨0, 0, 0⟩, 0, 0, false, 1, []⟩ none [] []) = true := by decide

theorem test_example_registerAddresses : Reg.ofAddr 0xF00014A00058 = some (.tcIdle 1 10 3) ∧ Reg.ofAddr 0xF00019050000 = some (.trvId 2 5) := by decide

theorem test_example_ledgeOffset : ledgeDecode false 0x501C40 = (4 * 1 + 1, 7, 1) ∧ ledgeDecode true 0x501C40 = (4 * 33 + 3, 26, 1) := by decide

theorem test_example_mxFp4 : rowMx.codes.take 6 = [7, 6, 11, 1, 8, 0] ∧ rowMx.scales = [0x7F] ∧ rowMx.sat = false := by decide

theorem test_example_e4m3 : [0x43960000, 0x43E60000].map (fun x => convPlain .e4m3 false .nearest x) = [⟨0x79, false, false⟩, ⟨0x7E, false, false⟩] ∧ convPlain .e4m3 false .nearest 0xC3FA0000 = ⟨0xFE, true, false⟩ ∧ convPlain .e4m3 true .nearest 0xC3FA0000 = ⟨0x7F, false, true⟩ ∧ convPlain .e4m3 false .nearest 0x7F800000 = ⟨0x7E, false, true⟩ ∧ convPlain .e4m3 false .nearest 0x7FC00001 = ⟨0x7F, false, true⟩ ∧ (convPlain .e5m2 false .nearest 0x43960000).code = 0x5D := by decide

theorem test_expandFp6_exact : [9, 10].all (fun f => decide ((expandFp6 f (List.range 64)).map (fun c => toF32 (Elt.e4m3.decode c)) = (List.range 64).map (fun c => toF32 ((fmtOf f).decode c)))) = true := by decide +kernel

theorem test_example_window : newer 32 0 0xFFFFFFFF = true ∧ newer 32 0xFFFFFFFF 0 = false := by decide

theorem test_example_iou : flt 0x3F000000 (iou [0x3ECCCCCD, 0x3ECCCCCD, 0x3F19999A, 0x3F19999A] [0x3ED70A3D, 0x3ECCCCCD, 0x3F1EB852, 0x3F19999A]) = true ∧ iou [0x3DCCCCCD, 0x3DCCCCCD, 0x3E4CCCCD, 0x3E4CCCCD] [0x3ECCCCCD, 0x3ECCCCCD, 0x3F19999A, 0x3F19999A] = 0 := by decide

theorem test_example_tokens : (State.tokenRuns 0 100 (utf8Runs 10 [0x61, 0x62, 0x63, 0x61, 0x62, 0x64, 0xC3, 0x28, 0xC3, 0xA9]) sDictionary (TokRun.empty 0 1)).1 = ⟨[301, 300, 100, 900, 40, 1048515, 1048489], 10, some 6, 1, 2, 1⟩ := by decide +kernel

theorem test_noEncodedRow : decodeTableWord 8 1 = none ∧ State.withFetchWord State.reset 8 1 = State.reset := by decide

end
end

section
/-! SUPPORT. What a software write leaves in a register, bit by bit (R12 to R16, R477), and the registers at reset. -/

namespace Sys2Proof.Machine

/-! ### The bits that a mask holds -/

/-- A field occupies a bit of its register. -/
def Fld.holds (f : Fld) (i : Nat) : Bool := decide (f.lo ≤ i ∧ i ≤ f.hi)

/-- Two fields share no bit, or have the same access code (FLT_GRACE names one bit in two read-only fields). -/
def FieldSpec.compatible (x y : FieldSpec) : Bool := x.fld.apart y.fld || x.acc == y.acc

theorem FieldSpec.acc_eq_of_shared_bit {x y : FieldSpec} {i : Nat} (h : x.compatible y = true) (hx : x.fld.holds i = true)
    (hy : y.fld.holds i = true) : x.acc = y.acc := by
  simp only [compatible, Fld.apart, Fld.holds, Bool.or_eq_true, decide_eq_true_eq, beq_iff_eq] at *
  exact h.resolve_left (by omega)

theorem Fld.getLsbD_mask (f : Fld) {i : Nat} (hi : i < 64) : f.mask.getLsbD i = f.holds i := by
  rw [Fld.mask, Fld.holds, Fld.width, BitVec.getLsbD_ofNat, Nat.testBit_mul_two_pow, Nat.testBit_two_pow_sub_one, Bool.eq_iff_iff]
  simp only [hi, decide_true, Bool.true_and, Bool.and_eq_true, decide_eq_true_eq]
  omega

theorem getLsbD_foldl_mask (fs : List FieldSpec) (p : Access → Bool) (m : Word) {i : Nat} (hi : i < 64) :
    (fs.foldl (fun m x => if p x.acc then m ||| x.fld.mask else m) m).getLsbD i =
      (m.getLsbD i || fs.any (fun x => p x.acc && x.fld.holds i)) := by
  induction fs generalizing m with
  | nil => simp
  | cons x fs ih =>
    rw [List.foldl_cons, ih, List.any_cons]
    cases hp : p x.acc with
    | false => simp
    | true => simp [Fld.getLsbD_mask _ hi, Bool.or_assoc]

theorem getLsbD_maskOf (fs : List FieldSpec) (p : Access → Bool) {i : Nat} (hi : i < 64) :
    (maskOf fs p).getLsbD i = fs.any (fun x => p x.acc && x.fld.holds i) := by
  rw [maskOf, getLsbD_foldl_mask _ _ _ hi, BitVec.ofNat_eq_ofNat, BitVec.getLsbD_zero, Bool.false_or]

/-- Where fields that share a bit have one access code, the first field that occupies a bit gives it. -/
theorem any_holds_eq_find {fs : List FieldSpec} (h : fs.Pairwise (fun x y => x.compatible y = true)) (p : Access → Bool) (i : Nat) :
    fs.any (fun x => p x.acc && x.fld.holds i) = ((fs.find? (fun x => x.fld.holds i)).map FieldSpec.acc).any p := by
  induction h with
  | nil => rfl
  | @cons x fs hx _ ih =>
    rw [List.any_cons, List.find?_cons]
    cases hi : x.fld.holds i with
    | false => simpa using ih
    | true =>
      have rest : fs.any (fun y => p y.acc && y.fld.holds i) = true → p x.acc = true := fun h => by
        obtain ⟨y, hy, hpy⟩ := List.any_eq_true.1 h
        obtain ⟨hp, hyi⟩ := Bool.and_eq_true_iff.1 hpy
        rwa [FieldSpec.acc_eq_of_shared_bit (hx y hy) hi hyi]
      simpa using rest

/-- In every register table, fields that share a bit have one access code. -/
theorem Reg.fields_compatible (r : Reg) : r.fields.Pairwise (fun x y => x.compatible y = true) :=
  of_decide_eq_true (by cases r <;> rfl)

theorem Reg.getLsbD_maskOf (r : Reg) (p : Access → Bool) {i : Nat} (hi : i < 64) :
    (maskOf r.fields p).getLsbD i = (r.accAt i).any p :=
  (Machine.getLsbD_maskOf _ _ hi).trans (any_holds_eq_find r.fields_compatible p i)

theorem Half.getLsbD_mask (h : Half) (i : Fin 64) : h.mask.getLsbD i = h.covers i := by
  revert i
  cases h <;> decide

/-! ### The word that the access codes leave -/

/-- What a write of `v` leaves in a bit that holds `old`, by the access code at that bit (R14, R16). -/
def writtenBit (a : Option Access) (locked old v : Bool) : Bool :=
  match a with
  | some .rw => v
  | some .rwl => if locked then old else v
  | some .w1c => old && !v
  | some .w1s => old || v
  | _ => old

theorem Reg.getLsbD_accessWrite (r : Reg) (locked : Bool) (old wm v : Word) {i : Nat} (hi : i < 64) :
    (accessWrite r.fields locked old wm v).getLsbD i =
      if wm.getLsbD i then writtenBit (r.accAt i) locked (old.getLsbD i) (v.getLsbD i) else old.getLsbD i := by
  simp only [accessWrite, BitVec.getLsbD_or, BitVec.getLsbD_and, BitVec.getLsbD_not, r.getLsbD_maskOf _ hi, hi, decide_true,
    Bool.true_and]
  cases wm.getLsbD i with
  | false => simp
  | true =>
    cases r.accAt i with
    | none => simp [writtenBit]
    | some a =>
      simp only [Option.any_some, Bool.and_true, if_true]
      generalize old.getLsbD i = b, v.getLsbD i = c
      cases a <;> revert locked b c <;> decide

/-- A field that software may write reads as what a write that covers it carries. -/
theorem Reg.fget_accessWrite_rw (r : Reg) (locked : Bool) (old wm v : Word) {f : Fld} (hf : f.fits = true)
    (hrw : ∀ i, f.lo ≤ i → i ≤ f.hi → r.accAt i = some .rw ∧ wm.getLsbD i = true) :
    fget (accessWrite r.fields locked old wm v) f = fget v f := by
  simp only [Fld.fits, decide_eq_true_eq] at hf
  refine bits_eq_ext fun i hlo hhi => ?_
  obtain ⟨hacc, hwm⟩ := hrw i hlo hhi
  rw [BitVec.testBit_toNat, BitVec.testBit_toNat, r.getLsbD_accessWrite _ _ _ _ (by omega), if_pos hwm, hacc]
  rfl

/-- The value that REGISTER_WRITE carries to a register: a W1C bit that the device sets in the same cycle is not cleared (R15). -/
def WriteData.carried (x : WriteData) (r : Reg) : Word := x.value &&& ~~~(x.same &&& maskOf r.fields (· == .w1c))

theorem WriteData.getLsbD_carried (x : WriteData) (r : Reg) {i : Nat} (hi : i < 64) :
    (x.carried r).getLsbD i = (x.value.getLsbD i && !(x.same.getLsbD i && (r.accAt i).any (· == .w1c))) := by
  simp only [carried, BitVec.getLsbD_and, BitVec.getLsbD_not, r.getLsbD_maskOf _ hi, hi, decide_true, Bool.true_and]

/-- Without a W1C field the value is carried as it is. -/
theorem WriteData.carried_of_no_w1c (x : WriteData) {r : Reg} (h : maskOf r.fields (· == .w1c) = 0) : x.carried r = x.value := by
  rw [carried, h, show (x.same &&& (0 : Word)) = 0 from BitVec.and_zero, show ~~~(0 : Word) = BitVec.allOnes 64 from rfl,
    BitVec.and_allOnes]

/-! ### The software write of a register -/

theorem completes_registerWrite {r : Reg} {h : Half} {x : WriteData} {s : State} {P : State → Prop}
    (hP : P (s.writeReg r h (x.carried r))) : Completes (.registerWrite r h x) s P := ⟨_, rfl, hP⟩

theorem State.writeReg_of_down {s : State} {r : Reg} (hd : s.domainUp r.domain = false) (h : Half) (v : Word) :
    s.writeReg r h v = s := by simp [State.writeReg, hd]

theorem State.writeReg_of_up {s : State} {r : Reg} (hu : s.domainUp r.domain = true) (h : Half) (v : Word) :
    s.writeReg r h v =
      ((s.set r (s.allowed r (s.get r) (accessWrite r.fields (s.locked r) (s.get r) (plainMask r h.mask) v))).afterPlain r
        (s.get r)).regEffect r (s.get r) h.mask v := by simp [State.writeReg, State.writePlain, hu]

/-! A plain register is none of those that the model's tables of commands, rules of value and effects name: for each register,
either the table names it and it is not plain, or the table's last row answers. -/

theorem Reg.plainMask_of_plain {r : Reg} (hp : r.plain = true) (wm : Word) : plainMask r wm = wm := by
  have hc : r.commandFields = [] := by
    cases r
    all_goals first | contradiction | rfl
  rw [plainMask, hc, List.foldl_nil]

theorem State.allowed_of_plain {r : Reg} (hp : r.plain = true) (s : State) (old new : Word) : s.allowed r old new = new := by
  cases r
  all_goals first | contradiction | rfl

theorem State.afterPlain_of_plain {r : Reg} (hp : r.plain = true) (s : State) (old : Word) : s.afterPlain r old = s := by
  cases r
  all_goals first | contradiction | rfl

theorem State.regEffect_of_plain {r : Reg} (hp : r.plain = true) (s : State) (old wm v : Word) : s.regEffect r old wm v = s := by
  cases r
  all_goals first | contradiction | rfl

/-- A write of a plain register replaces its word by what the access codes leave, and does nothing else. -/
theorem State.writeReg_of_plain {s : State} {r : Reg} (hu : s.domainUp r.domain = true) (hp : r.plain = true) (h : Half) (v : Word) :
    s.writeReg r h v = s.set r (accessWrite r.fields (s.locked r) (s.get r) h.mask v) := by
  rw [State.writeReg_of_up hu, Reg.plainMask_of_plain hp, State.allowed_of_plain hp, State.afterPlain_of_plain hp,
    State.regEffect_of_plain hp]

/-- A W1C bit that the device sets in the same cycle stays set; every other bit takes what is written (R15). -/
theorem writtenBit_carried (a : Option Access) (locked old v same : Bool) :
    writtenBit a locked old (v && !(same && a.any (· == .w1c))) =
      if a = some .w1c then old && (!v || same) else writtenBit a locked old v := by
  cases a with
  | none => rfl
  | some a => cases a <;> revert locked old v same <;> decide

/-- One bit of a plain register after REGISTER_WRITE. -/
theorem State.getLsbD_writeReg_of_plain {s : State} {r : Reg} (hu : s.domainUp r.domain = true) (hp : r.plain = true) (h : Half)
    (x : WriteData) (i : Fin 64) :
    ((s.writeReg r h (x.carried r)).get r).getLsbD i =
      if h.covers i then
        if r.accAt i = some .w1c then (s.get r).getLsbD i && (!x.value.getLsbD i || x.same.getLsbD i)
        else writtenBit (r.accAt i) (s.locked r) ((s.get r).getLsbD i) (x.value.getLsbD i)
      else (s.get r).getLsbD i := by
  rw [State.writeReg_of_plain hu hp, State.get_set_same, r.getLsbD_accessWrite _ _ _ _ i.isLt, Half.getLsbD_mask,
    x.getLsbD_carried r i.isLt, writtenBit_carried]

/-! ### Registers with a rule of value -/

theorem State.allowed_bcJobPlan (s : State) (old new : Word) : s.allowed .bcJobPlan old new = if s.noJob then new else old := rfl

theorem State.allowed_bcJobReport (s : State) (old new : Word) : s.allowed .bcJobReport old new = if s.noJob then new else old := rfl

theorem State.allowed_tcPc (s : State) (d : Fin 4) (k : Fin 11) (old new : Word) :
    s.allowed (.tcPc d k) old new = if s.isSet (.tcCtrl d k) Fld.tcCtrl_RUN then old else new := rfl

theorem State.allowed_trvPc (s : State) (d : Fin 4) (j : Fin 22) (old new : Word) :
    s.allowed (.trvPc d j) old new = if s.isSet (.trvCtrl d j) Fld.trvCtrl_RUN then old else new := rfl

theorem State.allowed_fltCtrl (s : State) (old new : Word) :
    s.allowed .fltCtrl old new =
      if 1 ≤ fget new Fld.fltCtrl_GRACE ∧ fget new Fld.fltCtrl_GRACE ≤ 1000 then new
      else fput new Fld.fltCtrl_GRACE (fget old Fld.fltCtrl_GRACE) := rfl

/-- Where the rule of value keeps the old word and what the write sets off leaves the register, a write leaves it. -/
theorem State.get_writeReg_of_refused {s : State} {r : Reg} (hu : s.domainUp r.domain = true)
    (ha : ∀ new, s.allowed r (s.get r) new = s.get r)
    (he : ∀ (t : State) (old wm v : Word), ((t.afterPlain r old).regEffect r old wm v).get r = t.get r) (h : Half) (v : Word) :
    (s.writeReg r h v).get r = s.get r := by
  rw [State.writeReg_of_up hu, ha, he, State.get_set_same]

/-- Following WAITING changes TRV_STATUS alone. -/
theorem State.get_trvSync (s : State) (d : Fin 4) (j : Fin 22) {r : Reg} (h : .trvStatus d j ≠ r) : (s.trvSync d j).get r = s.get r := by
  unfold State.trvSync
  split
  · rfl
  · exact State.get_put_other _ _ _ h

/-- The level of ERR_N changes FLT_STATUS alone. -/
theorem State.get_errLevel (s : State) {r : Reg} (h : .fltStatus ≠ r) : s.errLevel.get r = s.get r := by
  unfold State.errLevel
  split
  · rfl
  · dsimp only
    split
    · rfl
    · exact State.get_put_other _ _ _ h

theorem State.writeReg_fltCtrl {s : State} (hu : s.domainUp (Reg.domain .fltCtrl) = true) (h : Half) (v : Word) :
    s.writeReg .fltCtrl h v =
      (s.set .fltCtrl (s.allowed .fltCtrl (s.get .fltCtrl)
        (accessWrite (Reg.fields .fltCtrl) (s.locked .fltCtrl) (s.get .fltCtrl) (plainMask .fltCtrl h.mask) v))).errLevel :=
  State.writeReg_of_up hu h v

theorem fget_lt (w : Word) (f : Fld) : fget w f < 2 ^ f.width := Nat.mod_lt _ (Nat.two_pow_pos _)

/-- A write of FLT_CTRL that carries a GRACE outside 1 to 1,000 keeps GRACE (R414). -/
theorem State.fld_writeReg_fltCtrl_grace {s : State} (hu : s.domainUp (Reg.domain .fltCtrl) = true) {h : Half} (hh : h ≠ .low) {v : Word}
    (hv : 1000 < fget v Fld.fltCtrl_GRACE ∨ fget v Fld.fltCtrl_GRACE = 0) :
    (s.writeReg .fltCtrl h v).fld .fltCtrl Fld.fltCtrl_GRACE = s.fld .fltCtrl Fld.fltCtrl_GRACE := by
  have bitsRw : ∀ i, Fld.fltCtrl_GRACE.lo ≤ i → i ≤ Fld.fltCtrl_GRACE.hi →
      Reg.accAt .fltCtrl i = some .rw ∧ (plainMask .fltCtrl h.mask).getLsbD i = true := by
    intro i hlo hhi
    dsimp only at hlo hhi
    refine ⟨?_, (h.getLsbD_mask ⟨i, by omega⟩).trans ?_⟩
    · interval_cases i <;> rfl
    · cases h with
      | whole => rfl
      | low => exact absurd rfl hh
      | high => exact decide_eq_true hlo
  have graceCarried := Reg.fget_accessWrite_rw .fltCtrl (s.locked .fltCtrl) (s.get .fltCtrl) (plainMask .fltCtrl h.mask) v rfl bitsRw
  rw [State.writeReg_fltCtrl hu, State.fld, State.get_errLevel _ (r := .fltCtrl) nofun, State.get_set_same, State.allowed_fltCtrl,
    graceCarried, if_neg (by omega), fget_fput_same rfl, Nat.mod_eq_of_lt (fget_lt ..), State.fld]

/-! ### The statements -/

/-- Settles O7: nothing is stored at reset, so that every register reads its reset value. -/
theorem resetRegistersTakeResetValues : Obligations.ResetRegistersTakeResetValues :=
  ⟨fun _ => rfl, rfl, rfl, rfl, rfl, rfl, rfl⟩

/-- Settles O55: bit by bit for plain registers, and by the rule of value of each register that names one. -/
theorem registerWrites : Obligations.RegisterWrites := by
  intro r h v same s
  refine ⟨fun hd => completes_registerWrite (State.writeReg_of_down hd ..), fun hu => ⟨fun hp => ?_, ?_, ?_, ?_, ?_⟩⟩
  · refine completes_registerWrite ⟨?_, fun i => ?_⟩
    · rw [State.writeReg_of_plain hu hp, State.get_set_same]
    · rw [State.getLsbD_writeReg_of_plain hu hp]
      cases r.accAt i with
      | none => rfl
      | some a => cases a <;> rfl
  · intro hr hj
    have hj' : ¬ s.noJob = true := ne_true_of_eq_false hj
    refine completes_registerWrite ?_
    obtain rfl | rfl := hr
    · exact State.get_writeReg_of_refused hu (fun _ => (s.allowed_bcJobPlan ..).trans (if_neg hj')) (fun _ _ _ _ => rfl) ..
    · exact State.get_writeReg_of_refused hu (fun _ => (s.allowed_bcJobReport ..).trans (if_neg hj')) (fun _ _ _ _ => rfl) ..
  · rintro d k rfl hrun
    refine completes_registerWrite ?_
    exact State.get_writeReg_of_refused hu (fun _ => (s.allowed_tcPc ..).trans (if_pos hrun)) (fun _ _ _ _ => rfl) ..
  · rintro d j rfl hrun
    refine completes_registerWrite ?_
    exact State.get_writeReg_of_refused hu (fun _ => (s.allowed_trvPc ..).trans (if_pos hrun))
      (fun t _ _ _ => t.get_trvSync d j nofun) ..
  · rintro rfl hh hv
    refine completes_registerWrite ?_
    rw [WriteData.carried_of_no_w1c _ (by decide)]
    exact State.fld_writeReg_fltCtrl_grace hu hh hv

end Sys2Proof.Machine
end

section
/-! SUPPORT. The rails, the clocks and the boot order: which parts a frame keeps, what begins and ends a stage, and one H-clock cycle
(R32 to R34, R44, R45, R348, R349, R357 to R369). -/

namespace Sys2Proof.Machine

/-! ### What a frame keeps -/

section KeptParts

variable {m : Nat} {s t : State} (h : Frames m s t)

include h

theorem Frames.mem_eq (hm : m.testBit 0 = false := by decide) : t.mem = s.mem := h.2.2 .mem hm

theorem Frames.time_eq (hm : m.testBit 2 = false := by decide) : t.time = s.time := h.2.2 .time hm

theorem Frames.rails_eq (hm : m.testBit 5 = false := by decide) : t.rails = s.rails := h.2.2 .rails hm

theorem Frames.clocks_eq (hm : m.testBit 6 = false := by decide) : t.clocks = s.clocks := h.2.2 .clocks hm

theorem Frames.doms_eq (hm : m.testBit 7 = false := by decide) : t.doms = s.doms := h.2.2 .doms hm

theorem Frames.boot_eq (hm : m.testBit 8 = false := by decide) : t.boot = s.boot := h.2.2 .boot hm

theorem Frames.repair_eq (hm : m.testBit 10 = false := by decide) : t.repair = s.repair := h.2.2 .repair hm

theorem Frames.job_eq (hm : m.testBit 19 = false := by decide) : t.job = s.job := h.2.2 .job hm

theorem Frames.fld_eq (r : Reg) (f : Fld) (hm : r.block.inMask m = false := by decide) : t.fld r f = s.fld r f :=
  congrArg (fget · f) (h.2.2 (.regs r.block) hm r rfl)

end KeptParts

/-! ### One cycle of the H-clock -/

/-- With the root PLL in lock a cycle moves the timestamp on by 4 ns (R34). -/
theorem State.tick_time_of_pll {s : State} (h : s.clocks.pll = true) : s.tick.time = s.time + 4 := by
  have dies : Frames 0x208000420008 s ((List.finRange 4).foldl (fun (t : State) d => t.dieTick d) s) :=
    Frames.foldl (fun t d => t.dieTick_frames d) (Frames.refl _ _)
  have links (t : State) : Frames 0xf8c01e490819 t (if t.clocks.fRun then allPorts.foldl State.linkTick t else t) :=
    Frames.ite (Frames.foldl State.linkTick_frames (Frames.refl _ _)) (Frames.refl _ _)
  rw [State.tick, if_pos h]
  exact congrArg (· + 4) ((links _).time_eq.trans dies.time_eq)

theorem State.tick_of_not_pll {s : State} (h : s.clocks.pll = false) : s.tick = s := by rw [State.tick, if_neg (ne_true_of_eq_false h)]

theorem step_of_empty {s : State} (h : s.pending = []) : step s = .next s.tick := by rw [step, h]

/-! ### The beginning and the end of a stage -/

theorem State.fld_boot (s : State) (b : BootState) (r : Reg) (f : Fld) : ({ s with boot := b } : State).fld r f = s.fld r f := rfl

theorem State.fld_camp (s : State) (c : BasecampState) (r : Reg) (f : Fld) : ({ s with camp := c } : State).fld r f = s.fld r f := rfl

/-- Ports that train, if any do, are all that a stage's own work at its beginning changes (R305). -/
theorem State.iteTrainPorts_frames (s : State) (dies : Nat) {c : Prop} [Decidable c] :
    Frames 0x400000000000 s (if c then s.trainPorts dies else s) := Frames.ite (s.trainPorts_frames dies) (Frames.refl _ _)

/-- The boot order moves to the stage that begins, and nothing else of it changes. -/
theorem State.beginStage_boot (s : State) (i : Nat) : (s.beginStage i).boot = { s.boot with phase := .stage i } :=
  congrArg (fun b : BootState => { b with phase := .stage i }) (State.iteTrainPorts_frames ..).boot_eq

@[simp] theorem State.beginStage_phase (s : State) (i : Nat) : (s.beginStage i).boot.phase = .stage i := rfl

/-- Behind STAGE, the beginning of a stage changes the phase and the ports alone. -/
theorem State.put_beginStage_frames (s : State) (i : Nat) : Frames 0x400000000100 (s.put .hkBoot Fld.hkBoot_STAGE i) (s.beginStage i) :=
  Frames.boot rfl ((State.iteTrainPorts_frames ..).mono rfl)

/-- STAGE reads the stage that begins. -/
theorem State.fld_beginStage_stage (s : State) {i : Nat} (hi : i < 16) : (s.beginStage i).fld .hkBoot Fld.hkBoot_STAGE = i :=
  ((s.put_beginStage_frames i).fld_eq ..).trans ((s.fld_put_same .hkBoot rfl i).trans (Nat.mod_eq_of_lt hi))

theorem State.fld_beginStage_shape (s : State) (i : Nat) (f : Fld) : (s.beginStage i).fld .hkShape f = s.fld .hkShape f :=
  ((s.put_beginStage_frames i).fld_eq ..).trans (State.fld_put_other _ _ _ _ nofun)

theorem State.nextStage_of_stage {s : State} {j : Nat} (h : s.boot.phase = .stage j) (i : Nat) :
    s.nextStage i = (s.stageTime i).beginStage (i + 1) := by rw [State.nextStage, h]

theorem State.nextStage_phase_of_rerun {s : State} {j : Nat} (h : s.boot.phase = .rerun j) (i : Nat) :
    (s.nextStage i).boot.phase = .rerun (rerunNext i) := by
  have stage (t : State) : Frames 0x20000000 t (if rerunNext i ≤ 9 then t.put .hkBoot Fld.hkBoot_STAGE (rerunNext i) else t) :=
    Frames.ite (Frames.put rfl (Frames.refl _ _)) (Frames.refl _ _)
  rw [State.nextStage, h]
  exact congrArg BootState.phase ((stage _).boot_eq.trans (State.iteTrainPorts_frames ..).boot_eq)

/-- A command ends stage `i`, in the boot order or in a rerun, after changes that leave the boot order where it stands. -/
def EndsStage (i : Nat) (c : Instr) (s : State) : Prop := ∃ t : State, t.boot = s.boot ∧ exec c s = .next (t.nextStage i)

/-- In the boot order the next stage begins (R357). -/
theorem EndsStage.completes_stage {i : Nat} {c : Instr} {s : State} (h : EndsStage i c s) (hp : s.boot.phase = .stage i)
    (hi : i < 15 := by decide) :
    Completes c s (fun t => t.boot.phase = .stage (i + 1) ∧ t.fld .hkBoot Fld.hkBoot_STAGE = i + 1) := by
  obtain ⟨t, hb, he⟩ := h
  rw [State.nextStage_of_stage (hb ▸ hp)] at he
  exact ⟨_, he, State.beginStage_phase .., State.fld_beginStage_stage _ (by omega)⟩

/-- In a rerun its next stage follows (R369). -/
theorem EndsStage.completes_rerun {i : Nat} {c : Instr} {s : State} (h : EndsStage i c s) (hp : s.boot.phase = .rerun i) :
    Completes c s (fun t => t.boot.phase = .rerun (rerunNext i)) := by
  obtain ⟨t, hb, he⟩ := h
  exact ⟨_, he, State.nextStage_phase_of_rerun (hb ▸ hp) i⟩

theorem State.inStage_of_stage {s : State} {i : Nat} (h : s.boot.phase = .stage i) : s.inStage i = true := by simp [State.inStage, h]

theorem State.inStage_of_rerun {s : State} {i : Nat} (h : s.boot.phase = .rerun i) : s.inStage i = true := by simp [State.inStage, h]

/-! ### Stages 2 and 3 -/

theorem State.fld_failedAt_recovery (s : State) (i : Nat) :
    (s.failedAt i).fld .hkBoot Fld.hkBoot_RECOVERY = s.fld .hkBoot Fld.hkBoot_RECOVERY := by
  unfold State.failedAt
  split
  · exact State.fld_put_field _ _ rfl rfl rfl _
  · rfl

theorem State.fld_setLevel (s : State) {lvl : Nat} (h : lvl < 4) : (s.setLevel lvl).fld .hkShape Fld.hkShape_SVC_LEVEL = lvl := by
  unfold State.setLevel
  split
  · assumption
  · exact ((State.levelEvent_frames _).fld_eq ..).trans ((State.fld_put_same _ _ rfl _).trans (Nat.mod_eq_of_lt h))

/-- The device enters S1 at service level 1 (R44). -/
theorem State.fld_enterS1_level (s : State) : s.enterS1.fld .hkShape Fld.hkShape_SVC_LEVEL = 1 :=
  (State.fld_camp ..).trans (((State.startGrace_frames _).fld_eq ..).trans (s.fld_setLevel (by decide)))

/-- The boot order goes on after stage 3 in the Hold of an untested pair without a valid token, or in stage 4 (R365, R366). -/
theorem State.afterStage3_boot (s : State) :
    s.afterStage3.boot = { s.boot with phase := if s.untestedPair.isSome ∧ s.boot.tokenGood = false then .hold else .stage 4 } := by
  unfold State.afterStage3
  simp only [Bool.and_eq_true, Bool.not_eq_true']
  split
  · rfl
  · exact State.beginStage_boot ..

/-- Going on after stage 3 leaves HK_SHAPE. -/
theorem State.fld_afterStage3_shape (s : State) (f : Fld) : s.afterStage3.fld .hkShape f = s.fld .hkShape f := by
  have hkBoot_ne : Reg.hkBoot ≠ .hkShape := nofun
  unfold State.afterStage3
  split
  · exact (State.fld_boot ..).trans ((State.fld_put_other _ _ _ _ hkBoot_ne).trans (State.fld_put_other _ _ _ _ hkBoot_ne))
  · exact s.fld_beginStage_shape 4 f

/-- After stage 3 and S1 an open token window is waited for (R366). -/
theorem State.endStage3_eq (s : State) : ∃ t : State, s.endStage3 =
    if s.boot.windowOpen then { t.enterS1 with boot := { t.enterS1.boot with phase := .token } } else t.enterS1.afterStage3 := ⟨_, rfl⟩

theorem State.fld_endStage3_level (s : State) : s.endStage3.fld .hkShape Fld.hkShape_SVC_LEVEL = 1 := by
  obtain ⟨t, ht⟩ := s.endStage3_eq
  rw [ht]
  split
  · exact (State.fld_boot ..).trans t.fld_enterS1_level
  · exact (State.fld_afterStage3_shape ..).trans t.fld_enterS1_level

theorem State.endStage3_phase_of_windowOpen {s : State} (h : s.boot.windowOpen = true) : s.endStage3.boot.phase = .token := by
  obtain ⟨t, ht⟩ := s.endStage3_eq
  rw [ht, if_pos h]

/-! ### Stages 4 to 9 -/

theorem State.endStage4_eq (s : State) (failed : List (Fin 8 × Fin 128)) :
    ∃ t : State, t.boot = s.boot ∧ s.endStage4 failed = t.nextStage 4 := by
  refine ⟨_, ?_, rfl⟩
  refine (State.fence_frames ..).boot_eq.trans ((State.failedIf_frames ..).boot_eq.trans ?_)
  have edges (t : State) : Frames 0x20000800 t (s.edgesInScope.foldl (fun t e => t.trainEdge failed e) t) :=
    Frames.foldl (fun t e => t.trainEdge_frames failed e) (Frames.refl _ _)
  exact (edges _).boot_eq.trans (State.releaseFabric_frames ..).boot_eq

theorem State.endStage5_eq (s : State) (fails : List (Fin 4 × Fin 192 × Fin 1032)) (finished : Nat) :
    ∃ t : State, t.boot = s.boot ∧ s.endStage5 fails finished = t.nextStage 5 :=
  ⟨_, (State.failedIf_frames ..).boot_eq.trans ((State.shapeMask_frames ..).boot_eq.trans (State.marchDies_frames ..).boot_eq), rfl⟩

theorem State.endStage6_eq (s : State) (ok : Nat) : ∃ t : State, t.boot = s.boot ∧ s.endStage6 ok = t.nextStage 6 := by
  refine ⟨_, ?_, rfl⟩
  refine (State.failedIf_frames ..).boot_eq.trans ((State.setShape_frames ..).boot_eq.trans ?_)
  have dies (l : List (Fin 4)) : Frames 0xffffe0000080 s (l.foldl State.releaseCompute s) :=
    Frames.foldl State.releaseCompute_frames (Frames.refl _ _)
  exact (dies _).boot_eq

theorem State.endStage7_eq (s : State) (ok : Nat) : ∃ t : State, t.boot = s.boot ∧ s.endStage7 ok = t.nextStage 7 :=
  ⟨_, (State.failedIf_frames ..).boot_eq.trans (State.shapeMask_frames ..).boot_eq, rfl⟩

theorem State.endStage8_eq (s : State) (ok : Nat) : ∃ t : State, t.boot = s.boot ∧ s.endStage8 ok = t.nextStage 8 :=
  ⟨_, (State.failedIf_frames ..).boot_eq.trans (State.shapeMask_frames ..).boot_eq, rfl⟩

theorem State.endStage9_eq (s : State) : ∃ t : State, t.boot = s.boot ∧ s.endStage9 = t.nextStage 9 :=
  ⟨_, (State.failedIf_frames ..).boot_eq.trans (State.shapeMask_frames ..).boot_eq, rfl⟩

/-- A command whose next state ends a stage. -/
theorem EndsStage.of_next {i : Nat} {c : Instr} {s u : State} (h : ∃ t : State, t.boot = s.boot ∧ u = t.nextStage i)
    (he : exec c s = .next u) : EndsStage i c s := by
  obtain ⟨t, hb, hu⟩ := h
  exact ⟨t, hb, hu ▸ he⟩

section StageCommands

variable {s : State}

theorem endsStage_belayTraining (failed : List (Fin 8 × Fin 128)) (h : s.inStage 4 = true) : EndsStage 4 (.belayTraining failed) s :=
  .of_next (s.endStage4_eq failed) (congrArg Host.Outcome.next (if_pos h))

theorem endsStage_ledgeMarchStage (fails : List (Fin 4 × Fin 192 × Fin 1032)) (h : s.inStage 5 = true) :
    EndsStage 5 (.ledgeMarchStage fails) s := .of_next (s.endStage5_eq fails 15) (congrArg Host.Outcome.next (if_pos h))

theorem endsStage_ridgeStage (ok : BitVec 4) (h : s.inStage 6 = true) : EndsStage 6 (.ridgeStage ok) s :=
  .of_next (s.endStage6_eq ok.toNat) (congrArg Host.Outcome.next (if_pos h))

theorem endsStage_nearTraining (ok : BitVec 8) (h : s.inStage 7 = true) : EndsStage 7 (.nearTraining ok) s :=
  .of_next (s.endStage7_eq ok.toNat) (congrArg Host.Outcome.next (if_pos h))

theorem endsStage_moraineTraining (ok : BitVec 24) (h : s.inStage 8 = true) : EndsStage 8 (.moraineTraining ok) s :=
  .of_next (s.endStage8_eq ok.toNat) (congrArg Host.Outcome.next (if_pos h))

theorem endsStage_ropeBringup (h : s.inStage 9 = true) : EndsStage 9 .ropeBringup s :=
  .of_next s.endStage9_eq (congrArg Host.Outcome.next (if_pos h))

/-- A timeout ends each of the stages 4 to 9 with what has finished (R357). -/
theorem endsStage_stageTimeout (ok : BitVec 24) {i : Nat} (hp : s.boot.phase = .stage i) (h4 : 4 ≤ i := by decide)
    (h9 : i ≤ 9 := by decide) : EndsStage i (.stageTimeout ok) s := by
  have he : exec (.stageTimeout ok) s = execStageTimeout ok s := rfl
  rw [execStageTimeout, hp] at he
  interval_cases i
  · exact .of_next (s.endStage4_eq _) he
  · exact .of_next (s.endStage5_eq _ _) he
  · exact .of_next (s.endStage6_eq _) he
  · exact .of_next (s.endStage7_eq _) he
  · exact .of_next (s.endStage8_eq _) he
  · exact .of_next s.endStage9_eq he

end StageCommands

/-! ### Stage 2 begins -/

/-- The anchor main domain out of reset on a running F-clock, its registers at their reset values (R348). -/
def State.mainReleased (s : State) : State :=
  { s.resetRegs .anchorMain with doms := { s.doms with main := true }, clocks := { s.clocks with fRun := true, stopped := 0 } }

/-- What follows the release of the main domain leaves rails, clocks and reset domains. -/
theorem State.mainReleased_beginMain_frames (s : State) : Frames 0x400120001100 s.mainReleased s.beginMain := by
  have hold {t : State} (h : Frames 0x400120001100 s.mainReleased t) {c : Prop} [Decidable c] : Frames 0x400120001100 s.mainReleased
      (if c then t else (t.put .hkBoot Fld.hkBoot_HOLD 0).put .hkBoot Fld.hkBoot_HOLD_CAUSE 0) :=
    Frames.ite h (Frames.put rfl (Frames.put rfl h))
  refine Frames.step (State.beginStage_frames ..) rfl (Frames.put rfl (Frames.put rfl (Frames.foldl
    (fun _ _ => Frames.put rfl (Frames.refl _ _)) (hold ?_))))
  exact Frames.step (State.stageTime_frames ..) rfl (Frames.put rfl (Frames.put rfl ((State.deviceKept_frames ..).mono rfl)))

theorem State.beginMain_clocks (s : State) : s.beginMain.clocks = { s.clocks with fRun := true, stopped := 0 } :=
  s.mainReleased_beginMain_frames.clocks_eq

theorem State.beginMain_doms (s : State) : s.beginMain.doms = { s.doms with main := true } := s.mainReleased_beginMain_frames.doms_eq

theorem State.tryMain_rails (s : State) : s.tryMain.rails = s.rails := s.tryMain_frames.rails_eq

theorem State.tryMain_phase (s : State) :
    s.tryMain.boot.phase = if s.rails.main = true ∧ s.boot.phase = .standby ∧ s.clocks.stopped = 0 then .stage 2 else s.boot.phase := by
  rw [State.tryMain, apply_ite State.boot, apply_ite BootState.phase]
  simp only [Bool.and_eq_true, beq_iff_eq, and_assoc]
  rfl

/-- A start of stage 2 leaves no stop of the clocks, as there was none. -/
theorem State.tryMain_stopped (s : State) : s.tryMain.clocks.stopped = s.clocks.stopped := by
  unfold State.tryMain
  split
  next h =>
    simp only [Bool.and_eq_true, beq_iff_eq] at h
    rw [State.beginMain_clocks, h.2]
  next => rfl

theorem State.tryMain_compute (s : State) : s.tryMain.doms.compute = s.doms.compute := by
  unfold State.tryMain
  split
  · rw [State.beginMain_doms]
  · rfl

/-! ### A stop of the clocks -/

/-- A stop that none preceded leaves the T-, F- and M-clocks and the domains on them standing (R33). -/
theorem State.stopClocks_of_running {s : State} (h : s.clocks.stopped = 0) (cause : Nat) :
    (s.stopClocks cause).clocks.tRun = false ∧ (s.stopClocks cause).clocks.fRun = false ∧ (s.stopClocks cause).clocks.mRun = false ∧
    (s.stopClocks cause).doms.main = false ∧ (s.stopClocks cause).doms.compute = 0 := by
  rw [State.stopClocks, if_neg (not_not_intro h)]
  dsimp only
  rw [(State.setLevel_frames ..).clocks_eq]
  exact ⟨rfl, rfl, rfl, rfl, rfl⟩

/-- A stop does not touch the lock of the root PLL. -/
theorem State.stopClocks_pll (s : State) (cause : Nat) : (s.stopClocks cause).clocks.pll = s.clocks.pll := by
  unfold State.stopClocks
  split
  · rfl
  · dsimp only
    rw [(State.setLevel_frames ..).clocks_eq]

end Sys2Proof.Machine
end

section
/-! SUPPORT. The statements of the architecture's chapter: rails, clocks and PERST#, the stages of the boot order, and time. -/

namespace Sys2Proof.Machine

/-! ### Rails and clocks -/

/-- MAIN_RAIL_LOSS on auxiliary power: everything behind the main rail is in reset before the device falls to S0 (R45, R348). -/
theorem exec_mainRailLoss {s : State} (hm : s.rails.main = true) (ha : s.rails.aux = true) :
    ∃ t : State, t.rails.main = false ∧ (t.doms.main = false ∧ t.doms.pcie = false ∧ t.doms.fabric = 0 ∧ t.doms.compute = 0) ∧
      t.job = JobState.none ∧ t.boot.phase = (if s.boot.phase = .stage 1 then .stage 1 else .standby) ∧
      exec .mainRailLoss s = .next t.shapeToS0 := by
  refine ⟨_, ?_, ?_, ?_, rfl, congrArg Host.Outcome.next ((if_pos hm).trans (if_pos ha))⟩
  · dsimp only [State.put_rails]
    rw [(State.dropBudgets_frames _).rails_eq]
    dsimp only
    rw [(State.mainReset_frames _).rails_eq]
  · dsimp only [State.put_doms]
    rw [(State.dropBudgets_frames _).doms_eq]
    exact ⟨rfl, rfl, rfl, rfl⟩
  · dsimp only [State.put_job]
    rw [(State.dropBudgets_frames _).job_eq]
    rfl

theorem completes_mainRailLoss {s : State} (hm : s.rails.main = true) (ha : s.rails.aux = true) :
    Completes .mainRailLoss s (fun t => t.rails.main = false ∧ t.doms.main = false ∧ t.doms.pcie = false ∧ t.doms.fabric = 0 ∧
      t.doms.compute = 0 ∧ t.job = JobState.none ∧ t.boot.phase = if s.boot.phase = .stage 1 then .stage 1 else .standby) := by
  obtain ⟨t, hr, ⟨hmain, hpcie, hfabric, hcompute⟩, hj, hb, he⟩ := exec_mainRailLoss hm ha
  refine ⟨_, he, ?_⟩
  dsimp only
  rw [t.shapeToS0_frames.rails_eq, t.shapeToS0_frames.doms_eq, t.shapeToS0_frames.job_eq, t.shapeToS0_frames.boot_eq]
  exact ⟨hr, hmain, hpcie, hfabric, hcompute, hj, hb⟩

/-- REFERENCE_LOST after stage 1 raises a Fatal, ends the heartbeat and stops the clocks (R33). -/
theorem exec_referenceLost {s : State} (ha : s.rails.aux = true) (hp : s.clocks.pll = true) (h1 : s.boot.phase ≠ .stage 1) :
    ∃ t : State, t.clocks = { s.clocks with reference := false, pll := false } ∧ exec .referenceLost s = .next (t.stopClocks 1) :=
  ⟨_, (State.failHeartbeat_frames _).clocks_eq.trans (State.raise_frames ..).clocks_eq,
    congrArg Host.Outcome.next ((if_pos (Bool.and_eq_true_iff.2 ⟨ha, hp⟩)).trans (if_neg h1))⟩

theorem completes_referenceLost {s : State} (ha : s.rails.aux = true) (hp : s.clocks.pll = true) :
    Completes .referenceLost s (fun t => t.clocks.pll = false ∧ (s.boot.phase ≠ .stage 1 → s.clocks.stopped = 0 →
      t.clocks.tRun = false ∧ t.clocks.fRun = false ∧ t.clocks.mRun = false ∧ t.doms.main = false ∧ t.doms.compute = 0)) := by
  by_cases h1 : s.boot.phase = .stage 1
  · exact ⟨_, congrArg Host.Outcome.next ((if_pos (Bool.and_eq_true_iff.2 ⟨ha, hp⟩)).trans (if_pos h1)), rfl, fun h => absurd h1 h⟩
  · obtain ⟨t, hc, he⟩ := exec_referenceLost ha hp h1
    exact ⟨_, he, (t.stopClocks_pll 1).trans (congrArg Clocks.pll hc),
      fun _ h0 => t.stopClocks_of_running ((congrArg Clocks.stopped hc).trans h0) 1⟩

/-- CLOCK_RESTART resets the main and ridge domains and ends the stop, before the boot order goes on (R33). -/
theorem exec_clockRestart {s : State} (hp : s.clocks.pll = true) (h1 : s.clocks.stopped = 1) :
    ∃ t : State, t.rails = s.rails ∧ t.clocks.stopped = 0 ∧ t.doms.compute = 0 ∧ t.boot.phase = .standby ∧
      exec .clockRestart s = .next t.tryMain := by
  refine ⟨_, ?_, ?_, ?_, ?_, congrArg Host.Outcome.next (if_pos (by rw [hp, h1]; rfl))⟩
  · rw [(State.shapeToS0_frames _).rails_eq]
    exact (State.dropBudgets_frames _).rails_eq.trans s.mainReset_frames.rails_eq
  · rw [(State.shapeToS0_frames _).clocks_eq]
  · rw [(State.shapeToS0_frames _).doms_eq]
    exact congrArg Domains.compute (State.dropBudgets_frames _).doms_eq
  · rw [(State.shapeToS0_frames _).boot_eq]

theorem completes_clockRestart {s : State} (hp : s.clocks.pll = true) (h1 : s.clocks.stopped = 1) :
    Completes .clockRestart s (fun t => t.clocks.stopped = 0 ∧ t.doms.compute = 0 ∧
      t.boot.phase = if s.rails.main then .stage 2 else .standby) := by
  obtain ⟨t, hr, hs, hd, hb, he⟩ := exec_clockRestart hp h1
  exact ⟨_, he, t.tryMain_stopped.trans hs, t.tryMain_compute.trans hd, by simp only [t.tryMain_phase, hr, hs, hb, and_true]⟩

/-- PERST_ASSERT: only the PCIe domain is reset (R349). -/
theorem completes_perstAssert (s : State) :
    Completes .perstAssert s (fun t => t.rails.perst = true ∧ t.doms = { s.doms with pcie := false } ∧ t.boot = s.boot ∧
      t.mem = s.mem ∧ t.job = s.job) := by
  refine ⟨_, rfl, ?_⟩
  dsimp only
  rw [(State.pcieReset_frames _).rails_eq, (State.pcieReset_frames _).doms_eq, (State.pcieReset_frames _).boot_eq,
    (State.pcieReset_frames _).mem_eq, (State.pcieReset_frames _).job_eq]
  exact ⟨rfl, rfl, rfl, rfl, rfl⟩

theorem completes_auxRailOn {s : State} (ha : s.rails.aux = false) (strap : Bool) :
    Completes (.auxRailOn strap) s (fun t => t.rails.aux = true ∧ t.rails.factoryStrapLow = strap ∧ t.doms.hk = true ∧
      t.boot.phase = .stage 1 ∧ t.fld .hkBoot Fld.hkBoot_STAGE = 1) := by
  refine ⟨_, congrArg Host.Outcome.next (if_neg (ne_true_of_eq_false ha)), ?_⟩
  dsimp only
  rw [(State.beginStage_frames ..).rails_eq, (State.beginStage_frames ..).doms_eq]
  exact ⟨rfl, rfl, rfl, rfl, State.fld_beginStage_stage _ (by decide)⟩

/-- MAIN_RAIL_ON starts stage 2 from standby, unless a stop under R33 lasts; a stop under R395 ends with it (R357, R395). -/
theorem completes_mainRailOn {s : State} (hm : s.rails.main = false) :
    Completes .mainRailOn s (fun t => t.rails.main = true ∧
      t.boot.phase = if s.boot.phase = .standby ∧ (s.clocks.stopped = 0 ∨ s.clocks.stopped = 2) then .stage 2 else s.boot.phase) := by
  have noStop : (if s.clocks.stopped = 2 then 0 else s.clocks.stopped) = 0 ↔ s.clocks.stopped = 0 ∨ s.clocks.stopped = 2 := by
    split <;> simp [*]
  refine ⟨_, congrArg Host.Outcome.next (if_neg (ne_true_of_eq_false hm)), ?_⟩
  dsimp only
  rw [State.tryMain_rails, State.tryMain_phase]
  simp only [noStop, true_and]

/-- Settles O8: each command's next state is written out; what follows the change itself has a frame without the parts named. -/
theorem railsClocksAndPerst : Obligations.RailsClocksAndPerst := by
  refine ⟨fun s => ⟨fun strap ha => completes_auxRailOn ha strap, completes_mainRailOn, completes_mainRailLoss, fun ha => ?_⟩,
    fun s => ⟨fun ha => ?_, completes_referenceLost, completes_clockRestart⟩, fun s => ⟨completes_perstAssert s, ?_⟩⟩
  · exact ⟨_, congrArg Host.Outcome.next (if_pos ha), rfl, rfl, rfl, rfl⟩
  · exact ⟨_, congrArg Host.Outcome.next (if_pos ha), rfl, rfl, rfl⟩
  · exact ⟨_, rfl, rfl, rfl, rfl, rfl, rfl⟩

/-! ### Stages 1 to 3 and 10 -/

/-- HOUSEKEEPING_STAGE_END puts the newest flash copy of the repair record in force (R359); what else it does before the boot order
goes on leaves the record, the rails and the clocks. -/
theorem exec_housekeepingStageEnd {s : State} (h1 : s.boot.phase = .stage 1) (hp : s.clocks.pll = true) :
    ∃ t : State, t.repair.record = s.repair.flash.newest.getD RepairRecord.empty ∧ t.rails = s.rails ∧ t.clocks = s.clocks ∧
      t.boot.phase = .standby ∧ exec .housekeepingStageEnd s = .next t.tryMain := by
  have reported {c : Prop} [Decidable c] {a b b' : State} (k : Frames 0x800 b b') (h : Frames 0xe0003800 a b) :
      Frames 0xe0003800 a (if c then b' else b) := Frames.ite (Frames.step k rfl h) h
  have loads : ∃ t : State, Frames 0xe0003800 { s with
      repair := { s.repair with record := s.repair.flash.newest.getD RepairRecord.empty }
      dict := { s.dict with stored := s.dict.flash.newest.getD [] } } t ∧ exec .housekeepingStageEnd s = .next ({ t with
        boot := { t.boot with phase := .standby, windowOpen := s.rails.factoryStrapLow, tokenGood := false } } : State).announce.tryMain := by
    refine ⟨_, ?_, congrArg Host.Outcome.next (if_pos ⟨h1, hp⟩)⟩
    refine Frames.step (State.stageTime_frames ..) rfl (Frames.step (State.journalAdd_frames ..) rfl (Frames.step
      (State.syncT1s_frames _) rfl (Frames.step (State.loadMode_frames _) rfl (reported (State.correctedEvent_frames ..) (reported
      (State.ucc_frames ..) (Frames.step (State.reloadPinned_frames _) rfl ?_))))))
    exact Frames.foldl (fun _ _ => Frames.put rfl (Frames.refl _ _)) (Frames.put rfl (Frames.refl _ _))
  obtain ⟨t, k, he⟩ := loads
  refine ⟨_, ?_, ?_, ?_, ?_, he⟩
  · rw [(State.announce_frames _).repair_eq]
    exact congrArg RepairState.record k.repair_eq
  · rw [(State.announce_frames _).rails_eq]
    exact k.rails_eq
  · rw [(State.announce_frames _).clocks_eq]
    exact k.clocks_eq
  · rw [(State.announce_frames _).boot_eq]

theorem completes_housekeepingStageEnd {s : State} (h1 : s.boot.phase = .stage 1) (hp : s.clocks.pll = true) :
    Completes .housekeepingStageEnd s (fun t => t.repair.record = s.repair.flash.newest.getD RepairRecord.empty ∧
      t.boot.phase = if s.rails.main = true ∧ s.clocks.stopped = 0 then .stage 2 else .standby) := by
  obtain ⟨t, hrec, hr, hc, hb, he⟩ := exec_housekeepingStageEnd h1 hp
  exact ⟨_, he, (congrArg RepairState.record t.tryMain_frames.repair_eq).trans hrec,
    by simp only [t.tryMain_phase, hr, hc, hb, true_and]⟩

/-- BASECAMP_STAGE_END loads the firmware of a good slot, or enters recovery (R363). -/
theorem completes_basecampStageEnd {s : State} (h2 : s.boot.phase = .stage 2) :
    Completes .basecampStageEnd s (fun t =>
      if (s.pickSlot 1).isSome then t.boot.phase = .stage 3 ∧ t.fld .hkBoot Fld.hkBoot_STAGE = 3
      else t.boot.phase = .recovery ∧ t.fld .hkBoot Fld.hkBoot_RECOVERY = 1) := by
  refine ⟨_, congrArg Host.Outcome.next (if_pos h2), ?_⟩
  cases hs : s.pickSlot 1 with
  | some b => exact ⟨rfl, State.fld_beginStage_stage _ (by decide)⟩
  | none => exact ⟨rfl, (State.fld_failedAt_recovery _ _).trans (State.fld_put_same _ _ rfl _)⟩

/-- MANIFEST_CHECK reaches S1, and waits for an open token window (R364, R366). -/
theorem completes_manifestCheck {s : State} (h3 : s.boot.phase = .stage 3) :
    Completes .manifestCheck s (fun t => t.fld .hkShape Fld.hkShape_SVC_LEVEL = 1 ∧
      (s.boot.windowOpen = true → t.boot.phase = .token)) := by
  refine ⟨_, congrArg Host.Outcome.next (if_pos h3), State.fld_endStage3_level _, fun hw => ?_⟩
  have images : Frames 0x20000200 s ([2, 3, 4, 5].foldl (fun t i => t.loadImage i (t.pickSlot i)) s) :=
    Frames.foldl (fun t i => t.loadImage_frames i _) (Frames.refl _ _)
  exact State.endStage3_phase_of_windowOpen ((congrArg BootState.windowOpen images.boot_eq).trans hw)

theorem completes_tokenWindowClose {s : State} (hw : s.boot.windowOpen = true) (hp : s.boot.phase = .token) :
    Completes .tokenWindowClose s (fun t => t.boot.windowOpen = false ∧
      t.boot.phase = if s.untestedPair.isSome ∧ s.boot.tokenGood = false then .hold else .stage 4) := by
  refine ⟨_, congrArg Host.Outcome.next (if_pos ⟨hw, hp⟩), ?_⟩
  dsimp only
  rw [State.afterStage3_boot]
  exact ⟨rfl, rfl⟩

/-- SERVICE_ANNOUNCE ends the boot order when no DIE_RESET is held (R44, R349). -/
theorem completes_serviceAnnounce {s : State} (hp : s.boot.phase = .stage 10) (hh : s.boot.heldReset = 0) :
    Completes .serviceAnnounce s (fun t => t.boot.phase = .done ∧ t.fld .hkBoot Fld.hkBoot_STAGE = 15) := by
  have announced (t : State) (ht : t.boot = s.boot) :
      t.announceLevel.boot.phase = .done ∧ t.announceLevel.fld .hkBoot Fld.hkBoot_STAGE = 15 := by
    rw [State.announceLevel, ht, if_neg (not_not_intro hh)]
    exact ⟨congrArg BootState.phase (State.levelEvent_frames _).boot_eq,
      ((State.levelEvent_frames _).fld_eq ..).trans ((State.fld_boot ..).trans (State.fld_put_same _ _ rfl _))⟩
  exact ⟨_, congrArg Host.Outcome.next (if_pos hp), announced _ (State.bootRanAgain_frames _).boot_eq⟩

theorem completes_stageTimeout_stage2 {s : State} (ok : BitVec 24) (hp : s.boot.phase = .stage 2) :
    Completes (.stageTimeout ok) s (fun t => t.boot.phase = .recovery) := by
  have he : exec (.stageTimeout ok) s = execStageTimeout ok s := rfl
  rw [execStageTimeout, hp] at he
  exact ⟨_, he, rfl⟩

/-- Settles O9: by stage; each command of the stages 4 to 9 ends its stage, and so does the timeout. -/
theorem stagesOfTheBootOrder : Obligations.StagesOfTheBootOrder := by
  refine ⟨fun s => ⟨completes_housekeepingStageEnd, completes_basecampStageEnd, completes_manifestCheck, completes_tokenWindowClose⟩,
    fun s failed fails ok4 ok8 ok24 => ⟨?_, ?_, completes_stageTimeout_stage2 ok24, completes_serviceAnnounce⟩⟩
  · simp only [List.forall_mem_cons]
    exact ⟨fun h => (endsStage_belayTraining failed (State.inStage_of_stage h)).completes_stage h,
      fun h => (endsStage_ledgeMarchStage fails (State.inStage_of_stage h)).completes_stage h,
      fun h => (endsStage_ridgeStage ok4 (State.inStage_of_stage h)).completes_stage h,
      fun h => (endsStage_nearTraining ok8 (State.inStage_of_stage h)).completes_stage h,
      fun h => (endsStage_moraineTraining ok24 (State.inStage_of_stage h)).completes_stage h,
      fun h => (endsStage_ropeBringup (State.inStage_of_stage h)).completes_stage h,
      fun h => (endsStage_stageTimeout ok24 h).completes_stage h,
      fun h => (endsStage_stageTimeout ok24 h).completes_stage h,
      fun h => (endsStage_stageTimeout ok24 h).completes_stage h,
      fun h => (endsStage_stageTimeout ok24 h).completes_stage h,
      fun h => (endsStage_stageTimeout ok24 h).completes_stage h,
      fun h => (endsStage_stageTimeout ok24 h).completes_stage h,
      List.forall_mem_nil _⟩
  · simp only [List.forall_mem_cons]
    exact ⟨fun h => (endsStage_belayTraining failed (State.inStage_of_rerun h)).completes_rerun h,
      fun h => (endsStage_ledgeMarchStage fails (State.inStage_of_rerun h)).completes_rerun h,
      fun h => (endsStage_ridgeStage ok4 (State.inStage_of_rerun h)).completes_rerun h,
      fun h => (endsStage_nearTraining ok8 (State.inStage_of_rerun h)).completes_rerun h,
      fun h => (endsStage_ropeBringup (State.inStage_of_rerun h)).completes_rerun h, List.forall_mem_nil _⟩

/-! ### Time -/

/-- Settles O2: no part of the cycle but its end moves the timestamp. -/
theorem emptyQueueAdvancesTime : Obligations.EmptyQueueAdvancesTime := fun s hq =>
  ⟨fun hp => ⟨s.tick, step_of_empty hq, State.tick_time_of_pll hp, s.tick_frames.1.trans hq⟩,
    fun hp => by rw [step_of_empty hq, State.tick_of_not_pll hp]⟩

end Sys2Proof.Machine
end
